-- ==== Sys2Proof/Word.lean ====
section
/-! DEFINITION. Word.lean: the word types of the block and their plainest arithmetic. -/
namespace Sys2Proof

/-- A byte of a packet, a record or HBM (R5). -/
abbrev Byte := BitVec 8
/-- A 32-bit BAR0 register word (R437). -/
abbrev Word := BitVec 32
/-- An 8-byte slot of a parameter block (R400), or a 64-bit counter. -/
abbrev Slot := BitVec 64

end Sys2Proof
end

