-- ==== Sys2Proof/Syntax.lean ====
section
/-! DEFINITION. Syntax.lean: the commands that the block takes, with their operands as plain data. -/
namespace Sys2Proof

/-- A host function: `vf = 0` is PF0 of the port, `vf = k + 1` is VFk (R410; FUNCTION of R428). -/
structure Fn where
  port : Nat
  vf : Nat
  deriving DecidableEq, Repr

/-- A fetched mailbox request (Table 13-2), less its OPCODE, which is the command's constructor.
`slots` holds INLINE (slots 0 to 2) and then the parameter buffer's slots (R400); `data` holds the
parameter buffer as bytes for the raw opcodes (R401). -/
structure Request where
  fn : Fn
  tag : BitVec 16
  flags : BitVec 16
  domeGen : BitVec 16
  etsn : BitVec 32
  cfgGen : BitVec 32
  rbufAddr : BitVec 64
  rbufLen : Nat
  slots : List Slot
  data : List Byte
  deriving DecidableEq, Repr

/-- A command as an aperture message carries it: its opcode, its dome and the request (Table 11-5). -/
structure ApCmd where
  opcode : Nat
  dome : Nat
  req : Request
  deriving DecidableEq, Repr

/-- Next-hop Ethernet addresses by stream number (R308). -/
abbrev NextHops := List (Nat × BitVec 48)

/-- What forward error correction reports of one lane since the frame before: corrected and uncorrectable codewords, corrected symbols (Table 4-8). -/
structure FecWords where
  lane : Nat
  corrected : Nat
  uncorrectable : Nat
  symbols : Nat
  deriving DecidableEq, Repr

/-- The static-schedule entry of a received Transit flow (R327 to R333): the consuming instrument's dome, number and input, the first channel,
channels and frames of a flow-tick, tick records in front of the data, bytes per channel sample, and L_t. -/
structure FlowSpec where
  dome : Nat
  instr : Nat
  pos : Nat
  first : Nat
  nch : Nat
  frames : Nat
  recs : Nat
  bps : Nat
  lt : Nat
  deriving DecidableEq, Repr

/-- A kind of unit that runs work items (Table 2-2): an instrument's own unit, its requantisers, its Plates, a zoom window, an SK in instrument scope. -/
inductive WorkUnit where
  | own | requantiser | plate | zoom | sk
  deriving DecidableEq, Repr

/-- What an uncorrectable SRAM word holds (R515). -/
inductive SramUse where
  /-- A word that no work reads any more. -/
  | other
  /-- A landing slot's granule. -/
  | landing (feed tick gran : Nat)
  /-- Samples of a sub-band's mixer history and delay line, of a feed's PFB history, of a zoom history, of an SK hold. -/
  | line (feed sub first count : Nat)
  | pfb (feed sub first count : Nat)
  | zoom (dome window frame chan : Nat)
  | skHold (dome index tick chan : Nat)
  /-- A coefficient bank of conditioning. -/
  | coef (feed : Nat)
  /-- An SK accumulator. -/
  | skAcc (dome index chan : Nat)
  /-- State of a work item of a dome: an accumulator of an instrument on a logical tile. -/
  | work (dome instr tile entry : Nat)
  deriving DecidableEq, Repr

/-- The commands of the block: one constructor per row of the opcode table, with the row's operands.
A mailbox opcode's operand is the request that it decides (R384). -/
inductive Instr where
  /-- RST_N_ASSERT (R28): An assertion of RST_N of at least 10 µs moves the device from any state to COLD. -/
  | rstNAssert
  /-- RST_N_RELEASE (R564): Release of RST_N with all supplies in range enters BOOT and starts the boot steps of Table 20-4. -/
  | rstNRelease (flash : Nat) (bad : List Nat)
  /-- SUPPLY_LOSS (R28): Loss of supplies moves the device from any state to COLD. -/
  | supplyLoss
  /-- BOOT_STEP_LIMIT_EXPIRY (R564): A boot step that exceeds its limit resets the device as SW_RESET does, and the reset counts as a boot fault. -/
  | bootStepLimitExpiry (bad : List Nat)
  /-- BOOT_COMPLETE (R564): At step 7 of boot a TRIAL image is written UNCONFIRMED, CFAILS is cleared and the device enters CALIBRATE. -/
  | bootComplete (repaired : List (Nat × Nat)) (tiles cps : List Nat)
  /-- TICK_BOUNDARY (R39): At each tick boundary TICK64 increments and each unit starts its work items for the new tick. -/
  | tickBoundary (driftFs : Int) (upsets : List (Nat × Nat × Nat))
  /-- WORK_ITEM_SHED (R45): A work item still unfinished at the end of tick n + 1 is discarded whole, and its outputs are marked SHED. -/
  | workItemShed (dome : Nat) (unit : WorkUnit) (index tile : Nat)
  /-- CONFIG_SET_APPLY (R390): An admitted configuration set applies at its effective tick, together with the SH writes it took. -/
  | configSetApply (dome cfgGen : Nat)
  /-- REF_INVALID_DETECT (R55): The reference monitor declares REF_IN invalid, the core ADPLL coasts and holdover begins. -/
  | refInvalidDetect
  /-- REF_REACQUIRE (R57): After 2 s of a valid reference without a break, the reference is re-acquired and the ADPLL follows it back to lock. -/
  | refReacquire
  /-- SCIENCE_TIME_STEP (R57): At the first tick boundary after re-acquisition, science time steps, HOLDOVER clears and RELOCK is reported. -/
  | scienceTimeStep (deltaFs : Int)
  /-- PPS_EDGE (R56): A PPS_IN edge is checked against the reference-defined second and may set PPS_FAULT. -/
  | ppsEdge (inTickFs : Nat)
  /-- PPS_TIMEOUT (R56): No PPS_IN edge arrives within 1.1 s, and PPS_FAULT is set. -/
  | ppsTimeout
  /-- HOUSE_TIME_STEER (R53): House time is slewed toward science time, or steps forward once when it is more than 1 s behind. -/
  | houseTimeSteer (elapsedFs : Nat)
  /-- AGEING_MEASURE (R54): Every 1,000 s the quartz is measured against the reference and the ageing correction is moved. -/
  | ageingMeasure (measured : Int)
  /-- AGEING_EPHEMERIS_WRITE (R54): Once a day the quartz ageing correction is written to the Ephemeris. -/
  | ageingEphemerisWrite
  /-- TDC_EDGE (R65): An edge on a TDC channel is timestamped and queued, or counted in MISSED or FIFO_LOST. -/
  | tdcEdge (ch : Nat) (rising : Bool) (c f f1 f2 : Nat)
  /-- TDC_BLIND_END (R66): The 12.8 ns calibration after a recorded edge ends, and the channel can record again. -/
  | tdcBlindEnd (ch : Nat)
  /-- TDC_PAIR_REPORT (R69): After N differences a TDC pair reports their mean and rms. -/
  | tdcPairReport (pair : Nat)
  /-- ADPLL_LOCK (R74): An ADPLL declares LOCK after 1,024 comparisons within ±100 ps. -/
  | adpllLock (pll : Nat)
  /-- ADPLL_LOSS_OF_LOCK (R74): An ADPLL loses lock and coasts on a frozen control word. -/
  | adpllLossOfLock (pll : Nat)
  /-- OUTPUT_COAST_EXPIRY (R75): After 1 ms of coasting an output ADPLL starts a re-lock as for a large change. -/
  | outputCoastExpiry (out : Nat)
  /-- BAND_SEARCH_DONE (R73): The band search of an ADPLL completes and fine acquisition begins. -/
  | bandSearchDone (pll : Nat)
  /-- CLKOUT_REENABLE (R78): A muted output is re-enabled after LOCK plus 64 output cycles, starting with a full-width high phase. -/
  | clkoutReenable (out : Nat)
  /-- CEILING_CLAMP (R79): The loop filter clamps the NTO at the ceiling, sets CLAMP and the loop loses lock. -/
  | ceilingClamp (out : Nat)
  /-- CLK_CORE_CTRL_WRITE (R83): A posted write of SRC_SEL or REF_FREQ sets BUSY, or is discarded with LOST. -/
  | clkCoreCtrlWrite (w : Word)
  /-- OUT_CTRL_WRITE (R83): A posted write of an output's ENABLE, FMT, SRC, LVCMOS_N or DRIVE sets BUSY, or is discarded with LOST. -/
  | outCtrlWrite (out : Nat) (w : Word)
  /-- OUT_ODIV_WRITE (R83): A posted write of an output divider sets BUSY, or is discarded with LOST. -/
  | outOdivWrite (out : Nat) (w : Word)
  /-- OUT_FB_LO_WRITE (R83): A write of OUTn_FB_LO stages FB[31:0] without posting it. -/
  | outFbLoWrite (out : Nat) (w : Word)
  /-- OUT_FB_HI_WRITE (R83): A write of OUTn_FB_HI posts FB[47:32] together with the staged FB[31:0]. -/
  | outFbHiWrite (out : Nat) (w : Word)
  /-- OUT_FMAX_WRITE (R443): A KEY write of an output ceiling applies at once if the unlock is armed, and is otherwise discarded as violation 0x02. -/
  | outFmaxWrite (out : Nat) (w : Word)
  /-- POSTED_WRITE_APPLY (R442): A posted register value applies at the next tick boundary, or within 2 µs in BOOT and RECOVERY, is range-checked and clears BUSY. -/
  | postedWriteApply
  /-- PORT_LINK_UP (R89): After retraining, a port's link comes up and it starts to receive. -/
  | portLinkUp (port : Nat)
  /-- PORT_LINK_DOWN (R123): A port's link, or the framing of a Weltilink lane, goes down, and LINK is raised. -/
  | portLinkDown (port : Nat) (lane : Option Nat)
  /-- ETH_FRAME_RX (R91): A received Ethernet frame is put through the checks of Table 4-2 and either lands as a sample packet or is diverted or dropped. -/
  | ethFrameRx (port : Nat) (frame : List Byte) (fec : List FecWords) (rxFs : Nat)
  /-- AGENT_REPLY (R92): The port agent answers ARP, neighbour solicitation or echo requests, or drops them into AGENT_DROP. -/
  | agentReply (port : Nat)
  /-- MEMBERSHIP_REPORT (R92): The port agent sends IGMPv3 or MLDv2 membership reports for the feeds' multicast groups. -/
  | membershipReport (port : Nat)
  /-- WELTI_FRAME_RX (R97): A Weltilink frame is received on a lane, advances framing and is used or discarded. -/
  | weltiFrameRx (port lane : Nat) (frame : List Byte) (fec : List FecWords) (fecBad : Bool) (rxFs : Nat)
  /-- LANDING_SLOT_RELEASE (R110): At the start of device tick n + H + 4 the slot of sample tick n is released to conditioning with its feed tick record.
  `poisoned` lists the granules of an HBM ring that read back poisoned (R115), `poisonOut` the samples of an HBM delay line that did, output index j of sub-band k of K as j K + k (R140). -/
  | landingSlotRelease (feed : Nat) (poisoned poisonOut : List Nat)
  /-- ARRIVAL_STATS_UPDATE (R122): Every 2^16 ticks ARR_MIN_NS and ARR_MAX_NS are updated. -/
  | arrivalStatsUpdate
  /-- SK_BLOCK_DECIDE (R173): An SK block is classed and its block record written, blanking channels under BLANK. -/
  | skBlockDecide (dome index : Nat)
  /-- SK_HOLD_RELEASE (R175): Frames held under BLANK are released L_sk ticks later with their blanking applied. -/
  | skHoldRelease (dome index : Nat)
  /-- INTEGRATION_END (R193): At the end of an integration the banks exchange and the closed bank is converted into a result. -/
  | integrationEnd (dome instr : Nat)
  /-- SUB_INTEGRATION_END (R221): A sub-integration completes in the batch store and its correlation is scheduled. -/
  | subIntegrationEnd (dome instr : Nat)
  /-- DUMP_END (R220): At the end of a dump the accumulator banks exchange and the closed bank is read out. -/
  | dumpEnd (dome instr : Nat)
  /-- TRACE_GROUP_END (R257): The last frame of a trace group is processed and a trace record is emitted. -/
  | traceGroupEnd (dome instr : Nat)
  /-- SWEEP_WINDOW_DECIDE (R262): A cluster window is decided and yields at most one candidate record. -/
  | sweepWindowDecide (dome mask : Nat)
  /-- PLATE_DECAY (R268): After every K-th frame a decay is applied to every cell of a persistent Plate. -/
  | plateDecay (dome plate : Nat)
  /-- PLATE_SNAPSHOT (R270): At a snapshot boundary the Plate counts are copied into a snapshot. -/
  | plateSnapshot (dome plate : Nat)
  /-- TRIGGER_ARRIVE (R289): A trigger reaches a capture stage and is queued, or counted in LATE_TRIG or QUEUE_LOST. -/
  | triggerArrive (dome instr : Nat)
  /-- TRIGGER_DECIDE (R289): At the end of device tick d(n) the capture decides the triggers of sample tick n in position order. -/
  | triggerDecide (dome instr : Nat)
  /-- RECORD_CLOSE (R291): A capture record closes once its last unit is written and its header is written with STATE = 1. -/
  | recordClose (dome instr : Nat)
  /-- SEGMENT_ADVANCE (R292): The writer moves to the next segment and sets its arm point, or stops under STOP or MANUAL. -/
  | segmentAdvance (dome instr : Nat)
  /-- SEGMENT_REARM (R294): After a record is released under FULL = STOP, the writer arms the freed segment. -/
  | segmentRearm (dome instr : Nat)
  /-- RECORD_STREAM_DONE (R300): The last packet of a streamed capture record leaves and the record is released. -/
  | recordStreamDone (dome instr : Nat)
  /-- PACKET_TRANSMIT (R317): A packet leaves when the stream's token bucket holds its wire bytes, draining the spill in order. -/
  | packetTransmit (dome stream elapsedFs : Nat) (poisoned : Bool)
  /-- ARP_RESOLVE_DONE (R308): Resolution of a stream's next-hop address completes, or fails after 1 s. -/
  | arpResolveDone (fn : Fn) (tag : BitVec 16) (macs : Option NextHops)
  /-- ARP_REFRESH (R308): Every 60 s the port agent refreshes a stream's next-hop address. -/
  | arpRefresh (dome stream : Nat) (mac : Option (BitVec 48))
  /-- ROCE_ACK_RX (R324): An ACK for a RoCE queue pair removes acknowledged messages from the spill. -/
  | roceAckRx (dome stream psn : Nat)
  /-- ROCE_NAK_RX (R324): A PSN sequence NAK starts a go-back-N retransmission, or an RNR NAK retransmits the PSN. -/
  | roceNakRx (dome stream psn : Nat) (rnr : Bool)
  /-- ROCE_CNP_RX (R324): A received CNP is counted in CNP_RX and changes nothing else. -/
  | roceCnpRx (dome stream : Nat)
  /-- ROCE_RTO_EXPIRY (R324): No acknowledgement arrives within RTO_US and the PSN is retransmitted, or the queue pair enters ERROR. -/
  | roceRtoExpiry (dome stream psn : Nat)
  /-- TRANSIT_GRANULE_RX (R333): A Transit granule is received and accepted, or discarded as late or duplicate. -/
  | transitGranuleRx (port flow : Nat) (spec : FlowSpec) (sendTick offset : Nat) (bytes : List Byte) (invalid : Bool)
  /-- TRANSIT_DEADLINE (R333): Granules not arrived by the end of tick m + L_t − 1 become absent, and their samples invalid. -/
  | transitDeadline (port flow sendTick sampleTick frame0 : Nat)
  /-- TICK_STATUS_RX (R339): A control flow's tick status is compared with the reference, and may exclude a member. -/
  | tickStatusRx (ap serial port : Nat) (delayNs : Int) (release m tick sentAt state cfgGen crc : Nat) (withdrawn : Bool) (tiles : Nat)
  /-- PREPARE_RX (R338): A member receives PREPARE, admits the command without effect and replies READY or FAIL. -/
  | prepareRx (ap id e : Nat) (replay : Bool) (cmds : List ApCmd)
  /-- READY_RX (R338): The lead receives a member's READY. -/
  | readyRx (ap serial id crc : Nat)
  /-- FAIL_RX (R338): The lead receives a member's FAIL. -/
  | failRx (ap serial id status : Nat)
  /-- APERTURE_DECIDE (R338): By tick a + 2L_c + 2 the lead sends COMMIT or ABORT and completes the dome's command. -/
  | apertureDecide (ap id : Nat)
  /-- COMMIT_RX (R338): A member receives COMMIT and will apply the prepared command at e. -/
  | commitRx (ap id : Nat)
  /-- ABORT_RX (R338): A member receives ABORT, drops the prepared command and releases its reservations. -/
  | abortRx (ap id : Nat)
  /-- EXCLUDE_RX (R340): A member receives EXCLUDE and treats the excluded member's flows as absent. -/
  | excludeRx (ap serial : Nat)
  /-- REJOIN_RX (R341): The lead receives REJOIN and replays the aperture configuration, or keeps the member excluded. -/
  | rejoinRx (ap serial release m tick sentAt : Nat)
  /-- NOTICE_RX (R336): The lead receives a NOTICE message for the owner's notice queue. -/
  | noticeRx (ap serial cause count : Nat)
  /-- DATA_RX (R396): A member receives a forwarded CAPTURE_READ, performs it and answers DATA_DONE. -/
  | dataRx (ap id dome : Nat) (q : Request)
  /-- DATA_DONE_RX (R396): The lead receives a member's DATA_DONE, and completes the aperture read when every member has answered. -/
  | dataDoneRx (ap serial id status bytes : Nat)
  /-- CONFIG_RX (R342): A new lead receives a fragment of a member's committed aperture configuration and adopts the first whole one. -/
  | configRx (ap serial total : Nat) (cmds : List ApCmd)
  /-- CONTROL_FLOW_ABSENT (R339): A member's control flow is absent for EXCLUDE_TICKS ticks and the member is excluded. -/
  | controlFlowAbsent (ap serial : Nat)
  /-- LEAD_LOST (R342): A member treats its lead as lost, runs on the last configuration and notifies its owner. -/
  | leadLost (ap : Nat)
  /-- ADOPT_TIMEOUT (R342): An APERTURE_CREATE with ADOPT = 1 completes with TIMEOUT when no whole CONFIG arrives in time. -/
  | adoptTimeout (ap : Nat)
  /-- SEXTANT_ITEM_START (R367): At the start of device tick m, once the previous item has executed DONE, TICKINFO and PARAM are written and the program starts at ENTRY. -/
  | sextantItemStart (tile : Nat)
  /-- SEXTANT_ITEM_ABORT (R369): An item without DONE by the end of tick m + 1 is aborted and publishes empty SHED records. -/
  | sextantItemAbort (tile : Nat)
  /-- SEXTANT_TIMER_EXPIRY (R362): A Sextant timer reaches 0, sets IPEND, may publish an event, and reloads or stops. -/
  | sextantTimerExpiry (tile k : Nat)
  /-- WAIT_END (R364): A WAIT ends on an event, at a tick boundary or on deadlock, and writes WAITST. -/
  | waitEnd (tile : Nat)
  /-- INTERRUPT_TAKEN (R359): An enabled pending interrupt is taken at a bundle boundary, saving IPC and IFLAGS and continuing at IVEC. -/
  | interruptTaken (tile : Nat)
  /-- SWAP_APPLY (R372): A staged Sextant image is put into service at the first item of tick e, after any running item ends. -/
  | swapApply (tile : Nat)
  /-- LEASE_SCRUB (R347): At a lease change the Sextant's memories, registers, timers and staging copy are scrubbed. -/
  | leaseScrub (tile : Nat)
  /-- BUNDLE_ISSUE (R350): One 128-bit bundle issues its four slot instructions in one Sextant cycle, followed by loop evaluation. -/
  | bundleIssue (tile : Nat) (portBusy : Bool)
  /-- MBX_RQ_TAIL_WRITE (R380): The doorbell names the next request entry, or is ignored with TAIL_RANGE. -/
  | mbxRqTailWrite (fn : Fn) (w : Word)
  /-- MBX_CQ_HEAD_WRITE (R381): The host advances the completion ring head, freeing entries, or the write is ignored with TAIL_RANGE. -/
  | mbxCqHeadWrite (fn : Fn) (w : Word)
  /-- MBX_CTRL_WRITE (R453): A write of ENABLE starts the mailbox with reset rings, is refused with RING_WRITE, or stops fetching. -/
  | mbxCtrlWrite (fn : Fn) (w : Word)
  /-- MBX_RING_REG_WRITE (R379): A write to a ring base or size register is stored, or discarded with RING_WRITE while ENABLE is 1. -/
  | mbxRingRegWrite (fn : Fn) (off : Nat) (w : Word)
  /-- MBX_ERR_WRITE (R380): Clearing sticky error bits, and clearing FETCH_ERR resumes fetching. -/
  | mbxErrWrite (fn : Fn) (w : Word)
  /-- REQUEST_FETCH (R382): The device fetches a request entry and its parameter buffer when in-flight and completion places allow. -/
  | requestFetch (fn : Fn) (entry : List Byte) (buffer : List Byte) (busError : Bool)
  /-- FENCE_RELEASE (R387): A request held by FENCE is decided once every earlier request of its mailbox has completed. -/
  | fenceRelease (fn : Fn)
  /-- NOP (R403): Query that does nothing and completes with RESULT 0. -/
  | nop (q : Request)
  /-- CAPABILITY (R405): Returns the capability record. -/
  | capability (q : Request)
  /-- COMMIT (R390): Admits the staged set and SH writes as one configuration at effective tick e. -/
  | commit (q : Request)
  /-- GROUP_ABORT (R390): Discards the staged set and D0's pending SH writes. -/
  | groupAbort (q : Request)
  /-- CANCEL (R391): Cancels a pending set if decided before tick e − 1. -/
  | cancel (q : Request)
  /-- STATUS (R406): Returns the status record. -/
  | status (q : Request)
  /-- STATE_SET (R28): Owner command that moves the device between states at a named tick. -/
  | stateSet (q : Request)
  /-- TICK_PERIOD (R38): Changes the tick multiple M at an effective tick in CALIBRATE or MAINTENANCE. -/
  | tickPeriod (q : Request)
  /-- EPOCH (R60): Sets, aligns or shifts the tick epoch at an effective tick. -/
  | epoch (q : Request)
  /-- TIME_READ (R403): Returns science time, house time, TICK64 and tick phase. -/
  | timeRead (q : Request)
  /-- TDC_CONFIG (R64): Configures an external TDC channel. -/
  | tdcConfig (q : Request)
  /-- TDC_PAIR (R69): Defines a TDC difference pair. -/
  | tdcPair (q : Request)
  /-- TDC_STATS (R403): Returns TDC counters and pair reports. -/
  | tdcStats (q : Request)
  /-- CLOCK_CORE (R76): Sets the core ADPLL input SRC_SEL and REF_FREQ. -/
  | clockCore (q : Request)
  /-- CLOCK_OUTPUT (R82): Sets every field of one clock output at its effective tick. -/
  | clockOutput (q : Request)
  /-- PORT_CONFIG (R89): Configures or removes a port as part of the feed plan. -/
  | portConfig (q : Request)
  /-- PORT_STATS (R121): Returns a port's receive counters. -/
  | portStats (q : Request)
  /-- PORT_MGMT_SEND (R93): Sends one frame through the port management queue and returns its transmit time. -/
  | portMgmtSend (q : Request)
  /-- PORT_MGMT_RECV (R93): Returns frames from the port management queue with their receive times. -/
  | portMgmtRecv (q : Request)
  /-- FEED_DEFINE (R106): Defines or changes a feed in the feed plan. -/
  | feedDefine (q : Request)
  /-- FEED_DELETE (R116): Removes a feed at its effective tick. -/
  | feedDelete (q : Request)
  /-- FEED_STATS (R122): Returns a feed's counters and status fields. -/
  | feedStats (q : Request)
  /-- FEED_CONDITION (R149): Sets a feed's conditioning parameters from sample tick e. -/
  | feedCondition (q : Request)
  /-- COEF_LOAD (R134): Writes the staged decimator coefficient region of a feed. -/
  | coefLoad (q : Request)
  /-- COEF_SWAP (R134): Schedules the coefficient swap at SWAP_SAMPLE. -/
  | coefSwap (q : Request)
  /-- DELAY_POLY (R137): Queues a delay polynomial record for a feed. -/
  | delayPoly (q : Request)
  /-- COARSE_DEFINE (R150): Sets the coarse channeliser definition of a feed. -/
  | coarseDefine (q : Request)
  /-- PFB_COEF_LOAD (R156): Loads entries of a custom prototype coefficient set. -/
  | pfbCoefLoad (q : Request)
  /-- SK_DEFINE (R172): Defines or changes spectral kurtosis in feed or instrument scope. -/
  | skDefine (q : Request)
  /-- SK_DELETE (R176): Deletes an SK definition, closing its block in progress. -/
  | skDelete (q : Request)
  /-- INSTR_DEFINE (R43): Defines and admits an instrument of a dome. -/
  | instrDefine (q : Request)
  /-- INSTR_MODIFY (R633): Changes an instrument, or places an unplaced one again. -/
  | instrModify (q : Request)
  /-- INSTR_DELETE (R633): Removes an instrument. -/
  | instrDelete (q : Request)
  /-- INSTR_STATS (R204): Returns an instrument's counters, placement and admission figures. -/
  | instrStats (q : Request)
  /-- ZOOM_DEFINE (R166): Defines a zoom window and places it. -/
  | zoomDefine (q : Request)
  /-- ZOOM_DELETE (R166): Deletes a zoom window. -/
  | zoomDelete (q : Request)
  /-- RQ_GAIN_LOAD (R181): Writes a range of a requantiser's staged gain bank. -/
  | rqGainLoad (q : Request)
  /-- RQ_GAIN_SWAP (R181): Schedules a requantiser gain swap at SWAP_TICK. -/
  | rqGainSwap (q : Request)
  /-- RQ_STATS (R183): Returns requantiser counters, optionally clearing RQ_CLIP_CH. -/
  | rqStats (q : Request)
  /-- BEAM_WEIGHT_LOAD (R228): Writes a range of a beamformer's staged weight bank. -/
  | beamWeightLoad (q : Request)
  /-- BEAM_WEIGHT_SWAP (R228): Schedules a beam weight swap at SWAP_TICK. -/
  | beamWeightSwap (q : Request)
  /-- RESULT_ACK (R199): Releases HBM ring slots up to the named sequence. -/
  | resultAck (q : Request)
  /-- MASK_DEFINE (R248): Defines a frequency or sweep mask. -/
  | maskDefine (q : Request)
  /-- MASK_LOAD (R250): Writes a range of a mask's staged bank. -/
  | maskLoad (q : Request)
  /-- MASK_SWAP (R250): Schedules a mask bank swap at SWAP_TICK. -/
  | maskSwap (q : Request)
  /-- MASK_ARM (R253): Re-arms a SINGLE mask from its effective tick. -/
  | maskArm (q : Request)
  /-- MASK_DELETE (R244): Deletes a mask. -/
  | maskDelete (q : Request)
  /-- PLATE_DEFINE (R265): Defines a Plate and reports its sub-sampling factor. -/
  | plateDefine (q : Request)
  /-- PLATE_CLEAR (R271): Sets every count of a Plate to 0 at its first sample tick. -/
  | plateClear (q : Request)
  /-- PLATE_DELETE (R244): Deletes a Plate. -/
  | plateDelete (q : Request)
  /-- SWEEP_GAIN_LOAD (R259): Writes a range of a sweep mask's staged gain bank. -/
  | sweepGainLoad (q : Request)
  /-- SWEEP_GAIN_SWAP (R259): Schedules a sweep gain swap at SWAP_TICK. -/
  | sweepGainSwap (q : Request)
  /-- CAPTURE_FORCE (R286): Produces a MANUAL trigger at the first unit of sample tick e − λ_c. -/
  | captureForce (q : Request)
  /-- CAPTURE_ARM (R292): Re-arms a REARM = MANUAL capture. -/
  | captureArm (q : Request)
  /-- CAPTURE_READ (R299): Copies a byte range of a record to a host buffer or a stream, per stack part. -/
  | captureRead (q : Request)
  /-- CAPTURE_RELEASE (R300): Releases closed records up to the named RECORD_SEQ. -/
  | captureRelease (q : Request)
  /-- STREAM_DEFINE (R305): Defines an egress stream and reports B_max. -/
  | streamDefine (q : Request)
  /-- STREAM_MODIFY (R305): Changes a stream, optionally resetting a RoCE queue pair. -/
  | streamModify (q : Request)
  /-- STREAM_DELETE (R307): Deletes a stream that has no producer. -/
  | streamDelete (q : Request)
  /-- STREAM_STATS (R343): Returns a stream's counters. -/
  | streamStats (q : Request)
  /-- STREAM_CREDIT (R325): Gives the storage server's read offset for a CREDIT = HOST stream. -/
  | streamCredit (q : Request)
  /-- APERTURE_CREATE (R335): Creates, or with ADOPT re-establishes, an aperture at its lead. -/
  | apertureCreate (q : Request)
  /-- APERTURE_LINK (R335): Joins a local port to a peer device as an aperture link. -/
  | apertureLink (q : Request)
  /-- APERTURE_DELETE (R342): Removes an aperture, or applies locally at a member that has lost its lead. -/
  | apertureDelete (q : Request)
  /-- APERTURE_STATS (R343): Returns link and aperture counters. -/
  | apertureStats (q : Request)
  /-- SEXTANT_LOAD (R371): Checks an image and claims a Sextant or stages the image. -/
  | sextantLoad (q : Request)
  /-- SEXTANT_ATTACH (R365): Binds a Sextant to its instrument, inputs and outputs. -/
  | sextantAttach (q : Request)
  /-- SEXTANT_SWAP (R372): Schedules the staged image to go into service. -/
  | sextantSwap (q : Request)
  /-- SEXTANT_PARAM (R377): Stages PARAM data to be copied at an item start. -/
  | sextantParam (q : Request)
  /-- SEXTANT_EVENTS (R363): Sets a Sextant's subscribed and producer channels. -/
  | sextantEvents (q : Request)
  /-- SEXTANT_RELEASE (R346): Ends a Sextant lease with a scrub. -/
  | sextantRelease (q : Request)
  /-- SEXTANT_STATS (R377): Returns a Sextant's counters. -/
  | sextantStats (q : Request)
  /-- DOME_CREATE (R412): Creates a dome bound to one VF. -/
  | domeCreate (q : Request)
  /-- DOME_GRANT (R416): Sets one grant ceiling of a dome. -/
  | domeGrant (q : Request)
  /-- DOME_PRIORITY (R417): Sets a dome's placement priority. -/
  | domePriority (q : Request)
  /-- DOME_RESET (R423): Bumps a dome's generation and starts removing everything it has built. -/
  | domeReset (q : Request)
  /-- DOME_DELETE (R413): Resets a dome with scrub and frees its number. -/
  | domeDelete (q : Request)
  /-- DOME_QUERY (R412): Returns a dome's binding, generation, priority and grants. -/
  | domeQuery (q : Request)
  /-- LOGBOOK_READ (R430): Returns Logbook entries from RAM or flash. -/
  | logbookRead (q : Request)
  /-- METER_CONFIG (R432): Sets the accounting interval grid, closing open intervals. -/
  | meterConfig (q : Request)
  /-- RATE_CLASS (R434): Changes a dome's rate class, starting a new segment. -/
  | rateClass (q : Request)
  /-- METER_READ (R433): Returns interval records from flash or the open interval. -/
  | meterRead (q : Request)
  /-- EVENT_ROUTE (R471): Adds or removes a route of a numbered source to a channel. -/
  | eventRoute (q : Request)
  /-- LUT_CONFIG (R472): Configures a channel, LUT cell, EV pin or the suppression window. -/
  | lutConfig (q : Request)
  /-- EVENT_MSIX (R480): Maps an event channel to an MSI-X vector of the function. -/
  | eventMsix (q : Request)
  /-- EVENT_STATS (R482): Returns a channel's event, merge, suppression and overrun counts. -/
  | eventStats (q : Request)
  /-- HBM_CONFIG (R504): Sets HBM controller parameters and stages address masks. -/
  | hbmConfig (q : Request)
  /-- HBM_STATS (R505): Returns HBM counters, masks, page counts and bookings. -/
  | hbmStats (q : Request)
  /-- HEALTH_READ (R530): Returns tile and sector health entries. -/
  | healthRead (q : Request)
  /-- QUALITY_READ (R529): Returns the quality figures. -/
  | qualityRead (q : Request)
  /-- CALIBRATE (R525): Starts a calibration of the named scope and unit. -/
  | calibrate (q : Request)
  /-- RESERVE_SWAP (R531): Swaps or withdraws a tile, or forces a control-processor takeover. -/
  | reserveSwap (q : Request)
  /-- ADC_CONFIG (R536): Programs the ADC sequence. -/
  | adcConfig (q : Request)
  /-- ADC_CALIBRATE (R535): Starts an ADC self-calibration. -/
  | adcCalibrate (q : Request)
  /-- ADC_READ (R539): Returns ADC results, optionally clearing OVR. -/
  | adcRead (q : Request)
  /-- DAC_CONFIG (R541): Configures a control DAC and returns its status. -/
  | dacConfig (q : Request)
  /-- DAC_QUEUE (R543): Appends entries to or replaces the loop of a DAC queue. -/
  | dacQueue (q : Request)
  /-- EYEPIECE_CONFIG (R549): Configures the Eyepiece link, timing, surface and windows. -/
  | eyepieceConfig (q : Request)
  /-- PALETTE_LOAD (R550): Loads palette entries, applied from the next pixel. -/
  | paletteLoad (q : Request)
  /-- TRANSFER_LOAD (R551): Loads a transfer table, applied from the next pixel. -/
  | transferLoad (q : Request)
  /-- RECT_CONFIG (R554): Sets a CRC-checked rectangle. -/
  | rectConfig (q : Request)
  /-- UPDATE_BEGIN (R572): Opens or resumes a folio transfer into the target slot. -/
  | updateBegin (q : Request)
  /-- FOLIO_WRITE (R573): Checks and programs one folio of the image. -/
  | folioWrite (q : Request)
  /-- UPDATE_STATUS (R587): Returns the update status record. -/
  | updateStatus (q : Request)
  /-- UPDATE_ACTIVATE (R576): Activates a READY target by reset or by live handover. -/
  | updateActivate (q : Request)
  /-- UPDATE_CONFIRM (R581): Confirms the running unconfirmed image and raises the SVN floor. -/
  | updateConfirm (q : Request)
  /-- UPDATE_ABORT (R583): Abandons the update in progress. -/
  | updateAbort (q : Request)
  /-- DEBUG_UNLOCK (R596): Presents a debug token that may unlock the SDP. -/
  | debugUnlock (q : Request)
  /-- DEBUG_LOCK (R597): Locks the SDP and returns a new CHALLENGE. -/
  | debugLock (q : Request)
  /-- VF_ENABLE_WRITE (R411): An operator change of VF Enable applies a function reset to every dome of that port. -/
  | vfEnableWrite (port : Nat) (enable : Bool)
  /-- FUNCTION_LEVEL_RESET (R422): A PCIe Function Level Reset of a dome's function bumps its generation and stops its mailbox and DMA. -/
  | functionLevelReset (fn : Fn)
  /-- HOST_LINK_DOWN (R422): Link-down of a host port applies a function reset to every function of that port. -/
  | hostLinkDown (port : Nat)
  /-- PERST_ASSERT (R609): An assertion of PEn_PERST_N is a hot reset of host port n. -/
  | perstAssert (port : Nat)
  /-- DOME_RESET_TICK (R424): At the reset tick no new work of the dome starts and its DMA stops at descriptor boundaries. -/
  | domeResetTick (dome : Nat)
  /-- DOME_RESET_RETURN (R426): At the first tick after the drain the dome's resources return and DOME_RESET completes. -/
  | domeResetReturn (dome : Nat)
  /-- LOGBOOK_FLASH_WRITE (R429): A SECURITY entry is written to the flash ring within 1 s and marked CHECKPOINTED. -/
  | logbookFlashWrite
  /-- METER_INTERVAL_CLOSE (R432): At a house-time boundary every dome's accounting interval closes and its record is made. -/
  | meterIntervalClose
  /-- METER_RECORD_WRITE (R433): An interval record is written to the flash ring within 1 s of the close. -/
  | meterRecordWrite
  /-- METER_CHECKPOINT (R435): Every 60 s a checkpoint of every open interval is written to flash. -/
  | meterCheckpoint
  /-- PWR_FAIL_ASSERT (R612): A recognised PWR_FAIL_N assertion starts the Logbook flush and metering close. -/
  | pwrFailAssert
  /-- POWERFAIL_METER_CLOSE (R435): At the boundary of w + 1 every open interval closes with TERM = POWERFAIL. -/
  | powerfailMeterClose
  /-- PWR_FAIL_DEASSERT (R612): A recognised deassertion of PWR_FAIL_N resumes metering at the next boundary. -/
  | pwrFailDeassert
  /-- UNLOCK_WRITE (R443): A write of the key to UNLOCK arms the unlock, and any other value is refused. -/
  | unlockWrite (fn : Fn) (w : Word)
  /-- UNLOCK_EXPIRY (R443): The unlock is disarmed 100 µs after the UNLOCK write. -/
  | unlockExpiry
  /-- SW_RESET_WRITE (R443): A KEY write of SW_RESET schedules a device reset 1 ms later and starts a flush. -/
  | swResetWrite (fn : Fn) (w : Word)
  /-- SW_RESET_EXPIRY (R613): 1 ms after SW_RESET the device resets as RST_N does, once any flush has ended. -/
  | swResetExpiry (bad : List Nat)
  /-- IDX_DATA_ACCESS (R444): An access to IDX_DATA reads the word at IDX_ADDR, or discards a write, and advances WORD. -/
  | idxDataAccess (fn : Fn) (write : Option Word)
  /-- SH_REGISTER_WRITE (R440): A write to an SH register records a pending value and sets SH_PENDING. -/
  | shRegisterWrite (fn : Fn) (k : Nat) (w : Word)
  /-- COMMIT_CTRL_GO (R441): A write of GO = 1 commits the staged set and taken SH writes, or is discarded with LOST while BUSY. -/
  | commitCtrlGo (fn : Fn) (w : Word)
  /-- RECORD_REWRITE (R448): At the next tick boundary mismatched records are rewritten from the committed copy. -/
  | recordRewrite (segment index tile : Nat) (agrees : Bool)
  /-- VOTE_SCRUB (R450): Every 1 ms the three copies of each critical field are voted and corrected. -/
  | voteScrub (flips : List (Nat × Nat × Nat × Nat × Nat))
  /-- DMA_ADDR_WRITE (R460): A write of DMA_SRC, DMA_DST or DMA_COUNT clears DMA_DONE and DMA_DESCS, or is discarded with WR_BUSY. -/
  | dmaAddrWrite (fn : Fn) (ch off : Nat) (w : Word)
  /-- DMA_GO (R460): GO starts or resumes a DMA channel on the descriptor in its registers. -/
  | dmaGo (fn : Fn) (ch : Nat) (w : Word)
  /-- DMA_STOP (R464): STOP requests a halt at the next descriptor boundary. -/
  | dmaStop (fn : Fn) (ch : Nat) (w : Word)
  /-- DMA_DESCRIPTOR_END (R460): A descriptor completes, and the channel ends, halts on STOP or loads the next descriptor. -/
  | dmaDescriptorEnd (fn : Fn) (ch : Nat) (hostData : List Byte) (next : List Byte) (errs : List (Nat × Bool))
  /-- DMA_BUS_ERROR (R463): A DMA request fails or returns poison, and the channel retries or halts. -/
  | dmaBusError (fn : Fn) (ch kind moved : Nat) (hostData : List Byte) (errs : List (Nat × Bool))
  /-- DMA_RETRY (R463): 4 µs after a bus error the failed DMA request is repeated. -/
  | dmaRetry (fn : Fn) (ch : Nat)
  /-- EVT_PUB_WRITE (R455): A host write publishes one event on a permitted channel, or is counted in PUB_REFUSED. -/
  | evtPubWrite (fn : Fn) (w : Word)
  /-- EVT_MASK_WRITE (R481): Setting a mask bit whose pending bit is already 1 sends one MSI-X message. -/
  | evtMaskWrite (fn : Fn) (k : Nat) (w : Word)
  /-- TIME_LATCH_WRITE (R456): A write of LATCH captures science time, house time, TICK64, tick phase and flags for the function. -/
  | timeLatchWrite (fn : Fn) (w : Word) (inTickFs : Nat)
  /-- REGISTER_WRITE (R439): A write to any register without a row of its own acts under its access class, or as an RSV location. -/
  | registerWrite (fn : Fn) (bar off width value : Nat)
  /-- EVENT_DELIVER (R470): An event published in cycle p reaches every consumer in cycle p + 16, setting pending bits, sending MSI-X and filling queues. -/
  | eventDeliver
  /-- EV_PIN_EDGE (R475): An edge on an EV input pin is synchronised, filtered and published on its channel. -/
  | evPinEdge (pin : Nat) (level : Bool) (cycle : Nat)
  /-- EV_PULSE_END (R475): An EV output pulse ends after WIDTH cycles. -/
  | evPulseEnd (pin : Nat)
  /-- LUT_STRETCH_END (R473): The stretch of a clocked LUT cell input runs out and the input falls to 0. -/
  | lutStretchEnd (cell input : Nat)
  /-- SUPPRESS_WINDOW_END (R478): A suppression window ends and a numbered source may raise its cause again. -/
  | suppressWindowEnd
  /-- BAR2_READ (R498): A host read of a dome's HBM page returns data, poison with EP, or Unsupported Request. -/
  | bar2Read (fn : Fn) (off len : Nat) (errs : List (Nat × Bool))
  /-- BAR2_WRITE (R497): A host write of a dome's HBM page is written whole or by read-modify-write, or discarded as a violation. -/
  | bar2Write (fn : Fn) (off : Nat) (bytes : List Byte) (errs : List (Nat × Bool))
  /-- RT_PORT_PANIC (R491): A real-time port reaches PANIC_HI and is served at panic priority until it falls to PANIC_LO. -/
  | rtPortPanic (stack port level : Nat)
  /-- RT_PORT_OVERFLOW (R492): A real-time port overflows after a stack fault, poisoning, dropping or underflowing as its kind requires. -/
  | rtPortOverflow (stack port : Nat) (words : List Nat) (dome plate : Nat)
  /-- HBM_REFRESH (R494): The controller refreshes a bank, postponing at most 4 intervals during PANIC. -/
  | hbmRefresh (stack bank : Nat) (postpone : Bool)
  /-- SELF_REFRESH_ENTRY (R495): A stack idle for SR_IDLE_US with no booking enters self-refresh. -/
  | selfRefreshEntry (stack : Nat)
  /-- SELF_REFRESH_EXIT (R495): A request or an upcoming booking ends a stack's self-refresh. -/
  | selfRefreshExit (stack us : Nat)
  /-- PATROL_SCRUB_READ (R500): Patrol scrub reads a word, corrects or poisons it and counts correctable errors per page. -/
  | patrolScrubRead (stack : Nat) (err : Option Bool)
  /-- PAGE_RETIRE (R501): A page at CE_THRESH or with an uncorrectable error starts its copy to a spare page. -/
  | pageRetire (stack : Nat)
  /-- RETIRE_COPY_END (R501): A retirement copy completes and the page address maps to the spare. -/
  | retireCopyEnd (stack : Nat)
  /-- HBM_STACK_FAIL (R503): A stack stops answering and all its pages are withdrawn. -/
  | hbmStackFail (stack : Nat)
  /-- RO_MEASUREMENT (R508): Every 60 s the tile ring oscillators are measured and degradation may move the tile to WARN or WORN. -/
  | roMeasurement (tile fa fr : Nat)
  /-- TILE_STATUS_MISSING (R507): A tile that gives no tick-end status in 2 consecutive ticks becomes FAILED. -/
  | tileStatusMissing (tile : Nat)
  /-- HEALTH_SAMPLE (R509): Every 1 ms tile temperatures and supply monitors are read and warnings raised. -/
  | healthSample (temps : List Int) (supplies : List Nat)
  /-- RESERVE_SELFTEST (R506): Once a day a reserve tile is started, self-tested and stopped, or retired. -/
  | reserveSelftest (sector : Nat) (pass : Bool)
  /-- SWAP_RECORDS_WRITE (R511): At d + 1 the reserve's clocks start, the old tile's records are written to it and it is quarantined. -/
  | swapRecordsWrite (sector : Nat)
  /-- SWAP_CRC_MATCH (R511): At a tick end the reserve's records are compared with CRC_ACTIVE, and are rewritten or match at q. -/
  | swapCrcMatch (sector : Nat) (ok : Bool)
  /-- SWAP_SWITCH (R511): At the switch tick the reserve takes the logical tile and the old tile is retired. -/
  | swapSwitch (sector : Nat)
  /-- TILE_WITHDRAW (R516): A worn or failed tile without a reserve is withdrawn, its work moved or unplaced, and the device enters DEGRADED. -/
  | tileWithdraw (tile : Nat)
  /-- SRAM_PATROL_READ (R514): The SRAM patrol reads a word, corrects it or handles an uncorrectable error. -/
  | sramPatrolRead (tile sram row : Nat) (err : Option Bool) (use : SramUse)
  /-- SRAM_ROW_REPAIR (R514): A failing SRAM row is copied to a spare row and remapped. -/
  | sramRowRepair (tile sram row : Nat)
  /-- CP_HEARTBEAT (R519): The active control processor sends a heartbeat to the standby every 10 µs. -/
  | cpHeartbeat
  /-- HEARTBEAT_TIMEOUT (R520): 100 µs without a heartbeat makes the standby take over. -/
  | heartbeatTimeout
  /-- CP_FAULT_REPORT (R520): The active control processor reports a fault and the standby takes over. -/
  | cpFaultReport
  /-- STANDBY_TAKEOVER (R520): At a tick boundary the standby completes journalled decisions and resumes fetching. -/
  | standbyTakeover
  /-- STANDBY_BOOT_DONE (R520): A dormant control processor finishes booting as the new standby and leaves quarantine when it matches. -/
  | standbyBootDone
  /-- CALIBRATION_END (R525): A calibration completes, writes its field results and releases held outputs. -/
  | calibrationEnd (scope unit : Nat) (figs : List (Nat × Nat × Int)) (recs : List (Nat × Nat × List Byte))
  /-- PFB_SELFTEST_END (R528): The PFB self-test on the reserve ends, its ripple is recorded and the reserve is scrubbed. -/
  | pfbSelftestEnd (sector : Nat) (ripple : Int)
  /-- ADC_SEQUENCE_START (R536): A tick, event or continuous trigger starts the ADC sequence, or is counted in SEQ_MISSED. -/
  | adcSequenceStart
  /-- ADC_CONVERSION_DONE (R533): A conversion completes, is corrected and may over-range. -/
  | adcConversionDone (raw : Int)
  /-- ADC_CAL_DONE (R535): An ADC self-calibration ends, admitting or refusing the new factors. -/
  | adcCalDone (gain : Nat) (offset : Int)
  /-- DAC_PACER_STEP (R541): A pacer step boundary advances the DAC queue and changes the output. -/
  | dacPacerStep (dac : Nat)
  /-- DAC_SHORT_DETECT (R545): After 1 µs at the current limit SC is set and the short-circuit source raised. -/
  | dacShortDetect (dac : Nat) (on : Bool)
  /-- FRAME_START (R552): At a frame's first active line each window latches its Plate's newest snapshot slot. -/
  | frameStart
  /-- FRAME_END (R555): At a frame's end rectangle CRCs are compared and the status page is written. -/
  | frameEnd
  /-- DP_HPD_CHANGE (R557): A change of DP_HPD reads the EDID and trains the link, or stops video. -/
  | dpHpdChange (level : Bool) (edid : List Byte)
  /-- IRQ_HPD (R557): An IRQ_HPD causes a link check and a retrain if lost. -/
  | irqHpd (lost : Bool)
  /-- DP_TRAIN_DONE (R557): Link training completes, resuming video, or fails and is counted. -/
  | dpTrainDone (ok : Bool)
  /-- DP_TRAIN_RETRY (R557): Every 1 s a failed training is retried while DP_HPD stays high. -/
  | dpTrainRetry
  /-- TRANSFER_HEADER_WRITE (R572): After UPDATE_BEGIN completes, UPDATE_STATE is erased and the transfer header written. -/
  | transferHeaderWrite
  /-- HANDOVER_VERIFY_DONE (R579): The incoming processor's ROM finishes verifying the target, or the handover fails with DENIED. -/
  | handoverVerifyDone (bad : List Nat)
  /-- HANDOVER_TAKEOVER (R579): At the first tick boundary after the UNCONFIRMED record the new firmware takes over and completes UPDATE_ACTIVATE. -/
  | handoverTakeover
  /-- OUTGOING_REBOOT_DONE (R579): The outgoing processor boots the target and becomes the quarantined standby. -/
  | outgoingRebootDone
  /-- CONFIRM_WARNING (R581): 60 min before CONFIRM_BY, source 1365 and an UPDATE notice are raised. -/
  | confirmWarning
  /-- CONFIRM_DEADLINE (R582): House time passes CONFIRM_BY and the running image is written FAILED. -/
  | confirmDeadline
  /-- DEADLINE_RESET (R582): 1 ms after a deadline write without handover the device resets as SW_RESET does. -/
  | deadlineReset (bad : List Nat)
  /-- JTAG_EXTEST (R590): EXTEST drives the boundary register while RST_N is low, and otherwise acts as BYPASS. -/
  | jtagExtest (cells : List Bool)
  /-- JTAG_SAMPLE_PRELOAD (R590): SAMPLE/PRELOAD samples or preloads the boundary register in any state. -/
  | jtagSamplePreload (cells : List Bool)
  /-- JTAG_IDCODE (R590): IDCODE selects the identification register 0x1642_8EB5. -/
  | jtagIdcode
  /-- JTAG_CLAMP (R590): CLAMP holds the pins while RST_N is low, and otherwise acts as BYPASS. -/
  | jtagClamp
  /-- JTAG_HIGHZ (R590): HIGHZ places the pins in high impedance while RST_N is low, and otherwise acts as BYPASS. -/
  | jtagHighz
  /-- JTAG_BYPASS (R590): BYPASS, or any unsupported code, selects the bypass register. -/
  | jtagBypass
  /-- TRST_ASSERT (R590): TRST_N low holds the TAP in Test-Logic-Reset. -/
  | trstAssert (low : Bool)
  /-- SDP_LINE_RESET (R592): 50 or more cycles with SDP_IO high reset the SDP line. -/
  | sdpLineReset
  /-- SDP_TRANSACTION (R593): An SDP request is acknowledged and moves one word, or is refused with WAIT, FAULT or LOCKED. -/
  | sdpTransaction (rnw : Bool) (target addr : Nat) (parityOk : Bool) (data : Word) (dataOk : Bool)
  /-- TOKEN_DATA_WRITE (R596): A write of TOKEN_DATA adds one word of a debug token. -/
  | tokenDataWrite (w : Word)
  /-- TOKEN_GO_WRITE (R596): A write of TOKEN_GO starts the check of the token words, setting CHECKING. -/
  | tokenGoWrite (w : Word)
  /-- TOKEN_CHECK_DONE (R596): The token check ends, unlocking the SDP or setting TOKEN_FAIL. -/
  | tokenCheckDone
  /-- SDP_LOCK_WRITE (R597): A write of LOCK locks the SDP, removing breakpoints and resuming halted engines. -/
  | sdpLockWrite (w : Word)
  /-- TOKEN_EXPIRY (R597): The token's EXPIRES passes and the SDP locks again. -/
  | tokenExpiry
  /-- DBG_HALT (R599): HALT stops an engine's issue at the next boundary, and halting the active control processor enters HALTED. -/
  | dbgHalt (target : Nat)
  /-- DBG_RESUME (R600): RESUME restarts issue, and resuming the active control processor returns the device to its former state. -/
  | dbgResume (target : Nat)
  /-- DBG_STEP (R599): STEP issues one bundle or instruction and halts again. -/
  | dbgStep (target : Nat)
  /-- HALTED_ITEM_ABORT (R601): A halted Sextant passes its item deadline, aborts the item and stays halted at ENTRY. -/
  | haltedItemAbort (tile : Nat)
  /-- LOOPBACK_REPORT_END (R604): After REPORT_TICKS a LOOPBACK report record of KIND 12 is formed. -/
  | loopbackReportEnd (dome instr errors absent : Nat)
  /-- BROWN_OUT (R610): Core or SRAM supply below its threshold for 2 µs resets the device without flush. -/
  | brownOut
  /-- VCORE_ADJUST (R611): Every 60 s each sector's core set point is recomputed and moved over PMBus. -/
  | vcoreAdjust (sector : Nat) (ok : Bool)
  /-- THERMAL_WARNING (R615): A tile reaches Tj,max − 5 °C and source 1319 is raised. -/
  | thermalWarning (tile : Nat)
  /-- THERMAL_CRITICAL (R615): A tile reaches Tj,max + 5 °C, source 1320 is raised and THERM_N is driven low. -/
  | thermalCritical (tile : Nat)
  /-- THERMAL_TRIP (R618): At Tj,max + 15 °C for 1 ms the device drives THERMTRIP_N, flushes, resets and holds in COLD. -/
  | thermalTrip
  /-- BOOT_FIRMWARE_FAULT (R564): A firmware fault before step 7 of boot resets the device as SW_RESET does and counts as a boot fault. -/
  | bootFirmwareFault (bad : List Nat)
  /-- SUPPLY_RETURN (R610): After a brown-out, once every rail has been back in range for 10 ms, the device leaves COLD and boots. -/
  | supplyReturn (flash : Nat) (bad : List Nat)
  /-- FLUSH_END (R613): The power-fail flush ends, or 2.5 ms pass, and a held-off RST_N or thermal-trip reset takes effect. -/
  | flushEnd (complete : Bool)
  /-- PERST_RELEASE (R609): Release of PEn_PERST_N lets host port n begin link training. -/
  | perstRelease (port : Nat)
  /-- HOST_LINK_UP (R609): A host port's PCIe link completes training and comes up, raising source 1136 + 8h + 1. -/
  | hostLinkUp (port : Nat)
  /-- TILE_CONTROL_FAULT (R507): A tile reports a fault in its control logic and becomes FAILED, leading to a cold swap or withdrawal. -/
  | tileControlFault (tile : Nat)
  /-- EYE_MONITOR (R529): Every 10 s the receivers' eye monitors measure EYE_WIDTH and EYE_HEIGHT, raising source 1325 when out of limit. -/
  | eyeMonitor (lane : Nat) (width height : Int)
  /-- HBM_TEMPERATURE_LIMIT (R615): An HBM stack reaches 95 °C and raises source 1072 + 8h + 6. -/
  | hbmTemperatureLimit (stack : Nat)
  /-- HANDOVER_READY (R579): The incoming firmware finishes loading the journal and converting settings and writes the boot control record with the target UNCONFIRMED. -/
  | handoverReady
  /-- REGISTER_READ (R438): A BAR0 read of an RSV location, or of the OWNER window from another function, receives Unsupported Request or Completer Abort and is logged as a violation. -/
  | registerRead (fn : Fn) (bar off width : Nat)
  /-- LUT_FILTER_EXPIRY (R473): The stage output of a clocked LUT cell has differed from its output for FILTER cycles, so the output changes and may publish an event. -/
  | lutFilterExpiry (cell : Nat)
  deriving DecidableEq, Repr

end Sys2Proof
end

