-- ==== Sys2Proof/Decode.lean ====
section
/-! DEFINITION. Decode.lean: the commands that a word spells by the opcode table's bits. -/
namespace Sys2Proof

/-- The table gives no row any bits: its commands are register accesses, requests and events, and no word spells one. -/
def decodeTableWord (_nbits _w : Nat) : Option Instr := none

end Sys2Proof
end

