-- ==== Sys2Proof/Machine/Bits.lean ====
section
/-! DEFINITION. Bits.lean: byte order, rounding, saturation, checksums and binary32, as pure functions. -/
namespace Sys2Proof.Machine

/-- Bits `hi:lo` of a number. -/
def bits (x hi lo : Nat) : Nat := (x >>> lo) % 2 ^ (hi + 1 - lo)

/-- Bit `k` of a number. -/
def bit (x k : Nat) : Bool := x.testBit k

/-- Set or clear bit `k`. -/
def setBit (x k : Nat) (v : Bool) : Nat :=
  if v then x ||| 2 ^ k else if x.testBit k then x - 2 ^ k else x

/-- A flag as the number 0 or 1. -/
def b2n (b : Bool) : Nat := if b then 1 else 0

/-- Division rounded up. -/
def ceilDiv (a b : Nat) : Nat := (a + b - 1) / b

/-- Division rounded to nearest, halves away from zero (for unsigned operands). -/
def roundDiv (a b : Nat) : Nat := (2 * a + b) / (2 * b)

/-- Convergent rounding of `a / b`: round half to even (R19). -/
def rne (a : Int) (b : Nat) : Int :=
  let q := a / (b : Int)
  let r := a % (b : Int)
  if 2 * r < b then q else if (b : Int) < 2 * r then q + 1 else if q % 2 = 0 then q else q + 1

/-- Convergent rounding after dropping `k` bits. -/
def rneShift (a : Int) (k : Nat) : Int := rne a (2 ^ k)

/-- Saturation to `[lo, hi]`. -/
def clampInt (lo hi x : Int) : Int := if x < lo then lo else if hi < x then hi else x

/-- Saturation of a two's-complement number to `n` bits. -/
def satBits (n : Nat) (x : Int) : Int := clampInt (-(2 ^ (n - 1) : Nat)) ((2 ^ (n - 1) : Nat) - 1) x

/-- Saturating count: `x + k`, at most `m`. -/
def satAdd (x k m : Nat) : Nat := Nat.min (x + k) m

/-- Two's-complement reading of the low `n` bits of a number. -/
def toSigned (n x : Nat) : Int :=
  let y := x % 2 ^ n
  if 2 * y < 2 ^ n then (y : Int) else (y : Int) - (2 ^ n : Nat)

/-- The low `n` bits of an integer as a number. -/
def ofSigned (n : Nat) (x : Int) : Nat := (x % (2 ^ n : Nat)).toNat

/-- `n` little-endian bytes of a number (R5). -/
def leBytes : Nat → Nat → List Byte
  | 0, _ => []
  | n + 1, x => BitVec.ofNat 8 x :: leBytes n (x / 256)

/-- `n` big-endian bytes of a number, as network headers hold them (R5). -/
def beBytes (n x : Nat) : List Byte := (leBytes n x).reverse

/-- The number that little-endian bytes spell (R5). -/
def ofLe : List Byte → Nat
  | [] => 0
  | b :: t => b.toNat + 256 * ofLe t

/-- The number that big-endian bytes spell. -/
def ofBe (l : List Byte) : Nat := ofLe l.reverse

/-- Slice of a list: `len` entries from `start`. -/
def sliceL {α : Type} (l : List α) (start len : Nat) : List α := (l.drop start).take len

/-- Little-endian field of a byte list. -/
def leField (l : List Byte) (start len : Nat) : Nat := ofLe (sliceL l start len)

/-- Big-endian field of a byte list. -/
def beField (l : List Byte) (start len : Nat) : Nat := ofBe (sliceL l start len)

/-- Zero padding to `n` entries. -/
def padTo {α : Type} (z : α) (n : Nat) (l : List α) : List α := l ++ List.replicate (n - l.length) z

/-- One bit step of a reflected CRC. -/
def crcBit (poly c : Nat) : Nat := if c % 2 = 1 then (c / 2) ^^^ poly else c / 2

/-- One byte of a reflected CRC. -/
def crcByte (poly c : Nat) (b : Byte) : Nat :=
  let x := c ^^^ b.toNat
  (List.range 8).foldl (fun c _ => crcBit poly c) x

/-- Continue a reflected 32-bit CRC over bytes (register not yet inverted). -/
def crcRun (poly c : Nat) (l : List Byte) : Nat := l.foldl (crcByte poly) c

/-- CRC-32C: polynomial 0x1EDC_6F41 reflected, initial and final XOR 0xFFFF_FFFF (R446). -/
def crc32c (l : List Byte) : Nat := (crcRun 0x82F63B78 0xFFFFFFFF l) ^^^ 0xFFFFFFFF

/-- The frame check sequence of IEEE 802.3: CRC-32, reflected. -/
def crc32 (l : List Byte) : Nat := (crcRun 0xEDB88320 0xFFFFFFFF l) ^^^ 0xFFFFFFFF

/-- One's-complement sum of the 16-bit big-endian words of a byte list, folded to 16 bits (the IP and UDP checksums). -/
def sum16 : List Byte → Nat
  | [] => 0
  | [a] => a.toNat * 256
  | a :: b :: r => let x := a.toNat * 256 + b.toNat + sum16 r; x % 65536 + x / 65536

/-- Integer square root by bits, for the rounding of square roots. -/
def isqrtAux : Nat → Nat → Nat → Nat
  | 0, _, r => r
  | k + 1, n, r => let c := r + 2 ^ k
                   if c * c ≤ n then isqrtAux k n c else isqrtAux k n r

/-- Integer square root: the largest r with r * r at most n. -/
def isqrt (n : Nat) : Nat := isqrtAux (n.log2 / 2 + 1) n 0

/-- pi / 4 in 100-bit fixed point. -/
def quarterPi : Nat := 995610453248924340922087778488

/-- Alternating Taylor sum: terms `t`, `t * x2 / ((k + 1) (k + 2))`, ... in 100-bit fixed point. -/
def taylor : Nat → Nat → Nat → Nat → Int
  | 0, _, _, _ => 0
  | n + 1, k, x2, t => (t : Int) - taylor n (k + 2) x2 (t * x2 / 2 ^ 100 / ((k + 1) * (k + 2)))

/-- Cosine of an angle of at most pi / 4, in 100-bit fixed point. -/
def cosSmall (x : Nat) : Int := taylor 16 0 (x * x / 2 ^ 100) (2 ^ 100)
/-- Sine of an angle of at most pi / 4, in 100-bit fixed point. -/
def sinSmall (x : Nat) : Int := taylor 16 1 (x * x / 2 ^ 100) x

/-- Cosine of `num / den` turn in 100-bit fixed point. -/
def cosTurn (num den : Nat) : Int :=
  let a := 8 * (num % den)
  let q := a / den
  let x := quarterPi * (a % den) / den
  let y := quarterPi - x
  match q with
  | 0 => cosSmall x
  | 1 => sinSmall y
  | 2 => -sinSmall x
  | 3 => -cosSmall y
  | 4 => -cosSmall x
  | 5 => -sinSmall y
  | 6 => sinSmall x
  | _ => cosSmall y

/-- Cosine and sine of `num / den` turn, rounded convergently to 17 fractional bits and clamped to 2^17 - 1 (R130, R153). -/
def twiddle (num den : Nat) : Int × Int :=
  let f := fun (c : Int) => clampInt (-131071) 131071 (rne (c * 2 ^ 17) (2 ^ 100))
  (f (cosTurn num den), f (cosTurn (4 * num + 3 * den) (4 * den)))

/-- binary32 of a nonnegative ratio `a / b`, round to nearest even (R19); overflow gives infinity. -/
def f32Pos (a b : Nat) : Nat :=
  if a = 0 then 0 else
  -- exponent e with 2^e ≤ a/b < 2^(e+1), offset so that it stays a natural number
  let la := a.log2
  let lb := b.log2
  -- candidate e = la - lb or one less
  let e0 : Int := (la : Int) - lb
  let ge : Bool := if 0 ≤ e0 then decide (b * 2 ^ e0.toNat ≤ a) else decide (b ≤ a * 2 ^ (-e0).toNat)
  let e : Int := if ge then e0 else e0 - 1
  let e' : Int := if e < -126 then -126 else e
  -- significand = a/b / 2^(e' - 23)
  let s : Int := e' - 23
  let num := if 0 ≤ s then a else a * 2 ^ (-s).toNat
  let den := if 0 ≤ s then b * 2 ^ s.toNat else b
  let m := (rne num den).toNat
  let e2 : Int := if m = 2 ^ 24 then e' + 1 else e'
  let m2 := if m = 2 ^ 24 then 2 ^ 23 else m
  if 127 < e2 then 0x7F800000
  else if m2 < 2 ^ 23 then m2
  else (e2 + 127).toNat * 2 ^ 23 + (m2 - 2 ^ 23)

/-- binary32 of `a / b`, round to nearest even. -/
def f32OfRat (a : Int) (b : Nat) : Nat :=
  if a < 0 then 0x80000000 + f32Pos a.natAbs b else f32Pos a.natAbs b

/-- The exact value of a finite binary32 as `m * 2^e`. -/
def f32Val (x : Nat) : Int × Int :=
  let ex := bits x 30 23
  let fr := bits x 22 0
  let m : Int := if ex = 0 then fr else fr + 2 ^ 23
  let e : Int := if ex = 0 then -149 else (ex : Int) - 150
  (if bit x 31 then -m else m, e)

/-- binary32 of `m * 2^e`. -/
def f32OfScaled (m e : Int) : Nat :=
  if 0 ≤ e then f32OfRat (m * (2 ^ e.toNat : Nat)) 1 else f32OfRat m (2 ^ (-e).toNat)

/-- Sum of two finite binary32 values, rounded to nearest even. -/
def f32Add (x y : Nat) : Nat :=
  let (mx, ex) := f32Val x
  let (my, ey) := f32Val y
  let e := if ex ≤ ey then ex else ey
  f32OfScaled (mx * (2 ^ (ex - e).toNat : Nat) + my * (2 ^ (ey - e).toNat : Nat)) e

/-- Product of two finite binary32 values, rounded to nearest even. -/
def f32Mul (x y : Nat) : Nat :=
  let (mx, ex) := f32Val x
  let (my, ey) := f32Val y
  f32OfScaled (mx * my) (ex + ey)

end Sys2Proof.Machine
end

