-- ==== Sys2Proof/Machine/Opcodes.lean ====
section
/-! DEFINITION. Opcodes.lean: the mailbox opcodes of release 1.2 with code, kind and roles (Table 13-4, Tables 13-9 to 13-14). -/
namespace Sys2Proof.Machine

/-- The opcodes of release 1.2 (R403). -/
inductive Op where
  | nop | capability | commit | groupAbort | cancel | status
  | stateSet | tickPeriod | epoch | timeRead | tdcConfig | tdcPair
  | tdcStats | clockCore | clockOutput | portConfig | portStats | portMgmtSend
  | portMgmtRecv | feedDefine | feedDelete | feedStats | feedCondition | coefLoad
  | coefSwap | delayPoly | coarseDefine | pfbCoefLoad | skDefine | skDelete
  | instrDefine | instrModify | instrDelete | instrStats | zoomDefine | zoomDelete
  | rqGainLoad | rqGainSwap | rqStats | beamWeightLoad | beamWeightSwap | resultAck
  | maskDefine | maskLoad | maskSwap | maskArm | maskDelete | plateDefine
  | plateClear | plateDelete | sweepGainLoad | sweepGainSwap | captureForce | captureArm
  | captureRead | captureRelease | streamDefine | streamModify | streamDelete | streamStats
  | streamCredit | apertureCreate | apertureLink | apertureDelete | apertureStats | sextantLoad
  | sextantAttach | sextantSwap | sextantParam | sextantEvents | sextantRelease | sextantStats
  | domeCreate | domeGrant | domePriority | domeReset | domeDelete | domeQuery
  | logbookRead | meterConfig | rateClass | meterRead | eventRoute | lutConfig
  | eventMsix | eventStats | hbmConfig | hbmStats | healthRead | qualityRead
  | calibrate | reserveSwap | adcConfig | adcCalibrate | adcRead | dacConfig
  | dacQueue | eyepieceConfig | paletteLoad | transferLoad | rectConfig | updateBegin
  | folioWrite | updateStatus | updateActivate | updateConfirm | updateAbort | debugUnlock
  | debugLock
  deriving DecidableEq, Repr

/-- The kinds of command of Table 13-4 (R386). -/
inductive Kind where
  | q | i | c | d | m
  deriving DecidableEq, Repr

/-- Who may issue an opcode (Table 13-8): the owner alone, any dome on its own objects, any dome with the
owner also on any dome's objects; each with or without operators. -/
inductive Role where
  | owner | ownerOp | dome | domeOp | domeOwner
  deriving DecidableEq, Repr

/-- Code, kind and role of an opcode. -/
structure OpInfo where
  code : Nat
  kind : Kind
  role : Role
  deriving DecidableEq, Repr

/-- The rows of Tables 13-9 to 13-14. An opcode that both the owner and a dome may issue under conditions of
its own rule (SK_DEFINE, SK_DELETE, FEED_STATS, DOME_RESET, DAC_QUEUE) is listed for domes here; its rule checks the rest. -/
def Op.info : Op → OpInfo
  | .nop => ⟨0x0001, .q, .domeOp⟩
  | .capability => ⟨0x0002, .q, .domeOp⟩
  | .commit => ⟨0x0003, .c, .dome⟩
  | .groupAbort => ⟨0x0004, .m, .dome⟩
  | .cancel => ⟨0x0005, .m, .dome⟩
  | .status => ⟨0x0006, .q, .domeOp⟩
  | .stateSet => ⟨0x0007, .c, .owner⟩
  | .tickPeriod => ⟨0x0101, .c, .owner⟩
  | .epoch => ⟨0x0102, .c, .owner⟩
  | .timeRead => ⟨0x0103, .q, .domeOp⟩
  | .tdcConfig => ⟨0x0104, .c, .owner⟩
  | .tdcPair => ⟨0x0105, .c, .owner⟩
  | .tdcStats => ⟨0x0106, .q, .owner⟩
  | .clockCore => ⟨0x0107, .c, .owner⟩
  | .clockOutput => ⟨0x0108, .c, .owner⟩
  | .portConfig => ⟨0x0201, .c, .owner⟩
  | .portStats => ⟨0x0202, .q, .ownerOp⟩
  | .portMgmtSend => ⟨0x0203, .d, .owner⟩
  | .portMgmtRecv => ⟨0x0204, .q, .owner⟩
  | .feedDefine => ⟨0x0205, .c, .owner⟩
  | .feedDelete => ⟨0x0206, .c, .owner⟩
  | .feedStats => ⟨0x0207, .q, .dome⟩
  | .feedCondition => ⟨0x0208, .c, .owner⟩
  | .coefLoad => ⟨0x0209, .i, .owner⟩
  | .coefSwap => ⟨0x020a, .i, .owner⟩
  | .delayPoly => ⟨0x020b, .i, .owner⟩
  | .coarseDefine => ⟨0x020c, .c, .owner⟩
  | .pfbCoefLoad => ⟨0x020d, .i, .dome⟩
  | .skDefine => ⟨0x020e, .c, .dome⟩
  | .skDelete => ⟨0x020f, .c, .dome⟩
  | .instrDefine => ⟨0x0301, .c, .dome⟩
  | .instrModify => ⟨0x0302, .c, .dome⟩
  | .instrDelete => ⟨0x0303, .c, .dome⟩
  | .instrStats => ⟨0x0304, .q, .domeOwner⟩
  | .zoomDefine => ⟨0x0305, .c, .dome⟩
  | .zoomDelete => ⟨0x0306, .c, .dome⟩
  | .rqGainLoad => ⟨0x0307, .i, .dome⟩
  | .rqGainSwap => ⟨0x0308, .i, .dome⟩
  | .rqStats => ⟨0x0309, .q, .domeOwner⟩
  | .beamWeightLoad => ⟨0x030a, .i, .dome⟩
  | .beamWeightSwap => ⟨0x030b, .i, .dome⟩
  | .resultAck => ⟨0x030c, .i, .dome⟩
  | .maskDefine => ⟨0x030d, .c, .dome⟩
  | .maskLoad => ⟨0x030e, .i, .dome⟩
  | .maskSwap => ⟨0x030f, .i, .dome⟩
  | .maskArm => ⟨0x0310, .c, .dome⟩
  | .maskDelete => ⟨0x0311, .c, .dome⟩
  | .plateDefine => ⟨0x0312, .c, .dome⟩
  | .plateClear => ⟨0x0313, .c, .dome⟩
  | .plateDelete => ⟨0x0314, .c, .dome⟩
  | .sweepGainLoad => ⟨0x0315, .i, .dome⟩
  | .sweepGainSwap => ⟨0x0316, .i, .dome⟩
  | .captureForce => ⟨0x0317, .c, .dome⟩
  | .captureArm => ⟨0x0318, .c, .dome⟩
  | .captureRead => ⟨0x0319, .d, .dome⟩
  | .captureRelease => ⟨0x031a, .i, .dome⟩
  | .streamDefine => ⟨0x0401, .c, .dome⟩
  | .streamModify => ⟨0x0402, .c, .dome⟩
  | .streamDelete => ⟨0x0403, .c, .dome⟩
  | .streamStats => ⟨0x0404, .q, .domeOwner⟩
  | .streamCredit => ⟨0x0405, .i, .dome⟩
  | .apertureCreate => ⟨0x0406, .c, .owner⟩
  | .apertureLink => ⟨0x0407, .c, .owner⟩
  | .apertureDelete => ⟨0x0408, .c, .owner⟩
  | .apertureStats => ⟨0x0409, .q, .owner⟩
  | .sextantLoad => ⟨0x0501, .c, .dome⟩
  | .sextantAttach => ⟨0x0502, .c, .dome⟩
  | .sextantSwap => ⟨0x0503, .c, .dome⟩
  | .sextantParam => ⟨0x0504, .c, .dome⟩
  | .sextantEvents => ⟨0x0505, .c, .dome⟩
  | .sextantRelease => ⟨0x0506, .c, .dome⟩
  | .sextantStats => ⟨0x0507, .q, .domeOwner⟩
  | .domeCreate => ⟨0x0601, .c, .owner⟩
  | .domeGrant => ⟨0x0602, .c, .owner⟩
  | .domePriority => ⟨0x0603, .c, .owner⟩
  | .domeReset => ⟨0x0604, .m, .dome⟩
  | .domeDelete => ⟨0x0605, .c, .owner⟩
  | .domeQuery => ⟨0x0606, .q, .domeOwner⟩
  | .logbookRead => ⟨0x0607, .q, .ownerOp⟩
  | .meterConfig => ⟨0x0608, .c, .owner⟩
  | .rateClass => ⟨0x0609, .c, .owner⟩
  | .meterRead => ⟨0x060a, .q, .domeOwner⟩
  | .eventRoute => ⟨0x0701, .c, .dome⟩
  | .lutConfig => ⟨0x0702, .c, .owner⟩
  | .eventMsix => ⟨0x0703, .c, .dome⟩
  | .eventStats => ⟨0x0704, .q, .domeOwner⟩
  | .hbmConfig => ⟨0x0801, .c, .owner⟩
  | .hbmStats => ⟨0x0802, .q, .owner⟩
  | .healthRead => ⟨0x0803, .q, .ownerOp⟩
  | .qualityRead => ⟨0x0804, .q, .ownerOp⟩
  | .calibrate => ⟨0x0805, .c, .owner⟩
  | .reserveSwap => ⟨0x0806, .c, .owner⟩
  | .adcConfig => ⟨0x0901, .c, .owner⟩
  | .adcCalibrate => ⟨0x0902, .c, .owner⟩
  | .adcRead => ⟨0x0903, .q, .owner⟩
  | .dacConfig => ⟨0x0904, .c, .owner⟩
  | .dacQueue => ⟨0x0905, .i, .dome⟩
  | .eyepieceConfig => ⟨0x0906, .c, .owner⟩
  | .paletteLoad => ⟨0x0907, .i, .owner⟩
  | .transferLoad => ⟨0x0908, .i, .owner⟩
  | .rectConfig => ⟨0x0909, .c, .owner⟩
  | .updateBegin => ⟨0x0a01, .m, .owner⟩
  | .folioWrite => ⟨0x0a02, .d, .owner⟩
  | .updateStatus => ⟨0x0a03, .q, .owner⟩
  | .updateActivate => ⟨0x0a04, .m, .owner⟩
  | .updateConfirm => ⟨0x0a05, .m, .owner⟩
  | .updateAbort => ⟨0x0a06, .m, .owner⟩
  | .debugUnlock => ⟨0x0b01, .m, .owner⟩
  | .debugLock => ⟨0x0b02, .m, .owner⟩

/-- Every opcode, in the tables' order. -/
def Op.all : List Op :=
  [Op.nop, Op.capability, Op.commit, Op.groupAbort, Op.cancel, Op.status, Op.stateSet, Op.tickPeriod] ++
  [Op.epoch, Op.timeRead, Op.tdcConfig, Op.tdcPair, Op.tdcStats, Op.clockCore, Op.clockOutput, Op.portConfig] ++
  [Op.portStats, Op.portMgmtSend, Op.portMgmtRecv, Op.feedDefine, Op.feedDelete, Op.feedStats, Op.feedCondition, Op.coefLoad] ++
  [Op.coefSwap, Op.delayPoly, Op.coarseDefine, Op.pfbCoefLoad, Op.skDefine, Op.skDelete, Op.instrDefine, Op.instrModify] ++
  [Op.instrDelete, Op.instrStats, Op.zoomDefine, Op.zoomDelete, Op.rqGainLoad, Op.rqGainSwap, Op.rqStats, Op.beamWeightLoad] ++
  [Op.beamWeightSwap, Op.resultAck, Op.maskDefine, Op.maskLoad, Op.maskSwap, Op.maskArm, Op.maskDelete, Op.plateDefine] ++
  [Op.plateClear, Op.plateDelete, Op.sweepGainLoad, Op.sweepGainSwap, Op.captureForce, Op.captureArm, Op.captureRead, Op.captureRelease] ++
  [Op.streamDefine, Op.streamModify, Op.streamDelete, Op.streamStats, Op.streamCredit, Op.apertureCreate, Op.apertureLink, Op.apertureDelete] ++
  [Op.apertureStats, Op.sextantLoad, Op.sextantAttach, Op.sextantSwap, Op.sextantParam, Op.sextantEvents, Op.sextantRelease, Op.sextantStats] ++
  [Op.domeCreate, Op.domeGrant, Op.domePriority, Op.domeReset, Op.domeDelete, Op.domeQuery, Op.logbookRead, Op.meterConfig] ++
  [Op.rateClass, Op.meterRead, Op.eventRoute, Op.lutConfig, Op.eventMsix, Op.eventStats, Op.hbmConfig, Op.hbmStats] ++
  [Op.healthRead, Op.qualityRead, Op.calibrate, Op.reserveSwap, Op.adcConfig, Op.adcCalibrate, Op.adcRead, Op.dacConfig] ++
  [Op.dacQueue, Op.eyepieceConfig, Op.paletteLoad, Op.transferLoad, Op.rectConfig, Op.updateBegin, Op.folioWrite, Op.updateStatus] ++
  [Op.updateActivate, Op.updateConfirm, Op.updateAbort, Op.debugUnlock, Op.debugLock]

/-- The opcode of a code, if release 1.2 has it (R403). -/
def Op.ofCode (c : Nat) : Option Op := Op.all.find? (fun o => o.info.code == c)

end Sys2Proof.Machine
end

