-- ==== Sys2Proof/Machine/Record.lean ====
section
/-! DEFINITION. Record.lean: the committed configuration as configuration records (R446), keyed tables,
statuses and the parsed form of a parameter block (R400). -/
namespace Sys2Proof.Machine

/-- A table with one entry per key, in the order of definition. -/
abbrev Tab (κ α : Type) := List (κ × α)

/-- The entry of a key. -/
def tget {κ α : Type} [DecidableEq κ] (t : Tab κ α) (k : κ) : Option α :=
  match t with
  | [] => none
  | (k', v) :: r => if k' = k then some v else tget r k

/-- Set the entry of a key, in place or at the end. -/
def tset {κ α : Type} [DecidableEq κ] (t : Tab κ α) (k : κ) (v : α) : Tab κ α :=
  match t with
  | [] => [(k, v)]
  | (k', v') :: r => if k' = k then (k, v) :: r else (k', v') :: tset r k v

/-- Remove the entry of a key. -/
def tdel {κ α : Type} [DecidableEq κ] (t : Tab κ α) (k : κ) : Tab κ α := t.filter (fun e => !(decide (e.1 = k)))

/-- The entry of a key, or the value an absent entry stands for. -/
def tgetD {κ α : Type} [DecidableEq κ] (t : Tab κ α) (k : κ) (d : α) : α := (tget t k).getD d

/-- Change the entry of a key, starting from the value an absent entry stands for. -/
def tmod {κ α : Type} [DecidableEq κ] (t : Tab κ α) (k : κ) (d : α) (f : α → α) : Tab κ α :=
  tset t k (f (tgetD t k d))

/-- The status codes of Table 0-6 and Table 13-7. -/
inductive Status where
  | ok | partialDone | budget | inconsistent | denied | nosuch | busy | staleGen | timeout | poison | capacity | format | unsupported
  deriving DecidableEq, Repr

/-- Numeric code of a status (Table 13-7). -/
def Status.code : Status → Nat
  | .ok => 0 | .partialDone => 1 | .budget => 2 | .inconsistent => 3 | .denied => 4 | .nosuch => 5 | .busy => 6
  | .staleGen => 7 | .timeout => 8 | .poison => 9 | .capacity => 10 | .format => 11 | .unsupported => 12

/-- A request's failure: its status, DETAIL and, where the rule gives them, RESULT, TSN and a response. -/
structure Reject where
  status : Status
  detail : Nat
  result : Nat := 0
  tsn : Option Nat := none
  resp : List Byte := []
  deriving DecidableEq, Repr

/-- A parsed parameter value: a number, the position of a word in its Range column, an object of one of two
kinds, a list of entries, or a parameter left to the value its rule gives (R400). -/
inductive PV where
  | num (i : Int)
  | named (k : Nat)
  | obj (kind n : Nat)
  | list (rows : List (List Int))
  | dflt
  deriving DecidableEq, Repr

/-- The parameters in force of one object, in the order of its defining table. -/
abbrev Block := List PV

/-- The parameter at a position of the table. -/
def Block.at (b : Block) (i : Nat) : PV := b.getD i .dflt
/-- A parameter as a natural number (0 where it is none). -/
def Block.nat (b : Block) (i : Nat) : Nat := match b.at i with | .num x => x.toNat | .obj _ n => n | _ => 0
/-- A parameter as an integer. -/
def Block.int (b : Block) (i : Nat) : Int := match b.at i with | .num x => x | .obj _ n => n | _ => 0
/-- The number of a parameter, if it is a number. -/
def Block.nat? (b : Block) (i : Nat) : Option Nat := match b.at i with | .num x => some x.toNat | .obj _ n => some n | _ => none
/-- The word of a parameter, if it is a named value. -/
def Block.word? (b : Block) (i : Nat) : Option Nat := match b.at i with | .named k => some k | _ => none
/-- Is the parameter the word at position `k` of its column? -/
def Block.is (b : Block) (i k : Nat) : Bool := b.at i == .named k
/-- A list parameter's entries. -/
def Block.rows (b : Block) (i : Nat) : List (List Int) := match b.at i with | .list r => r | _ => []
/-- A list parameter of one number per entry. -/
def Block.nats (b : Block) (i : Nat) : List Nat := (b.rows i).map (fun r => (r.headD 0).toNat)
/-- A flag parameter. -/
def Block.flag (b : Block) (i : Nat) : Bool := b.nat i == 1
/-- Replace one parameter. -/
def Block.put (b : Block) (i : Nat) (v : PV) : Block := b.set i v

/-- Dome number of a device record (Table 15-3). -/
def devDome : Nat := 0xFFFF

/-- One configuration record: the parameters in force of one object (R446). -/
structure Rec where
  op : Op
  dome : Nat
  index : Nat
  block : Block
  deriving DecidableEq, Repr

/-- Where and how an instrument, window, mask, Plate or Sextant lease is placed. Placement is no record (R446). -/
structure Place where
  op : Op
  dome : Nat
  index : Nat
  /-- Unplaced instruments stay defined (R633). -/
  placed : Bool
  /-- Position in the dome's admission order (R633). -/
  order : Nat
  /-- Logical tiles of the parts, in part order. -/
  tiles : List Nat
  /-- HBM stacks of the parts. -/
  hstacks : List Nat
  /-- Latency in ticks, fixed at admission (R21). -/
  latency : Nat
  /-- Values firmware chose for AUTO parameters, in the order of the object's rule. -/
  chosen : List Int
  /-- Tick from which the object is in force. -/
  since : Nat
  deriving DecidableEq, Repr

/-- The committed configuration (R446), with the placement that admission chose. -/
structure Plan where
  /-- Tick multiple M (R36). -/
  m : Nat
  /-- The last change of M: its effective tick and M before it. Sample ticks below that tick still have the old length (R38, R109). -/
  mOld : Option (Nat × Nat) := none
  /-- LANE_EN0 to LANE_EN3 (R457). -/
  laneEn : List Word
  recs : List Rec
  places : List Place
  deriving DecidableEq, Repr

/-- M of a sample tick, given the last change (R38). -/
def mAtTick (m : Nat) (old : Option (Nat × Nat)) (n : Int) : Nat := match old with | some (e, m0) => if n < (e : Int) then m0 else m | none => m
/-- M of a sample tick. -/
def Plan.mAt (p : Plan) (n : Int) : Nat := mAtTick p.m p.mOld n

/-- The parameters of an object. -/
def Plan.find (p : Plan) (op : Op) (dome index : Nat) : Option Block :=
  (p.recs.find? (fun r => r.op == op && r.dome == dome && r.index == index)).map (·.block)

/-- Does an object exist? -/
def Plan.has (p : Plan) (op : Op) (dome index : Nat) : Bool := (p.find op dome index).isSome

/-- All objects of one kind as (dome, index, parameters). -/
def Plan.objs (p : Plan) (op : Op) : List (Nat × Nat × Block) :=
  (p.recs.filter (fun r => r.op == op)).map (fun r => (r.dome, r.index, r.block))

/-- The objects of one kind of a dome. -/
def Plan.of (p : Plan) (op : Op) (dome : Nat) : List (Nat × Block) :=
  (p.recs.filter (fun r => r.op == op && r.dome == dome)).map (fun r => (r.index, r.block))

/-- Create or change an object in place (R632). -/
def Plan.put (p : Plan) (op : Op) (dome index : Nat) (b : Block) : Plan :=
  if p.has op dome index then
    { p with recs := p.recs.map (fun r => if r.op == op && r.dome == dome && r.index == index then { r with block := b } else r) }
  else { p with recs := p.recs ++ [⟨op, dome, index, b⟩] }

/-- Remove an object and its placement. -/
def Plan.del (p : Plan) (op : Op) (dome index : Nat) : Plan :=
  { p with recs := p.recs.filter (fun r => !(r.op == op && r.dome == dome && r.index == index)),
           places := p.places.filter (fun r => !(r.op == op && r.dome == dome && r.index == index)) }

/-- The placement of an object. -/
def Plan.place? (p : Plan) (op : Op) (dome index : Nat) : Option Place :=
  p.places.find? (fun r => r.op == op && r.dome == dome && r.index == index)

/-- Set the placement of an object. -/
def Plan.setPlace (p : Plan) (x : Place) : Plan :=
  { p with places := p.places.filter (fun r => !(r.op == x.op && r.dome == x.dome && r.index == x.index)) ++ [x] }

/-- Take an object's placement away. -/
def Plan.noPlace (p : Plan) (op : Op) (dome index : Nat) : Plan :=
  { p with places := p.places.filter (fun r => !(r.op == op && r.dome == dome && r.index == index)) }

/-- Is an instrument placed? -/
def Plan.placed (p : Plan) (dome index : Nat) : Bool :=
  match p.place? .instrDefine dome index with | some x => x.placed | none => false

/-- Does an instrument process sample tick `n`? After an unplacement from a sample tick on, it still processes the earlier ones (R24). -/
def Plan.takes (p : Plan) (dome index n : Nat) : Bool :=
  match p.place? .instrDefine dome index with | some x => x.placed || decide (n < x.since) | none => false

end Sys2Proof.Machine
end

