-- ==== Sys2Proof/Machine/Operands.lean ====
section
/-! DEFINITION. Operands.lean: parameter blocks: how each operand form of R400 is written, read and checked. -/
namespace Sys2Proof.Machine

/-- What a Range column admits (R400). `words` are the words and fractions of the column in order. -/
inductive PKind where
  /-- Unsigned numbers `lo` to `hi`. -/
  | nat (lo hi : Nat) (words : List String)
  /-- The listed numbers, and words. -/
  | set (vals : List Nat) (words : List String)
  /-- Multiples of `st` from `lo` to `hi`. -/
  | step (lo hi st : Nat) (words : List String)
  /-- Signed numbers `lo` to `hi`. -/
  | int (lo hi : Int) (words : List String)
  /-- An identifier `lo` to `hi` whose closed range in Table 0-4 ends at `hi`: above it the command completes with NOSUCH, below `lo` with FORMAT (R4, R400). -/
  | ident (lo hi : Nat) (words : List String)
  /-- An object of one of two numbered kinds; `named` says that Table 0-4 names the first. -/
  | two (hi0 hi1 : Nat) (named : Bool)
  /-- A range that reaches 2^63: every slot value is a number. -/
  | any
  /-- A count slot of at most `max`, then entries with one slot per column. -/
  | list (max : Nat) (cols : List (Int × Int))
  /-- The same with at least one entry. -/
  | list1 (max : Nat) (cols : List (Int × Int))
  /-- A list whose first column is an identifier: 0 to `top` in the parameter's own range, 0 to `hi` in Table 0-4 (R4, R400). `cols` follow. -/
  | idlist (max top hi : Nat) (cols : List (Int × Int))
  /-- One to `max` numbers `lo` to `hi`, strictly ascending. -/
  | asc1 (max : Nat) (lo hi : Int)
  /-- One to `max` objects, each of one of two numbered kinds. -/
  | twos1 (max hi0 hi1 : Nat)
  /-- A count slot of at most `max`, then trigger sources, whose first slot selects what the others hold (Table 10-5). -/
  | trigs (max : Nat)
  /-- A slot that is ignored, whatever it holds (R89). -/
  | skip
  /-- The first kind where slot `i` of the block holds one of these values, the second elsewhere. -/
  | cases (i : Nat) (vals : List Nat) (yes no : PKind)
  deriving DecidableEq, Repr

/-- The default of a parameter: none, a value, or the value that its rule gives. -/
inductive Dflt where
  | req
  | val (v : PV)
  | rule
  deriving DecidableEq, Repr

/-- One parameter of a defining table. -/
structure Param where
  name : String
  kind : PKind
  dflt : Dflt := .req
  /-- Where it is not empty, the parameter applies only where the parameter at one of these positions of the table holds one of the values given with it;
  elsewhere it may be left to default and a record holds 0 (R446). -/
  need : List (Nat × List PV) := []
  deriving DecidableEq, Repr

/-- Result of reading a block: its parameters, the first slot in breach of the format, and the first slot
whose identifier lies outside its closed range. -/
structure Parsed where
  block : Block
  fmt : Option Nat
  nosuch : Option Nat
  deriving DecidableEq, Repr

/-- Slot value of the word at position `k` (R400). -/
def wordSlot (k : Nat) : Nat := 2 ^ 63 + k
/-- The slot of all ones, which selects an unsigned parameter's default (R400). -/
def allOnes : Nat := 2 ^ 64 - 1
/-- The slot value that selects a signed parameter's default (R400). -/
def signedDefault : Nat := 2 ^ 63

/-- Outcome of one slot: a value, or a breach. -/
inductive SlotRes where
  | val (v : PV)
  | fmt
  | nosuch
  deriving DecidableEq, Repr

/-- The value of a parameter left to its default. -/
def Dflt.res : Dflt → SlotRes
  | .req => .fmt
  | .val v => .val v
  | .rule => .val .dflt

/-- Read one slot under a Range column (R400). -/
def readSlot (p : Param) (x : Nat) : SlotRes :=
  match p.kind with
  | .nat lo hi ws =>
    if x = allOnes then p.dflt.res
    else if 2 ^ 63 ≤ x then (if x - 2 ^ 63 < ws.length then .val (.named (x - 2 ^ 63)) else .fmt)
    else if lo ≤ x ∧ x ≤ hi then .val (.num x) else .fmt
  | .set vals ws =>
    if x = allOnes then p.dflt.res
    else if 2 ^ 63 ≤ x then (if x - 2 ^ 63 < ws.length then .val (.named (x - 2 ^ 63)) else .fmt)
    else if vals.contains x then .val (.num x) else .fmt
  | .step lo hi st ws =>
    if x = allOnes then p.dflt.res
    else if 2 ^ 63 ≤ x then (if x - 2 ^ 63 < ws.length then .val (.named (x - 2 ^ 63)) else .fmt)
    else if lo ≤ x ∧ x ≤ hi ∧ x % st = 0 then .val (.num x) else .fmt
  | .int lo hi ws =>
    if x = signedDefault then p.dflt.res
    else
      let v := toSigned 64 x
      if lo ≤ v ∧ v ≤ hi then .val (.num v)
      else if 2 ^ 63 ≤ x ∧ x - 2 ^ 63 < ws.length then .val (.named (x - 2 ^ 63)) else .fmt
  | .ident lo hi ws =>
    if x = allOnes then p.dflt.res
    else if 2 ^ 63 ≤ x then (if x - 2 ^ 63 < ws.length then .val (.named (x - 2 ^ 63)) else .fmt)
    else if hi < x then .nosuch
    else if lo ≤ x then .val (.num x) else .fmt
  | .two h0 h1 named =>
    if x = allOnes then p.dflt.res
    else
      let n := x % 2 ^ 32
      let k := x / 2 ^ 32
      if k = 0 ∧ n ≤ h0 then .val (.obj 0 n) else if k = 1 ∧ n ≤ h1 then .val (.obj 1 n)
      else if k = 0 && named then .nosuch else .fmt
  | .any => .val (.num x)
  | .skip => .val .dflt
  | .list _ _ => .fmt
  | .list1 _ _ => .fmt
  | .asc1 _ _ _ => .fmt
  | .twos1 _ _ _ => .fmt
  | .idlist _ _ _ _ => .fmt
  | .trigs _ => .fmt
  | .cases _ _ _ _ => .fmt

/-- Read the entries of a list, one slot per column; returns the entries, the slots left and the first breach. -/
def readRows (cols : List (Int × Int)) : Nat → List Slot → Nat → List (List Int) × List Slot × Option Nat
  | 0, sl, _ => ([], sl, none)
  | n + 1, sl, pos =>
    let w := cols.length
    if sl.length < w then ([], [], some (pos + sl.length))
    else
      let vals := (sl.take w).map (fun s => if (cols.any (fun c => decide (c.1 < 0))) then toSigned 64 s.toNat else (s.toNat : Int))
      let bad := (vals.zip cols).findIdx? (fun e => !(decide (e.2.1 ≤ e.1) && decide (e.1 ≤ e.2.2)))
      let (rs, rest, b) := readRows cols n (sl.drop w) (pos + w)
      (vals :: rs, rest, match bad with | some i => some (pos + i) | none => b)

/-- The slots of a trigger source after its type: MANUAL, LEVEL, EDGE, RETICLE, SWEEP, SK, EVENT, LINK (Table 10-5, R288; an SK by SCOPE, SOURCE and INSTRUMENT,
log entry 21). -/
def trigCols : List (List Param) :=
  let num := fun (hi : Nat) => (⟨"", .nat 0 hi [], .req, []⟩ : Param)
  [[], [⟨"THR_HI", .any, .req, []⟩, ⟨"THR_LO", .any, .req, []⟩, ⟨"SLOPE", .nat 1 0 ["RISE", "FALL", "EITHER"], .req, []⟩, num (2 ^ 62)],
   [num 255, ⟨"EDGE_SKEW_FS", .int (-(10 ^ 12)) (10 ^ 12) [], .req, []⟩, ⟨"EDGE_LAT", .nat 1 1024 [], .val (.num 2), []⟩], [num 7], [num 7],
   [⟨"SCOPE", .nat 1 0 ["FEED", "INSTRUMENT"], .req, []⟩, ⟨"SOURCE", .two 1023 63 false, .req, []⟩, ⟨"INSTRUMENT", .nat 0 63 ["NONE"], .val (.named 0), []⟩], [num 255], [num 63]]
/-- A slot's value in an entry of a list: the number, or the slot itself where it is a word or an object. -/
def PV.cell : PV → Int
  | .num x => toSigned 64 (ofSigned 64 x)
  | .named k => toSigned 64 (wordSlot k)
  | .obj k n => (n + k * 2 ^ 32 : Nat)
  | _ => 0
/-- Read trigger sources; a slot in breach of its range breaks the format (R400). -/
def readTrigs : Nat → List Slot → Nat → List (List Int) × List Slot × Option Nat
  | 0, sl, _ => ([], sl, none)
  | n + 1, sl, pos =>
    match sl with
    | [] => ([], [], some pos)
    | t :: _ =>
      let k := if 2 ^ 63 ≤ t.toNat then t.toNat - 2 ^ 63 else t.toNat
      match trigCols[k]? with
      | none => ([], [], some pos)
      | some cols =>
        let w := cols.length + 1
        if sl.length < w then ([], [], some (pos + sl.length))
        else
          let got := (((sl.take w).drop 1).zip cols).map (fun e => readSlot e.2 e.1.toNat)
          let vals := (k : Int) :: got.map (fun g => match g with | .val v => v.cell | _ => 0)
          let bad := got.findIdx? (fun g => match g with | .val _ => false | _ => true)
          let (rs, rest, b) := readTrigs n (sl.drop w) (pos + w)
          (vals :: rs, rest, match bad with | some i => some (pos + 1 + i) | none => b)

/-- Read the entries of a list of any kind. -/
def readEntries (k : PKind) (n : Nat) (sl : List Slot) (pos : Nat) : List (List Int) × List Slot × Option Nat :=
  match k with
  | .list _ cols => readRows cols n sl pos
  | .list1 _ cols => readRows cols n sl pos
  | .asc1 _ lo hi => readRows [(lo, hi)] n sl pos
  | .twos1 _ _ _ => readRows [(0, 2 ^ 64)] n sl pos
  | .idlist _ _ _ cols => readRows ((0, 2 ^ 64) :: cols) n sl pos
  | .trigs _ => readTrigs n sl pos
  | _ => ([], sl, none)

/-- Slot of the first entry of a list, read from slot `pos` on, that names an identifier beyond its closed range (R4, R400). -/
def badIdent (k : PKind) (rows : List (List Int)) (pos : Nat) : Option Nat :=
  match k with
  | .idlist _ _ hi cols => (rows.findIdx? (fun r => decide ((hi : Int) < r.headD 0))).map (fun i => pos + i * (cols.length + 1))
  | _ => none

/-- Slot of the first entry of a list that breaks what its kind asks of the entries: an identifier that exists lies in the parameter's own range, a number of an
ascending list above the one before it, an object in the range of its kind (R400). -/
def badFirst (k : PKind) (rows : List (List Int)) (pos : Nat) : Option Nat :=
  match k with
  | .idlist _ top hi cols => (rows.findIdx? (fun r => decide ((top : Int) < r.headD 0) && decide (r.headD 0 ≤ (hi : Int)))).map (fun i => pos + i * (cols.length + 1))
  | .asc1 _ _ _ => ((rows.zip (rows.drop 1)).findIdx? (fun r => decide (r.2.headD 0 ≤ r.1.headD 0))).map (fun i => pos + i + 1)
  | .twos1 _ h0 h1 => (rows.findIdx? (fun r => let k := r.headD 0 / 2 ^ 32; !((k == 0 && decide (r.headD 0 ≤ (h0 : Int))) || (k == 1 && decide (r.headD 0 % 2 ^ 32 ≤ (h1 : Int)))))).map (fun i => pos + i)
  | _ => none

/-- Largest count of a list. -/
def PKind.maxCount : PKind → Option Nat
  | .list m _ => some m
  | .list1 m _ => some m
  | .asc1 m _ _ => some m
  | .twos1 m _ _ => some m
  | .idlist m _ _ _ => some m
  | .trigs m => some m
  | _ => none

/-- Smallest count of a list. -/
def PKind.minCount : PKind → Nat
  | .list1 _ _ => 1
  | .asc1 _ _ _ => 1
  | .twos1 _ _ _ => 1
  | _ => 0

/-- The kind that a parameter has in a block with these slots. -/
def PKind.here (sl : List Slot) : PKind → PKind
  | .cases i vals yes no => if vals.contains (sl.getD i 0).toNat then yes.here sl else no.here sl
  | k => k

/-- A parameter as it stands in a block with these slots: an ignored one needs no value. -/
def Param.here (sl : List Slot) (p : Param) : Param :=
  match p.kind.here sl with
  | .skip => { p with kind := .skip, dflt := .rule, need := [] }
  | k => { p with kind := k }

/-- Read a block against its table from slot `pos` on. -/
def readBlock : List Param → List Slot → Nat → Parsed
  | [], sl, pos =>
    -- slots beyond the table: INLINE slots are reserved there (R7), further ones make the block too long (R400)
    let extra := (sl.zipIdx pos).find? (fun e => decide (3 ≤ e.2) || e.1 != 0)
    ⟨[], extra.map (·.2), none⟩
  | p :: ps, sl, pos =>
    match p.kind.maxCount with
    | some mx =>
      match sl with
      | [] =>
        let r := readBlock ps [] (pos + 1)
        match p.dflt.res with
        | .val v => { r with block := v :: r.block }
        | _ => ⟨.dflt :: r.block, some pos, r.nosuch⟩
      | c :: rest =>
        let dv : Option PV := if c.toNat = allOnes then (match p.dflt.res with | .val v => some v | _ => none) else none
        match dv with
        | some v => let r := readBlock ps rest (pos + 1); { r with block := v :: r.block }
        | none =>
          if mx < c.toNat ∨ c.toNat < p.kind.minCount then let r := readBlock ps [] (pos + 1); ⟨.dflt :: r.block, some pos, none⟩
          else
            let (rows, rest', bad) := readEntries p.kind c.toNat rest (pos + 1)
            let r := readBlock ps rest' (pos + 1 + (rest.length - rest'.length))
            ⟨.list rows :: r.block, (bad.orElse (fun _ => badFirst p.kind rows (pos + 1))).orElse (fun _ => r.fmt), (badIdent p.kind rows (pos + 1)).orElse (fun _ => r.nosuch)⟩
    | none =>
      let (res, rest) := match sl with
        | [] => (p.dflt.res, [])
        | c :: rest => (readSlot p c.toNat, rest)
      let r := readBlock ps rest (pos + 1)
      match res with
      | .val v => { r with block := v :: r.block }
      | .fmt => ⟨.dflt :: r.block, some pos, r.nosuch⟩
      | .nosuch => ⟨.dflt :: r.block, r.fmt, some pos⟩

/-- Slot encoding of a parameter in force, as configuration records hold it (R446). A parameter that does
not apply holds 0. -/
def PV.slots : PV → List Nat
  | .num x => [ofSigned 64 x]
  | .named k => [wordSlot k]
  | .obj k n => [n + k * 2 ^ 32]
  | .list rows => rows.length :: rows.flatMap (fun r => r.map (ofSigned 64))
  | .dflt => [0]

/-- Slots of a block. -/
def Block.slots (b : Block) : List Nat := b.flatMap PV.slots

/-- Slot index at which the parameter at a position of its table begins. -/
def slotOf (b : Block) (i : Nat) : Nat := ((b.take i).map (fun v => v.slots.length)).foldl (· + ·) 0

/-- First parameter that applies, has no default and was left to it (R400). -/
def missing (ps : List Param) (b : Block) : Option Nat :=
  ((ps.zip b).zipIdx.find? (fun e =>
    e.1.2 == .dflt && e.1.1.need.any (fun x => x.2.contains (b.at x.1)))).map (fun e => slotOf b e.2)

/-- Read a parameter block: the first breach of the format wins over an identifier outside its range (R399). -/
def parseBlock (ps : List Param) (sl : List Slot) : Except Reject Block :=
  let ps := ps.map (Param.here sl)
  let r := readBlock ps sl 0
  match r.fmt.orElse (fun _ => missing ps r.block), r.nosuch with
  | some d, _ => .error { status := .format, detail := d }
  | none, some d => .error { status := .nosuch, detail := d }
  | none, none => .ok r.block

/-! Shorthands for the defining tables. -/

/-- A number `lo` to `hi`, with no default. -/
def pN (name : String) (lo hi : Nat) : Param := ⟨name, .nat lo hi [], .req, []⟩
/-- A number `lo` to `hi` with a default number. -/
def pD (name : String) (lo hi d : Nat) : Param := ⟨name, .nat lo hi [], .val (.num d), []⟩
/-- A number or word with no default. -/
def pNW (name : String) (lo hi : Nat) (ws : List String) : Param := ⟨name, .nat lo hi ws, .req, []⟩
/-- A number or word whose default is the word at position `k`. -/
def pNWd (name : String) (lo hi : Nat) (ws : List String) (k : Nat) : Param := ⟨name, .nat lo hi ws, .val (.named k), []⟩
/-- A word with no default. -/
def pW (name : String) (ws : List String) : Param := ⟨name, .nat 1 0 ws, .req, []⟩
/-- A word with the default at position `k`. -/
def pWd (name : String) (ws : List String) (k : Nat) : Param := ⟨name, .nat 1 0 ws, .val (.named k), []⟩
/-- An identifier of a closed range of Table 0-4. -/
def pI (name : String) (hi : Nat) : Param := ⟨name, .ident 0 hi [], .req, []⟩
/-- A list whose entries begin with an identifier of a closed range of Table 0-4. -/
def pIL (name : String) (max top hi : Nat) (cols : List (Int × Int)) : Param := ⟨name, .idlist max top hi cols, .req, []⟩
/-- A signed number with no default. -/
def pS (name : String) (lo hi : Int) : Param := ⟨name, .int lo hi [], .req, []⟩
/-- A signed number with a default. -/
def pSd (name : String) (lo hi d : Int) : Param := ⟨name, .int lo hi [], .val (.num d), []⟩
/-- A list with no default. -/
def pL (name : String) (max : Nat) (cols : List (Int × Int)) : Param := ⟨name, .list max cols, .req, []⟩
/-- A list of at least one entry with no default. -/
def pL1 (name : String) (max : Nat) (cols : List (Int × Int)) : Param := ⟨name, .list1 max cols, .req, []⟩
/-- The same parameter, its slot ignored where slot `i` holds one of these words. -/
def Param.unless (p : Param) (i : Nat) (ws : List Nat) : Param := { p with kind := .cases i (ws.map wordSlot) .skip p.kind }
/-- The same parameter with the value of its rule as its default. -/
def Param.byRule (p : Param) : Param := { p with dflt := .rule }
/-- A flag 0 or 1 with a default. -/
def pF (name : String) (d : Nat) : Param := ⟨name, .nat 0 1 [], .val (.num d), []⟩
/-- A parameter that applies only where another one of its table holds one of the values (given twice: where one of two does). -/
def Param.when (p : Param) (i : Nat) (vals : List PV) : Param :=
  { p with need := p.need ++ [(i, vals)], dflt := match p.dflt with | .req => .rule | d => d }
/-- The same parameter with another default. -/
def Param.or (p : Param) (v : PV) : Param := { p with dflt := .val v }

end Sys2Proof.Machine
end

