-- ==== Sys2Proof/Config.lean ====
section
/-! DEFINITION. Config.lean: what one unit fixes at manufacture, and the free values the spec leaves open.
Each `opaque` has no body: nothing can evaluate it, so no proof can lean on a value of it. -/
namespace Sys2Proof.Config

/-- Unit serial number, fused (ID_SERIAL, R452; CAPABILITY, R405). -/
opaque serial : BitVec 64
/-- Ordering code: false VSF6428-C0, true VSF6428-X0 (R1, ID_STEP.ORDER). -/
opaque orderX0 : Bool
/-- A value the spec leaves open, fresh for each draw of the model's own counter `State.free`. -/
opaque freeNat : Nat → Nat
/-- A signed value the spec leaves open, fresh for each draw of `State.free`. -/
opaque freeInt : Nat → Int

/-! Coefficients of the published coefficient file (R634), as the exact integers the hardware uses. -/

/-- RTC tap `m` of 64 (R127). -/
opaque rtcTap : Nat → Int
/-- Tap `m` of 16 of the delay filter for fractional phase `phi` of 1,024 (R136). -/
opaque delayTap : Nat → Nat → Int
/-- Tap `m` of the preset decimator `preset` for decimation `d` (R132). -/
opaque presetTap : Nat → Nat → Nat → Int
/-- PRESET_CRC of a preset and decimation (R132). -/
opaque presetCrc : Nat → Nat → Nat
/-- PRESET_CRC of a generated coarse prototype: LOG2N, TAPS, OS position (R156). -/
opaque coarseCrc : Nat → Nat → Nat → Nat
/-- Generated coarse prototype: LOG2N, TAPS, OS position, tap (R156). -/
opaque coarseTap : Nat → Nat → Nat → Nat → Int
/-- Generated zoom prototype: LOG2NF, TAPS, tap (R156). -/
opaque zoomTap : Nat → Nat → Nat → Int
/-- Stitch coefficient A_c (real and imaginary): K, LOG2N, TAPS, OS position, position in the strip (R161). -/
opaque stitchA : Nat → Nat → Nat → Nat → Nat → Int × Int
/-- Stitch coefficient B_c (R161). -/
opaque stitchB : Nat → Nat → Nat → Nat → Nat → Int × Int
/-- STITCH_CRC of K, LOG2N, TAPS, OS position (R161). -/
opaque stitchCrc : Nat → Nat → Nat → Nat → Nat
/-- Tap `m` of the 32K taps of the band splitter's prototype for `K` sub-bands (R128). -/
opaque splitTap : Nat → Nat → Int
/-- What the sum of the band splitter for `K` sub-bands is divided by: the scale of its taps and its DFT, which the spec does not state (R128). -/
opaque splitScale : Nat → Nat

/-! What chapter 12 leaves open of the Sextant's instructions (log entry 24). -/

/-- VPERM of two vectors under W and MODF (Table 12-11). -/
opaque vperm : BitVec 512 → BitVec 512 → Nat → Nat → BitVec 512
/-- VQVAL of two vectors under W and MODF (Table 12-11). -/
opaque vqval : BitVec 512 → BitVec 512 → Nat → Nat → BitVec 512
/-- VABS of the most negative element of a width (Table 12-11). -/
opaque vabsMin : Nat → Nat
/-- VLDB.U of a byte (Table 12-11). -/
opaque vldbU : BitVec 8 → BitVec 512
/-- The half of the destination that VSHRR does not fill, from the destination's old value (R352). -/
opaque vshrrRest : BitVec 512 → BitVec 256
/-- VMAC and VMACZ with W = 32, which Table 12-4a does not list: accumulator and operands. -/
opaque vmac32 : BitVec 2048 → BitVec 512 → BitVec 512 → BitVec 2048
/-- The second data register of VLD.P and VST.P with first register `d` (R354). -/
opaque pairReg : BitVec 5 → BitVec 5
/-- Log2 of the size of ST.B/H/W, from its slot word (Table 12-11). -/
opaque storeSize : BitVec 32 → Fin 3
/-- SHL, SHRR (1) or LSR (2) by an amount above 31 (Table 12-11). -/
opaque shiftWide : Nat → BitVec 32 → BitVec 32 → BitVec 32
/-- Does MOVI extend its immediate by its sign? -/
opaque moviSigned : Bool
/-- FLAGS.C after a CMP (Table 12-11). -/
opaque cmpCarry : BitVec 32 → BitVec 32 → Bool
/-- MFS of an unlisted number in a cycle (R349). -/
opaque mfsOpen : Nat → Nat → BitVec 32

/-- Payload of the factory Ephemeris record in fuses, by TYPE and UNIT (R522). -/
opaque fuseRec : Nat → Nat → Option (List (BitVec 8))
/-- V_VID of a sector in units of 10 µV, fused (R611). -/
opaque vVid : Nat → Nat
/-- Can a settings format express a change of the settings (R584)? -/
opaque settingFits : Nat → Nat → Bool
/-- Fused root-key hash of a key index (R567). -/
opaque rootKeyHash : Nat → List (BitVec 8)
/-- SHA-384 of part type `t` of the image the device left the factory with (R570, R578). -/
opaque factoryDigest : Nat → List (BitVec 8)
/-- SVN of that image, its AFLAGS.HANDOVER_OK and its SETTINGS_FROM (Table 20-6). -/
opaque factorySvn : Nat
opaque factoryHandover : Bool
opaque factoryFrom : Nat
/-- DIGESTs of the SEXTANT_LIB parts of that image (R571). -/
opaque factoryLibs : List (List (BitVec 8))

/-- Do all three attempts to program a folio fail, by a draw of `State.free` (R573)? -/
opaque flashFail : Nat → Bool

/-- Cause IDs of EXCLUDE notices, which Table 16-7 does not list (R340, R342): 0 CRC, 1 TICK64, M or release, 2 state, 3 control flow absent, 4 LEAD. -/
opaque excludeCause : Nat → Nat
/-- DETAIL of a CAPACITY notice: Table 16-7 has no cause kind for it. -/
opaque capacityCause : Nat
/-- TYPE of a Logbook entry for an event that has neither an opcode, a violation code nor a cause of Table 16-7, by the kind of event. -/
opaque logType : Nat → Nat
/-- Links of an aperture between two of its other members, with their DELAY_MAX_NS: no command tells them to this device (R329, R337). -/
opaque peerLinks : Nat → List (Nat × Nat × Nat)
/-- Which of the other members of an aperture, counted from 0 in member order, holds an input that this device does not have (R328). -/
opaque inputMember : Nat → Nat → Nat
/-- The schedule's entry of a received flow of which no granule has come, by port and flow number: dome, instrument, input, first channel, channels, frames,
tick records, bytes per sample and L_t (R332). -/
opaque flowEntry : Nat → Nat → List Nat
/-- Logical tile that stands at a place among the active tiles of another device, where some of its tiles are withdrawn (R235, notes/assumptions/155.md). -/
opaque memberTile : Nat → Nat → Nat
/-- KAPPA_CRC of a sweep mask's table (R260): the spec names no computation. -/
opaque kappaCrc : List Nat → Nat

end Sys2Proof.Config
end

