-- ==== Sys2Proof/Machine/BlocksFront.lean ====
section
/-! DEFINITION. BlocksFront.lean: the state of the shared front half: ports, landing rings and conditioning. -/
namespace Sys2Proof.Machine

/-- State of a Weltilink receiving lane (R97). -/
inductive LaneState where
  | down | hunt | framed
  deriving DecidableEq, Repr

/-- A receiving lane (R97, Table 4-4). -/
structure LaneRun where
  st : LaneState
  good : Nat
  bad : Nat
  /-- FRAME_SEQ of the last frame used. -/
  seq : Option Nat
  /-- HCRC_ERR and FEC_DISCARD counted in the running tick and in the previous one. -/
  hcrcNow : Bool
  fecNow : Bool
  hcrcPrev : Bool
  fecPrev : Bool
  /-- PRBS31 checker register, once 31 bits of a run of TEST frames have set it (R98). -/
  prbs : Option Nat
  /-- FRAME_SEQ of the next frame that the device sends on the lane (R96). -/
  txSeq : Nat
  deriving DecidableEq, Repr

/-- Port receive counters (Table 4-8). -/
inductive PortCtr where
  | rxFrames | rxBytes | fecCorrCw | fecUncorrCw | fecSymbols | fcsErr | runt | oversize | ipErr | csumErr | pauseRx | ptpRx | agentDrop
  | unmatched | hdrErr | hcrcErr | fecDiscard | seqGap | testErr | linkDown
  deriving DecidableEq, Repr

/-- A port's run-time state. -/
structure PortRun where
  linkUp : Bool
  lanes : List LaneRun
  /-- Counters by lane position; lane 0 where a counter is not per lane. -/
  cnt : Tab (PortCtr × Nat) Nat
  /-- Port management queue: frame, CT96 receive time, and whether the time is flagged for want of the port's latency (R93, R101). -/
  mgmt : List (List Byte × Nat × Bool)
  /-- Frames diverted to the port agent. -/
  agentQ : List (List Byte)
  /-- House second and agent frames handled in it (R92). -/
  agentSec : Nat
  agentUsed : Nat
  /-- House second and CONTROL frames delivered in it (R101). -/
  ctlSec : Nat
  ctlUsed : Nat
  /-- RXERR has been raised in the running tick (R123). -/
  rxerr : Bool
  deriving DecidableEq, Repr

/-- What a port transmits. -/
inductive PortMsg where
  /-- A whole frame: of the owner through the port management queue (R93), or of a stream (R308). -/
  | frame (b : List Byte)
  /-- The port agent's answer to a request frame (R92). -/
  | answer (request : List Byte)
  /-- A membership report for multicast groups (R92). -/
  | report (v6 : Bool) (groups : List Nat)
  /-- A Weltilink frame on a lane (R96, R100). -/
  | welti (lane : Nat) (frame : List Byte)
  /-- `n` IDLE frames in a row on a lane, the first of them `frame`: FRAME_SEQ rises by one from each to the next, and HCRC follows it (R95). -/
  | idle (lane n : Nat) (frame : List Byte)
  /-- The port agent asks for a stream's next-hop address (R308). -/
  | resolve (dome stream : Nat)
  /-- A Transit flow-tick, with INVALID and HOLDOVER (R332). -/
  | transit (flow tick : Nat) (bytes : List Byte) (invalid holdover : Bool)
  /-- An aperture control message (Table 11-5): type and payload. -/
  | aperture (ap peer typ : Nat) (payload : List Byte)
  deriving DecidableEq, Repr

/-- One complex sample of a pipeline stage with its validity and the flags of every input tick in its support (R143, R144). -/
structure Smp where
  re : Int
  im : Int
  ok : Bool
  fl : Nat
  deriving DecidableEq, Repr

/-- A landing slot (R113): the granules that have landed. -/
structure LSlot where
  tick : Nat
  grans : Tab Nat (List Byte)
  extClip : Bool
  late : Bool
  /-- Granules in which an SRAM word was lost (R515). -/
  bad : List Nat := []
  deriving DecidableEq, Repr

/-- A landing ring under one feed definition (R113, R116). -/
structure Ring where
  block : Block
  m : Nat
  /-- First tick it lands. -/
  first : Nat
  /-- Removed: it lands nothing more and releases what it holds (R116). -/
  closed : Bool
  slots : List LSlot
  /-- The tick to which a change of M re-anchored the ring, and M before it (R109). -/
  old : Option (Nat × Nat) := none
  deriving DecidableEq, Repr

/-- A DELAY_POLY record (Table 5-4) with its origin u0 (R137). -/
structure DelayRec where
  firstTick : Nat
  c0 : Int
  c1 : Int
  c2 : Int
  c3 : Int
  u0 : Int
  deriving DecidableEq, Repr

/-- Output tick record of conditioning (Table 5-5) with the tick's samples. -/
structure OutTick where
  tick : Nat
  sub : Nat
  validOut : Nat
  clip : Nat
  flags : Nat
  samples : List Smp
  /-- Index of the first sample, and device tick at whose start they are available (R147). -/
  first : Int
  avail : Nat
  deriving DecidableEq, Repr

/-- Samples of one released tick as landed, for the INPUT capture point (R280). -/
structure RawTick where
  tick : Nat
  first : Int
  samples : List Smp
  clip : Nat
  flags : Nat
  deriving DecidableEq, Repr

/-- Conditioning counters of one output (Table 5-6). -/
structure CondCnt where
  validOut : Nat
  dlyRange : Nat
  dlyExtrap : Nat
  dlyRecords : Nat
  coefSwaps : Nat
  condPoison : Nat
  deriving DecidableEq, Repr

/-- Conditioning of one output of a feed: one per sub-band (R126, R129). -/
structure CondRun where
  /-- Mixer output history before the running tick, oldest first. -/
  mixed : List Smp
  /-- Decimator output history, oldest first. -/
  decim : List Smp
  cnt : CondCnt
  deriving DecidableEq, Repr

/-- A feed's run-time state. -/
structure FeedRun where
  rings : List Ring
  /-- FEED_CONDITION, COARSE_DEFINE and feed-scope SK_DEFINE settings, each from a sample tick on (R149). -/
  cond : List (Nat × Block)
  /-- Sample ticks below this one have had their settings taken into the NCO law and the history (R131, R145). -/
  condNext : Nat
  /-- NCO law: index i_s and phase theta_s (R130). -/
  ncoFrom : Int
  ncoPhase : Int
  /-- Real input history, oldest first (R127, R128). -/
  input : List Smp
  subs : List CondRun
  /-- Active and staged coefficient regions, and the pending SWAP_SAMPLE with its sample tick (R134, R135). -/
  active : List Int
  staged : List Int
  /-- Staged regions of changes of D, PRESET or T that the pipeline has not reached, each with the sample tick of its change (R134, R149). -/
  regions : List (Nat × List Int)
  swap : Option (Nat × Nat)
  /-- The delay record in force and the queue (R137). -/
  delay : Option DelayRec
  delayQ : List DelayRec
  /-- Output ticks handed on and not yet channelised. -/
  outs : List OutTick
  /-- Ticks released in the running device tick, as landed. -/
  raws : List RawTick
  /-- Sample ticks below this one precede the first landed tick of the present definition (R143). -/
  firstTick : Nat
  -- Table 4-9
  pkts : Nat
  valid : Nat
  clip : Nat
  missing : Nat
  latePkts : Nat
  earlyPkts : Nat
  dupPkts : Nat
  invalidPkts : Nat
  landPoison : Nat
  clipTicks : Nat
  /-- Published ARR_MIN and ARR_MAX in ns, and the extremes of r since the last update, in time units (R122). -/
  arrMin : Int
  arrMax : Int
  runArr : Option (Int × Int)
  deriving DecidableEq, Repr

end Sys2Proof.Machine
end

