-- ==== Sys2Proof/Machine/BlocksHost.lean ====
section
/-! DEFINITION. BlocksHost.lean: the state of the host side: device state, time, clocks, mailboxes, domes,
Logbook, metering, BAR0 registers, DMA, event router. Rules are cited at each field or structure. -/
namespace Sys2Proof.Machine

/-- The eight device states (R27). -/
inductive DevState where
  | cold | boot | calibrate | service | degraded | maintenance | recovery | halted
  deriving DecidableEq, Repr

/-- The device state and what stands beside it. -/
structure Dev where
  st : DevState
  /-- The state left by the halt, meaningful in HALTED (R30). -/
  left : DevState
  /-- Capacity has been withdrawn since boot (R29). -/
  withdrawn : Bool
  /-- Logical tiles withdrawn (R16). -/
  goneTiles : List Nat
  /-- Physical tile of each logical tile 0 to 63 (R16). -/
  tileMap : List Nat
  /-- Logical tiles under calibration or quarantine, or before their first complete tick since: their outputs carry STALE (R197). -/
  stale : List Nat
  deriving DecidableEq, Repr

/-- The Chronograph's time bases (R48 to R60). Times are exact, in units of 1/(2^48 * 5^15) s, of which
2^33 make one femtosecond and 5^15 make one CT96 fraction unit. -/
structure TimeSt where
  tick64 : Nat
  /-- Length of the running tick in grid periods: M, or M + k under R60. -/
  len : Nat
  /-- Grid time at the start of the running tick, counted from reset. -/
  grid : Nat
  /-- Grid time of the last PPS_IN edge (R56). -/
  ppsGrid : Option Nat
  house : Nat
  /-- Time that house time has still to gain, or to lose below 0, by slewing (R53). -/
  slew : Int
  unsynced : Bool
  /-- Ageing correction of the quartz in 10^-12 (R54). -/
  ageing : Int
  /-- The last correction written to the Ephemeris (R54). -/
  ageingStored : Int
  /-- House time of the last boot-flash checkpoint (R53). -/
  houseCheckpoint : Nat
  sciSet : Bool
  /-- Tick epoch E (R58). -/
  epoch : Int
  /-- Tick phase in fs (R59). -/
  phase : Int
  phaseRange : Bool
  refValid : Bool
  holdover : Bool
  /-- The running tick is a holdover tick (R55). -/
  holdTick : Bool
  /-- Recent ticks whose timestamps carry HOLDOVER, newest first (R52, R55, R76). -/
  holdTicks : List Nat
  /-- Re-acquired; science time steps at the next boundary (R57). -/
  reacquired : Bool
  ppsFault : Bool
  /-- Ephemeris skew trims of the TDC channels in fs (R64). -/
  trims : Tab Nat Int
  /-- RELOCK record: TIME_STEP in fs and the tick phase (R57). -/
  relock : Int × Int
  deriving DecidableEq, Repr

/-- Run-time state of an external or internal TDC channel (R65 to R67). -/
structure TdcCh where
  lastS : Int
  lastO : Int
  missed : Nat
  overrun : Bool
  blind : Bool
  fifo : List (List Byte)
  fifoLost : Nat
  seq : Nat
  deriving DecidableEq, Repr

/-- Run-time state of a TDC pair (R69). Edge times are in `TimeSt` units. -/
structure TdcPairRun where
  lastA : Option (Int × Nat)
  diffs : List Int
  flags : Nat
  unpaired : Nat
  /-- Reports: mean and rms in fs, count, OR of flags. -/
  reports : List (Int × Nat × Nat × Nat)
  deriving DecidableEq, Repr

/-- Run-time state of an output ADPLL (R72 to R79). Its settings are the CLOCK_OUTPUT record. -/
structure ClkOut where
  /-- Staged FB[31:0] (R83). -/
  fbLo : Nat
  band : Nat
  lock : Bool
  search : Bool
  clamp : Bool
  muted : Bool
  coast : Bool
  /-- The mute is a change of FMT alone: 64 output cycles and no search (R78). -/
  fmtMute : Bool
  deriving DecidableEq, Repr

/-- A posted register of the clock block (R83). -/
inductive PostReg where
  | core | ctrl (n : Nat) | odiv (n : Nat) | fb (n : Nat)
  deriving DecidableEq, Repr

/-- The clock block (R84). -/
structure ClkSt where
  coreLock : Bool
  /-- Core input in use: true quartz. -/
  quartz : Bool
  /-- The core ADPLL coasts on its frozen word (R75). -/
  coast : Bool
  coreWord : Word
  refOffset : Word
  /-- CLK_STICKY. -/
  sticky : Nat
  /-- The posted write that awaits its boundary; BUSY while present. -/
  posted : Option (PostReg × Nat)
  /-- A tick boundary has come since the write was posted (R442). -/
  postedDue : Bool
  outs : List ClkOut
  deriving DecidableEq, Repr

/-- MBX registers of one function (Table 15-7). -/
structure Mbx where
  enable : Bool
  vector : Nat
  rqBase : Nat
  rqSize : Nat
  rqTail : Nat
  rqHead : Nat
  cqBase : Nat
  cqSize : Nat
  cqHead : Nat
  cqTail : Nat
  phase : Bool
  /-- Completion entries written and not yet consumed. -/
  cqUsed : Nat
  tailRange : Bool
  ringWrite : Bool
  fetchErr : Bool
  /-- Notices that found no free entry (R397). -/
  lost : Nat
  /-- The mailbox has had its fetch in the present round (R382). -/
  turn : Bool
  deriving DecidableEq, Repr

/-- A completion entry or notice as written to the completion ring (Table 13-3), with its response buffer. -/
structure Completion where
  fn : Fn
  index : Nat
  tag : Nat
  status : Nat
  cflags : Nat
  opcode : Nat
  detail : Nat
  tsn : Nat
  cfgGen : Nat
  result : Nat
  time : Nat
  resp : List Byte
  deriving DecidableEq, Repr

/-- A request in flight (R382). -/
structure InFlight where
  opcode : Nat
  req : Request
  /-- ENABLE has been cleared since its fetch: its completion is discarded (R379). -/
  discard : Bool
  /-- The tick in which it was decided, for one that completes later (R385, R395). -/
  decided : Option Nat := none
  /-- The failure of its fetch, with which it completes once its turn comes (R387). -/
  verdict : Option Reject := none
  deriving DecidableEq, Repr

/-- A configuration command taken into a set (R390). -/
structure Cmd where
  op : Op
  fn : Fn
  dome : Nat
  tag : Nat
  flags : Nat
  block : Block
  data : List Byte
  /-- Bytes of its parameter buffer, CRC-32C of its parameter block, and slot 0 (R407, R428). -/
  bytes : Nat
  pcrc : Nat
  obj : Nat
  deriving DecidableEq, Repr

/-- An admitted set that has not yet applied (R391). -/
structure PSet where
  dome : Nat
  cfgGen : Nat
  e : Nat
  order : Nat
  cmds : List Cmd
  /-- SH writes taken: LANE_EN index and value (R440). -/
  sh : List (Nat × Word)
  /-- Predicted configuration CRC (R448). -/
  crc : Nat
  /-- Next-hop addresses that were resolved for the set's streams: they hold from its effective tick on (R308). -/
  macs : List (Nat × Nat) := []
  deriving DecidableEq, Repr

/-- The drain of a dome reset (R423 to R427). -/
structure Drain where
  scrub : Bool
  /-- The reset deletes the dome (R413). -/
  delete : Bool
  /-- A wrap of the generation added the device-wide fence (R427). -/
  fence : Bool
  /-- Reset tick r, once reached (R424). -/
  resetTick : Option Nat
  decided : Nat
  oldGen : Nat
  /-- The DOME_RESET request that completes at the return tick. -/
  req : Option Request
  requests : Nat
  items : Nat
  descriptors : Nat
  records : Nat
  packets : Nat
  writes : Nat
  deriving DecidableEq, Repr

/-- Run-time state of a dome number (R392, R423, R427). -/
structure DomeRun where
  gen : Nat
  cfgGen : Nat
  staged : List Cmd
  drain : Option Drain
  deriving DecidableEq, Repr

/-- A Logbook entry (Table 14-8). -/
structure LogEntry where
  seq : Nat
  time : Nat
  tick : Nat
  cls : Nat
  eflags : Nat
  typ : Nat
  hostPort : Nat
  func : Nat
  dome : Nat
  gen : Nat
  tag : Nat
  status : Nat
  rep : Nat
  cfgGen : Nat
  pcrc : Nat
  addr : Nat
  detail : Nat
  chain : Nat
  deriving DecidableEq, Repr

/-- The Logbook's two rings (R429). -/
structure LogSt where
  seq : Nat
  ram : List LogEntry
  /-- CHAIN of the entry before the oldest one in RAM. -/
  ramPrev : Nat
  ramLost : Nat
  flash : List LogEntry
  flashLost : Nat
  deriving DecidableEq, Repr

/-- A segment of an interval record (Table 14-11). -/
structure Seg where
  fromTick : Nat
  cls : Nat
  tile : Nat
  hbm : Nat
  egress : Nat
  plate : Nat
  deriving DecidableEq, Repr

/-- An interval record, open or closed (R433). -/
structure Interval where
  dome : Nat
  recSeq : Nat
  term : Nat
  rflags : Nat
  start : Nat
  stop : Nat
  startTick : Nat
  stopTick : Nat
  segs : List Seg
  deriving DecidableEq, Repr

/-- Metering (R431 to R436). -/
structure MeterSt where
  running : Bool
  opens : Tab Nat Interval
  seqs : Tab Nat Nat
  /-- Closed records not yet in flash. -/
  closed : List Interval
  ring : List Interval
  ringLost : Nat
  /-- Two alternating checkpoint slots per dome, newest first (R435). -/
  checkpoints : Tab Nat (List Interval)
  /-- House time of the next boundary, in minutes since 2000-01-01. -/
  nextMin : Nat
  powerFail : Bool
  /-- House time has stepped in the running tick (R432). -/
  stepped : Bool
  deriving DecidableEq, Repr

/-- Values captured by a TIME latch (R456). -/
structure Latch where
  flags : Nat
  sci : Nat
  house : Nat
  tick : Nat
  phase : Int
  m : Nat
  deriving DecidableEq, Repr

/-- COMMIT window of one function (Table 15-8). -/
structure CommitWin where
  etsn : Nat
  busy : Bool
  lost : Bool
  status : Nat
  detail : Nat
  tsn : Nat
  cfgGen : Nat
  deriving DecidableEq, Repr

/-- A critical field of R450. -/
inductive CritField where
  | clkCore | clkOut (n : Nat) | laneEn (k : Nat) | binding (d : Nat) | pages (d : Nat) | grant (d g : Nat)
  deriving DecidableEq, Repr

/-- Registers of the OWNER, COMMIT and TIME windows. -/
structure RegSt where
  armed : Bool
  failCount : Nat
  idxAddr : Nat
  /-- IDX_STAT: RO_WRITE, RANGE, WRAP in bits 0 to 2. -/
  idxStat : Nat
  /-- The odd word latched by a read of an even word (R444). -/
  idxLatch : Option (Nat × Nat)
  sh : List (Nat × Word)
  /-- SH writes taken by a COMMIT that is fetched and not decided, by its tag (R440). -/
  taken : List (Nat × List (Nat × Word))
  commits : Tab Fn CommitWin
  crcRef : Nat
  crcActive : Nat
  crcRun : Nat
  mismatch : Bool
  voteFix : Bool
  voteFail : Bool
  misSegment : Nat
  misIndex : Nat
  /-- Records whose copy in the units of a tile disagrees with the committed copy: segment, INDEX, physical tile, rewrites tried (R448). -/
  upset : List (Nat × Nat × Nat × Nat)
  fixes : Nat
  fails : Nat
  /-- The three stored copies of each critical field that the model keeps apart from the plan (R450). -/
  copies : Tab CritField (List Nat)
  latches : Tab Fn Latch
  deriving DecidableEq, Repr

/-- One DMA channel (Table 15-9). -/
structure DmaCh where
  src : Nat
  dst : Nat
  count : Nat
  ctrl : Nat
  next : Nat
  done : Nat
  descs : Nat
  busy : Bool
  halted : Bool
  doneF : Bool
  err : Bool
  wrBusy : Bool
  stop : Bool
  retries : Nat
  code : Nat
  /-- A failed request awaits its retry (R463). -/
  retry : Bool
  /-- Generation of the dome at GO (R465). -/
  gen : Nat
  /-- The descriptor in the registers has ended and is counted; the next one of the chain is to be fetched (R460, R463). -/
  fetch : Bool
  deriving DecidableEq, Repr

/-- A consumer of an event channel (Table 16-3), as it stands in the cycle of publication (R470). -/
inductive Consumer where
  | host (fn : Fn)
  | sextant (dome handle : Nat)
  | capture (dome instr : Nat)
  | pin (n : Nat)
  | cell (n input : Nat)
  deriving DecidableEq, Repr

/-- An event in the router (R470). -/
structure Ev where
  chan : Nat
  /-- Core cycles of publication and of delivery. -/
  cycle : Nat
  due : Nat
  /-- Place of the producer in Table 16-3. -/
  rank : Nat
  cause : Nat
  /-- Dome of the producer, or `devDome`, with its generation (R425). -/
  dome : Nat
  gen : Nat
  dest : List Consumer
  deriving DecidableEq, Repr

/-- EVT registers of one function, as 256-bit words (Table 15-10). -/
structure EvtRegs where
  pend : Nat
  mask : Nat
  ovr : Nat
  deriving DecidableEq, Repr

/-- Counts of an event channel (R482). -/
structure ChanCnt where
  events : Nat
  merged : Nat
  suppressed : Nat
  ovrHost : Nat
  ovrSextant : Nat
  ovrTdc : Nat
  ovrCapture : Nat
  ovrPin : Nat
  deriving DecidableEq, Repr

/-- A LUT cell's state (R473). -/
structure CellRun where
  /-- Last core cycle worked. -/
  at0 : Nat
  /-- First cycle in which each clocked input is 0 again. -/
  ends : List Nat
  /-- Lookup result of the previous cycle. -/
  look : Bool
  stored : Bool
  out : Bool
  /-- Cycles for which the stage output has differed from the output. -/
  diff : Nat
  deriving DecidableEq, Repr

/-- An EV pin's state (R475). -/
structure PinRun where
  /-- Level of the pad: sampled on an input, driven on an output. -/
  level : Bool
  /-- Level after the filter, and the cycle of the last edge sampled. -/
  filt : Bool
  edge : Nat
  /-- First cycle after the pulse in progress. -/
  pulse : Option Nat
  /-- PIN_OVR. -/
  ovr : Nat
  deriving DecidableEq, Repr

/-- The event router (R468 to R482). -/
structure RouterSt where
  cycle : Nat
  queue : List Ev
  /-- Raised (source, cause) pairs of the running suppression window with the sources that reported (R478). -/
  window : List (Nat × Nat)
  /-- Ticks left of the running window. -/
  windowLeft : Nat
  /-- Notices sent in the window: dome, type and cause (R397, R478). -/
  noticed : List (Nat × Nat × Nat)
  /-- Owner records of the running window: type, status, cause, object, reporters (R397). -/
  ownerRecs : List (Nat × Nat × Nat × Nat × List Nat)
  chans : Tab Nat ChanCnt
  regs : Tab Fn EvtRegs
  cells : Tab Nat CellRun
  pins : Tab Nat PinRun
  pubRefused : Tab Nat Nat
  /-- MSI-X table entries written: address and data; masked vectors; messages held pending (R480, R481). -/
  msixTable : Tab (Fn × Nat) (Nat × Nat)
  msixMask : List (Fn × Nat)
  msixPend : List (Fn × Nat)
  /-- Reporter count of the last DEADLOCK: the WAITs that it ended (R479). -/
  quiesced : Nat
  deriving DecidableEq, Repr

/-- A host port's link and SR-IOV state (R411, R422, R609). -/
structure HostPort where
  linkUp : Bool
  perst : Bool
  vfEnable : Bool
  deriving DecidableEq, Repr

/-- What a read through PCIe receives. -/
inductive ReadAns where
  | word (n : Nat)
  | data (bytes : List Byte) (poisoned : Bool)
  | unsupportedRequest
  | completerAbort
  deriving DecidableEq, Repr

/-- What the block has sent to the outside and to host memory, in order. -/
structure Outbox where
  completions : List Completion
  /-- MSI-X messages: function and vector (R381, R481). -/
  msix : List (Fn × Nat)
  /-- Answers to reads: function, BAR, offset. -/
  reads : List (Fn × Nat × Nat × ReadAns)
  /-- What ports have transmitted. -/
  frames : List (Nat × PortMsg)
  /-- Host-memory writes by DMA: function, bus address, bytes, poisoned (EP). -/
  hostWrites : List (Fn × Nat × List Byte × Bool)
  /-- Numbered event sources raised: source, cause (after suppression). -/
  raised : List (Nat × Nat)
  deriving DecidableEq, Repr

end Sys2Proof.Machine
end

