-- ==== Sys2Proof/Machine/BlocksData.lean ====
section
/-! DEFINITION. BlocksData.lean: the state of HBM, of channelisation, of instruments and of egress. -/
namespace Sys2Proof.Machine

/-! ### HBM (R484 to R505) -/

/-- HBM contents: strictly rising addresses, no zero byte; an unlisted address reads 0 (R418, R486). The address of byte A of stack h is
h * 2^36 + A. -/
abbrev Memory := List Host.Cell

/-- What an HBM page holds: the object's defining opcode, dome, number and part. -/
structure ObjKey where
  op : Op
  dome : Nat
  index : Nat
  part : Nat
  deriving DecidableEq, Repr

/-- An allocated page (R486, R487). -/
structure Page where
  /-- Dome, or `devDome` for pages of the owner's feed plan. -/
  dome : Nat
  /-- Page index of the dome's BAR2 aperture. -/
  bar2 : Nat
  stack : Nat
  page : Nat
  /-- The object that the device writes there, or none for a page the dome may write (R419, R426). -/
  obj : Option ObjKey
  deriving DecidableEq, Repr

/-- Counters of a stack (Table 17-6). -/
inductive HbmCtr where
  | bytesPanic | bytesRt | bytesBooked | bytesSpill | bytesNrt | panicEntries (port : Nat) | rtOvf (port : Nat) | ce | odecc | ue | rmw
  | poisonWr | poisonRd | scrubPasses | retired | pprDone | srEntries | srTimeUs
  deriving DecidableEq, Repr

/-- An entry of a stack's error log (R499). -/
structure HbmErr where
  stack : Nat
  addr : Nat
  tick : Nat
  cls : Nat
  who : Nat
  deriving DecidableEq, Repr

/-- HBM. -/
structure HbmSt where
  mem : Memory
  /-- Poisoned 32-byte words, by address / 32 (R496). -/
  poison : List Nat
  pages : List Page
  /-- Retired pages with the page that took their place: stack, page, spare (R501). -/
  retired : List (Nat × Nat × Nat)
  /-- Retirement copies in progress: stack, page, target (R501). -/
  copying : List (Nat × Nat × Nat)
  /-- Retirements that fell due and wait: stack, page. -/
  due : List (Nat × Nat)
  /-- Correctable errors of a page in the scrub period (R500). -/
  ceCount : Tab (Nat × Nat) Nat
  /-- Pages taken from the allocatable ones of a stack as retirement targets (R503). -/
  lost : List (Nat × Nat)
  /-- Stacks that stopped answering (R503). -/
  failed : List Nat
  /-- Stacks in self-refresh (R495). -/
  asleep : List Nat
  /-- Real-time ports in panic: stack and port (R491). -/
  panic : List (Nat × Nat)
  /-- Words on the stacks' poison lists, by address / 32; a word that is written whole leaves the list (R492). -/
  listed : List Nat
  /-- Refreshes postponed by bank: stack and bank (R494). -/
  postponed : Tab (Nat × Nat) Nat
  /-- Patrol scrub: next word address of each stack (R500). -/
  scrubAt : Tab Nat Nat
  errors : List HbmErr
  cnt : Tab (HbmCtr × Nat) Nat
  /-- Masks staged for the next boot: HBM_CONFIG blocks by stack (R489). -/
  staged : Tab Nat (List Nat)
  deriving DecidableEq, Repr

/-! ### Channelisation (R150 to R184) -/

/-- One tick of channel samples as it passes between units: coarse or fine frames, Q4 frames, or the units of a capture point. Bit 8 of a
sample's flags is the blanked mark (R174). -/
structure ChTick where
  tick : Nat
  /-- First channel number. -/
  first : Nat
  /-- Frames by absolute index, each with its channels. -/
  frames : List (Nat × List Smp)
  clip : Nat
  ovf : Nat
  rqClip : Nat
  /-- Flag bits of Table 6-4. -/
  flags : Nat
  /-- Valid samples of the source's whole tick, and samples that SK in feed scope blanked (Table 6-3, Table 6-10). -/
  valid : Nat := 0
  blanked : Nat := 0
  deriving DecidableEq, Repr

/-- Where channel samples come from. -/
inductive Src where
  | feed (f : Nat)
  | window (d w : Nat)
  deriving DecidableEq, Repr

/-- What one part sends of a tick: the offset and number of its channels, its flags, and of a beam INPUT_VALID and the limited samples (R232, R312). -/
structure PartTick where
  off : Nat
  width : Nat
  flags : Nat
  valid : Nat
  clips : Nat
  /-- The part shed the tick (R314). -/
  shed : Bool
  deriving DecidableEq, Repr

/-- A tick of samples on its way from the unit that computed it to the readers that the plan of its device tick names (R192). -/
inductive Handoff where
  | src (src : Src) (c : ChTick)
  /-- The frames of a sample tick that a feed does not land. -/
  | absent (f : Nat) (c : ChTick)
  /-- Q4 of input `pos` of an instrument, whose feed or window is numbered `feed`. -/
  | q4 (d i pos feed : Nat) (c : ChTick)
  | beam (d i bm : Nat) (c : ChTick)
  /-- An instrument's tick of Q4 or beam samples for stream `k`, with its parts: feed, window or beam `sub` (R309, R312). -/
  | packets (d k i sub : Nat) (beam : Bool) (parts : List PartTick) (c : ChTick)
  deriving DecidableEq, Repr

/-- A feed's coarse channeliser (R150 to R162). -/
structure CoarseRun where
  /-- COARSE_DEFINE settings by sample tick (R149). -/
  settings : List (Nat × Block)
  /-- Conditioning output history of each sub-band, oldest first, carrying output-tick flags. -/
  hist : List (List Smp)
  frames : Nat
  validCh : Nat
  pfbOvf : Nat
  deriving DecidableEq, Repr

/-- A zoom window (R166 to R171). -/
structure ZoomRun where
  inq : List (Nat × ChTick)
  /-- Coarse frames held as history, oldest first. -/
  hist : List (Nat × List Smp)
  fineFrames : Nat
  validFine : Nat
  zoomOvf : Nat
  zoomPoison : Nat
  deriving DecidableEq, Repr

/-- An SK unit (R172 to R177). -/
structure SkRun where
  /-- Feed scope: settings by sample tick; none after SK_DELETE (R149, R176). -/
  settings : List (Nat × Option Block)
  /-- Origin frame of the grid (R173). -/
  f0 : Nat
  /-- First frame of the block in progress. -/
  at0 : Nat
  /-- Tested samples not yet decided, with the tick of their frame. -/
  frames : List (Nat × Nat × List Smp)
  /-- A change closes the block in progress at the frame before this one. -/
  closeAt : Option Nat
  /-- Ticks held under BLANK, with the device tick in which each leaves (R175). -/
  held : List (Nat × ChTick)
  /-- Blocks decided with excursions under BLANK: first frame, last frame, tested channels blanked. -/
  blanks : List (Nat × Nat × List Nat)
  blocks : Nat
  high : Nat
  low : Nat
  untested : Nat
  blanked : Nat
  /-- Block records delivered to the owner, in order (R177). -/
  records : List (List Byte)
  deriving DecidableEq, Repr

/-! ### Instruments -/

/-- A result ring in HBM (R199). -/
structure RingRun where
  slotBytes : Nat
  slots : Nat
  /-- Records written so far. -/
  written : Nat
  /-- Sequence numbers of slots not yet released, oldest first. -/
  held : List Nat
  deriving DecidableEq, Repr

/-- Accumulators of one channel, product or beam channel (Tables 7-2, R211, R231). -/
structure Acc where
  v : Nat
  sumP : Nat
  peak : Nat
  min : Nat
  samp : Nat
  yy : Nat
  re : Int
  im : Int
  deriving DecidableEq, Repr

/-- An accumulator bank over sample ticks (R190). -/
structure Bank where
  /-- The definition under which it accumulates (R191, R195), and its parts as placement put them: logical tiles, and L_inst, mode, SUB_TICKS, G and channels (R201, R215). -/
  block : Block
  tiles : List Nat
  chosen : List Int
  /-- Shed work units and unit flags of each part (R215, R217, R223). -/
  partShed : List Nat
  partFlags : List Nat
  first : Nat
  last : Nat
  frames : Nat
  /-- Sum of frames over channels (R189). -/
  nominal : Nat
  clip : Nat
  ovf : Nat
  rqClip : Nat
  flags : Nat
  shed : Nat
  absent : Nat
  acc : List Acc
  /-- BATCHED: the sub-integration is the last of its dump (R221). -/
  ends : Bool
  deriving DecidableEq, Repr

/-- Instrument counters of Tables 7-6, 8-6, 9-11, 10-6, 6-11 and 21-7. -/
inductive ICtr where
  | results | resultDrop | shedTicks | emptyCh | valid | nominal | dumps | dumpDrop | dumpLost | shedUnits | absentTicks | beamSamples
  | beamValid | beamBlank | beamClip | triggers (entry : Nat) | accepted | records | lateTrig | queueLost | seqExpired | seqIgnored
  | holdoffSkipped | noSegment | overwritten | truncated | gapUnits | levelFires | genDiscard | traces | q4Samples (src : Nat)
  | partShed (part : Nat) | validQ4 (src : Nat) | rqClip (src : Nat) | rqBlank (src : Nat) | skRecords | clipSamples | bytesSent | bytesChecked | bitErrors | lostGranules
  deriving DecidableEq, Repr

/-- A trigger on its way to a decision (R286 to R289). -/
structure Trig where
  typ : Nat
  /-- Entry of its stage's list, and whether the stage is B. -/
  entry : Nat
  stageB : Bool
  pos : Int
  frac : Nat
  fracValid : Bool
  /-- Science time in `TimeSt` units. -/
  time : Int
  holdover : Bool
  /-- Device tick in which it reached the capture. -/
  reached : Nat
  deriving DecidableEq, Repr

/-- How far a closed record has come (R300). -/
inductive RecStage where
  | held | streaming | sent
  deriving DecidableEq, Repr

/-- A closed capture record that is not released (R291, R300). -/
structure CapRec where
  seq : Nat
  seg : Nat
  stage : RecStage
  /-- FIRST_UNIT of its span. -/
  first : Int
  deriving DecidableEq, Repr

/-- What the writer of a RECORDER does (R292, R294). -/
inductive CapPhase where
  /-- It arms at the first unit of the next sample tick it writes. -/
  | arming
  | filling
  /-- A record has closed; the writer has not moved on yet. -/
  | closed
  /-- No segment is free under FULL = STOP. -/
  | noSegment
  /-- A freed segment awaits its arming under FULL = STOP. -/
  | freed
  /-- It waits for CAPTURE_ARM. -/
  | manual
  deriving DecidableEq, Repr

/-- Run-time state of a RECORDER (R289 to R298). -/
structure CapRun where
  phase : CapPhase
  /-- Arm point of the filling segment. -/
  arm : Int
  seg : Nat
  /-- LEVEL state of each LEVEL entry, stages A then B: 0 UNKNOWN, 1 LOW, 2 HIGH. -/
  levels : List Nat
  /-- Triggers that have reached the capture, then those queued at a stage. -/
  arriving : List Trig
  queue : List Trig
  /-- Next sample tick to decide. -/
  decided : Nat
  cand : Option Trig
  /-- Positions below this one are not searched (R290). -/
  resume : Int
  /-- Hold-off: first eligible position, and triggers still to ignore (R293). -/
  holdPos : Int
  holdN : Nat
  holdSkipped : Nat
  /-- The accepted trigger whose record is filling, and SEQ_DELTA. -/
  acc : Option (Trig × Int)
  /-- Ticks written to the filling segment, oldest first; bit 16 of FLAGS stands for PARTIAL. -/
  units : List ChTick
  lastUnit : Int
  /-- Last unit of a tick that a part shed: it is written at the head of the next device tick (R298). -/
  lateUnit : Option Int
  /-- Device tick of the release that freed the segment a stopped writer waits for (R294). -/
  freedAt : Nat
  recs : List CapRec
  seq : Nat
  /-- First unit after the last record (GAP_UNITS). -/
  gapFrom : Option Int
  deriving DecidableEq, Repr

/-- A LOOPBACK's run-time state (R603). -/
structure LoopRun where
  seq : Nat
  sent : Nat
  got : Nat
  errs : Nat
  lost : Nat
  from0 : Nat
  deriving DecidableEq, Repr

/-- Run-time state of an instrument. -/
structure InstrRun where
  /-- Input position, first device tick that processes it, data. -/
  inq : List (Nat × Nat × ChTick)
  gainA : List Nat
  gainB : List Nat
  gainSwap : Option Nat
  wgtA : List Nat
  wgtB : List Nat
  wgtSwap : Option Nat
  /-- RQ_CLIP_CH (R183). -/
  clipCh : List Nat
  seq : Nat
  /-- Open bank, sub-integration bank (BATCHED), and closed banks that await conversion. -/
  bank : Option Bank
  sub : Option Bank
  closed : List Bank
  /-- BATCHED: completed sub-integrations, and the one being correlated with the first device tick of its schedule (R221). -/
  subs : List Bank
  corr : Option (Nat × Bank)
  /-- BATCHED, after a change of M or a renumbering: nothing is taken in before the next sub-integration boundary (R222). -/
  await : Bool
  /-- Frames not yet traced: frame, tick, flags, samples (R257). -/
  group : List (Nat × Nat × Nat × List Smp)
  rings : Tab Nat RingRun
  /-- Device ticks in which work of the instrument was shed, of the last 256, and whether SHED_PERSIST stands for them (R47). -/
  shedAt : List Nat
  persists : Bool
  /-- Candidate records decided in the running device tick, for Sextants (R365). -/
  cands : List (List Byte)
  cap : CapRun
  loop : LoopRun
  cnt : Tab ICtr Nat
  deriving DecidableEq, Repr

/-- A record that has been formed and reaches its destination at the start of the next device tick (R198, R220). -/
structure Made where
  dome : Nat
  instr : Nat
  /-- Generation of the work that formed it (R425). -/
  gen : Nat
  block : Block
  /-- Result ring, SUBID and record kind. -/
  ring : Nat
  sub : Nat
  kind : Nat
  seq : Nat
  flags : Nat
  lastTick : Nat
  body : List (Nat × Nat)
  /-- Counter of records dropped at a full ring. -/
  drops : ICtr
  /-- Logical tile and unit of the event of its arrival. -/
  event : Option (Nat × Nat)
  deriving DecidableEq, Repr

/-- A frequency or sweep mask (R248 to R264). -/
structure MaskRun where
  bankA : List Nat
  bankB : List Nat
  swap : Option Nat
  /-- Bank in use: false the first. -/
  second : Bool
  armed : Bool
  /-- Last frame seen, its state (0 NONE, 1 IN, 2 OUT), first frame of its run, length of the run, and length of the run before it. -/
  lastFrame : Nat
  state : Nat
  runFirst : Nat
  runLen : Nat
  /-- Flags of the run's ticks (R275). -/
  runFlags : Nat
  prevState : Nat
  prevLen : Nat
  trigSeq : Nat
  /-- Sweep history: frame, tick, flags, sweep values (-128 invalid). -/
  hist : List (Nat × Nat × Nat × List Int)
  /-- Next window to decide. -/
  window : Nat
  ring : Option RingRun
  framesIn : Nat
  framesOut : Nat
  framesNone : Nat
  triggers : Nat
  limited : Nat
  drop : Nat
  winLost : Nat
  swClip : Nat
  deriving DecidableEq, Repr

/-- A Plate (R265 to R272). -/
structure PlateRun where
  counts : List Nat
  /-- Sub-sampling factor u (R269). -/
  u : Nat
  /-- A decay is due and not yet applied (R268). -/
  decayDue : Bool
  decays : Nat
  /-- A snapshot is due and not yet copied (R270). -/
  snapDue : Bool
  first : Option Nat
  last : Nat
  frames : Nat
  skipped : Nat
  valid : Nat
  flags : Nat
  shed : Nat
  snapSeq : Nat
  /-- Sample tick at which PLATE_CLEAR applies (R271). -/
  clear : Option Nat
  ring : Option RingRun
  increments : Nat
  plSkipped : Nat
  invalid : Nat
  sat : Nat
  below : Nat
  above : Nat
  snapshots : Nat
  snapDrop : Nat
  deriving DecidableEq, Repr

/-! ### Egress, Transit and apertures -/

/-- What a packet is the last or a part of: a RECORDER's record (R300), or a CAPTURE_READ with the stacks of its bytes (R299, R326). -/
inductive PktEnd where
  | record (instr seq : Nat)
  | read (fn : Fn) (tag : BitVec 16) (hstacks : List Nat) (bytes : Nat)
  deriving DecidableEq, Repr

/-- A CAPTURE_READ into a stream that has not completed (R299, R326). -/
structure CapRead where
  req : Request
  dome : Nat
  stream : Nat
  /-- Packets not yet sent (UDP) or acknowledged (ROCE), stacks read, stacks whose bytes have moved. -/
  left : Nat
  hstacks : List Nat
  moved : List Nat
  bytes : Nat
  /-- Stacks whose part failed, with the status code. -/
  failed : List (Nat × Nat)
  /-- The aperture and command of which this read is one member's part (R396). -/
  ap : Option (Nat × Nat)
  deriving DecidableEq, Repr

/-- A packet of a stream (R310 to R316). -/
structure Pkt where
  bytes : List Byte
  wire : Nat
  tick : Nat
  poisoned : Bool
  /-- It carries an immediate (R322). -/
  imm : Bool
  ends : Option PktEnd
  deriving DecidableEq, Repr

/-- A packet that a producer hands to a stream in the running device tick, not queued yet (R306, R309). -/
structure PktIn where
  /-- Instrument, part, and TSN or record sequence, by which the packets of a tick are queued. -/
  instr : Nat
  part : Nat
  seq : Nat
  /-- A VDIF frame, which goes as it is, and otherwise the fields of a Vorsy packet (R310). -/
  vdif : Bool
  typ : Nat
  flags : Nat
  mid : Nat
  last : Nat
  tick : Nat
  content : List Byte
  ends : Option PktEnd
  deriving DecidableEq, Repr

/-- A RoCE message that awaits its acknowledgement (R322 to R324). -/
structure RoceMsg where
  pkt : Pkt
  psn : Nat
  npkts : Nat
  addr : Nat
  imm : Option Nat
  /-- Retransmissions of each of its packets. -/
  retries : List Nat
  /-- Its packets to be sent again. -/
  again : List Nat
  deriving DecidableEq, Repr

/-- Run-time state of a stream. -/
structure StreamRun where
  /-- Packets handed over in the running device tick (R306, R309). -/
  inbox : List PktIn
  /-- Packets for which RATE has room in the tick, with the number of them from the tick before, then the spill (R309, R317, R319). -/
  go : List Pkt
  goOld : Nat
  spill : List Pkt
  /-- Token bucket in units of 1 / (8 * 10^9) byte. -/
  tokens : Nat
  mac : Nat
  resolved : Bool
  -- RoCE
  psn : Nat
  wofs : Nat
  unacked : List RoceMsg
  error : Bool
  /-- 64-byte units of the remote ring written and not consumed (R325), and the last CONSUMED. -/
  filled : Nat
  consumed : Nat
  immTicks : Nat
  /-- The next packet is the first after the start of the stream or a renumbering (R41). -/
  full : Bool
  -- VDIF
  vdif : List (Nat × List Smp)
  -- Table 11-6
  pkts : Nat
  bytes : Nat
  pktDrop : Nat
  byteDrop : Nat
  spillPoison : Nat
  spillPeak : Nat
  arpFail : Nat
  retx : Nat
  timeouts : Nat
  cnpRx : Nat
  roceUnsup : Nat
  /-- STREAM_DROP has been sent in the running tick. -/
  noticed : Bool
  deriving DecidableEq, Repr

/-- A Transit flow: one that this device receives, with its receive slots, or the counters of one that it sends, to another device or between its own tiles (R330 to R333, R343). -/
structure FlowRun where
  spec : FlowSpec
  /-- Receive slots: sending tick, granules by number, sent INVALID. -/
  slots : List (Nat × Tab Nat (List Byte) × Bool)
  sent : Nat
  late : Nat
  absent : Nat
  /-- CRC of the configuration whose schedule the entry `spec` belongs to (R334). -/
  cfg : Nat := 0
  /-- Its sender has rejoined and sent no complete flow-tick since (R341). -/
  stale : Bool := false
  /-- Consuming tile and device tick of the last ABSENT event (R344). -/
  raised : Option (Nat × Nat) := none
  deriving DecidableEq, Repr

/-- A member of an aperture as a device of the aperture sees it (R335 to R342). -/
structure MemberRun where
  serial : Nat
  excluded : Bool
  /-- A replay to it has been committed: it counts again from the first tick in which its CRC matches (R341). -/
  rejoining : Bool
  /-- References: the configuration CRC that it predicted for what was committed, each from its effective tick on (R338, R339). -/
  refs : List (Nat × Nat)
  tick : Nat
  state : Nat
  cfgGen : Nat
  /-- CAPACITY flag and advertised tiles of its tick status (R336, R406). -/
  withdrawn : Bool
  tiles : Nat
  /-- Its last tick status differs in release, M or tick number (R32). -/
  differs : Bool := false
  deriving DecidableEq, Repr

/-- A command in preparation at the lead (R338). -/
structure ApPrep where
  id : Nat
  /-- Tick in which it was received, and its effective tick. -/
  at0 : Nat
  e : Nat
  op : Op
  /-- The request that completes; none for a replay (R341). -/
  req : Option Request
  dome : Nat
  /-- The lead's own pending set. -/
  cfgGen : Nat
  /-- Members asked, in member order, and their replies: status code and predicted CRC. -/
  members : List Nat
  replies : Tab Nat (Nat × Nat)
  /-- RESULT of the completion, and its response. -/
  result : Nat
  body : Option (List Byte) := none
  deriving DecidableEq, Repr

/-- A command that a member has prepared (R338). -/
structure ApHeld where
  id : Nat
  e : Nat
  committed : Bool
  dome : Nat
  cfgGen : Nat
  /-- The CRC that it predicted. -/
  crc : Nat := 0
  /-- Where it was forwarded by this device as a sub-aperture lead: aperture, CMD_ID there and member, and the status that the member has replied (R336). -/
  below : List ((Nat × Nat × Nat) × Option Nat) := []
  deriving DecidableEq, Repr

/-- An aperture read at the lead: its parts in member order, with status and bytes moved of each that has answered (R396). -/
structure ApRead where
  id : Nat
  req : Request
  parts : List (Nat × Option (Nat × Nat))
  /-- The read of the aperture above that it is a part of, and the bitmap of this device's own stacks (R336). -/
  up : Option (Nat × Nat) := none
  bitmap : Nat := 0
  deriving DecidableEq, Repr

/-- What a link of an aperture measures (R335): least and greatest one-way delay in ns, messages outside the window. -/
structure LinkRun where
  lo : Option Int
  hi : Option Int
  out : Nat
  /-- Control messages sent, and bytes of the next one that have gone in earlier ticks (R336). -/
  seq : Nat := 0
  sent : Nat := 0
  /-- The last tick status came outside the window (R335). -/
  outside : Bool := false
  /-- This device, which has no such aperture, has said so (R342). -/
  told : Bool := false
  deriving DecidableEq, Repr

/-- An aperture (R335 to R342). -/
structure ApertureRun where
  members : List MemberRun
  preparing : List ApPrep
  holding : List ApHeld
  cmdId : Nat
  leadLost : Bool
  /-- Adoption in progress: its request, its deadline tick and its effective tick once adopted (R342). -/
  adopting : Option (Request × Nat × Option Nat)
  /-- CONFIG fragments by sender: total length and what has arrived (R342). -/
  configs : Tab Nat (Nat × List ApCmd)
  reads : List ApRead
  links : Tab Nat LinkRun
  /-- Control messages that wait for the next control flow-tick: peer, type, CMD_ID and body (R336). -/
  outq : List (Nat × Nat × Nat × List Byte)
  exclusions : Nat
  rejoins : Nat
  aborts : Nat
  deriving DecidableEq, Repr

end Sys2Proof.Machine
end

