-- ==== Sys2Proof/Machine/BlocksSextant.lean ====
section
/-! DEFINITION. BlocksSextant.lean: the state of a Sextant: its programming model, pipeline, memories, item, image and debug registers. -/
namespace Sys2Proof.Machine

/-- A vector register (Table 12-1). -/
abbrev VReg := BitVec 512
/-- An accumulator (Table 12-1). -/
abbrev AReg := BitVec 2048

/-- Index, modifier, length and base registers (Table 12-1; the kinds of AMOV, Table 12-11). -/
inductive AddrKind where
  | ix | md | len | base
  deriving DecidableEq, Repr

/-- A write of an issued operation, by the register it goes to (R357). -/
inductive PipeWrite where
  | v (r : Nat) (x : VReg)
  | ac (r : Nat) (x : AReg)
  | x (r : Nat) (x : Word)
  | addr (k : AddrKind) (r : Nat) (x : Word)
  | flags (x : Word)
  /-- The sticky SAT bit (R352). -/
  | sat
  /-- MTS to a special register (R349). -/
  | special (n : Nat) (x : Word)
  | mem (a : Nat) (b : List Byte)
  deriving DecidableEq, Repr

/-- Where a branch goes after its delay bundles (Table 12-6). -/
inductive JumpTo where
  | bundle (n : Nat)
  /-- RTI: IPC, with FLAGS from IFLAGS (R359). -/
  | rti
  deriving DecidableEq, Repr

/-- A Sextant timer (R362). -/
structure SxTimer where
  cnt : Word
  rld : Word
  ctl : Word
  deriving DecidableEq, Repr

/-- What issue does. -/
inductive SxRun where
  /-- No item runs. -/
  | idle
  | running
  /-- WAIT holds issue; the register that takes WAITST (R364). -/
  | waiting (d : Nat)
  deriving DecidableEq, Repr

/-- The header of an image (Table 12-9). -/
structure SxImage where
  hflags : Nat
  cycles : Nat
  bundles : Nat
  entry : Nat
  ivec : Nat
  crc : Nat
  deriving DecidableEq, Repr

/-- What an input of an item holds: sample tick, bank address, frames, bytes, flags and tick records (R366, R367). -/
structure SxInput where
  bank : Nat
  frames : Nat
  bytes : Nat
  flags : Nat
  recs : List Byte
  deriving DecidableEq, Repr

/-- An item: its device tick m, sample tick n, ITEM_SEQ, inputs by number (R367). -/
structure SxItem where
  m : Nat
  n : Nat
  seq : Nat
  ins : Tab Nat SxInput
  deriving DecidableEq, Repr

/-- One Sextant, by physical tile (R345 to R377, R598). -/
structure Sextant where
  /-- The lease: dome and handle (R346). -/
  lease : Option (Nat × Nat)
  v : List VReg
  ac : List AReg
  /-- Accumulators with every issued operation counted: what the next multiply-accumulate adds to (Table 12-6). -/
  acNow : List AReg
  x : List Word
  ix : List Word
  md : List Word
  len : List Word
  base : List Word
  flags : Word
  ipc : Word
  iflags : Word
  imask : Word
  ipend : Word
  ivec : Word
  lc : List Word
  ls : List Word
  le : List Word
  waitst : Word
  timers : List SxTimer
  cycle : Nat
  /-- TICK64 of the device tick in which the item started. -/
  tick : Nat
  itemst : Nat
  -- Pipeline and issue
  run : SxRun
  pc : Nat
  /-- Branches on their way, with the delay bundles left. -/
  jumps : List (Nat × JumpTo)
  /-- Writes on their way: the cycle from which a bundle sees them, in order of issue. -/
  pipe : List (Nat × PipeWrite)
  /-- Sextant cycles since the scrub, and those of the running device tick. -/
  now : Nat
  inTick : Nat
  -- Memories
  prog : Memory
  data : Memory
  -- Events
  queue : List Nat
  overrun : Bool
  -- Image and items
  /-- Image in program memory, and the staging copy. -/
  image : Option SxImage
  staged : List Byte
  /-- A lease change awaits its scrub (R347), with the image that the new lease brings. -/
  scrub : Bool
  incoming : List Byte
  /-- SEXTANT_SWAP pending for this tick or in force and waiting for the item to end (R372). -/
  swap : Option Nat
  /-- SEXTANT_PARAM pending: tick, offset, data (R377). -/
  param : Option (Nat × Nat × List Byte)
  /-- No item starts before this tick: the scrub and the copy (R347, R372). -/
  ready : Nat
  /-- ITEMST of the next item. -/
  nextSt : Nat
  item : Option SxItem
  /-- Items whose inputs stand in their banks, oldest first. -/
  due : List SxItem
  /-- Items that executed DONE and await their publication. -/
  done : List SxItem
  itemSeq : Nat
  /-- Outputs carry STALE until the first complete tick (R345). -/
  stale : Bool
  /-- The fault that stopped issue: code and bundle (R375). -/
  fault : Option (Nat × Nat)
  /-- The item ended by a fault awaits its empty records. -/
  aborted : List SxItem
  -- Counters (Table 12-12)
  items : Nat
  shedItems : Nat
  stalls : Nat
  faults : Nat
  lost : Nat
  lastFault : Nat × Nat
  maxCycle : Nat
  -- Debug (Table 21-5)
  halted : Bool
  cause : Nat
  /-- HALT written; it acts at the next bundle boundary. -/
  haltReq : Bool
  /-- STEP onto a WAIT completes when the WAIT ends (R599). -/
  stepping : Bool
  /-- The bundle at the program counter was held by a stall in the last cycle (R354, R359). -/
  stalled : Bool
  bps : List Word
  wps : List (Word × Word)
  deriving DecidableEq, Repr

end Sys2Proof.Machine
end

