-- ==== Sys2Proof/Machine/BlocksAnalog.lean ====
section
/-! DEFINITION. BlocksAnalog.lean: the state of the housekeeping ADC, the control DACs and the Eyepiece (R532 to R557). -/
namespace Sys2Proof.Machine

/-- Result of one ADC channel (Table 19-3). -/
structure AdcRes where
  ovr : Bool
  ovrIn : Bool
  hi : Bool
  lo : Bool
  stale : Bool
  /-- A result has been written. -/
  some : Bool
  avg : Nat
  result : Nat
  tsn : Nat
  time : Nat
  deriving DecidableEq, Repr

/-- A running sequence: its configuration, the entry and conversion that come next, the sum and OVR_IN so far (R536). -/
structure AdcSeq where
  cfg : Block
  entry : Nat
  conv : Nat
  sum : Nat
  past : Bool
  deriving DecidableEq, Repr

/-- The housekeeping ADC. -/
structure AdcSt where
  /-- The ADC_CONFIG in force (R536). -/
  cfg : Option Block
  /-- Factors in force (R533). -/
  gain : Nat
  offset : Int
  /-- CAL: 0 OK, 1 RUNNING, 2 FAILED (Table 19-3). -/
  cal : Nat
  /-- A calibration awaits the end of the running sequence (R535). -/
  calDue : Bool
  seq : Option AdcSeq
  /-- The converter is powered down (R537). -/
  down : Bool
  results : Tab Nat AdcRes
  sequences : Nat
  missed : Nat
  /-- Corrected codes of the last conversion sequence by channel, before averaging: the last code. -/
  last : Tab Nat Nat
  deriving DecidableEq, Repr

/-- Entries of a DAC_QUEUE request that await their START tick; no tick under NOW (R543). -/
structure DacReq where
  start : Option Nat
  loop : Bool
  entries : List (Nat × Nat)
  deriving DecidableEq, Repr

/-- One control DAC (R540 to R547). -/
structure DacRun where
  code : Nat
  /-- Entries: code and dwell, oldest first. -/
  queue : List (Nat × Nat)
  /-- Position of the entry in progress under LOOP. -/
  pos : Nat
  /-- Steps left of the entry in progress; 0 when none plays. -/
  left : Nat
  playing : Bool
  /-- A change from LOOP to ONESHOT plays to the end of the pass (R546). -/
  ending : Bool
  waiting : List DacReq
  sc : Bool
  scNow : Bool
  stale : Bool
  qDrop : Nat
  played : Nat
  emptyTime : Nat
  deriving DecidableEq, Repr

/-- The Eyepiece (R548 to R557). -/
structure EyeSt where
  hpd : Bool
  trained : Bool
  training : Bool
  /-- Video runs: trained, and a frame start has come since. -/
  video : Bool
  frames : Nat
  underrun : Nat
  trainFail : Nat
  edid : List Byte
  palette : List Nat
  tables : List (List Nat)
  /-- Slot and SNAP_SEQ latched by each window for the running frame (R552). -/
  latched : List (Option (Nat × Nat))
  /-- CRC of the last frame and mismatches by rectangle (Table 19-7). -/
  rects : List (Nat × Nat)
  /-- Something that the running frame shows has changed since its start (R553): the frame's CRCs are open. -/
  dirty : Bool
  deriving DecidableEq, Repr

end Sys2Proof.Machine
end

