-- ==== Sys2Proof/Machine/BlocksCare.lean ====
section
/-! DEFINITION. BlocksCare.lean: the state of health and reserves, of the Ephemeris, of boot and update, and of the debug and test ports
(R506 to R531, R558 to R618). -/
namespace Sys2Proof.Machine

/-! ### Health, reserves, calibration (R506 to R531) -/

/-- Health states of a physical tile (Table 18-2), in the order of Table 18-8. -/
inductive TileSt where
  | active | warn | reserve | quarantined | worn | failed | retired
  deriving DecidableEq, Repr

/-- A physical tile as HEALTH_READ sees it. -/
structure TileHealth where
  st : TileSt
  /-- Last values of D, newest first, at most five (R508). -/
  degr : List Int
  /-- Temperature in 1/16 °C. -/
  temp : Int
  /-- Spare rows used of each sub-array (R514). -/
  spares : Tab Nat Nat
  /-- House times of correctable errors of a row in the last 24 h: sub-array and row. -/
  rowCe : Tab (Nat × Nat) (List Nat)
  /-- Rows that are due for repair. -/
  dueRows : List (Nat × Nat)
  ue : Nat
  /-- TICK64 of the last state change. -/
  changed : Nat
  deriving DecidableEq, Repr

/-- How far a reserve swap has come (Table 18-3). -/
inductive SwapStage where
  | decided | records | matched
  deriving DecidableEq, Repr

/-- A reserve swap of a sector. -/
structure Swap where
  old : Nat
  logical : Nat
  cold : Bool
  /-- Decision tick d, and tick q once the records match. -/
  d : Nat
  q : Nat
  stage : SwapStage
  rewrites : Nat
  deriving DecidableEq, Repr

/-- Role of a sector's control processor (R530). -/
inductive CpRole where
  | active | standby | dormant | quarantined | failed
  deriving DecidableEq, Repr

/-- An Ephemeris record in flash (Table 18-4). -/
structure EphRec where
  typ : Nat
  unit : Nat
  seq : Nat
  time : Nat
  payload : List Byte
  deriving DecidableEq, Repr

/-- A quality figure (Table 18-7). -/
structure Fig where
  value : Int
  stale : Bool
  out : Bool
  tsn : Nat
  deriving DecidableEq, Repr

/-- Health, reserves, Ephemeris, calibration, and the pins of the package that belong to them. -/
structure CareSt where
  tiles : List TileHealth
  /-- Supply-monitor flags of each sector. -/
  supply : List Nat
  /-- Swaps by sector, and decisions that wait for one: physical tile, cold. -/
  swaps : Tab Nat Swap
  waits : List (Nat × Bool)
  /-- Sectors whose reserve runs a PFB self-test (R528). -/
  pfbTest : List Nat
  /-- Logical tiles of failed physical tiles whose work is shed until a cold swap's switch (R513). -/
  dead : List Nat
  /-- Feeds whose running tick is computed with a zeroed coefficient word (R515). -/
  coefBad : List Nat
  cps : List CpRole
  /-- A takeover awaits the next tick boundary. -/
  takeover : Bool
  /-- A standby has taken over since the reset (CONDITION bit 3). -/
  took : Bool
  /-- House time of the last heartbeat. -/
  beat : Nat
  figs : Tab (Nat × Nat) Fig
  /-- Calibrations that run: scope and unit. -/
  cals : List (Nat × Nat)
  /-- The two halves of the Ephemeris and which one is active (R524). -/
  halves : List (List EphRec)
  half : Nat
  ephSeq : Nat
  ephBad : Nat
  /-- THERM_N and THERMTRIP_N are driven low (R615, R618). -/
  therm : Bool
  tripped : Bool
  /-- Set point of each sector's core rail in 10 µV, and regulators that are left alone (R611). -/
  vcore : List Nat
  vfault : List Bool
  deriving DecidableEq, Repr

/-! ### Boot and update (R558 to R589) -/

/-- Slot states (Table 20-3), in the order of their codes. -/
inductive SlotSt where
  | empty | receiving | ready | trial | unconfirmed | confirmed | previous | failed
  deriving DecidableEq, Repr

/-- The boot control record in force (Table 20-2). -/
structure BootRec where
  seq : Nat
  active : Nat
  states : List SlotSt
  tries : Nat
  releases : List Nat
  confirmBy : Nat
  cause : Nat
  defaults : Bool
  cfails : Nat
  deriving DecidableEq, Repr

/-- What an image slot holds: the image the device left the factory with, or 64 KiB sectors by folio number. -/
structure SlotImg where
  factory : Bool
  folios : Tab Nat (List Byte)
  deriving DecidableEq, Repr

/-- The transfer header and the folio table of UPDATE_STATE (R574). -/
structure Transfer where
  digest : List Byte
  bytes : Nat
  target : Nat
  /-- CRC of each entry written, and whether its MARK is programmed. -/
  entries : Tab Nat (Nat × Bool)
  deriving DecidableEq, Repr

/-- One settings half (R584, R585): format, sequence number, staged HBM masks by stack, METER_CONFIG grid. -/
structure Settings where
  format : Nat
  seq : Nat
  masks : Tab Nat (List Nat)
  meter : Nat × Nat
  deriving DecidableEq, Repr

/-- A handover in progress (R579): its request, the slot it brings in, whether that slot keeps its state (a fall-back,
with its cause in `hours`), and how far it has come. -/
structure Handover where
  req : Option Request
  target : Nat
  back : Bool
  hours : Nat
  defaults : Bool
  /-- 0 verifying, 1 verified, 2 its record is written. -/
  stage : Nat
  deriving DecidableEq, Repr

/-- Cause of the last reset (R565). -/
inductive ResetCause where
  | power | rstN | swReset | bootFault | brownOut | thermalTrip
  deriving DecidableEq, Repr

/-- Boot and update. -/
structure BootSt where
  /-- Capacity of the identified flash in Mbit, 0 when it failed identification. -/
  flash : Nat
  ctl : Option BootRec
  slots : List SlotImg
  /-- Slot that runs; none before its start and in RECOVERY. -/
  running : Option Nat
  /-- The running image was booted by a fall-back. -/
  fellBack : Bool
  lastReset : ResetCause
  xfer : Option Transfer
  /-- The header of an UPDATE_BEGIN is still to be written (R572, step 3). -/
  opening : Option Transfer
  dup : Nat
  crcErr : Nat
  notMirrored : Nat
  causePart : Nat
  mode : Nat
  defaulted : Bool
  sets : List (Option Settings)
  /-- Fuses: SVN floor and revoked keys. -/
  floor : Nat
  revoked : Nat
  hand : Option Handover
  /-- CONFIRM_HOURS and DEFAULTS of the last activation. -/
  hours : Nat
  /-- A fall-back has named another slot and no boot has followed yet; a verification has failed at boot. -/
  fallDue : Bool
  verFail : Bool
  /-- FOLIO_WRITE requests that wait for the transfer header or for the end of a power-fail flush (R572, R575). -/
  folioQ : List Request
  /-- The 60-minute warning has been raised. -/
  warned : Bool
  /-- A reset follows the deadline's record in 1 ms. -/
  deadline : Bool
  /-- A SW_RESET is scheduled. -/
  swReset : Bool
  /-- A flush runs (R612), and the reset that it holds off (R613). -/
  flush : Bool
  heldReset : Option ResetCause
  /-- RST_N is low; the supplies are in range; a brown-out waits for their return. -/
  rstLow : Bool
  supplies : Bool
  brown : Bool
  /-- A thermal trip is to be marked in the Logbook at the next boot (R618). -/
  tripMark : Bool
  deriving DecidableEq, Repr

/-! ### Debug and test (R590 to R602) -/

/-- The data register that the TAP's instruction selects, and what the boundary register does to the pins. -/
inductive TapReg where
  | bypass | idcode | boundary
  deriving DecidableEq, Repr
inductive PinMode where
  | normal | extest | clamp | highz
  deriving DecidableEq, Repr

/-- Debug registers of a control processor (Table 21-5) and what the SDP has written to its memories since its halt. -/
structure CpDebug where
  halted : Bool
  cause : Nat
  haltReq : Bool
  bps : List Word
  wps : List (Word × Word)
  mem : Tab Nat Word
  deriving DecidableEq, Repr

/-- JTAG and the Serial Debug Port. -/
structure DebugSt where
  tap : TapReg
  pins : PinMode
  trst : Bool
  /-- Boundary register as preloaded or driven. -/
  boundary : List Bool
  locked : Bool
  scope : Nat
  expires : Nat
  challenge : List Word
  tokenFail : Bool
  parityErr : Bool
  checking : Bool
  /-- Words written to TOKEN_DATA, oldest first. -/
  words : List Word
  cps : List CpDebug
  /-- Answers of the SDP: ACK and read data, in order. -/
  acks : List (Nat × Option Word)
  deriving DecidableEq, Repr

end Sys2Proof.Machine
end

