-- ==== Sys2Proof/Machine/State.lean ====
section
/-! DEFINITION. State.lean: the state of the block, its reasons to stop, and the state after reset. -/
namespace Sys2Proof.Machine

/-- Why a step stops. -/
inductive Fault where
  /-- Raised by a command whose operand names a unit, lane, register or length that the block does not have.
  Safe: the spec gives the block no such unit, so no such command can reach it. -/
  | noSuchUnit
  deriving DecidableEq, Repr

/-- Why a command has no meaning. -/
inductive Refusal where
  /-- Raised by an arm of `exec` whose command has no meaning in the model yet. Safe: nothing is claimed of it. -/
  | notModelled (mnemonic : String)
  deriving DecidableEq, Repr

/-- The block. -/
structure State where
  dev : Dev
  time : TimeSt
  tdc : Tab Nat TdcCh
  pairs : Tab Nat TdcPairRun
  clk : ClkSt
  ports : Tab Nat PortRun
  feeds : Tab Nat FeedRun
  coarse : Tab Nat CoarseRun
  /-- Custom coefficient sets: dome and set, loaded entries (R156). -/
  coefSets : Tab (Nat × Nat) (List Int)
  zooms : Tab (Nat × Nat) ZoomRun
  sks : Tab (Nat × Nat) SkRun
  instrs : Tab (Nat × Nat) InstrRun
  masks : Tab (Nat × Nat) MaskRun
  plates : Tab (Nat × Nat) PlateRun
  streams : Tab (Nat × Nat) StreamRun
  flows : Tab (Nat × Nat) FlowRun
  apertures : Tab Nat ApertureRun
  /-- The Sextants by physical tile (R345); a tile not listed stands at `Sextant.reset`. -/
  sextants : Tab Nat Sextant
  adc : AdcSt
  dacs : Tab Nat DacRun
  eye : EyeSt
  hbm : HbmSt
  /-- Work items shed in the running device tick: dome, kind of unit, number of the instrument, window or SK definition, logical tile (R45). -/
  sheds : List (Nat × WorkUnit × Nat × Nat)
  /-- Samples computed in the running device tick, with the device tick in which their readers take them. -/
  handoff : List (Nat × Handoff)
  /-- Records formed in the running device tick. -/
  made : List Made
  /-- Samples that readers have taken already, for as long as an instrument that is placed later may still need them (R192, R330). -/
  taken : List (Nat × Handoff)
  plan : Plan
  psets : List PSet
  /-- Admissions so far: order of the next set (R387). -/
  admits : Nat
  mbx : Tab Fn Mbx
  domes : Tab Nat DomeRun
  inflight : List InFlight
  /-- Requests fetched and not decided: in HALTED (R388) or behind a FENCE (R387). -/
  held : List (Op × Request)
  /-- STREAM_DEFINE requests whose next-hop address is being resolved (R308). -/
  resolving : List (Op × Request)
  /-- CAPTURE_READ requests whose data is in a stream (R299). -/
  capReads : List CapRead
  hostPorts : List HostPort
  router : RouterSt
  log : LogSt
  meter : MeterSt
  regs : RegSt
  dma : Tab (Fn × Nat) DmaCh
  out : Outbox
  care : CareSt
  boot : BootSt
  dbg : DebugSt
  /-- Draws of free values so far: a field of the model's own (Config.freeNat, Config.freeInt). -/
  free : Nat
  /-- Commands that wait, first in, first out. -/
  pending : List Instr
  deriving DecidableEq, Repr

/-- MBX registers at reset (Table 15-7). -/
def Mbx.reset : Mbx :=
  { enable := false, vector := 0, rqBase := 0, rqSize := 4, rqTail := 0, rqHead := 0, cqBase := 0, cqSize := 7, cqHead := 0,
    cqTail := 0, phase := true, cqUsed := 0, tailRange := false, ringWrite := false, fetchErr := false, lost := 0, turn := false }

/-- A dome number at boot: generation 1, nothing staged (R427). -/
def DomeRun.reset : DomeRun := { gen := 1, cfgGen := 0, staged := [], drain := none }

/-- An output ADPLL at reset: OUTn_STATUS reads 0 (R84). -/
def ClkOut.reset : ClkOut :=
  { fbLo := 0, band := 0, lock := false, search := false, clamp := false, muted := false, coast := false, fmtMute := false }

/-- EVT registers at reset (Table 15-10). -/
def EvtRegs.reset : EvtRegs := { pend := 0, mask := 0, ovr := 0 }

/-- A DMA channel at reset (Table 15-9). -/
def DmaCh.reset : DmaCh :=
  { src := 0, dst := 0, count := 0, ctrl := 0, next := 0, done := 0, descs := 0, busy := false, halted := false, doneF := false,
    err := false, wrBusy := false, stop := false, retries := 0, code := 0, retry := false, gen := 0, fetch := false }

/-- COMMIT window at reset (Table 15-8). -/
def CommitWin.reset : CommitWin := { etsn := 0, busy := false, lost := false, status := 0, detail := 0, tsn := 0, cfgGen := 0 }

/-- A TDC channel at reset; s and o hold their nominal values 128 and 0 (DESIGN CHOICE, log entry 3). -/
def TdcCh.reset : TdcCh :=
  { lastS := 128, lastO := 0, missed := 0, overrun := false, blind := false, fifo := [], fifoLost := 0, seq := 0 }

/-- A TDC pair before its first edge. -/
def TdcPairRun.reset : TdcPairRun := { lastA := none, diffs := [], flags := 0, unpaired := 0, reports := [] }

/-- Counts of a channel at reset. -/
def ChanCnt.reset : ChanCnt :=
  { events := 0, merged := 0, suppressed := 0, ovrHost := 0, ovrSextant := 0, ovrTdc := 0, ovrCapture := 0, ovrPin := 0 }

/-- A LUT cell at reset. -/
def CellRun.reset : CellRun :=
  { at0 := 0, ends := [0, 0, 0, 0], look := false, stored := false, out := false, diff := 0 }

/-- An EV pin at reset. -/
def PinRun.reset : PinRun := { level := false, filt := false, edge := 0, pulse := none, ovr := 0 }

/-- A receiving lane at reset (R97). -/
def LaneRun.reset : LaneRun :=
  { st := .down, good := 0, bad := 0, seq := none, hcrcNow := false, fecNow := false, hcrcPrev := false, fecPrev := false, prbs := none, txSeq := 0 }

/-- A port before its link is up. -/
def PortRun.reset : PortRun :=
  { linkUp := false, lanes := List.replicate 32 LaneRun.reset, cnt := [], mgmt := [], agentQ := [], agentSec := 0, agentUsed := 0,
    ctlSec := 0, ctlUsed := 0, rxerr := false }

/-- Conditioning of one output before its first tick. -/
def CondRun.reset : CondRun :=
  { mixed := [], decim := [], cnt := { validOut := 0, dlyRange := 0, dlyExtrap := 0, dlyRecords := 0, coefSwaps := 0, condPoison := 0 } }

/-- A feed before its definition. -/
def FeedRun.reset : FeedRun :=
  { rings := [], cond := [], condNext := 0, ncoFrom := 0, ncoPhase := 0, input := [], subs := [], active := [], staged := [], regions := [], swap := none, delay := none,
    delayQ := [], outs := [], raws := [], firstTick := 0, pkts := 0, valid := 0, clip := 0, missing := 0, latePkts := 0, earlyPkts := 0, dupPkts := 0,
    invalidPkts := 0, landPoison := 0, clipTicks := 0, arrMin := 0, arrMax := 0, runArr := none }

/-- HBM after reset: nothing allocated, every byte 0 (R418, R489). -/
def HbmSt.reset : HbmSt :=
  { mem := [], poison := [], pages := [], retired := [], copying := [], due := [], ceCount := [], lost := [], failed := [], asleep := [],
    panic := [], listed := [], postponed := [], scrubAt := [], errors := [], cnt := [], staged := [] }

/-- A coarse channeliser before its definition. -/
def CoarseRun.reset : CoarseRun := { settings := [], hist := [], frames := 0, validCh := 0, pfbOvf := 0 }

/-- A zoom window at its definition. -/
def ZoomRun.reset : ZoomRun := { inq := [], hist := [], fineFrames := 0, validFine := 0, zoomOvf := 0, zoomPoison := 0 }

/-- An SK unit at its definition. -/
def SkRun.reset : SkRun :=
  { settings := [], f0 := 0, at0 := 0, frames := [], closeAt := none, held := [], blanks := [], blocks := 0, high := 0, low := 0,
    untested := 0, blanked := 0, records := [] }

/-- An empty accumulator: MIN starts at 2^35 - 1 (R186). -/
def Acc.reset : Acc := { v := 0, sumP := 0, peak := 0, min := 2 ^ 35 - 1, samp := 0, yy := 0, re := 0, im := 0 }

/-- A RECORDER before its effective tick. -/
def CapRun.reset : CapRun :=
  { phase := .arming, arm := 0, seg := 0, levels := List.replicate 8 0, arriving := [], queue := [], decided := 0, cand := none, resume := 0,
    holdPos := 0, holdN := 0, holdSkipped := 0, acc := none, units := [], lastUnit := -1, lateUnit := none, freedAt := 0, recs := [], seq := 0, gapFrom := none }

/-- A LOOPBACK before its first tick. -/
def LoopRun.reset : LoopRun := { seq := 0, sent := 0, got := 0, errs := 0, lost := 0, from0 := 0 }

/-- An instrument at its definition. -/
def InstrRun.reset : InstrRun :=
  { inq := [], gainA := [], gainB := [], gainSwap := none, wgtA := [], wgtB := [], wgtSwap := none, clipCh := [], seq := 0, bank := none,
    sub := none, closed := [], subs := [], corr := none, await := false, group := [], rings := [], shedAt := [], persists := false, cands := [], cap := CapRun.reset, loop := LoopRun.reset, cnt := [] }

/-- A mask at its definition. -/
def MaskRun.reset : MaskRun :=
  { bankA := [], bankB := [], swap := none, second := false, armed := true, lastFrame := 0, state := 0, runFirst := 0, runLen := 0, runFlags := 0,
    prevState := 0, prevLen := 0, trigSeq := 0, hist := [], window := 0, ring := none, framesIn := 0, framesOut := 0, framesNone := 0,
    triggers := 0, limited := 0, drop := 0, winLost := 0, swClip := 0 }

/-- A Plate at its definition: cleared. -/
def PlateRun.reset : PlateRun :=
  { counts := [], u := 1, decayDue := false, decays := 0, snapDue := false, first := none, last := 0, frames := 0, skipped := 0, valid := 0, flags := 0, shed := 0,
    snapSeq := 0, clear := none, ring := none, increments := 0, plSkipped := 0, invalid := 0, sat := 0, below := 0, above := 0,
    snapshots := 0, snapDrop := 0 }

/-- A stream at its definition. -/
def StreamRun.reset : StreamRun :=
  { inbox := [], go := [], goOld := 0, spill := [], tokens := 0, mac := 0, resolved := false, psn := 0, wofs := 0, unacked := [], error := false, filled := 0,
    consumed := 0, immTicks := 0, full := true, vdif := [], pkts := 0, bytes := 0, pktDrop := 0, byteDrop := 0, spillPoison := 0, spillPeak := 0, arpFail := 0,
    retx := 0, timeouts := 0, cnpRx := 0, roceUnsup := 0, noticed := false }

/-- An aperture at its creation. -/
def ApertureRun.reset : ApertureRun :=
  { members := [], preparing := [], holding := [], cmdId := 0, leadLost := false, adopting := none, configs := [], reads := [], links := [], outq := [],
    exclusions := 0, rejoins := 0, aborts := 0 }

/-- A Sextant after a scrub: every register and memory 0, no lease (R347, Table 12-2). -/
def Sextant.reset : Sextant :=
  { lease := none, v := List.replicate 32 0, ac := List.replicate 8 0, acNow := List.replicate 8 0, x := List.replicate 32 0,
    ix := List.replicate 8 0, md := List.replicate 8 0, len := List.replicate 8 0, base := List.replicate 8 0, flags := 0, ipc := 0, iflags := 0,
    imask := 0, ipend := 0, ivec := 0, lc := List.replicate 3 0, ls := List.replicate 3 0, le := List.replicate 3 0, waitst := 0,
    timers := List.replicate 4 { cnt := 0, rld := 0, ctl := 0 }, cycle := 0, tick := 0, itemst := 0, run := .idle, pc := 0, jumps := [],
    pipe := [], now := 0, inTick := 0, prog := [], data := [], queue := [], overrun := false, image := none, staged := [], scrub := false,
    incoming := [], swap := none, param := none, ready := 0, nextSt := 0, item := none, due := [], done := [], itemSeq := 0, stale := false,
    fault := none, aborted := [], items := 0, shedItems := 0, stalls := 0, faults := 0, lost := 0, lastFault := (0, 0), maxCycle := 0,
    halted := false, cause := 0, haltReq := false, stepping := false, stalled := false, bps := List.replicate 4 0, wps := List.replicate 2 (0, 0) }

/-- The ADC at reset: no sequence, unit factors until the calibration at boot (R535; log entry 25). -/
def AdcSt.reset : AdcSt :=
  { cfg := none, gain := 2 ^ 15, offset := 0, cal := 0, calDue := false, seq := none, down := true, results := [], sequences := 0, missed := 0, last := [] }

/-- A DAC at reset: code 0, empty queue (R540). -/
def DacRun.reset : DacRun :=
  { code := 0, queue := [], pos := 0, left := 0, playing := false, ending := false, waiting := [], sc := false, scNow := false, stale := false,
    qDrop := 0, played := 0, emptyTime := 0 }

/-- The Eyepiece at reset: palette 0, tables T[i] = i (R550, R551). -/
def EyeSt.reset : EyeSt :=
  { hpd := false, trained := false, training := false, video := false, frames := 0, underrun := 0, trainFail := 0, edid := [],
    palette := List.replicate 256 0, tables := List.replicate 4 ((List.range 255).map (· + 1)), latched := List.replicate 4 none,
    rects := List.replicate 8 (0, 0), dirty := false }

/-- CLOCK_OUTPUT record at reset: OUTPUT, ENABLE, FMT, SRC, ODIV, FB, DRIVE, LVCMOS_N, FMAX_KHZ (R84). -/
def clkOutBlock (n : Nat) : Block := [.num n, .num 0, .num 0, .num 0, .num 4, .num 0, .num 0, .num 0, .num 0]

/-- Reserve tiles: the last physical tile of each sector (Table 18-1). -/
def reserveTile (sector : Nat) : Nat := 17 * sector + 16

/-- A physical tile at reset: active, or the reserve of its sector. -/
def tileHealth0 (t : Nat) : TileHealth :=
  { st := if t % 17 = 16 then .reserve else .active, degr := [], temp := 0, spares := [], rowCe := [], dueRows := [], ue := 0, changed := 0 }

/-- Health and reserves at reset: every tile as built, S0 active, S2 standby, S1 and S3 dormant (R18), an empty Ephemeris, core rails at
0.750 V (R608). -/
def CareSt.reset : CareSt :=
  { tiles := (List.range 68).map tileHealth0, supply := [0, 0, 0, 0], swaps := [], waits := [], pfbTest := [], dead := [], coefBad := [],
    cps := [.active, .dormant, .standby, .dormant], takeover := false, took := false, beat := 0, figs := [], cals := [],
    halves := [[], []], half := 0, ephSeq := 0, ephBad := 0, therm := false, tripped := false,
    vcore := [75000, 75000, 75000, 75000], vfault := [false, false, false, false] }

/-- Boot and update at reset: the flash as it leaves the factory, slot A CONFIRMED with release 1.2 and slot B EMPTY (R562), settings at their
defaults in slot A's half. -/
def BootSt.reset : BootSt :=
  { flash := 0, ctl := some { seq := 1, active := 0, states := [.confirmed, .empty], tries := 0, releases := [0x00010200, 0], confirmBy := 0,
                              cause := 0, defaults := false, cfails := 0 },
    slots := [{ factory := true, folios := [] }, { factory := false, folios := [] }], running := none, fellBack := false, lastReset := .power,
    xfer := none, opening := none, dup := 0, crcErr := 0, notMirrored := 0, causePart := 0, mode := 0, defaulted := false,
    sets := [some { format := 2, seq := 1, masks := [], meter := (60, 0) }, none], floor := 0, revoked := 0, hand := none, hours := 24, fallDue := false, verFail := false, folioQ := [],
    warned := false,
    deadline := false, swReset := false, flush := false, heldReset := none, rstLow := true, supplies := true, brown := false, tripMark := false }

/-- A control processor that runs. -/
def CpDebug.reset : CpDebug :=
  { halted := false, cause := 0, haltReq := false, bps := List.replicate 4 0, wps := List.replicate 2 (0, 0), mem := [] }

/-- The debug ports at reset: the TAP in Test-Logic-Reset with IDCODE selected, the SDP locked (R590, R597). -/
def DebugSt.reset : DebugSt :=
  { tap := .idcode, pins := .normal, trst := false, boundary := [], locked := true, scope := 0, expires := 0, challenge := [0, 0, 0, 0],
    tokenFail := false, parityErr := false, checking := false, words := [], cps := List.replicate 4 CpDebug.reset, acks := [] }

/-- Default masks of the address mapping (Table 17-1). -/
def hbmMasks : List Nat :=
  [0x004020100, 0x008040200, 0x010080400, 0x020100800, 0x040201000, 0x080402000, 0x100804000, 0x201008000, 0x402010000]

/-- HBM_CONFIG record of a stack at its defaults: STACK, SR_IDLE_US, PANIC_HI and PANIC_LO of four ports, CE_THRESH, SCRUB_HOURS, nine masks
(Table 17-5). -/
def hbmConfigBlock0 (h : Nat) : Block :=
  (([h, 1000, 8, 4, 8, 4, 10, 4, 12, 6, 8, 24] : List Nat) ++ hbmMasks).map (fun (n : Nat) => PV.num (n : Int))

/-- The committed configuration at reset: M = 12,800 (R36), every lane enabled (LANE_EN), the clock block's reset values (R84), and the defaults of the
device settings that are always in force: HBM_CONFIG of each stack (Table 17-5) and METER_CONFIG (R432). -/
def Plan.reset : Plan :=
  { m := 12800, laneEn := List.replicate 4 (BitVec.ofNat 32 0xFFFFFFFF),
    recs := [⟨.clockCore, devDome, 0, [.num 0, .num 0]⟩, ⟨.clockOutput, devDome, 0, clkOutBlock 0⟩, ⟨.clockOutput, devDome, 1, clkOutBlock 1⟩,
             ⟨.clockOutput, devDome, 2, clkOutBlock 2⟩, ⟨.clockOutput, devDome, 3, clkOutBlock 3⟩] ++
            (List.range 8).map (fun h => ⟨.hbmConfig, devDome, h, hbmConfigBlock0 h⟩) ++ [⟨.meterConfig, devDome, 0, [.num 60, .num 0]⟩],
    places := [] }

/-- The machine right after reset: RST_N asserted or supplies just applied, so the device is in COLD (R27, R28). -/
def State.reset : State :=
  { dev := { st := .cold, left := .cold, withdrawn := false, goneTiles := [],
             tileMap := (List.range 64).map (fun l => 17 * (l / 16) + l % 16), stale := [] },
    time := { tick64 := 0, len := 12800, grid := 0, ppsGrid := none, house := 0, slew := 0, unsynced := true, ageing := 0, ageingStored := 0, houseCheckpoint := 0,
              sciSet := false, epoch := 0, phase := 0, phaseRange := false, refValid := false, holdover := false, holdTick := false, holdTicks := [],
              reacquired := false, ppsFault := false, trims := [], relock := (0, 0) },
    tdc := [], pairs := [],
    clk := { coreLock := false, quartz := false, coast := false, coreWord := 0, refOffset := 0, sticky := 0, posted := none, postedDue := false,
             outs := List.replicate 4 ClkOut.reset },
    ports := [], feeds := [], coarse := [], coefSets := [], zooms := [], sks := [], instrs := [], masks := [], plates := [], streams := [],
    flows := [], apertures := [], sextants := [], adc := AdcSt.reset, dacs := [], eye := EyeSt.reset, hbm := HbmSt.reset, sheds := [], handoff := [], made := [], taken := [],
    plan := Plan.reset, psets := [], admits := 0, mbx := [], domes := [], inflight := [], held := [], resolving := [], capReads := [],
    hostPorts := List.replicate 4 { linkUp := false, perst := true, vfEnable := false },
    router := { cycle := 0, queue := [], window := [], windowLeft := 1, noticed := [], ownerRecs := [], chans := [], regs := [], cells := [],
                pins := [], pubRefused := [], msixTable := [], msixMask := [], msixPend := [], quiesced := 0 },
    log := { seq := 0, ram := [], ramPrev := 0, ramLost := 0, flash := [], flashLost := 0 },
    meter := { running := false, opens := [], seqs := [], closed := [], ring := [], ringLost := 0, checkpoints := [], nextMin := 60,
               powerFail := false, stepped := false },
    regs := { armed := false, failCount := 0, idxAddr := 0, idxStat := 0, idxLatch := none, sh := [], taken := [], commits := [], crcRef := 0,
              crcActive := 0, crcRun := 0, mismatch := false, voteFix := false, voteFail := false, misSegment := 0, misIndex := 0,
              upset := [], fixes := 0, fails := 0, copies := [], latches := [] },
    dma := [],
    out := { completions := [], msix := [], reads := [], frames := [], hostWrites := [], raised := [] },
    care := CareSt.reset, boot := BootSt.reset, dbg := DebugSt.reset, free := 0, pending := [] }

end Sys2Proof.Machine
end

