-- ==== Sys2Proof/Machine/Ops.lean ====
section
/-! DEFINITION. Ops.lean: the named operations every command shares: times, Logbook entries, event sources, notices,
completions, violations, and the free values. -/
namespace Sys2Proof.Machine

/-! ### Time -/

/-- Time units of `TimeSt` in one femtosecond: 2^33. -/
def uFs : Nat := 8589934592
/-- Time units in 2^-48 s: 5^15. -/
def uCt : Nat := 30517578125
/-- Time units in one second. -/
def uSec : Nat := uCt * 2 ^ 48
/-- A millisecond. -/
def uMs : Nat := 1000000000000 * uFs
/-- Time units in one grid period of 6.4 ns (R36). -/
def uGrid : Nat := 6400000 * uFs

/-- Tick period P = M grid periods, in time units (R36). -/
def Plan.period (p : Plan) : Nat := p.m * uGrid

/-- CT96 of a time: seconds * 2^48 + fraction, convergent (R48, R65). -/
def ct96 (t : Int) : Nat := (rne t uCt).toNat
/-- CT64 of a CT96 value: fraction[47:16] and seconds[31:0], truncated (R49). -/
def ct64 (c : Nat) : Nat := bits c 47 16 + 2 ^ 32 * bits c 79 48
/-- Serial comparison of CT64 values (R50): is `a` earlier than `b`? -/
def ct64Earlier (a b : Nat) : Bool := let d := (b + 2 ^ 64 - a % 2 ^ 64) % 2 ^ 64; decide (1 ≤ d) && decide (d < 2 ^ 63)
/-- A CT64 value so many seconds later. -/
def ct64Add (c secs : Nat) : Nat := (c + secs * 2 ^ 32) % 2 ^ 64
/-- Full seconds of a CT64 value, from the seconds of the present time (R50). -/
def ct64Seconds (c nowSec : Nat) : Nat :=
  let x : Int := (nowSec / 2 ^ 32 * 2 ^ 32 + c / 2 ^ 32 % 2 ^ 32 : Nat)
  let x := if 0x7FFFFFFF < x - nowSec then x - 2 ^ 32 else x
  (if x - nowSec < -0x80000000 then x + 2 ^ 32 else x).toNat
/-- What house time gains over the running tick: its length by the grid, slewed by at most 100 ppm (R53). -/
def slewOf (s : State) : Int := let lim : Int := (s.time.len * uGrid / 10000 : Nat); clampInt (-lim) lim s.time.slew
/-- House time that the running tick takes (R51, R53). -/
def houseStep (s : State) : Nat := ((s.time.len * uGrid : Nat) + slewOf s).toNat
/-- House time as CT64. -/
def houseCt64 (s : State) : Nat := ct64 (ct96 s.time.house)
/-- 12 little-endian bytes of a CT96 value (Table 2-4). -/
def ct96Le (c : Nat) : List Byte := leBytes 6 (c % 2 ^ 48) ++ leBytes 6 (c / 2 ^ 48)
/-- A CT96 value as streams and network headers carry it: the byte reversal (R48). -/
def ct96Be (c : Nat) : List Byte := (ct96Le c).reverse
/-- Science time of the start of a tick: E + n P + tick phase (R58, R59). -/
def sciOfTick (s : State) (n : Nat) : Int := s.time.epoch + (n * s.plan.period : Nat) + s.time.phase * uFs
/-- Nominal science time of a tick: E + n P (R58), with E and P of the ticks before the last change of M for those ticks (R38). -/
def nominalOfTick (s : State) (n : Int) : Int :=
  match s.plan.mOld with
  | some (e, m) => if n < e then s.time.epoch + e * s.plan.period - (e - n) * (m * uGrid : Nat) else s.time.epoch + n * s.plan.period
  | none => s.time.epoch + n * s.plan.period
/-- TSN: TICK64[31:0] (R39). -/
def tsnOf (tick : Nat) : Nat := tick % 2 ^ 32

/-- Do ticks run in this state, or in the state left by a halt (R27, R30)? -/
def DevState.runs : DevState → Bool
  | .calibrate | .service | .degraded | .maintenance => true
  | _ => false
/-- The state that governs the datapath: the state left, in HALTED (R30). -/
def Dev.eff (d : Dev) : DevState := if d.st = .halted then d.left else d.st
/-- Do the Meridian ticks run? -/
def ticking (s : State) : Bool := s.dev.eff.runs

/-- Is a dome's work suspended: in MAINTENANCE all domes but D0 (R27)? -/
def suspended (s : State) (d : Nat) : Bool := s.dev.eff == .maintenance && d != 0

/-- Serial comparison of TSNs (R40): is `a` earlier than `b`? -/
def tsnEarlier (a b : Nat) : Bool := let d := (b + 2 ^ 32 - a % 2 ^ 32) % 2 ^ 32; decide (1 ≤ d) && decide (d ≤ 2 ^ 31 - 1)
/-- Are two TSNs incomparable (R40)? -/
def tsnIncomparable (a b : Nat) : Bool := (b + 2 ^ 32 - a % 2 ^ 32) % 2 ^ 32 == 2 ^ 31
/-- The tick nearest to `now` that carries a TSN (R40). -/
def tickOfTsn (now t : Nat) : Int :=
  let d : Nat := (t + 2 ^ 32 - now % 2 ^ 32) % 2 ^ 32
  if d < 2 ^ 31 then (now : Int) + d else (now : Int) + d - 2 ^ 32

/-! ### Free values -/

/-- Draw a natural number that the spec leaves open. -/
def drawNat (s : State) : Nat × State := (Config.freeNat s.free, { s with free := s.free + 1 })
/-- Draw an integer that the spec leaves open. -/
def drawInt (s : State) : Int × State := (Config.freeInt s.free, { s with free := s.free + 1 })

/-! ### Functions and domes -/

/-- PF0 of HP0: the owner (R409). -/
def ownerFn : Fn := ⟨0, 0⟩
/-- Is this PF0 of a host port other than HP0, whose mailbox serves an operator (R378)? -/
def Fn.isOperator (f : Fn) : Bool := f.vf == 0 && f.port != 0
/-- Binding of a dome: its function (R410, R412). -/
def Plan.binding (p : Plan) (d : Nat) : Option Fn :=
  if d = 0 then some ownerFn
  else (p.find .domeCreate devDome d).map (fun b => ⟨b.nat 1, b.nat 2 + 1⟩)
/-- The dome bound to a function (R378, R410). -/
def Plan.domeOf (p : Plan) (f : Fn) : Option Nat :=
  if f.vf = 0 then (if f.port = 0 then some 0 else none)
  else ((p.objs .domeCreate).find? (fun e => e.2.2.nat 1 == f.port && e.2.2.nat 2 + 1 == f.vf)).map (fun e => e.2.1)
/-- Does the dome number exist? -/
def Plan.domeExists (p : Plan) (d : Nat) : Bool := d == 0 || p.has .domeCreate devDome d
/-- A dome's run-time state; numbers never used stand at their boot values (R427). -/
def domeRun (s : State) (d : Nat) : DomeRun := tgetD s.domes d DomeRun.reset
/-- Change a dome's run-time state. -/
def onDome (s : State) (d : Nat) (f : DomeRun → DomeRun) : State := { s with domes := tmod s.domes d DomeRun.reset f }
/-- Current generation of a dome (R392). -/
def genOf (s : State) (d : Nat) : Nat := (domeRun s d).gen
/-- A function's mailbox registers. -/
def mbxOf (s : State) (f : Fn) : Mbx := tgetD s.mbx f Mbx.reset
/-- Change a function's mailbox registers. -/
def onMbx (s : State) (f : Fn) (g : Mbx → Mbx) : State := { s with mbx := tmod s.mbx f Mbx.reset g }
/-- HOST_PORT byte of a Logbook entry (Table 14-8). -/
def fnPort : Option Fn → Nat | some f => f.port | none => 0xFF
/-- FUNCTION byte of a Logbook entry. -/
def fnFunc : Option Fn → Nat | some f => f.vf | none => 0xFF

/-- Slots of a dome's grant (Table 14-3), if the owner has granted it. -/
def Plan.grant (p : Plan) (d g : Nat) : Option Block := p.find .domeGrant d g
/-- Is bit `k` set in a grant given as 64-bit mask slots from slot 2 on? D0 has no grants (R414). -/
def Plan.grantBit (p : Plan) (d g k : Nat) : Bool :=
  if d = 0 then true
  else match p.grant d g with
    | some b => (b.nat (2 + k / 64)).testBit (k % 64)
    | none => false
/-- Is a feed in a dome's visibility mask (R22)? -/
def Plan.sees (p : Plan) (d feed : Nat) : Bool := p.grantBit d 0 feed
/-- Does a dome's EVENTS grant hold a channel? -/
def Plan.holdsChan (p : Plan) (d c : Nat) : Bool := p.grantBit d 6 c

/-! ### Event router: raising and publishing (R468, R471, R478) -/

/-- The producing object of a numbered source's event (R471). -/
inductive Origin where
  | device
  | dome (d : Nat)
  | feed (f : Nat)
  deriving DecidableEq, Repr

/-- A cause ID: kind in bits 15:10, object in bits 9:0 (R478). -/
def causeId (kind obj : Nat) : Nat := kind * 1024 + obj % 1024

/-- Sources that are never suppressed (R478). -/
def neverSuppressed (src : Nat) : Bool :=
  src == 1188 || src == 1189 || (decide (1168 ≤ src) && decide (src ≤ 1183)) || (decide (1368 ≤ src) && decide (src ≤ 1495))

/-- Change a channel's counts. -/
def onChan (s : State) (c : Nat) (f : ChanCnt → ChanCnt) : State :=
  { s with router := { s.router with chans := tmod s.router.chans c ChanCnt.reset f } }

/-- Consumers of a channel in a plan (Table 16-3): hosts that see it, Sextants that subscribe, RECORDERs of domes that hold it, output pins, clocked cells. -/
def consumersOf (p : Plan) (c : Nat) : List Consumer :=
  [.host ownerFn] ++
  ((p.objs .domeCreate).filter (fun e => p.holdsChan e.2.1 c)).map (fun e => .host ⟨e.2.2.nat 1, e.2.2.nat 2 + 1⟩) ++
  ((p.objs .sextantEvents).filter (fun e => (e.2.2.nats 1).contains c)).map (fun e => .sextant e.1 e.2.1) ++
  ((p.objs .instrDefine).filter (fun e => e.2.2.is 0 8 && p.holdsChan e.1 c)).map (fun e => .capture e.1 e.2.1) ++
  (p.objs .lutConfig).flatMap (fun e =>
    let b := e.2.2
    if 384 ≤ e.2.1 ∧ e.2.1 < 400 then (if b.is 2 2 && b.at 3 == .num c then [.pin (e.2.1 - 384)] else [])
    else if 256 ≤ e.2.1 ∧ e.2.1 < 384 then
      (if b.is 3 0 then ((List.range 4).filter (fun i => b.at (4 + i) == .num c)).map (fun i => .cell (e.2.1 - 256) i) else [])
    else [])

/-- Publish one event on a channel in a core cycle; it is delivered in cycle `due` (R470). -/
def publishAt (s : State) (cycle due chan rank cause dome : Nat) : State :=
  { s with router := { s.router with queue := s.router.queue ++ [⟨chan, cycle, due, rank, cause, dome, genOf s dome, consumersOf s.plan chan⟩] } }

/-- Publish one event on a channel in the present cycle (R470). -/
def publish (s : State) (chan rank cause dome : Nat) : State := publishAt s s.router.cycle (s.router.cycle + 16) chan rank cause dome

/-- Does a route of dome `d` carry a source's event (R471, R483)? -/
def routeSees (p : Plan) (d src : Nat) (o : Origin) : Bool :=
  if src < 816 then
    match o with
    | .dome x => x == d
    | .feed f => d == 0 || p.sees d f
    | .device => d == 0
  else if 1208 ≤ src ∧ src ≤ 1218 then (match o with | .dome x => x == d | _ => false)
  else d == 0

/-- Channels that the routes give a source's event (R471): EVENT_ROUTE blocks are ACTION, SOURCE, CHANNEL, CAUSE. -/
def routesOf (p : Plan) (src cause : Nat) (o : Origin) : List Nat :=
  ((p.objs .eventRoute).filter (fun e => e.2.2.nat 1 == src && routeSees p e.1 src o &&
    (match e.2.2.word? 3 with | some _ => true | none => e.2.2.nat 3 == cause / 1024))).map (fun e => e.2.2.nat 2)

/-- Dome whose generation an origin's event carries. -/
def Origin.domeNo : Origin → Nat | .dome d => d | _ => devDome

/-- A numbered source raises an event, at most once per suppression window for each cause ID (R478). -/
def raise (s : State) (src cause : Nat) (o : Origin := .device) : State :=
  let chans := routesOf s.plan src cause o
  if !neverSuppressed src && s.router.window.contains (src, cause) then
    chans.foldl (fun s c => onChan s c (fun k => { k with suppressed := k.suppressed + 1 })) s
  else
    let rank := if 1368 ≤ src ∧ src ≤ 1495 then 1 else 2
    let s := { s with out := { s.out with raised := s.out.raised ++ [(src, cause)] },
                      router := { s.router with window := if neverSuppressed src then s.router.window else (src, cause) :: s.router.window } }
    chans.foldl (fun s c => publish s c rank cause o.domeNo) s

/-- Raise a source named by one event of Table 16-9: cause kind EVENT, object the offset in its group (Table 16-7). -/
def raiseEv (s : State) (src base : Nat) : State := raise s src (causeId 0x3F (src - base))

/-! ### Logbook (R428, R429) -/

/-- Bytes 0 to 59 of an entry (Table 14-8). -/
def LogEntry.body (e : LogEntry) : List Byte :=
  leBytes 8 e.seq ++ leBytes 8 e.time ++ leBytes 8 e.tick ++ leBytes 1 e.cls ++ leBytes 1 e.eflags ++ leBytes 2 e.typ ++
  leBytes 1 e.hostPort ++ leBytes 1 e.func ++ leBytes 2 e.dome ++ leBytes 2 e.gen ++ leBytes 2 e.tag ++ leBytes 1 e.status ++
  leBytes 1 0 ++ leBytes 2 e.rep ++ leBytes 4 e.cfgGen ++ leBytes 4 e.pcrc ++ leBytes 8 e.addr ++ leBytes 4 e.detail

/-- The 64 bytes of an entry. -/
def LogEntry.bytes (e : LogEntry) : List Byte := e.body ++ leBytes 4 e.chain

/-- CHAIN of an entry after a previous CHAIN (Table 14-8). -/
def LogEntry.chainAfter (e : LogEntry) (prev : Nat) : Nat := crc32c (e.body ++ leBytes 4 prev)

/-- Compute CHAIN anew along a run of entries. -/
def rechain (prev : Nat) : List LogEntry → List LogEntry
  | [] => []
  | e :: r => let c := e.chainAfter prev; { e with chain := c } :: rechain c r

/-- Entries of the RAM ring (R429). -/
def ramRing : Nat := 1048576
/-- Entries of the flash ring (R429). -/
def flashRing : Nat := 131072

/-- Opcodes whose CONFIG entries carry SECURITY (R429). -/
def securityOp (t : Nat) : Bool := [0x0601, 0x0602, 0x0603, 0x0605, 0x0609].contains t

/-- Does an entry carry SECURITY (R429)? -/
def securityClass (cls typ : Nat) : Bool := [1, 3, 4, 5, 6].contains cls || (cls == 0 && securityOp typ)

/-- What a Logbook entry is made from. -/
structure LogArgs where
  cls : Nat
  typ : Nat
  fn : Option Fn := none
  dome : Nat := 0xFFFF
  gen : Nat := 0
  tag : Nat := 0xFFFF
  status : Nat := 0
  cfgGen : Nat := 0
  pcrc : Nat := 0
  addr : Nat := 0
  detail : Nat := 0
  tick : Option Nat := none
  security : Bool := false

/-- Is an entry the same opcode, origin and tick (R428), so that it merges? -/
def LogEntry.same (e : LogEntry) (a : LogArgs) (tick : Nat) : Bool :=
  e.cls == a.cls && e.typ == a.typ && e.hostPort == fnPort a.fn && e.func == fnFunc a.fn && e.dome == a.dome && e.tick == tick

/-- Merge a repeat into the entries, newest last: raise REPEAT of the entry it repeats and chain again from there. -/
def mergeRepeat (p : LogEntry → Bool) : Nat → List LogEntry → List LogEntry
  | _, [] => []
  | prev, e :: r => if p e then rechain prev ({ e with rep := satAdd e.rep 1 65535 } :: r) else e :: mergeRepeat p e.chain r

/-- Make a Logbook entry, or merge it into an entry of the same opcode, origin and tick (R428). -/
def logAdd (s : State) (a : LogArgs) : State :=
  let tick := a.tick.getD s.time.tick64
  if s.log.ram.any (fun e => e.same a tick) then
    { s with log := { s.log with ram := mergeRepeat (fun e => e.same a tick) s.log.ramPrev s.log.ram } }
  else
    let prev := (s.log.ram.getLast?.map (fun e => e.chain)).getD s.log.ramPrev
    let e0 : LogEntry :=
      { seq := s.log.seq, time := houseCt64 s, tick := tick, cls := a.cls,
        eflags := b2n (a.security || securityClass a.cls a.typ) + 4 * b2n s.time.unsynced, typ := a.typ,
        hostPort := fnPort a.fn, func := fnFunc a.fn, dome := a.dome, gen := a.gen, tag := a.tag, status := a.status, rep := 0,
        cfgGen := a.cfgGen, pcrc := a.pcrc, addr := a.addr, detail := a.detail, chain := 0 }
    let e := { e0 with chain := e0.chainAfter prev }
    let full := decide (ramRing ≤ s.log.ram.length)
    let s := if full then raiseEv s 1350 1344 else s
    { s with log := { s.log with seq := s.log.seq + 1,
                                 ramPrev := if full then (s.log.ram.head?.map (fun e => e.chain)).getD 0 else s.log.ramPrev, ram := (if full then s.log.ram.drop 1 else s.log.ram) ++ [e],
                                 ramLost := s.log.ramLost + b2n full } }

/-- Send an MSI-X message on a vector of a function, or hold it pending while the vector is masked (R480, R481). -/
def sendMsix (s : State) (f : Fn) (v : Nat) : State :=
  if s.router.msixMask.contains (f, v) then
    { s with router := { s.router with msixPend := if s.router.msixPend.contains (f, v) then s.router.msixPend else (f, v) :: s.router.msixPend } }
  else { s with out := { s.out with msix := s.out.msix ++ [(f, v)] } }

/-! ### Completion ring (R381, R385, R397) -/

/-- Entries of a ring of log2 size `n`. -/
def ringEntries (n : Nat) : Nat := 2 ^ n
/-- Requests of a mailbox in flight (R382). -/
def inflightOf (s : State) (f : Fn) : List InFlight := s.inflight.filter (fun x => x.req.fn == f)
/-- Free completion entries of a mailbox (R382). PHASE tells a full ring from an empty one; a head written equal to the old head consumes nothing
(log entry 4). -/
def cqFree (s : State) (f : Fn) : Nat := ringEntries (mbxOf s f).cqSize - (mbxOf s f).cqUsed

/-- Configuration generation that a mailbox's completions carry. -/
def cfgGenOf (s : State) (f : Fn) : Nat := match s.plan.domeOf f with | some d => (domeRun s d).cfgGen | none => 0

/-- Write one entry at MBX_CQ_TAIL with the current PHASE, then send the ring's MSI-X message (R381). -/
def writeCq (s : State) (f : Fn) (tag status cflags opcode detail tsn result : Nat) (resp : List Byte) : State :=
  let m := mbxOf s f
  let entry : Completion :=
    { fn := f, index := m.cqTail, tag := tag, status := status, cflags := cflags + b2n m.phase, opcode := opcode, detail := detail,
      tsn := tsn, cfgGen := cfgGenOf s f, result := result, time := houseCt64 s, resp := resp }
  let wrap := decide (ringEntries m.cqSize ≤ m.cqTail + 1)
  let s := onMbx s f (fun m => { m with cqTail := if wrap then 0 else m.cqTail + 1, phase := if wrap then !m.phase else m.phase,
                                        cqUsed := m.cqUsed + 1 })
  sendMsix { s with out := { s.out with completions := s.out.completions ++ [entry] } } f m.vector

/-- The 32 bytes of a completion entry (Table 13-3). -/
def Completion.bytes (c : Completion) : List Byte :=
  leBytes 2 c.tag ++ leBytes 1 c.status ++ leBytes 1 c.cflags ++ leBytes 2 c.opcode ++ leBytes 2 c.detail ++ leBytes 4 c.tsn ++
  leBytes 4 c.cfgGen ++ leBytes 8 c.result ++ leBytes 8 c.time

/-- Write a notice if an entry that no in-flight request reserves is free, and otherwise count it lost (R397). -/
def writeNotice (s : State) (f : Fn) (typ status detail result : Nat) : State :=
  if !(mbxOf s f).enable then s
  else if (inflightOf s f).length < cqFree s f ∧ (mbxOf s f).lost = 0 then
    let s := writeCq s f 0xFFFF status 2 typ detail (tsnOf s.time.tick64) result []
    match s.plan.domeOf f with
    | some d => raise s 1217 (causeId 0x1C d) (.dome d)
    | none => s
  else onMbx s f (fun m => { m with lost := m.lost + 1 })

/-- A notice to a dome: at most one per type and cause in a suppression window (R397, R478). -/
def noticeDome (s : State) (d typ status cause obj : Nat) : State :=
  if s.router.noticed.contains (d, typ, cause) then s
  else
    match s.plan.binding d with
    | none => s
    | some f =>
      writeNotice { s with router := { s.router with noticed := (d, typ, cause) :: s.router.noticed } } f typ status cause (obj % 65536 + 2 ^ 32)

/-- A record to the owner: one per type and cause in a window, with the number of distinct reporters (R397, R478). -/
def noticeOwner (s : State) (typ status cause obj reporter : Nat) : State :=
  let rs := s.router.ownerRecs
  let upd := if rs.any (fun r => r.1 == typ && r.2.2.1 == cause) then
      rs.map (fun r => if r.1 == typ && r.2.2.1 == cause then
        (r.1, r.2.1, r.2.2.1, r.2.2.2.1, if r.2.2.2.2.contains reporter then r.2.2.2.2 else reporter :: r.2.2.2.2) else r)
    else rs ++ [(typ, status, cause, obj, [reporter])]
  { s with router := { s.router with ownerRecs := upd } }

/-- A notice at once to the owner (R397). -/
def noticeOwnerNow (s : State) (typ status cause result : Nat) : State := writeNotice s ownerFn typ status cause result

/-- A STATE notice to every served mailbox (Table 13-6). -/
def stateCode : DevState → Nat
  | .cold => 0 | .boot => 1 | .calibrate => 2 | .service => 3 | .degraded => 4 | .maintenance => 5 | .recovery => 6 | .halted => 7

/-- End of a suppression window: the owner's records are written and every cause may be raised again (R478). -/
def windowEnd (s : State) : State :=
  let s' := { s with router := { s.router with window := [], noticed := [], ownerRecs := [] } }
  s.router.ownerRecs.foldl (fun s r => noticeOwnerNow s r.1 r.2.1 r.2.2.1 (r.2.2.2.1 % 65536 + 2 ^ 32 * r.2.2.2.2.length)) s'

/-! ### Violations (R420, R421) -/

/-- Cause of a violation: its code and the function; the Logbook's TYPE is the code. -/
def violation (s : State) (code : Nat) (f : Fn) (addr : Nat) : State :=
  let d := (s.plan.domeOf f).getD 0xFFFF
  let s := logAdd s { cls := 1, typ := code, fn := some f, dome := d, gen := if d = 0xFFFF then 0 else genOf s d, status := 4, addr := addr }
  let s := noticeOwner s 0x8009 4 (causeId 0x20 code) code (f.port * 65 + f.vf)
  raise s 1348 (causeId 0x20 code)

/-! ### Device state changes (R28, Table 13-6) -/

/-- Enter a state: Logbook entry of class STATE and a STATE notice to all served mailboxes (R428). -/
def enterState (s : State) (d : DevState) : State :=
  let s := { s with dev := { s.dev with st := d } }
  let s := logAdd s { cls := 2, typ := stateCode d, security := false }
  (s.mbx.map (·.1)).foldl (fun s f => writeNotice s f 0x8007 0 0 (stateCode d + 2 ^ 32)) s

end Sys2Proof.Machine
end

