-- ==== Sys2Proof/Machine/Admit.lean ====
section
/-! DEFINITION. Admit.lean: the shape of an opcode's own rules: what admission checks, how a configuration command edits
the plan, what it does at its effective tick, and what an immediate command or query does. -/
namespace Sys2Proof.Machine

/-- What an opcode's rule sees: the state, the plan to be in force at the effective tick, and that tick. -/
structure Ctx where
  s : State
  plan : Plan
  e : Nat
  /-- The request that is decided, where there is one. -/
  q : Option Request := none
  /-- The commands of the set before this one, where a command is walked. -/
  prior : List Cmd := []
  /-- Instruments that pending sets of later ticks define: dome, number, record, and the plan after their set without and with the set decided (R391). -/
  late : List (Nat × Nat × Block × Plan × Plan) := []

/-- The rules of a kind C opcode, in the order of R399. `plan` of the context holds every earlier command of the set
in `names`, `busy`, `late` and `edit`, and the whole set in `verify` (R390). -/
structure CSpec where
  /-- NOSUCH and DENIED of objects. -/
  names : Ctx → Cmd → Option Reject := fun _ _ => none
  busy : Ctx → Cmd → Option Reject := fun _ _ => none
  /-- TIMEOUT under the opcode's own lead. -/
  late : Ctx → Cmd → Option Reject := fun _ _ => none
  /-- Effective tick of the command, where its rule moves it (R222). -/
  defer : Ctx → Cmd → Nat := fun c _ => c.e
  /-- The command with what admission chooses for it (AUTO numbers) filled in. -/
  resolve : Ctx → Cmd → Cmd := fun _ m => m
  edit : Ctx → Cmd → Plan → Plan := fun _ _ p => p
  /-- INCONSISTENT in the state after the whole set; the second plan is the one before the set. -/
  verify : Ctx → Plan → Cmd → Option Reject := fun _ _ _ => none
  result : Ctx → Cmd → Nat := fun _ _ => 0
  /-- Response of a command that is not staged. -/
  body : Ctx → Cmd → Option (List Byte) := fun _ _ => none
  /-- Effect at the effective tick beyond the plan; the plan before the change comes first. -/
  apply : Plan → Cmd → State → State := fun _ _ s => s

/-- Outcome of a decided request of kind Q, I, M or D: the state, RESULT, DETAIL and the response body. -/
structure Done where
  s : State
  result : Nat := 0
  detail : Nat := 0
  status : Status := .ok
  /-- The request has been taken in and completes later. -/
  later : Bool := false
  /-- Bits 63:32 of the response's length header (R433). -/
  high : Nat := 0
  /-- Response bytes after the 8-byte length header (R402); `none` where the opcode returns no data. -/
  body : Option (List Byte) := none

/-- The rule of an opcode of kind Q, I, M or D. -/
abbrev Act := Ctx → Cmd → Except Reject Done

/-- Rejections with a slot in DETAIL. -/
def rej (st : Status) (d : Nat) : Reject := { status := st, detail := d }
/-- Slot index of the first value of entry `k` of the list at position `i`: after the count slot and the entries before it (R400). -/
def entrySlot (b : Block) (i k : Nat) : Nat := slotOf b i + 1 + (((b.rows i).take k).map List.length).foldl (· + ·) 0

/-- The slot of the first entry of the list at position `i` that names something unknown; the list's own slot where none does (R398). -/
def badSlot (b : Block) (i : Nat) (bad : List Int → Bool) : Nat :=
  match (b.rows i).findIdx? bad with | some k => entrySlot b i k | none => slotOf b i

/-- NOSUCH naming a slot. -/
def noSuch (d : Nat) : Option Reject := some (rej .nosuch d)
/-- INCONSISTENT naming a slot. -/
def inconsistent (d : Nat) : Option Reject := some (rej .inconsistent d)
/-- FORMAT naming a slot. -/
def badFormat (d : Nat) : Option Reject := some (rej .format d)
/-- One entry of an admission report (R393). -/
def reportEntry (code unit tsn needed avail : Nat) : List Byte := leBytes 2 code ++ leBytes 2 unit ++ leBytes 4 tsn ++ leBytes 8 needed ++ leBytes 8 avail ++ leBytes 8 0
/-- BUDGET for one resource at tick `e`, with its report (R393). -/
def noBudget (e code unit needed avail : Nat) : Reject :=
  { status := .budget, detail := code, tsn := some (tsnOf e), resp := reportEntry code unit (tsnOf e) needed avail }
/-- A rejection when a condition holds. -/
def rejIf (c : Bool) (r : Reject) : Option Reject := if c then some r else none
/-- The first rejection of a list of checks. -/
def firstRej (l : List (Option Reject)) : Option Reject := (l.find? (·.isSome)).join

/-- Did the request set WITHDRAW (FLAGS bit 3, R384)? -/
def Cmd.withdraw (c : Cmd) : Bool := c.flags.testBit 3
/-- Did the request set APERTURE (FLAGS bit 4)? -/
def Cmd.aperture (c : Cmd) : Bool := c.flags.testBit 4
/-- Is the sender the owner? -/
def Cmd.byOwner (c : Cmd) : Bool := c.fn == ownerFn

/-- Is channel `c` unclocked (R469)? LUT_CONFIG records have INDEX c for channels, 256 + n for cells, 384 + p for pins, 400 for the router. -/
def Plan.unclocked (p : Plan) (c : Nat) : Bool :=
  match p.find .lutConfig devDome c with | some b => b.is 2 1 | none => false

/-- A DOME slot that defaults to the requester's own dome: a dome may name only itself (R404). -/
def domeSlot (c : Cmd) (i : Nat) : Nat := match c.block.at i with | .num d => d.toNat | _ => c.dome
/-- NOSUCH for a dome that names another dome, or for a dome that does not exist (R404, R412). -/
def domeSlotBad (p : Plan) (c : Cmd) (i : Nat) : Option Reject :=
  let d := domeSlot c i
  rejIf ((!c.byOwner && d != c.dome) || !p.domeExists d) (rej .nosuch i)

end Sys2Proof.Machine
end

