-- ==== Sys2Proof/Machine/Flags.lean ====
section
/-! DEFINITION. Flags.lean: the flag computations: the R10 flags of results and packets, TIME_FLAGS, and a Sextant's NZCV. -/
namespace Sys2Proof.Machine

/-- R10 flags of a packet from the flag bits of a tick record (Table 6-4, R160, R197, R314). The model's own bits 16 and 17 stand for
PARTIAL and STALE. -/
def r10Flags (f : Nat) : Nat :=
  b2n (f.testBit 0 || f.testBit 10 || f.testBit 12) + 2 * b2n (f.testBit 8) + 4 * b2n (f.testBit 11) + 8 * b2n (f.testBit 17) +
  16 * b2n (f.testBit 5) + 32 * b2n (f.testBit 16)

/-- R10 flags of a closed bank (R197). -/
def Bank.r10 (b : Bank) : Nat := r10Flags (if 0 < b.shed then b.flags ||| 2048 else b.flags)

/-- R10 flags of one part of a closed dump: the records of its inputs, and its own shed work and tile (R217). -/
def Bank.partR10 (b : Bank) (k : Nat) : Nat := r10Flags (b.flags ||| b.partFlags.getD k 0 ||| (if 0 < b.partShed.getD k 0 then 2048 else 0))

/-- TIME_FLAGS (R456). -/
def timeFlags (s : State) : Nat :=
  b2n s.time.holdover + 2 * b2n s.time.unsynced + 4 * b2n (!s.time.sciSet) + 16 * b2n s.time.ppsFault + 32 * b2n s.time.phaseRange

/-- FLAGS with NZCV of a comparison in bits 3:0 (R349): Z, N, C, V from bit 0. -/
def cmpFlags (a b : Word) : Word :=
  let d := a - b
  let z := b2n (d == 0)
  let n := b2n d.msb
  let v := b2n (a.msb != b.msb && d.msb != a.msb)
  BitVec.ofNat 32 (z + 2 * n + 4 * b2n (Config.cmpCarry a b) + 8 * v)

end Sys2Proof.Machine
end

