-- ==== Sys2Proof/Machine/Keep.lean ====
section
/-! DEFINITION. Keep.lean: what outlives a reset in the boot flash: Ephemeris records and settings (R522 to R524, R584, R585). -/
namespace Sys2Proof.Machine

/-- Change health, reserves and calibration. -/
def onCare (s : State) (f : CareSt → CareSt) : State := { s with care := f s.care }
/-- Change boot and update. -/
def onBoot (s : State) (f : BootSt → BootSt) : State := { s with boot := f s.boot }

/-! ### The Ephemeris -/

/-- Is a record type cumulative (R523)? -/
def ephCumulative (typ : Nat) : Bool := typ == 8 || typ == 9
/-- Bytes 0 to 27 of a record with ORIGIN = FIELD, and its payload (Table 18-4). -/
def EphRec.head (r : EphRec) : List Byte :=
  leBytes 2 0x4550 ++ leBytes 1 r.typ ++ leBytes 1 1 ++ leBytes 2 r.unit ++ leBytes 2 r.payload.length ++ leBytes 8 r.seq ++ leBytes 8 r.time ++ leBytes 1 1 ++ leBytes 3 0
/-- The bytes of a record. -/
def EphRec.bytes (r : EphRec) : List Byte := r.head ++ leBytes 4 (crc32 (r.head ++ r.payload)) ++ r.payload
/-- Bytes in a half. -/
def halfBytes (l : List EphRec) : Nat := l.foldl (fun n r => n + 32 + r.payload.length) 0
/-- Records that a copy to the other half takes: the newest of each TYPE and UNIT, and every cumulative one (R524). -/
def ephNewest (l : List EphRec) : List EphRec :=
  l.filter (fun r => r.typ != 0x0C && (ephCumulative r.typ || !(l.any (fun x => x.typ == r.typ && x.unit == r.unit && decide (r.seq < x.seq)))))

/-- Append a field record to the active half; past three quarters the newest records go to the other half, which a SEAL makes active (R524). -/
def ephWrite (s : State) (typ unit : Nat) (payload : List Byte) : State :=
  let c := s.care
  let r : EphRec := { typ := typ, unit := unit, seq := c.ephSeq, time := houseCt64 s, payload := payload }
  let l := c.halves.getD c.half [] ++ [r]
  if halfBytes l ≤ 98304 then onCare s (fun c => { c with halves := c.halves.set c.half l, ephSeq := c.ephSeq + 1 })
  else
    let keep := ephNewest l
    let other := 1 - c.half
    let mark : EphRec := { typ := 0x0C, unit := other, seq := c.ephSeq + 1, time := houseCt64 s, payload := leBytes 8 ((keep.getLast?.map (fun x => x.seq)).getD 0) }
    onCare s (fun c => { c with halves := (c.halves.set c.half l).set other (keep ++ [mark]), half := other, ephSeq := c.ephSeq + 2 })

/-- The active half. -/
def ephLive (s : State) : List EphRec := s.care.halves.getD s.care.half []

/-- Payload that applies to a TYPE and UNIT at boot: the newest flash record, else the fuse record (R523). -/
def ephFind (s : State) (typ unit : Nat) : Option (List Byte) :=
  let l := (ephLive s).filter (fun r => r.typ == typ && r.unit == unit)
  match l.foldl (fun (a : Option EphRec) (r : EphRec) => match a with | some x => if x.seq ≤ r.seq then some r else a | none => some r) none with
  | some r => some r.payload
  | none => Config.fuseRec typ unit

/-! ### Settings (R584, R585) -/

/-- Write a change of the settings: to the running slot's half and, until confirmation, to the other half where its format can express it. Kind 0
is the HBM masks, kind 1 the METER_CONFIG grid. -/
def saveSetting (s : State) (kind : Nat) (f : Settings → Settings) : State :=
  match s.boot.running with
  | none => s
  | some k =>
    let bump := fun (x : Settings) => { f x with seq := x.seq + 1 }
    let mine := ((s.boot.sets.getD k none).map bump)
    let other := s.boot.sets.getD (1 - k) none
    let open' : Bool := match s.boot.ctl with | some r => r.states.getD k .empty == .unconfirmed | none => false
    match other with
    | some o =>
      if !open' then onBoot s (fun b => { b with sets := b.sets.set k mine })
      else if Config.settingFits o.format kind then onBoot s (fun b => { b with sets := (b.sets.set k mine).set (1 - k) (some (bump o)) })
      else onBoot s (fun b => { b with sets := b.sets.set k mine, notMirrored := b.notMirrored + 1 })
    | none => onBoot s (fun b => { b with sets := b.sets.set k mine })

/-! ### Quality figures (R529) -/

/-- Is a value outside the limit of its figure (Table 18-7)? -/
def figOut (fig : Nat) (v : Int) : Bool :=
  match fig with
  | 1 => decide (v < 150) | 2 => decide (v < 12) | 3 => decide (2000 < v) | 4 => decide (64 < v) | 5 => decide (16 < v) | 6 => decide (25 < v) | _ => decide (450 ≤ v)
/-- LIMIT of a figure. -/
def figLimit (fig : Nat) : Nat := match fig with | 1 => 150 | 2 => 12 | 3 => 2000 | 4 => 64 | 5 => 16 | 6 => 25 | _ => 450

/-- A health source with its object (R507 to R520): sources 1312 to 1325. -/
def careEvent (s : State) (src obj : Nat) : State := raise s src (causeId 0x3F obj)
/-- A health source without an object of its own. -/
def careEv (s : State) (src : Nat) : State := raiseEv s src 1312

/-- Store a figure; one that leaves its limit raises source 1325 once (R529). -/
def setFig (s : State) (fig unit : Nat) (v : Int) (out : Bool) : State :=
  let was := match tget s.care.figs (fig, unit) with | some f => f.out | none => false
  let f : Fig := { value := v, stale := false, out := out, tsn := tsnOf s.time.tick64 }
  let s := onCare s (fun c => { c with figs := tset c.figs (fig, unit) f })
  if out && !was then careEvent s 1325 unit else s
/-- Mark a figure STALE. -/
def staleFig (s : State) (fig unit : Nat) : State :=
  match tget s.care.figs (fig, unit) with
  | some f => onCare s (fun c => { c with figs := tset c.figs (fig, unit) { f with stale := true } })
  | none => s

end Sys2Proof.Machine
end

