-- ==== Sys2Proof/Machine/Time.lean ====
section
/-! DEFINITION. Time.lean: the Chronograph: tick numbering, the two time bases, reference loss and return, re-epoching,
and the time-to-digital converters (R36 to R70). -/
namespace Sys2Proof.Machine

/-! ### Reference and holdover -/

/-- Set a bit of CLK_STICKY. -/
def clkSticky (s : State) (k : Nat) : State := { s with clk := { s.clk with sticky := setBit s.clk.sticky k true } }
/-- Clock sources raise one cause each (R85): kind EVENT, offset in the group. -/
def clkEvent (s : State) (src : Nat) : State := raiseEv s src 1192
/-- Chronograph sources (R70). -/
def timeEvent (s : State) (src : Nat) : State := raiseEv s src 1168

/-- Logbook TIME entry, whose TYPE is the cause ID of the event (R428). -/
def logTime (s : State) (src detail : Nat) : State :=
  logAdd s { cls := 4, typ := causeId 0x3F (src - 1168), detail := detail % 2 ^ 32 }

/-- Do science timestamps carry HOLDOVER: reference absent, core on the quartz, or science time unset (R52, R55, R76)? -/
def stampHoldover (s : State) : Bool := s.time.holdTick || s.clk.quartz || !s.time.sciSet

/-- Does what lies in a tick carry HOLDOVER, as its feed tick records and the results over it say: a holdover tick, or one whose timestamps carry it
(R10, R52, R55, R76, R120, R197)? -/ -- DEDUCED, notes/assumptions/50.md
def holdAt (s : State) (n : Nat) : Bool := s.time.holdTicks.contains n || (n == s.time.tick64 && stampHoldover s)

/-- The control word of a core that begins to coast: the mean over its last 10 s of lock, which the model does not hold: a free value in its band (R75). -/
-- DESIGN CHOICE, notes/assumptions/134.md
def freezeCore (s : State) : State :=
  if !s.clk.coreLock then s
  else
    let (v, s) := drawNat s
    { s with clk := { s.clk with coreWord := BitVec.ofNat 32 (30 * 2 ^ 24 + v % 2 ^ 24) } }

/-- Declare the reference invalid: holdover begins in this tick, and the core coasts (R55, R75); CORE_LOCK stays as it is while the core coasts. A reference that is invalid already stays so. -/
-- DESIGN CHOICE, notes/assumptions/134.md
def refInvalid (s : State) : State :=
  if s.time.refValid then
    let s := if s.clk.quartz then s else { freezeCore s with clk := { (freezeCore s).clk with coast := true } }
    let s := { s with time := { s.time with refValid := false, holdover := true, holdTick := true, holdTicks := s.time.tick64 :: s.time.holdTicks, reacquired := false } }
    let s := clkSticky s 1
    let s := clkEvent s 1194
    logTime (timeEvent s 1186) 1186 0
  else { s with time := { s.time with reacquired := false } }

/-- Largest offset of a valid reference in ppb (R55). -/
def refWindow : Nat := 20000

/-- REF_OFFSET after the last 1 ms window: a measurement that the model leaves free, in ppb. Of a reference that is lost it lies outside ±20 ppm, or reads 0x7FFF_FFFF because
no edge is seen; of a valid one within (R55, R84). -/ -- DESIGN CHOICE, notes/assumptions/138.md
def measureRef (valid : Bool) (s : State) : State :=
  let (v, s) := drawInt s
  let off := if valid then clampInt (-(refWindow : Int)) refWindow v else if v.natAbs ≤ refWindow then 0x7FFFFFFF else v
  { s with clk := { s.clk with refOffset := BitVec.ofInt 32 off } }

/-- REF_OFFSET after a 1 ms window that ends while ticks run (R84): within ±20 ppm of a valid reference; of an invalid one the model says nothing of it. -/
-- DESIGN CHOICE, notes/assumptions/138.md
def measureWindow (s : State) : State :=
  if s.time.refValid then measureRef true s
  else
    let (v, s) := drawInt s
    { s with clk := { s.clk with refOffset := BitVec.ofInt 32 v } }

/-- REF_INVALID_DETECT: no edge for 4 reference cycles, or a 1 ms window outside ±20 ppm (R55). -/
def execRefInvalidDetect (s : State) : Host.Outcome State Fault Refusal := .next (refInvalid (measureRef false s))

/-- SRC_SEL of the core ADPLL: 0 AUTO, 1 REF, 2 QUARTZ (R76, R84). -/
def Plan.srcSel (p : Plan) : Nat := match p.find .clockCore devDome 0 with | some b => b.nat 0 | none => 0

/-- REF_REACQUIRE: after 2 s of a valid reference; under AUTO and REF a core on the quartz moves to REF_IN (R57, R76). -/
def execRefReacquire (s : State) : Host.Outcome State Fault Refusal :=
  if s.time.refValid then .next s
  else
    let s := measureRef true s
    let s := clkEvent { s with time := { s.time with refValid := true, reacquired := s.time.holdover } } 1194
    if s.clk.quartz && s.plan.srcSel != 2 then
      .next (clkEvent { s with clk := { s.clk with quartz := false, coast := false } } 1195)
    else .next { s with clk := { s.clk with coast := s.clk.coast && s.clk.quartz } }

/-- The Logbook entry of RELOCK: TIME_STEP in ADDRESS, and the tick phase in DETAIL with its high half in PCRC, as signed 64-bit values in fs (R57, R428). -/
-- DESIGN CHOICE, notes/assumptions/129.md
def logRelock (s : State) (step phase : Int) : State :=
  logAdd s { cls := 4, typ := causeId 0x3F 19, addr := ofSigned 64 step, detail := ofSigned 64 phase % 2 ^ 32, pcrc := ofSigned 64 phase / 2 ^ 32 }

/-- The measurement of the tick phase at a boundary (R59): TICK_PHASE_RANGE is raised when the phase enters the range beyond P / 2. -/
-- DESIGN CHOICE, notes/assumptions/131.md
def phaseTest (s : State) : State :=
  let range := decide (s.plan.period < 2 * (s.time.phase * uFs).natAbs)
  let t := { s with time := { s.time with phaseRange := range } }
  if range && !s.time.phaseRange then timeEvent t 1191 else t

/-- SCIENCE_TIME_STEP: at the first boundary after re-acquisition science time steps by `deltaFs`, and HOLDOVER clears from the tick that it starts (R57). -/
def execScienceTimeStep (deltaFs : Int) (s : State) : Host.Outcome State Fault Refusal :=
  if s.time.reacquired then
    let ph := s.time.phase + deltaFs
    let s := { s with time := { s.time with reacquired := false, holdover := false, holdTick := false, holdTicks := s.time.holdTicks.filter (fun n => n != s.time.tick64),
                                            phase := ph, relock := (deltaFs, ph) } }
    .next (logRelock (timeEvent (phaseTest s) 1187) deltaFs ph)
  else .next s

/-- Set or clear PPS_FAULT with its source (R56, R70). -/
def setPpsFault (s : State) (v : Bool) : State :=
  if s.time.ppsFault == v then s else timeEvent { s with time := { s.time with ppsFault := v } } 1185

/-- Distance of a time from the nearest whole second. -/
def offSecond (t : Int) : Nat := let r := (t % uSec).toNat; Nat.min r (uSec - r)

/-- PPS_EDGE: an edge `inTickFs` after the start of the running tick is checked against the second that the reference
defines, within 100 ns (R56). Before science time is set that second is the previous edge's. -/
def execPpsEdge (inTickFs : Nat) (s : State) : Host.Outcome State Fault Refusal :=
  let g : Int := (s.time.grid + inTickFs * uFs : Nat)
  let ref : Int := if s.time.sciSet then sciOfTick s s.time.tick64 + (inTickFs * uFs : Nat)
                   else match s.time.ppsGrid with | some p => g - p | none => 0
  let s' := setPpsFault s (decide (100000000 * uFs < offSecond ref))
  .next { s' with time := { s'.time with ppsGrid := some g.toNat } }

/-- PPS_TIMEOUT: no edge within 1.1 s (R56). -/
def execPpsTimeout (s : State) : Host.Outcome State Fault Refusal := .next (setPpsFault s true)

/-! ### House time -/

/-- HOUSE_TIME_STEER, once `elapsedFs` of house time have passed since the last (R51, R53). While ticks run their boundaries count that time, and the difference from
science time is given to the slew, at most 100 ppm of it, or removed by one step forward when house time is more than 1 s behind. In BOOT and RECOVERY no boundary counts
house time: it goes on here. -/ -- DESIGN CHOICE, notes/assumptions/130.md
def execHouseTimeSteer (elapsedFs : Nat) (s : State) : Host.Outcome State Fault Refusal :=
  if !ticking s then
    .next (if s.dev.st = .cold then s else { s with time := { s.time with house := s.time.house + elapsedFs * uFs } })
  else if !s.time.sciSet || s.time.holdover then .next s
  else
    let sci := sciOfTick s s.time.tick64
    let diff := sci - s.time.house
    if (uSec : Int) < diff then
      -- the entry's TYPE is the cause of an EPOCH: DESIGN CHOICE, notes/assumptions/163.md
      let s := { s with time := { s.time with house := sci.toNat, slew := 0, unsynced := false } }
      .next (logAdd { s with meter := { s.meter with stepped := true } } { cls := 4, typ := causeId 0x3F 22 })
    else
      let lim : Int := (elapsedFs * uFs / 10000 : Nat)
      .next { s with time := { s.time with slew := clampInt (-lim) lim diff, unsynced := false } }

/-- AGEING_MEASURE: over 1,000 s the correction moves towards the measured value (in 10^-12) by at most 0.05 ppm per day (R54). -/
def execAgeingMeasure (measured : Int) (s : State) : Host.Outcome State Fault Refusal :=
  if s.time.refValid then
    let d := clampInt (-578) 578 (measured - s.time.ageing)
    .next { s with time := { s.time with ageing := s.time.ageing + d } }
  else .next s

/-- AGEING_EPHEMERIS_WRITE: once a day the correction goes to the Ephemeris, in 0.001 ppb (R54, Table 18-5). -/
def execAgeingEphemerisWrite (s : State) : Host.Outcome State Fault Refusal :=
  .next (ephWrite { s with time := { s.time with ageingStored := s.time.ageing } } 3 0 (leBytes 4 (ofSigned 32 s.time.ageing)))

/-! ### TICK_PERIOD and EPOCH -/

/-- Block of TICK_PERIOD (Table 13-9, R38). -/
def tickPeriodBlock : List Param := [pN "M" 1024 1048576]
/-- Block of EPOCH (Table 13-9, Table 2-6). -/
def epochBlock : List Param :=
  [pW "MODE" ["SET", "ALIGN", "SHIFT"], (pN "SECONDS" 0 (2 ^ 48 - 1)).when 0 [.named 0], (pN "EPOCH_SECONDS" 0 (2 ^ 48 - 1)).when 0 [.named 0],
   (pN "EPOCH_FRACTION" 0 (2 ^ 48 - 1)).when 0 [.named 0], ⟨"NUMBER", .any, .rule, [(0, [.named 0])]⟩,
   (pS "K" (-(2 ^ 62)) (2 ^ 62)).when 0 [.named 2]]

/-- States in which TICK_PERIOD and EPOCH SET are accepted (R38, R60). -/
def serviceWork (s : State) : Bool := s.dev.st == .calibrate || s.dev.st == .maintenance

/-- Grid time at the start of tick `e` if no further length change applies: the next tick starts after the nominal length of the running one. -/
def gridOfTick (s : State) (p : Plan) (e : Nat) : Nat :=
  if e ≤ s.time.tick64 + 1 then s.time.grid + p.period
  else s.time.grid + s.time.len * uGrid + (e - 1 - s.time.tick64) * p.period

/-- Science time at the grid time `g0` of a tick's start, under an EPOCH SET whose first PPS edge after it is `secs` (R60). Without an edge seen so far the second is
taken to begin at the tick (log entry 6). -/
def scienceAt (s : State) (g0 secs : Nat) : Int :=
  match s.time.ppsGrid with
  | none => (secs * uSec : Nat)
  | some g =>
    let d := (((g : Int) - g0) % uSec).toNat
    (secs * uSec : Nat) - (if d = 0 then (uSec : Int) else d)
/-- Predicted science time of the start of tick `e` under an EPOCH SET (R60). -/
def setScience (s : State) (p : Plan) (e secs : Nat) : Int := scienceAt s (gridOfTick s p e) secs

/-- E of an EPOCH SET block in time units. -/
def epochOf (b : Block) : Int := ((b.nat 2 * 2 ^ 48 + b.nat 3) * uCt : Nat)

/-- k of ALIGN for a tick phase in time units: -round(phase / 6.4 ns), limited to half a tick (R60). -/
def alignK (m : Nat) (phase : Int) : Int := clampInt (-((m / 2 : Nat) : Int)) (m / 2 : Nat) (-(rne phase uGrid))

/-- Grid periods by which an EPOCH command changes tick e - 1 (R60). -/
def epochK (s : State) (p : Plan) (e : Nat) (b : Block) : Int :=
  match b.word? 0 with
  | some 0 => alignK p.m (setScience s p e (b.nat 1) - (epochOf b + (b.nat 4 * p.period : Nat)))
  | some 1 => alignK p.m (s.time.phase * uFs)
  | _ => b.int 5

/-- TICK_PERIOD: only in CALIBRATE or MAINTENANCE; R37 and R141 are checked over the plan (R38). -/
def tickPeriodC : CSpec :=
  { busy := fun c _ => rejIf (!serviceWork c.s) (rej .busy 0),
    edit := fun _ c p => { p with m := c.block.nat 0 },
    -- Tick e keeps its nominal start: E_new = E_old + e (P_old - P_new); a change of its length by an EPOCH stays
    apply := fun old c s =>
      let po : Int := old.period
      let pn : Int := c.block.nat 0 * uGrid
      phaseTest { s with
               time := { s.time with epoch := s.time.epoch + (s.time.tick64 : Int) * (po - pn), len := ((c.block.nat 0 : Int) + s.time.len - old.m).toNat },
               meter := { s.meter with opens := s.meter.opens.map (fun e => (e.1, { e.2 with rflags := setBit e.2.rflags 3 true })) } } }

/-- EPOCH: SET in CALIBRATE or MAINTENANCE, ALIGN and SHIFT in any running state (R60). -/
def epochC : CSpec :=
  { busy := fun c m => rejIf (if m.block.is 0 0 then !serviceWork c.s else !c.s.dev.st.runs) (rej .busy 0),
    verify := fun c _ m =>
      let b := m.block
      firstRej
        [rejIf (!b.is 0 2 && !c.s.time.refValid) (rej .inconsistent 0),
         rejIf (b.is 0 2 && decide ((c.plan.m / 2 : Nat) < (b.int 5).natAbs)) (rej .inconsistent 5),
         rejIf (b.is 0 0 && decide (c.plan.period < 2 * (setScience c.s c.plan c.e (b.nat 1) - (epochOf b + (b.nat 4 * c.plan.period : Nat))).natAbs))
           (rej .inconsistent 1)],
    result := fun c m => ofSigned 64 (epochK c.s c.plan c.e m.block),
    apply := fun _ m s =>
      let b := m.block
      let s := if b.is 0 0 then
          let num := b.nat 4
          let sci := scienceAt s s.time.grid (b.nat 1)
          let ph := (sci - (epochOf b + (num * s.plan.period : Nat))) / uFs
          phaseTest { s with time := { s.time with sciSet := true, epoch := epochOf b, tick64 := num, phase := ph } }
        else s
      logTime (timeEvent s 1190) 1190 0 }

/-- Grid periods added to the tick before `e` by the sets that apply at `e` (R60, R61). Those of several EPOCH commands for one tick add up. -/
-- DESIGN CHOICE, notes/assumptions/132.md
def pendingK (s : State) (e : Nat) : Int :=
  (((s.psets.filter (fun p => p.e == e)).flatMap (fun p => p.cmds)).filter (fun c => c.op == .epoch)).foldl
    (fun a c => a + epochK s s.plan e c.block) 0

/-- The length of the running tick under the EPOCH commands for the next one, which may be admitted while it runs (R60). -/
def fitLen (s : State) : State := { s with time := { s.time with len := ((s.plan.m : Int) + pendingK s (s.time.tick64 + 1)).toNat } }

/-- Is the core on REF_IN and still following the reference back to lock, so that the tick boundaries drift against science time (R57, R59)? -/
def following (s : State) : Bool := s.time.refValid && !s.time.holdover && !s.clk.quartz && !s.clk.coreLock

/-- Tick phase in fs of the boundary that ends the running tick: constant while the core is locked, and while science time is propagated by counting the grid, but for a
change of the tick's length; `driftFs` is measured on channel 18 while the core follows the reference back to lock (R55, R57, R59, R61). -/
def nextPhase (driftFs : Int) (s : State) : Int :=
  s.time.phase + ((s.time.len : Int) - s.plan.m) * 6400000 + (if following s then driftFs else 0)

/-- The Chronograph's part of TICK_BOUNDARY: TICK64, the time bases, the tick phase measured on channel 18, and the boundary
sources (R39, R51 to R53, R55, R58, R59, R70), and the 1 ms window that ends in the tick. The 2^16-tick boundary is told by the number that the tick has here, before an
EPOCH in SET mode renumbers it. -/ -- DESIGN CHOICE, notes/assumptions/162.md
def timeTick (driftFs : Int) (s : State) : State :=
  let t := s.time
  let phase := nextPhase driftFs s
  let window := decide (t.grid / uMs < (t.grid + t.len * uGrid) / uMs)
  -- the tick that ends counts where its timestamps carried HOLDOVER
  let past := if stampHoldover s && !t.holdTicks.contains t.tick64 then t.tick64 :: t.holdTicks else t.holdTicks
  let hold := t.holdover || s.clk.quartz
  let s := { s with time := { t with tick64 := t.tick64 + 1, len := s.plan.m, grid := t.grid + t.len * uGrid, house := t.house + houseStep s,
                                     slew := t.slew - slewOf s, phase := phase, holdTick := t.holdover,
                                     holdTicks := if hold then (t.tick64 + 1) :: past.take 32768 else past.take 32768 },
                    clk := { s.clk with postedDue := s.clk.posted.isSome } }
  let s := if s.dev.st = .halted then s else fitLen s
  let s := timeEvent s 1188
  let s := if (t.tick64 + 1) % 65536 = 0 then timeEvent s 1189 else s
  phaseTest (if window then measureWindow s else s)

/-! ### Time-to-digital converters -/

/-- Block of TDC_CONFIG: CHANNEL, then Table 2-9. -/
def tdcConfigBlock : List Param :=
  [pI "CHANNEL" 15, pN "ENABLE" 0 1, pNW "SRC" 0 255 ["BALL"], pW "EDGE" ["RISE", "FALL", "BOTH"],
   (pS "SKEW_FS" (-1000000) 1000000).byRule, pNW "PUBLISH" 0 255 ["NONE"]]
/-- Block of TDC_PAIR (R69). -/
def tdcPairBlock : List Param := [pN "PAIR" 0 7, pI "A" 23, pI "B" 23, pN "W" 1000000 1000000000000, pN "N" 1 65536]
/-- Block of TDC_STATS: CHANNEL or PAIR. -/
def tdcStatsBlock : List Param := [⟨"OBJECT", .two 23 7 true, .req, []⟩]

/-- The Ephemeris trim of a TDC channel in fs (R64). -/
def tdcTrim (s : State) (ch : Nat) : Int := tgetD s.time.trims ch 0

/-- TDC_CONFIG (R64): an event-channel source must be unclocked. SKEW_FS defaults to the Ephemeris trim. -/
def tdcConfigC : CSpec :=
  { edit := fun c m p =>
      let b := m.block
      p.put .tdcConfig devDome (b.nat 0) (match b.at 4 with | .dflt => b.put 4 (.num (tdcTrim c.s (b.nat 0))) | _ => b),
    verify := fun c _ m =>
      match m.block.at 2 with
      | .num ch => rejIf (!c.plan.unclocked ch.toNat) (rej .inconsistent 2)
      | _ => none }

/-- TDC_PAIR (R69): defining a pair starts it afresh. -/
def tdcPairC : CSpec :=
  { edit := fun _ m p => p.put .tdcPair devDome (m.block.nat 0) m.block,
    apply := fun _ m s => { s with pairs := tset s.pairs (m.block.nat 0) TdcPairRun.reset } }

/-- A channel's run-time state. -/
def tdcOf (s : State) (ch : Nat) : TdcCh := tgetD s.tdc ch TdcCh.reset
/-- Change a channel's run-time state. -/
def onTdc (s : State) (ch : Nat) (f : TdcCh → TdcCh) : State := { s with tdc := tmod s.tdc ch TdcCh.reset f }

/-- Is a channel recording this edge? Internal channels 16 to 23 always do (R63, R64). -/
def tdcTakes (p : Plan) (ch : Nat) (rising : Bool) : Bool :=
  if 16 ≤ ch then true
  else match p.find .tdcConfig devDome ch with
    | none => false
    | some b => b.flag 1 && (match b.word? 3 with | some 0 => rising | some 1 => !rising | _ => true)

/-- Pair `b`-edges with the latest `a`-edge no more than W before them (R69). Times in units, differences in fs. -/
def pairEdge (s : State) (ch : Nat) (t : Int) (flags : Nat) : State :=
  (s.plan.objs .tdcPair).foldl (fun s e =>
    let b := e.2.2
    let pr := tgetD s.pairs e.2.1 TdcPairRun.reset
    let upd := if b.nat 2 = ch then
        match pr.lastA with
        | some (ta, fa) =>
          if ta ≤ t ∧ t - ta ≤ (b.nat 3 * uFs : Nat) then
            { pr with diffs := pr.diffs ++ [rne (t - ta) uFs], flags := pr.flags ||| flags ||| fa }
          else { pr with unpaired := pr.unpaired + 1 }
        | none => { pr with unpaired := pr.unpaired + 1 }
      else pr
    let upd := if b.nat 1 = ch then { upd with lastA := some (t, flags) } else upd
    { s with pairs := tset s.pairs e.2.1 upd }) s

/-- Time of an edge in fs from the start of the tick, with the s and o it used and CAL_FAIL (R65). -/
def tdcTime (k : TdcCh) (c f f1 f2 : Nat) (skew : Int) : Int × Int × Int × Bool :=
  let sm : Int := (f2 : Int) - f1
  let om : Int := 2 * (f1 : Int) - f2
  let bad := decide (sm < 120) || decide (136 < sm)
  let su := if bad then k.lastS else sm
  let ou := if bad then k.lastO else om
  let fine := rne (((f : Int) - ou) * 320000) su.toNat
  ((c : Int) * 320000 - fine - skew, su, ou, bad)

/-- TDC_BLIND_END: 12.8 ns after a recorded edge (R66). -/
def execTdcBlindEnd (ch : Nat) (s : State) : Host.Outcome State Fault Refusal :=
  if 24 ≤ ch then .fault .noSuchUnit else .next (onTdc s ch (fun k => { k with blind := false }))

/-- Nearest integer square root, for an rms. -/
def roundSqrt (n : Nat) : Nat := let r := isqrt n; if r * r + r < n then r + 1 else r

/-- Mean and rms of N differences in fs (R69); both rounded to the nearest fs (log entry 7). -/
def pairReport (d : List Int) (flags : Nat) : Int × Nat × Nat × Nat :=
  (rne (d.foldl (· + ·) 0) d.length, roundSqrt (roundDiv (d.foldl (fun a x => a + x.natAbs * x.natAbs) 0) d.length), d.length, flags)

/-- TDC_PAIR_REPORT: after N differences (R69). -/
def execTdcPairReport (pair : Nat) (s : State) : Host.Outcome State Fault Refusal :=
  match s.plan.find .tdcPair devDome pair with
  | none => if 8 ≤ pair then .fault .noSuchUnit else .next s
  | some b =>
    let r := tgetD s.pairs pair TdcPairRun.reset
    if r.diffs.length < b.nat 4 then .next s
    else
      let n := b.nat 4
      .next { s with pairs := tset s.pairs pair { r with diffs := r.diffs.drop n, flags := 0, reports := r.reports ++ [pairReport (r.diffs.take n) r.flags] } }

/-- TDC_STATS: counters of a channel with its queued result records, which the query takes from the FIFO (log entry 8), or a pair's
UNPAIRED count and reports (R403). -/
def tdcStatsAct : Act := fun c m =>
  match m.block.at 0 with
  | .obj 0 ch =>
    let k := tdcOf c.s ch
    .ok { s := onTdc c.s ch (fun k => { k with fifo := [] }),
          body := some (leBytes 8 k.missed ++ leBytes 8 (b2n k.overrun) ++ leBytes 8 k.fifoLost ++ leBytes 8 k.seq ++ k.fifo.flatten) }
  | .obj _ pr =>
    if c.plan.has .tdcPair devDome pr then
      let r := tgetD c.s.pairs pr TdcPairRun.reset
      .ok { s := c.s, body := some (leBytes 8 r.unpaired ++ r.reports.flatMap (fun e =>
              leBytes 8 (ofSigned 64 e.1) ++ leBytes 8 e.2.1 ++ leBytes 8 e.2.2.1 ++ leBytes 8 e.2.2.2)) }
    else .error (rej .nosuch 0)
  | _ => .error (rej .format 0)

/-- TIME_READ: science CT96, house CT64, TICK64, tick phase in fs, flags (R403). -/
def timeReadAct : Act := fun c _ =>
  .ok { s := c.s, result := c.s.time.tick64,
        body := some (ct96Le (ct96 (sciOfTick c.s c.s.time.tick64)) ++ leBytes 8 (houseCt64 c.s) ++ leBytes 8 c.s.time.tick64 ++
                      leBytes 8 (ofSigned 64 c.s.time.phase) ++ leBytes 4 (timeFlags c.s)) }

end Sys2Proof.Machine
end

