-- ==== Sys2Proof/Machine/Clock.lean ====
section
/-! DEFINITION. Clock.lean: the ADPLLs, the clock outputs and the clock block's registers (R71 to R85). The settings of an
output are its CLOCK_OUTPUT record, slots OUTPUT, ENABLE, FMT, SRC, ODIV, FB, DRIVE, LVCMOS_N, FMAX_KHZ. -/
namespace Sys2Proof.Machine

/-- Smallest FB with f_NTO of at least 5.5 GHz (R72). -/
def fbMin : Nat := 151182848820
/-- Largest FB with f_NTO of at most 7.0 GHz (R72). -/
def fbMax : Nat := 192414534860

/-- Block of CLOCK_CORE (Table 13-9), with the codes of CLK_CORE_CTRL. -/
def clockCoreBlock : List Param := [pN "SRC_SEL" 0 2, pN "REF_FREQ" 0 1]
/-- Block of CLOCK_OUTPUT (Table 13-9), with the codes of OUTn_CTRL. -/
def clockOutputBlock : List Param :=
  [pI "OUTPUT" 3, pN "ENABLE" 0 1, pN "FMT" 0 4, pN "SRC" 0 1, pN "ODIV" 4 4096, pN "FB" fbMin fbMax, pN "DRIVE" 0 3, pN "LVCMOS_N" 0 2,
   pN "FMAX_KHZ" 0 (2 ^ 21 - 1)]

/-- Settings of an output. -/
def Plan.clkOut (p : Plan) (n : Nat) : Block := (p.find .clockOutput devDome n).getD (clkOutBlock n)
/-- Is the output enabled? Its loop runs then, under FMT = OFF too, which leaves the pads of high impedance (R80, R84). -/
-- DEDUCED, notes/assumptions/160.md
def outOn (b : Block) : Bool := b.flag 1
/-- FOUT limit of a format in kHz (Table 3-2). -/
def fmtLimit : Nat → Nat | 1 => 800000 | 2 => 400000 | 3 => 1750000 | 4 => 250000 | _ => 0
/-- Is FOUT at most `khz`? FOUT = 156.25 MHz * FB / (2^32 * ODIV), or 156.25 MHz under SRC = GRID (R72, R81). -/
def foutAtMost (b : Block) (khz : Nat) : Bool :=
  if b.nat 3 = 1 then decide (156250 ≤ khz) else decide (156250 * b.nat 5 ≤ khz * 2 ^ 32 * b.nat 4)

/-- First slot of an enabled output's settings that breaks the range of f_NTO, the ceiling or the format's limit (R72, R79, R81). -/
def outBad (b : Block) : Option Nat :=
  if !outOn b then none
  else if b.nat 3 = 0 && (decide (b.nat 5 < fbMin) || decide (fbMax < b.nat 5)) then some 5
  else if !foutAtMost b (b.nat 8) then some (if b.nat 3 = 1 then 8 else 4)
  else if b.nat 2 != 0 && !foutAtMost b (fmtLimit (b.nat 2)) then some 2 else none

/-- Change an output's run-time state. -/
def onOut (s : State) (n : Nat) (f : ClkOut → ClkOut) : State :=
  { s with clk := { s.clk with outs := s.clk.outs.mapIdx (fun i o => if i = n then f o else o) } }
/-- An output's run-time state. -/
def outOf (s : State) (n : Nat) : ClkOut := s.clk.outs.getD n ClkOut.reset

/-- Would FOUT exceed the ceiling by more than the 50 ppm that the loop's clamp allows (R79)? -/
def overCeiling (b : Block) : Bool :=
  outOn b && (if b.nat 3 = 1 then decide (b.nat 8 < 156250) else decide (20001 * b.nat 8 * 2 ^ 32 * b.nat 4 < 20000 * 156250 * b.nat 5))

/-- A change of FB alone by at most 100 ppm (R77); FMAX_KHZ, which is no setting of the loop, is not compared. -/ -- DESIGN CHOICE, notes/assumptions/135.md
def smallStep (old new : Block) : Bool :=
  (old.put 5 (new.at 5)).put 8 (new.at 8) == new && decide ((((new.nat 5 : Int) - old.nat 5).natAbs) * 10000 ≤ old.nat 5)
/-- A change of FMT alone (R78); FMAX_KHZ is not compared. -/ -- DESIGN CHOICE, notes/assumptions/135.md
def fmtOnly (old new : Block) : Bool := (old.put 2 (new.at 2)).put 8 (new.at 8) == new

/-- Start a large change: mute, then search, or bypass the loop under SRC = GRID (R78). -/
def largeChange (s : State) (n : Nat) (b : Block) : State :=
  onOut s n (fun o => { o with muted := true, lock := false, coast := false, fmtMute := false, search := b.nat 3 == 0 })

/-- What new settings do to the output (R77 to R80). -/
def outChange (s : State) (n : Nat) (old new : Block) : State :=
  if !outOn new then onOut s n (fun o => { o with muted := true, lock := false, search := false, coast := false, fmtMute := false, clamp := false })
  else if !outOn old then largeChange s n new
  else if smallStep old new then s
  -- during a large change the output is muted already, until its LOCK
  else if fmtOnly old new then onOut s n (fun o => if o.muted && !o.fmtMute then o else { o with muted := true, fmtMute := true })
  else largeChange s n new

/-- The core coasts through a change of its input and follows the new one (R76): QUARTZ locks to the quartz; REF and AUTO move to REF_IN when it is valid, and a core on
REF_IN never falls back. REF locks to REF_IN only, so a core on the quartz coasts until the reference is valid, but for BOOT. -/
def coreFollow (s : State) (sel : Nat) : State :=
  let q := if sel = 2 then true else if s.time.refValid then false else s.clk.quartz && (sel != 1 || s.dev.st == .boot)
  if q == s.clk.quartz then s
  else
    let s := if q || s.time.refValid then { s with clk := { s.clk with coast := false } } else { freezeCore s with clk := { (freezeCore s).clk with coast := true } }
    clkEvent { s with clk := { s.clk with quartz := q } } 1195

/-- The core's input at BOOT: REF_IN if the reference is valid at that moment and SRC_SEL is not QUARTZ, otherwise the quartz (R76). -/
def coreAtBoot (s : State) : State := { s with clk := { s.clk with quartz := s.plan.srcSel == 2 || !s.time.refValid, coast := false } }

/-- What a pad carries: nothing, a fixed level, the clock, or its complement. -/
inductive PadLevel where
  | highZ | low | high | clock | inverse
  deriving DecidableEq, Repr

/-- Levels of CLKOUTn_P and CLKOUTn_N: high impedance under FMT = OFF; a muted or disabled output holds P low and N high, an LVCMOS pad low; N under LVCMOS is as LVCMOS_N selects
(R78, R80, R84). -/
def clkPads (s : State) (n : Nat) : PadLevel × PadLevel :=
  let b := s.plan.clkOut n
  if b.nat 2 = 0 then (.highZ, .highZ)
  else if (outOf s n).muted || !b.flag 1 then (.low, if b.nat 2 = 4 then .low else .high)
  else if b.nat 2 = 4 then (.clock, match b.nat 7 with | 0 => .inverse | 1 => .clock | _ => .low)
  else (.clock, .inverse)
/-- Drive of the pads in mA under LVCMOS (R80, R84). -/
def clkDrive (s : State) (n : Nat) : Option Nat := let b := s.plan.clkOut n; if b.nat 2 = 4 then some (4 * (b.nat 6 + 1)) else none

/-- CLOCK_CORE: a change of SRC_SEL or REF_FREQ is BUSY in SERVICE or DEGRADED (R76). -/
def clockCoreC : CSpec :=
  { busy := fun c m => rejIf ((c.s.dev.st == .service || c.s.dev.st == .degraded) && c.plan.find .clockCore devDome 0 != some m.block) (rej .busy 0),
    edit := fun _ m p => p.put .clockCore devDome 0 m.block,
    apply := fun _ m s => coreFollow s (m.block.nat 0) }

/-- CLOCK_OUTPUT: every field at once (R82). -/
def clockOutputC : CSpec :=
  { edit := fun _ m p => p.put .clockOutput devDome (m.block.nat 0) m.block,
    verify := fun _ _ m => (outBad m.block).bind (fun i => inconsistent i),
    apply := fun old m s => outChange s (m.block.nat 0) (old.clkOut (m.block.nat 0)) m.block }

/-! ### Loops -/

/-- ADPLL_LOCK: loop 0 is the core, loops 1 to 4 are OUT0 to OUT3 (R74). -/
def execAdpllLock (pll : Nat) (s : State) : Host.Outcome State Fault Refusal :=
  if 5 ≤ pll then .fault .noSuchUnit
  else if pll = 0 then
    if s.clk.coreLock then .next s else .next (clkEvent { s with clk := { s.clk with coreLock := true, coast := false } } 1193)
  else .next (onOut s (pll - 1) (fun o => { o with lock := true, search := false, coast := false }))

/-- Loss of lock of an output: it coasts on the frozen word (R74, R75). -/
def outLoss (s : State) (n : Nat) : State :=
  clkEvent (clkSticky (onOut s n (fun o => { o with lock := false, coast := true })) (4 + n)) (1196 + n)

/-- ADPLL_LOSS_OF_LOCK: a loss of core lock while the reference is valid counts as an invalid reference (R74, R75). -/
def execAdpllLossOfLock (pll : Nat) (s : State) : Host.Outcome State Fault Refusal :=
  if 5 ≤ pll then .fault .noSuchUnit
  else if pll = 0 then
    let t := freezeCore s
    let t := clkEvent (clkSticky { t with clk := { t.clk with coreLock := false, coast := true } } 0) 1192
    .next (if s.time.refValid then refInvalid t else t)
  else .next (outLoss s (pll - 1))

/-- OUTPUT_COAST_EXPIRY: after 1 ms an output re-locks as for a large change (R75). -/
def execOutputCoastExpiry (out : Nat) (s : State) : Host.Outcome State Fault Refusal :=
  if 4 ≤ out then .fault .noSuchUnit
  else if (outOf s out).coast && outOn (s.plan.clkOut out) then .next (largeChange s out (s.plan.clkOut out)) else .next s

/-- Band whose centre 5.5 + 0.025 k GHz lies nearest f_NTO (R73); a tie between two bands is left open. -/
def bandOf (fb free : Nat) : Nat :=
  -- f - 5.5 GHz in units of 25 MHz, scaled by 2^32: (156.25 fb - 5500 * 2^32) / 25
  let x := 625 * fb - 22000 * 2 ^ 32
  let d := 100 * 2 ^ 32
  let r := x % d
  if 2 * r < d then x / d else if d < 2 * r then x / d + 1 else x / d + free % 2

/-- BAND_SEARCH_DONE: the loop takes the band nearest its target; the core NTO runs at 6.25 GHz, band 30. The fine control word is
whatever the loop finds (R73, R84). -/
def execBandSearchDone (pll : Nat) (s : State) : Host.Outcome State Fault Refusal :=
  if 5 ≤ pll then .fault .noSuchUnit
  else
    let (v, s) := drawNat s
    if pll = 0 then .next { s with clk := { s.clk with coreWord := BitVec.ofNat 32 (30 * 2 ^ 24 + v % 2 ^ 24) } }
    else if (outOf s (pll - 1)).search then
      .next (onOut s (pll - 1) (fun o => { o with search := false, band := bandOf ((s.plan.clkOut (pll - 1)).nat 5) v }))
    else .next s

/-- CLKOUT_REENABLE: after LOCK (or with the loop bypassed, or after a change of FMT alone) and 64 output cycles (R78); an output above its ceiling stays muted (R79).
CLAMP clears here, as it does where the output is disabled. -/ -- DESIGN CHOICE, notes/assumptions/161.md
def execClkoutReenable (out : Nat) (s : State) : Host.Outcome State Fault Refusal :=
  if 4 ≤ out then .fault .noSuchUnit
  else
    let b := s.plan.clkOut out
    let o := outOf s out
    if o.muted && outOn b && !overCeiling b && (o.lock || b.nat 3 == 1 || o.fmtMute) then
      .next (clkEvent (onOut s out (fun o => { o with muted := false, fmtMute := false, clamp := false })) (1200 + out))
    else .next s

/-- The clamp of an output engages: CLAMP sets, the loop loses lock and coasts (R79). -/
def clampOut (s : State) (n : Nat) : State :=
  clkEvent (outLoss (clkSticky (onOut s n (fun o => { o with clamp := true })) (8 + n)) n) 1204
/-- CEILING_CLAMP (R79). -/
def execCeilingClamp (out : Nat) (s : State) : Host.Outcome State Fault Refusal :=
  if 4 ≤ out then .fault .noSuchUnit else .next (clampOut s out)

/-- An output whose ceiling has come to lie below its FOUT: the clamp of its loop engages, and one that takes the grid is muted (R79). -/
-- DESIGN CHOICE, notes/assumptions/136.md
def enforceCeiling (s : State) (n : Nat) : State :=
  let b := s.plan.clkOut n
  if !overCeiling b then s
  else if b.nat 3 = 1 then onOut s n (fun o => { o with muted := true })
  else clampOut s n

/-! ### Registers (R83, R84, R442, R443) -/

/-- Base of OUTn's registers (R84). -/
def outBase (n : Nat) : Nat := 0x104100 + 0x40 * n

/-- Every write to the OWNER window is logged, and the next write after UNLOCK consumes the unlock (R428, R443). -/
def ownerWrite (s : State) (off old new : Nat) : State :=
  let s := { s with regs := { s.regs with armed := false } }
  logAdd s { cls := 0, typ := 0, fn := some ownerFn, dome := 0, gen := genOf s 0, addr := off, detail := old, pcrc := crc32c (leBytes 4 new),
             cfgGen := (domeRun s 0).cfgGen }

/-- Post a value to the clock block, or discard it with LOST while BUSY (R83). -/
def postClk (s : State) (r : PostReg) (v : Nat) : State :=
  match s.clk.posted with
  | some _ => clkEvent (clkSticky s 13) 1205
  | none => { s with clk := { s.clk with posted := some (r, v), postedDue := false } }

/-- CLK_CORE_CTRL as its settings give it (R84). -/
def coreCtrlReg (p : Plan) : Nat := match p.find .clockCore devDome 0 with | some b => b.nat 0 * 16 + b.nat 1 | none => 0
/-- OUTn_CTRL as its settings give it (R84). -/
def outCtrlReg (b : Block) : Nat := b.nat 6 * 1024 + b.nat 7 * 256 + b.nat 3 * 16 + b.nat 2 * 2 + b.nat 1

/-- CLK_CORE_CTRL_WRITE (R83). -/
def execClkCoreCtrlWrite (w : Word) (s : State) : Host.Outcome State Fault Refusal :=
  .next (postClk (ownerWrite s 0x104004 (coreCtrlReg s.plan) w.toNat) .core w.toNat)

/-- OUT_CTRL_WRITE (R83). -/
def execOutCtrlWrite (out : Nat) (w : Word) (s : State) : Host.Outcome State Fault Refusal :=
  if 4 ≤ out then .fault .noSuchUnit
  else .next (postClk (ownerWrite s (outBase out) (outCtrlReg (s.plan.clkOut out)) w.toNat) (.ctrl out) w.toNat)

/-- OUT_ODIV_WRITE (R83). -/
def execOutOdivWrite (out : Nat) (w : Word) (s : State) : Host.Outcome State Fault Refusal :=
  if 4 ≤ out then .fault .noSuchUnit
  else .next (postClk (ownerWrite s (outBase out + 4) ((s.plan.clkOut out).nat 4) w.toNat) (.odiv out) w.toNat)

/-- OUT_FB_LO_WRITE stages FB[31:0] only (R83). -/
def execOutFbLoWrite (out : Nat) (w : Word) (s : State) : Host.Outcome State Fault Refusal :=
  if 4 ≤ out then .fault .noSuchUnit
  else .next (onOut (ownerWrite s (outBase out + 8) (outOf s out).fbLo w.toNat) out (fun o => { o with fbLo := w.toNat }))

/-- OUT_FB_HI_WRITE posts FB[47:32] with the staged FB[31:0] (R83). -/
def execOutFbHiWrite (out : Nat) (w : Word) (s : State) : Host.Outcome State Fault Refusal :=
  if 4 ≤ out then .fault .noSuchUnit
  else
    let old := (s.plan.clkOut out).nat 5 / 2 ^ 32
    .next (postClk (ownerWrite s (outBase out + 12) old w.toNat) (.fb out) (bits w.toNat 15 0 * 2 ^ 32 + (outOf s out).fbLo))

/-- A KEY write while the unlock is not armed is discarded: FAIL_COUNT, violation 0x02 and source 1347 (R443, R451). -/
def keyRefused (s : State) (off : Nat) : State :=
  let s := { s with regs := { s.regs with armed := false, failCount := satAdd s.regs.failCount 1 65535 } }
  raiseEv (violation s 2 ownerFn off) 1347 1344

/-- OUT_FMAX_WRITE: applies at once if the unlock is armed (R443); the output never runs faster than the new ceiling allows (R79). -/
def execOutFmaxWrite (out : Nat) (w : Word) (s : State) : Host.Outcome State Fault Refusal :=
  if 4 ≤ out then .fault .noSuchUnit
  else if s.regs.armed then
    let b := s.plan.clkOut out
    let s := ownerWrite s (outBase out + 16) (b.nat 8) w.toNat
    .next (enforceCeiling { s with plan := s.plan.put .clockOutput devDome out (b.put 8 (.num (bits w.toNat 20 0))) } out)
  else .next (keyRefused s (outBase out + 16))

/-- A posted value out of range sets CFG_ERR and leaves the previous value (R83). -/
def clkCfgErr (s : State) : State := clkEvent (clkSticky s 12) 1205

/-- Apply new settings of an output, or CFG_ERR where FOUT would break its limits (R79, R83). -/
def postOut (s : State) (n : Nat) (new : Block) : State :=
  if (outBad new).isSome then clkCfgErr s
  else
    let old := s.plan.clkOut n
    outChange { s with plan := s.plan.put .clockOutput devDome n new } n old new

/-- Is a posted write due: at the next tick boundary while ticks run, at once in BOOT and RECOVERY (R442)? -/
def postDue (s : State) : Bool := s.clk.posted.isSome && (s.clk.postedDue || !ticking s)

/-- The posted value is checked, applies and clears BUSY (R83, R442). A change of SRC_SEL or REF_FREQ applies in every state: the BUSY of R76 is a status of the command. -/
-- DESIGN CHOICE, notes/assumptions/137.md
def applyPosted (s : State) : State :=
  match s.clk.posted with
  | none => s
  | some (r, v) =>
    let s := { s with clk := { s.clk with posted := none, postedDue := false } }
    match r with
    | .core =>
      let sel := bits v 5 4
      if sel = 3 then clkCfgErr s
      else coreFollow { s with plan := s.plan.put .clockCore devDome 0 [.num sel, .num (bits v 0 0)] } sel
    | .ctrl n =>
      let fmt := bits v 3 1
      let src := bits v 5 4
      let nn := bits v 9 8
      if 4 < fmt ∨ 1 < src ∨ nn = 3 then clkCfgErr s
      else
        let b := s.plan.clkOut n
        postOut s n [b.at 0, .num (bits v 0 0), .num fmt, .num src, b.at 4, b.at 5, .num (bits v 11 10), .num nn, b.at 8]
    | .odiv n =>
      let d := bits v 12 0
      if d < 4 ∨ 4096 < d then clkCfgErr s else postOut s n ((s.plan.clkOut n).put 4 (.num d))
    | .fb n =>
      if v < fbMin ∨ fbMax < v then clkCfgErr s else postOut s n ((s.plan.clkOut n).put 5 (.num v))
/-- The posted write, if it is due. -/
def postedFirst (s : State) : State := if postDue s then applyPosted s else s

/-- POSTED_WRITE_APPLY (R442, R83). A write that waits for its boundary goes on waiting. -/
def execPostedWriteApply (s : State) : Host.Outcome State Fault Refusal := .next (postedFirst s)

/-- CLK_STATUS (R84). -/
def clkStatus (s : State) : Nat :=
  b2n s.clk.coreLock + 2 * b2n s.clk.quartz + 4 * b2n s.time.refValid + 8 * b2n s.clk.coast +
  16 * ((List.range 4).foldl (fun a n => a + b2n (outOf s n).muted * 2 ^ n) 0) +
  256 * ((List.range 4).foldl (fun a n => a + b2n (outOf s n).lock * 2 ^ n) 0) + 2 ^ 31 * b2n s.clk.posted.isSome

/-- OUTn_STATUS (R84). -/
def outStatus (o : ClkOut) : Nat := b2n o.lock + 2 * b2n o.muted + 4 * b2n o.search + 8 * b2n o.clamp + 256 * o.band

end Sys2Proof.Machine
end

