-- ==== Sys2Proof/Machine/Crc.lean ====
section
/-! DEFINITION. Crc.lean: configuration records in their order, and the configuration CRC (R446, R447). -/
namespace Sys2Proof.Machine

/-- Bytes of a configuration record (Table 15-3). -/
def recBytes (typ dome index : Nat) (slots : List Nat) : List Byte :=
  leBytes 2 typ ++ leBytes 2 dome ++ leBytes 4 index ++ leBytes 4 slots.length ++ slots.flatMap (leBytes 8)

/-- Objects of one kind and dome in ascending INDEX. -/
def Plan.sorted (p : Plan) (op : Op) (d : Nat) : List (Nat × Block) := (p.of op d).mergeSort (fun a b => decide (a.1 ≤ b.1))

/-- Records of one kind of device object. -/
def Plan.devRecs (p : Plan) (op : Op) : List (List Byte) := (p.sorted op devDome).map (fun (e : Nat × Block) => recBytes op.info.code devDome e.1 e.2.slots)
/-- The record of one device object, if it exists. -/
def Plan.devRec (p : Plan) (op : Op) (i : Nat) : List (List Byte) := (p.find op devDome i).toList.map (fun b => recBytes op.info.code devDome i b.slots)

/-- Value slots of a grant that the owner has not set (R412, Table 14-3). -/
def grantZeros (g : Nat) : List Nat := List.replicate (match g with | 0 => 16 | 3 => 2 | 6 => 4 | _ => 1) 0
/-- Records of a dome: its binding, its eleven grants and its objects by ascending TYPE (Table 15-4). -/
def Plan.domeRecs (p : Plan) (d : Nat) : List (List Byte) :=
  (if d = 0 then []
   else (p.find .domeCreate devDome d).toList.map (fun b => recBytes Op.domeCreate.info.code d d b.slots) ++
     (List.range 11).map (fun g => recBytes Op.domeGrant.info.code d g (match p.find .domeGrant d g with | some b => b.slots | none => [d, g] ++ grantZeros g))) ++
  (((p.recs.filter (fun r => r.dome == d && r.op != .domeGrant)).mergeSort (fun a b =>
      decide (a.op.info.code < b.op.info.code) || (a.op.info.code == b.op.info.code && decide (a.index ≤ b.index)))).map (fun r => recBytes r.op.info.code d r.index r.block.slots))

/-- Records in the order of R447, with their segment and INDEX. -/
def Plan.records (p : Plan) : List (Nat × Nat × List Byte) :=
  let feeds := (p.sorted .feedDefine devDome).map (fun e => e.1)
  let domes := 0 :: (p.sorted .domeCreate devDome).map (fun e => e.1)
  let seg := fun (n : Nat) (l : List (List Byte)) => l.map (fun b => (n, leField b 4 4, b))
  seg 1 ([recBytes 0xFF01 devDome 0 (p.m :: p.laneEn.map (fun w => w.toNat))] ++ p.devRec .clockCore 0 ++ p.devRecs .hbmConfig ++ p.devRecs .meterConfig) ++
  seg 2 (p.devRecs .clockOutput) ++ seg 3 (p.devRecs .portConfig) ++
  seg 4 (feeds.flatMap (fun f => p.devRec .feedDefine f ++ p.devRec .feedCondition f ++ p.devRec .coarseDefine f ++ p.devRec .skDefine f)) ++
  seg 5 (p.devRecs .tdcConfig ++ p.devRecs .tdcPair) ++ seg 6 (p.devRecs .lutConfig) ++
  seg 7 ((p.sorted .apertureCreate devDome).flatMap (fun e => p.devRec .apertureCreate e.1 ++
    ((p.sorted .apertureLink devDome).filter (fun (l : Nat × Block) => l.2.nat 0 == e.1)).map (fun (l : Nat × Block) => recBytes Op.apertureLink.info.code devDome l.1 l.2.slots))) ++
  seg 8 (p.devRecs .adcConfig ++ p.devRecs .dacConfig ++ p.devRecs .eyepieceConfig ++ p.devRecs .rectConfig) ++
  (domes.flatMap (fun d => (p.domeRecs d).map (fun b => (9, d, b))))

/-- The configuration CRC of a plan (R446). -/
def Plan.crc (p : Plan) : Nat := crc32c (p.records.flatMap (fun r => r.2.2))

end Sys2Proof.Machine
end

