-- ==== Sys2Proof/Machine/Mem.lean ====
section
/-! DEFINITION. Mem.lean: the bytes of HBM as a list of address and byte pairs in one canonical form. -/
namespace Sys2Proof.Machine

/-- A byte of memory; an unlisted address reads 0 (R418, R486). -/
def memGet : Memory → Nat → Byte
  | [], _ => 0
  | (k, v) :: r, a => if k = a then v else memGet r a

/-- Store a byte, keeping addresses strictly rising and no zero byte listed. -/
def memPut : Memory → Nat → Byte → Memory
  | [], a, b => if b = 0 then [] else [(a, b)]
  | (k, v) :: r, a, b =>
    if a < k then (if b = 0 then (k, v) :: r else (a, b) :: (k, v) :: r)
    else if a = k then (if b = 0 then r else (a, b) :: r)
    else (k, v) :: memPut r a b

/-- Store consecutive bytes. -/
def memPutList : Memory → Nat → List Byte → Memory
  | m, _, [] => m
  | m, a, b :: r => memPutList (memPut m a b) (a + 1) r

/-- Bytes from an address on. -/
def memList (m : Memory) (a n : Nat) : List Byte := (List.range n).map (fun i => memGet m (a + i))

/-- Write zeros to a range of addresses. -/
def memClear (m : Memory) (lo hi : Nat) : Memory := m.filter (fun c => !(decide (lo ≤ c.1) && decide (c.1 < hi)))

/-- Are the addresses of a memory above a bound and strictly rising, with no zero byte? -/
def Memory.above : Nat → Memory → Bool
  | _, [] => true
  | lo, (k, v) :: r => decide (lo ≤ k) && (v != 0) && Memory.above (k + 1) r

/-- The canonical form of memory. -/
def Memory.wf (m : Memory) : Bool := Memory.above 0 m

/-- Memory address of a byte of a page. -/
def pageAddr (h p off : Nat) : Nat := h * 2 ^ 36 + p * 2 ^ 21 + off

end Sys2Proof.Machine
end

