-- ==== Sys2Proof/Machine/Complete.lean ====
section
/-! DEFINITION. Complete.lean: the completion of a request (R379, R381, R385, R402). -/
namespace Sys2Proof.Machine

/-- Take a request off the in-flight list; is its completion to be discarded? -/
def takeInFlight (s : State) (q : Request) : State × Bool :=
  match s.inflight.find? (fun x => x.req.fn == q.fn && x.req.tag == q.tag) with
  | some x => ({ s with inflight := s.inflight.erase x }, x.discard)
  | none => (s, false)

/-- The response as written: the 8-byte length header and the body, cut to RBUF_LEN, and whether it was cut (R402). -/
def response (q : Request) (body : Option (List Byte)) (high : Nat) : List Byte × Bool :=
  match body with
  | none => ([], false)
  | some b => let full := leBytes 4 (8 + b.length) ++ leBytes 4 high ++ b
              (full.take q.rbufLen, decide (q.rbufLen < full.length))

/-- Bytes of a response go into the dome's BAR2 aperture (RBUF_HBM): writable pages take them, and a word written whole loses its poison (R384, R419). -/
def respStore (s : State) (d off : Nat) (l : List Byte) : State :=
  let at' := fun (x : Nat) => (s.hbm.pages.find? (fun p => p.dome == d && p.bar2 == x / 2 ^ 21)).map (fun p => pageAddr p.stack p.page (x % 2 ^ 21))
  let put := l.zipIdx.filterMap (fun (e : Byte × Nat) => (at' (off + e.2)).map (fun a => (a, e.1)))
  let whole := fun (w : Nat) => (List.range 32).all (fun i => put.any (fun (e : Nat × Byte) => e.1 == 32 * w + i))
  { s with hbm := { s.hbm with mem := put.foldl (fun (m : Memory) (e : Nat × Byte) => memPut m e.1 e.2) s.hbm.mem, poison := s.hbm.poison.filter (fun w => !whole w) } }

/-- A request that completes later has been decided in the running tick (R395). -/
def markDecided (s : State) (q : Request) : State :=
  { s with inflight := s.inflight.map (fun x => if x.req.fn == q.fn && x.req.tag == q.tag then { x with decided := some s.time.tick64 } else x) }
/-- The tick in which a request was decided: the running one unless it was taken in before (R385). -/
def decidedTick (s : State) (q : Request) : Nat := ((s.inflight.find? (fun x => x.req.fn == q.fn && x.req.tag == q.tag)).bind (fun x => x.decided)).getD s.time.tick64

/-- Complete a request: its entry, with the response before it, unless the mailbox has been disabled (R379, R381). -/
def finish (s : State) (opc : Nat) (q : Request) (status detail tsn result cflags : Nat) (body : Option (List Byte)) (high : Nat := 0) : State :=
  let (s, gone) := takeInFlight s q
  if gone || !(mbxOf s q.fn).enable then s
  else
    let (resp, short) := response q body high
    let s := if q.flags.toNat.testBit 6 then (match s.plan.domeOf q.fn with | some d => respStore s d q.rbufAddr.toNat resp | none => s) else s
    let s := writeCq s q.fn q.tag.toNat status (cflags + 4 * b2n short) opc detail tsn result resp
    match s.plan.domeOf q.fn with
    | some d => raise s 1216 (causeId 0x1B d) (.dome d)
    | none => s

/-- DETAIL of a rejection: 0 for the statuses that Table 13-7 gives none, the current generation for STALE_GEN. -/
def rejDetail (s : State) (q : Request) (r : Reject) : Nat :=
  match r.status with
  | .denied => 0 | .busy => 0 | .timeout => 0 | .poison => 0 | .capacity => 0 | .unsupported => 0
  | .staleGen => (match s.plan.domeOf q.fn with | some d => genOf s d | none => 0)
  | _ => r.detail

/-- Complete with a rejection (R385, R398). -/
def finishRej (s : State) (opc : Nat) (q : Request) (r : Reject) : State :=
  finish s opc q r.status.code (rejDetail s q r) (r.tsn.getD (tsnOf s.time.tick64)) r.result 0 (if r.resp.isEmpty then none else some r.resp)

end Sys2Proof.Machine
end

