-- ==== Sys2Proof/Machine/ApBase.lean ====
section
/-! DEFINITION. ApBase.lean: an aperture's run-time state, its control messages and the parts of its reads (R335, R336, R396). -/
namespace Sys2Proof.Machine

/-- The device's serial number as aperture messages carry it (R336). -/
def ownSerial : Nat := Config.serial.toNat % 2 ^ 32
/-- An aperture's run-time state, and its change. -/
def apOf (s : State) (a : Nat) : ApertureRun := tgetD s.apertures a ApertureRun.reset
def onAp (s : State) (a : Nat) (f : ApertureRun → ApertureRun) : State := { s with apertures := tmod s.apertures a ApertureRun.reset f }
/-- The parameters of an aperture: APERTURE, LEAD, EXCLUDE_TICKS, ADOPT, members. -/
def Plan.aperture (p : Plan) (a : Nat) : Option Block := p.find .apertureCreate devDome a
/-- Lead of an aperture. -/
def apLead (b : Block) : Nat := b.nat 1
/-- Members in member order. -/
def apMembers (b : Block) : List Nat := b.nats 4
/-- Does this device lead the aperture? -/
def leads (s : State) (a : Nat) : Bool := match s.plan.aperture a with | some b => apLead b == ownSerial | none => false
/-- A member's entry. -/
def apMember (s : State) (a serial : Nat) : Option MemberRun := (apOf s a).members.find? (fun m => m.serial == serial)
/-- Change a member's entry. -/
def onMember (s : State) (a serial : Nat) (f : MemberRun → MemberRun) : State :=
  onAp s a (fun r => { r with members := r.members.map (fun m => if m.serial = serial then f m else m) })
/-- The other members that are not excluded. -/
def apPeers (s : State) (a : Nat) : List Nat := ((apOf s a).members.filter (fun m => m.serial != ownSerial && !m.excluded)).map (fun m => m.serial)

/-- Position of this device in an aperture's members, and how many there are. -/
def Plan.apIndex (p : Plan) (v : PV) : Nat × Nat :=
  match v with
  | .num a => (match p.aperture a.toNat with | some ab => (((apMembers ab).findIdx? (fun x => x == ownSerial)).getD 0, (apMembers ab).length) | none => (0, 1))
  | _ => (0, 1)
/-- The 16-byte header of a control message (R336). -/
def ctlHeader (typ len id : Nat) : List Byte := leBytes 2 typ ++ leBytes 2 len ++ leBytes 4 ownSerial ++ leBytes 4 id ++ leBytes 4 0
/-- Queue a control message for the next control flow-tick. -/
def apSend (s : State) (a peer typ id : Nat) (body : List Byte) : State := onAp s a (fun r => { r with outq := r.outq ++ [(peer, typ, id, body)] })
/-- Links of an aperture: port and parameters. -/
def Plan.apLinks (p : Plan) (a : Nat) : List (Nat × Block) := (p.of .apertureLink devDome).filter (fun (e : Nat × Block) => e.2.nat 0 == a)
/-- Links of an aperture as pairs of devices with their DELAY_MAX_NS: this device's own, and those between other members (log entry 47). -/
def Plan.apEdges (p : Plan) (a : Nat) : List (Nat × Nat × Nat) :=
  (p.apLinks a).map (fun (e : Nat × Block) => (ownSerial, e.2.nat 2, e.2.nat 8)) ++ (Config.peerLinks a).filter (fun x => x.1 != ownSerial && x.2.1 != ownSerial)
/-- Delay of the link between two devices, if one joins them. -/
def Plan.apHop (p : Plan) (a x y : Nat) : Option Nat :=
  ((p.apEdges a).find? (fun e => (e.1 == x && e.2.1 == y) || (e.1 == y && e.2.1 == x))).map (fun e => e.2.2)
/-- Devices of an aperture in ascending order of serial; before its creation this device and those at the ends of its links. -/
def Plan.apNodes (p : Plan) (a : Nat) : List Nat :=
  (match p.aperture a with | some b => apMembers b | none => (ownSerial :: (p.apLinks a).map (fun (e : Nat × Block) => e.2.nat 2)).eraseDups).mergeSort (fun x y => decide (x ≤ y))
/-- Routes from a device, layer by layer: each by the fewest links and, of those, the one through the member with the lower serial (R329). -/
def apSpread (next : Nat → List Nat) : Nat → List (Nat × List Nat) → List (Nat × List Nat) → List (Nat × List Nat)
  | 0, done, _ => done
  | n + 1, done, layer =>
    let grown := layer.foldl (fun (g : List (Nat × List Nat)) (r : Nat × List Nat) =>
      g ++ ((next r.1).filter (fun x => !(done ++ g).any (fun y => y.1 == x))).map (fun x => (x, r.2 ++ [x]))) []
    apSpread next n (done ++ grown) grown
/-- Routes of an aperture from one of its devices to every device that links reach: the device and the path after the first (R329). -/
def Plan.apRoutes (p : Plan) (a from' : Nat) : List (Nat × List Nat) :=
  let nodes := p.apNodes a
  apSpread (fun x => nodes.filter (fun y => (p.apHop a x y).isSome)) nodes.length [(from', [])] [(from', [])]
/-- Transit latency along a path from a device: 1 and the ticks of every link's DELAY_MAX_NS, a tick being M * 6.4 ns (R330). -/
def Plan.apLt (p : Plan) (a from' : Nat) (path : List Nat) : Nat :=
  1 + (((from' :: path).zip path).map (fun (h : Nat × Nat) => ceilDiv ((p.apHop a h.1 h.2).getD 0 * 10) (Nat.max 1 p.m * 64))).foldl (· + ·) 0
/-- L_c: the longest Transit latency between the lead and any member, along the route of R329 (R337). -/
def Plan.apLc (p : Plan) (a : Nat) : Nat :=
  let lead := match p.aperture a with | some b => apLead b | none => ownSerial
  ((p.apRoutes a lead).map (fun r => p.apLt a lead r.2)).foldl Nat.max 1
/-- LEAD_TICKS (R337). -/
def Plan.leadTicks (p : Plan) (a : Nat) : Nat := 3 * p.apLc a + 4
/-- Port of the link on which the route to a member begins (R329), if one reaches it. -/
def Plan.apPort (p : Plan) (a peer : Nat) : Option Nat :=
  (((p.apRoutes a ownSerial).find? (fun r => r.1 == peer)).bind (fun r => r.2.head?)).bind (fun h =>
    ((p.apLinks a).find? (fun l => l.2.nat 2 == h)).map (fun l => l.2.nat 1))
/-- Port of this device's own link to another. -/
def Plan.portTo (p : Plan) (a x : Nat) : Option Nat := ((p.apLinks a).find? (fun l => l.2.nat 2 == x)).map (fun l => l.2.nat 1)
/-- Path between two devices (R329). -/
def Plan.apPath (p : Plan) (a x y : Nat) : List Nat := (((p.apRoutes a x).find? (fun r => r.1 == y)).map (fun r => r.2)).getD []
/-- The control messages of one link that fit `room` bytes, of which the first has gone up to `sent` bytes: the pieces, how many messages end with them, and how much of
the next has gone (R336). -/
def apFill : Nat → Nat → List (Nat × Nat × Nat × List Byte) → List (Nat × Nat × List Byte) × Nat × Nat
  | _, sent, [] => ([], 0, sent)
  | room, sent, m :: l =>
    let w := ctlHeader m.2.1 m.2.2.2.length m.2.2.1 ++ m.2.2.2
    let n := Nat.min room (w.length - sent)
    let piece := if n = 0 then [] else [(m.1, m.2.1, sliceL w sent n)]
    if sent + n < w.length then (piece, 0, sent + n) else let r := apFill (room - n) 0 l; (piece ++ r.1, r.2.1 + 1, r.2.2)
/-- The first `n` entries with a property go. -/
def dropFirst {α : Type} (f : α → Bool) : Nat → List α → List α
  | 0, l => l
  | _, [] => []
  | n + 1, x :: l => if f x then dropFirst f n l else x :: dropFirst f (n + 1) l
/-- Run-time state of a link, at its start. -/
def linkNew : LinkRun := { lo := none, hi := none, out := 0 }
/-- The control flow-tick of one link: the tick status, then up to 4,000 bytes of the messages that take this way, in their order (R336). -/
def apFlow (s : State) (a port peer : Nat) (status : Nat → List Byte) : State :=
  let mine := fun (m : Nat × Nat × Nat × List Byte) => s.plan.apPort a m.1 == some port
  let l := tgetD (apOf s a).links port linkNew
  let r := apFill 4000 l.sent ((apOf s a).outq.filter mine)
  let frames := (port, PortMsg.aperture a peer 0 (status l.seq)) :: r.1.map (fun x => (port, PortMsg.aperture a x.1 x.2.1 x.2.2))
  onAp { s with out := { s.out with frames := s.out.frames ++ frames } } a (fun t =>
    { t with outq := dropFirst mine r.2.1 t.outq, links := tmod t.links port linkNew (fun x => { x with seq := (x.seq + r.2.1) % 2 ^ 32, sent := r.2.2 }) })

/-- End of an aperture read when every part has answered: OK with the bytes of all, one status, or PARTIAL (R395, R396). -/
def apReadEnd (s : State) (a : Nat) (x : ApRead) : State :=
  if x.parts.any (fun p => p.2.isNone) then s
  else
    let s := onAp s a (fun r => { r with reads := r.reads.filter (fun y => y.id != x.id) })
    let opc := Op.captureRead.info.code
    let tsn := tsnOf (decidedTick s x.req)
    let st := x.parts.map (fun p => (p.2.map (fun q => q.1)).getD 8)
    let codes := st.eraseDups
    let bytes := (x.parts.map (fun p => (p.2.map (fun q => q.2)).getD 0)).foldl (· + ·) 0
    match x.up with
    -- a sub-aperture lead merges the replies of its members into its own (R336)
    | some (u, id) => (match s.plan.aperture u with
      | some b => apSend s u (apLead b) 10 id (leBytes 8 (if codes.length = 1 then codes.headD 8 else 1) ++ leBytes 8 x.bitmap ++ leBytes 8 bytes)
      | none => s)
    | none =>
    if codes = [0] then finish s opc x.req 0 0 tsn bytes 0 none
    else if codes.length = 1 ∧ codes != [1] then finish s opc x.req (codes.headD 8) 0 tsn 0 0 none
    else
      let ok := (st.zipIdx.filter (fun e => e.1 == 0)).map (fun e => e.2)
      finish s opc x.req 1 st.length tsn ((ok.map (fun k => 2 ^ k)).foldl (· + ·) 0) 0
        (some ((st.zipIdx.filter (fun e => e.1 != 0)).flatMap (fun e => leBytes 2 e.2 ++ leBytes 1 e.1 ++ leBytes 5 0)))

/-- One part of an aperture read has answered. -/
def apReadPart (s : State) (a id serial status bytes : Nat) : State :=
  match (apOf s a).reads.find? (fun x => x.id == id) with
  | none => s
  | some x =>
    let x' := { x with parts := x.parts.map (fun p => if p.1 = serial ∧ p.2.isNone then (p.1, some (status, bytes)) else p) }
    apReadEnd (onAp s a (fun r => { r with reads := r.reads.map (fun y => if y.id = id then x' else y) })) a x'

/-- This device's own part of an aperture read has ended: the lead counts it, a member answers with DATA_DONE, when its own members have answered too (R396). -/
def apReadOwn (s : State) (a id status bitmap bytes : Nat) : State :=
  if leads s a then apReadPart s a id ownSerial status bytes
  else match s.apertures.findSome? (fun e => (e.2.reads.find? (fun x => x.up == some (a, id))).map (fun x => (e.1, x.id))) with
  | some (c, sub) => apReadPart (onAp s c (fun r => { r with reads := r.reads.map (fun y => if y.id = sub then { y with bitmap := bitmap } else y) })) c sub ownSerial status bytes
  | none => match s.plan.aperture a with
    | some b => apSend s a (apLead b) 10 id (leBytes 8 status ++ leBytes 8 bitmap ++ leBytes 8 bytes)
    | none => s

end Sys2Proof.Machine
end

