-- ==== Sys2Proof/Machine/Ingest.lean ====
section
/-! DEFINITION. Ingest.lean: ports, received Ethernet and Weltilink frames, and landing (R86 to R123). -/
namespace Sys2Proof.Machine

/-! ### Ports -/

/-- The two slots of an IP address as its 16 bytes in network order (R400). -/
def ipBytes (b : Block) (i : Nat) : List Byte := leBytes 8 (b.nat i) ++ leBytes 8 (b.nat (i + 1))
/-- Is an address in the IPv4-mapped form? -/
def isV4 (a : List Byte) : Bool := a.take 12 == (List.replicate 10 0 ++ [255, 255])
/-- IPv4 bytes in the mapped form. -/
def mapV4 (a : List Byte) : List Byte := List.replicate 10 0 ++ [255, 255] ++ a
/-- The unspecified address of a family (R89). -/
def ipNone (a : List Byte) : Bool := a == List.replicate 16 0 || a == mapV4 [0, 0, 0, 0]
/-- Is an address a multicast group? -/
def ipMulticast (a : List Byte) : Bool :=
  if isV4 a then (let x := (a.getD 12 0).toNat; decide (224 ≤ x) && decide (x ≤ 239)) else a.getD 0 0 == 255

/-- Block of PORT_CONFIG (Table 13-10, R89). MODE: 0 ETH, 1 WELTILINK, 2 NONE. NONE ignores every other field and WELTILINK the IP fields. -/
def portConfigBlock : List Param :=
  let eth := fun (p : Param) => (p.when 1 [.named 0]).unless 1 [2]
  let ip := fun (p : Param) => p.unless 1 [1, 2]
  [pI "PORT" 127, pW "MODE" ["ETH", "WELTILINK", "NONE"], ((pN "WIDTH" 0 (2 ^ 62)).when 1 [.named 0, .named 1]).unless 1 [2],
   eth (pN "MAC" 0 (2 ^ 48 - 1)), ip ⟨"IPV4", .any, .rule, [(1, [.named 0])]⟩, ip ⟨"IPV4 2", .any, .rule, [(1, [.named 0])]⟩,
   ip ((pN "IPV4_PREFIX" 0 32).when 1 [.named 0]), ip ⟨"IPV6", .any, .rule, [(1, [.named 0])]⟩, ip ⟨"IPV6 2", .any, .rule, [(1, [.named 0])]⟩,
   ip ((pN "IPV6_PREFIX" 0 128).when 1 [.named 0]), eth (pNW "VLAN" 1 4094 ["UNTAGGED"]), eth (pN "MTU" 1500 9216), eth (pN "PTP" 0 1)]

/-- Settings of a configured port. -/
def Plan.port (p : Plan) (n : Nat) : Option Block := p.find .portConfig devDome n
/-- Is a port in ETH mode? -/
def portEth (b : Block) : Bool := b.is 1 0
/-- A port's run-time state. -/
def portRun (s : State) (n : Nat) : PortRun := tgetD s.ports n PortRun.reset
/-- Change a port's run-time state. -/
def onPort (s : State) (n : Nat) (f : PortRun → PortRun) : State := { s with ports := tmod s.ports n PortRun.reset f }
/-- A receive counter. -/
def PortRun.count (p : PortRun) (c : PortCtr) (lane : Nat) : Nat := tgetD p.cnt (c, lane) 0

/-- Cause kind of RXERR for the counters that raise it (R123, Table 16-7). -/
def rxerrKind : PortCtr → Option Nat
  | .fcsErr => some 0x12 | .fecUncorrCw => some 0x13 | .hcrcErr => some 0x14 | .fecDiscard => some 0x15 | .hdrErr => some 0x16 | _ => none

/-- Count on a port (modulo 2^64, R121); RXERR is raised at most once per tick with the first counter's cause (R123). -/
def bump (s : State) (port lane : Nat) (c : PortCtr) (k : Nat) : State :=
  let s := onPort s port (fun p => { p with cnt := tset p.cnt (c, lane) ((p.count c lane + k) % 2 ^ 64) })
  match rxerrKind c with
  | some kind =>
    if (portRun s port).rxerr then s
    else raise (onPort s port (fun p => { p with rxerr := true })) (817 + 2 * port) (causeId kind port)
  | none => s

/-- Change one receiving lane of a port. -/
def setLane (k : Nat) (f : LaneRun → LaneRun) (p : PortRun) : PortRun :=
  { p with lanes := p.lanes.mapIdx (fun i l => if i = k then f l else l) }

/-- A lane falls to DOWN. -/
def laneDown (l : LaneRun) : LaneRun := { l with st := .down, good := 0, bad := 0 }

/-- A lane that was down starts to hunt: its FEC has lock again (R97). -/
def laneWake (l : LaneRun) : LaneRun := if l.st = .down then { l with st := .hunt, good := 0, bad := 0 } else l

/-- Send on a port. -/
def transmit (s : State) (port : Nat) (m : PortMsg) : State := { s with out := { s.out with frames := s.out.frames ++ [(port, m)] } }

/-- LINK (R123). -/
def linkEvent (s : State) (port : Nat) : State := raise s (816 + 2 * port) (causeId 0x11 port)

/-- Has every lane FEC lock, on a link that is up? -/
def PortRun.allUp (p : PortRun) : Bool := p.linkUp && p.lanes.all (fun l => l.st != .down)

/-- PORT_LINK_UP after retraining (R89), or when lanes that went down one by one have FEC lock again (R97). -/
def execPortLinkUp (port : Nat) (s : State) : Host.Outcome State Fault Refusal :=
  if 128 ≤ port then .fault .noSuchUnit
  else if (s.plan.port port).isNone || (portRun s port).allUp then .next s
  else .next (linkEvent (onPort s port (fun p => { p with linkUp := true, lanes := p.lanes.map laneWake })) port)

/-- A link that goes down. -/
def PortRun.dropLink (p : PortRun) : PortRun := { p with linkUp := false, lanes := p.lanes.map laneDown }

/-- PORT_LINK_DOWN: the link, or a Weltilink lane (named by `lane`), goes down (R121, R123). A link of several lanes that goes down as a whole
counts once in LINK_DOWN, on lane 0; what is down already makes no transition. -/
-- DESIGN CHOICE, notes/assumptions/143.md
def execPortLinkDown (port : Nat) (lane : Option Nat) (s : State) : Host.Outcome State Fault Refusal :=
  if 128 ≤ port then .fault .noSuchUnit
  else if (s.plan.port port).isNone then .next s
  else
    let p := portRun s port
    match lane with
    | none => .next (if p.linkUp then linkEvent (bump (onPort s port PortRun.dropLink) port 0 .linkDown 1) port else s)
    | some k =>
      .next (if (p.lanes.getD k LaneRun.reset).st = .down then s else linkEvent (bump (onPort s port (setLane k laneDown)) port k .linkDown 1) port)

/-! ### Feeds -/

/-- Block of FEED_DEFINE (Table 4-6). ENCAP: 0 VORSY, 1 VDIF, 2 WELTILINK; RING: 0 AUTO, 1 SRAM, 2 HBM. DST_ADDR = PORT is the first
slot 2^63 with a second slot of 0 (log entry 12). -/
def feedDefineBlock : List Param :=
  let udp : List PV := [.named 0, .named 1]
  [pN "FEED" 0 1023, pW "ENCAP" ["VORSY", "VDIF", "WELTILINK"], pL1 "PORTS" 16 [(0, 2 ^ 62)], (pN "UDP_PORT" 1 65535).when 1 udp,
   ⟨"DST_ADDR", .any, .rule, [(1, udp)]⟩, ⟨"DST_ADDR 2", .any, .rule, [(1, udp)]⟩,
   ⟨"SRC_ADDR", .any, .rule, [(1, udp)]⟩, ⟨"SRC_ADDR 2", .any, .rule, [(1, udp)]⟩,
   (pN "STREAM_ID" 0 65535).when 1 [.named 0, .named 2], (pN "STATION_ID" 0 65535).when 1 [.named 1], (pN "THREAD_ID" 0 1023).when 1 [.named 1],
   ⟨"BITS", .cases 1 [wordSlot 1] (.nat 0 (2 ^ 62) []) (.set [4, 8, 12] []), .req, []⟩, pN "CPLX" 0 1, pN "RATE_NUM" 1 (2 ^ 40 - 1), pN "RATE_DEN" 1 (2 ^ 32 - 1),
   ⟨"ANCHOR_TICK", .any, .req, []⟩, ⟨"ANCHOR_SAMPLE", .any, .req, []⟩, pN "ARRIVE" 0 16383, pN "HOLD" 0 16383,
   pL1 "TILES" 4 [(0, 2 ^ 62)], pW "RING" ["AUTO", "SRAM", "HBM"], ⟨"LAND_KIB", .step 0 4096 64 ["AUTO"], .val (.named 0), []⟩]

/-- Definition of a feed. -/
def Plan.feed (p : Plan) (f : Nat) : Option Block := p.find .feedDefine devDome f
/-- Bits of one sample (R101 ff.). -/
def feedW (b : Block) : Nat := b.nat 11 * (1 + b.nat 12)
/-- Samples per tick S = f P (R37): numerator and denominator. -/
def feedSRat (b : Block) (m : Nat) : Nat × Nat := (b.nat 13 * m * 64, b.nat 14 * 10000000000)
/-- Samples per tick S. -/
def feedS (b : Block) (m : Nat) : Nat := let r := feedSRat b m; r.1 / r.2
/-- ANCHOR_TICK, ANCHOR_SAMPLE, ARRIVE, HOLD. -/
def feedAnchor (b : Block) : Nat × Nat := (b.nat 15, b.nat 16)
def feedA (b : Block) : Nat := b.nat 17
def feedH (b : Block) : Nat := b.nat 18
/-- First sample index of a tick (R108). -/
def firstSample (b : Block) (m : Nat) (n : Int) : Int := (b.nat 16 : Int) + (n - b.nat 15) * feedS b m
/-- Tick of a sample (R108). -/
def tickOfSample (b : Block) (m : Nat) (k : Int) : Int := (b.nat 15 : Int) + (k - b.nat 16) / feedS b m
/-- M of a ring's sample tick. -/
def Ring.mAt (r : Ring) (n : Int) : Nat := mAtTick r.m r.old n
/-- Tick of a sample in a ring: below its anchor sample, the one before a change of M counts (R108, R109). -/
def Ring.tickOf (r : Ring) (k : Int) : Int :=
  match r.old with | some (_, m0) => if k < (r.block.nat 16 : Int) then tickOfSample r.block m0 k else tickOfSample r.block r.m k | none => tickOfSample r.block r.m k
/-- Ports and conditioning tiles of a feed. -/
def feedPorts (b : Block) : List Nat := b.nats 2
def feedTiles (b : Block) : List Nat := b.nats 19

/-- A feed's run-time state. -/
def feedRun (s : State) (f : Nat) : FeedRun := tgetD s.feeds f FeedRun.reset
/-- Change a feed's run-time state. -/
def onFeed (s : State) (f : Nat) (g : FeedRun → FeedRun) : State := { s with feeds := tmod s.feeds f FeedRun.reset g }

/-! ### Landing -/

/-- Outcome of a granule for its packet's counters (R117). -/
structure GranRes where
  late : Bool := false
  early : Bool := false
  dup : Bool := false

/-- Land one granule in the slot of tick `n` at device tick `now` (R110, R117). A packet marked INVALID (`write` false) writes nothing and marks nothing valid. -/
def landCopy (r : Ring) (now n g : Nat) (bytes : List Byte) (clip write : Bool) (res : GranRes) : Ring × GranRes :=
  let a := feedA r.block
  if n < r.first ∨ n + a + 3 < now then
    ({ r with slots := r.slots.map (fun sl => if sl.tick = n then { sl with late := true } else sl) }, { res with late := true })
  else if now + 1 < n + a then (r, { res with early := true })
  else
    match r.slots.find? (fun sl => sl.tick == n) with
    | none => (r, { res with early := true })
    | some sl =>
      match tget sl.grans g with
      | some _ => (r, { res with dup := true })
      | none =>
        if !write then (r, res)
        else ({ r with slots := r.slots.map (fun x => if x.tick = n then { x with grans := (g, bytes) :: x.grans, extClip := x.extClip || clip } else x) }, res)

/-- Land one granule in every slot whose samples it holds (R110). -/
def landGranule (r : Ring) (now g : Nat) (bytes : List Byte) (clip write : Bool) (res : GranRes) : Ring × GranRes :=
  let w := feedW r.block
  let n1 := r.tickOf (256 * g / w : Nat)
  let n2 := r.tickOf ((256 * g + 255) / w : Nat)
  (List.range ((n2 - n1).toNat + 1)).foldl (fun (a : Ring × GranRes) i => landCopy a.1 now (n1.toNat + i) g bytes clip write a.2) (r, res)

/-- Inverts the most significant bit of each component of a VDIF byte at stream byte position `pos` (R105). -/
def vdifByte (bits pos : Nat) (b : Byte) : Byte :=
  b ^^^ BitVec.ofNat 8 ((List.range 8).foldl (fun a t => if (8 * pos + t) % bits = bits - 1 then a + 2 ^ t else a) 0)

/-- The granules of a payload that starts at sample `k`: granule number and bytes. -/
def payloadGranules (b : Block) (k : Nat) (payload : List Byte) : List (Nat × List Byte) :=
  let g0 := k * feedW b / 256
  (List.range (payload.length / 32)).map (fun i =>
    let bytes := sliceL payload (32 * i) 32
    (g0 + i, if b.is 1 1 then bytes.mapIdx (fun j x => vdifByte (b.nat 11) (32 * (g0 + i) + j) x) else bytes))

/-- The open ring of a feed: the one under its present definition. -/
def FeedRun.openRing (fr : FeedRun) : Option Ring := fr.rings.getLast?.bind (fun r => if r.closed then none else some r)

/-- A sample packet of a feed (R117): `k` its first sample, `rx` its receive time from the start of the running tick in fs. -/
def landPacket (s : State) (f k rxFs : Nat) (payload : List Byte) (clip invalid : Bool) : State :=
  let fr := feedRun s f
  match fr.openRing with
  | none => s
  | some ring =>
    let gs := payloadGranules ring.block k payload
    let (ring, res) := gs.foldl (fun (a : Ring × GranRes) g => landGranule a.1 s.time.tick64 g.1 g.2 clip (!invalid) a.2) (ring, {})
    let rxT : Int := sciOfTick s s.time.tick64 + (rxFs * uFs : Nat)
    let rs : List Int := gs.map (fun g => rxT - nominalOfTick s (ring.tickOf (256 * g.1 / feedW ring.block : Nat)))
    let arr := rs.foldl (fun (a : Option (Int × Int)) r => match a with
      | none => some (r, r)
      | some (lo, hi) => some (if r < lo then r else lo, if hi < r then r else hi)) fr.runArr
    { s with feeds := tset s.feeds f { fr with
        pkts := fr.pkts + 1, invalidPkts := fr.invalidPkts + b2n invalid, rings := fr.rings.dropLast ++ [ring], latePkts := fr.latePkts + b2n res.late, earlyPkts := fr.earlyPkts + b2n res.early,
        dupPkts := fr.dupPkts + b2n res.dup, runArr := arr } }

/-- The landing slot that opens at device tick `m` for a ring (R110, R113): tick m - A + 1. -/
def openSlot (m : Nat) (r : Ring) : Ring :=
  if r.closed || decide (m + 1 < r.first + feedA r.block) then r
  else
    let n := m + 1 - feedA r.block
    if r.slots.any (fun sl => sl.tick == n) then r
    else { r with slots := r.slots ++ [{ tick := n, grans := [], extClip := false, late := false }] }

/-- Granules that hold a sample of tick `n` (R113). -/
def tickGranules (b : Block) (m n : Nat) : List Nat :=
  let w : Int := feedW b
  let lo := (firstSample b m n * w / 256).toNat
  let hi := (((firstSample b m n + feedS b m) * w - 1) / 256).toNat
  (List.range (hi + 1 - lo)).map (· + lo)

/-- Granules of a slot that are still invalid. -/
def missingGranules (r : Ring) (sl : LSlot) : Nat :=
  ((tickGranules r.block (r.mAt sl.tick) sl.tick).filter (fun g => (tget sl.grans g).isNone)).length

/-- A ring that is removed at device tick `e`, with the granules missing of the slots that close with it: it lands nothing more, the slot that opens at `e` never
opens, and those still open close as they stand (R116, R122). -/
def Ring.shut (e : Nat) (r : Ring) : Ring × Nat :=
  if r.closed then (r, 0)
  else
    let r := { r with closed := true, slots := r.slots.filter (fun sl => decide (sl.tick + feedA r.block ≤ e)) }
    (r, ((r.slots.filter (fun sl => decide (e < sl.tick + feedA r.block + 4))).map (missingGranules r)).foldl (· + ·) 0)

/-- TICK_BOUNDARY's part of landing at device tick `m`: slots open, and the slot that has just closed gives its MISSING_GRANULES (R113, R118, R122). -/
def landTick (s : State) : State :=
  let m := s.time.tick64
  let s := { s with feeds := s.feeds.map (fun (e : Nat × FeedRun) =>
    let fr := e.2
    let closing := fr.rings.foldl (fun a (r : Ring) => r.slots.foldl (fun a (sl : LSlot) =>
      if sl.tick + feedA r.block + 4 = m ∧ !r.closed then a + missingGranules r sl else a) a) 0
    (e.1, { fr with rings := fr.rings.map (openSlot m), missing := fr.missing + closing })) }
  { s with ports := s.ports.map (fun (e : Nat × PortRun) => (e.1, { e.2 with rxerr := false, lanes := e.2.lanes.map (fun l =>
      { l with hcrcPrev := l.hcrcNow, fecPrev := l.fecNow, hcrcNow := false, fecNow := false }) })) }

/-- A Weltilink frame (Table 4-3): one header block, then up to 127 payload blocks, zeros beyond the payload. It has no stream and no sample index. -/
def weltiFrame (typ lane width flags seq : Nat) (payload : List Byte) : List Byte :=
  let h := beBytes 2 0x5E7A ++ beBytes 1 (16 + typ) ++ beBytes 1 lane ++ beBytes 1 width ++ beBytes 1 flags ++ beBytes 2 0 ++ beBytes 8 0 ++
    beBytes 2 payload.length ++ beBytes 2 (seq % 65536) ++ beBytes 8 0
  let b := h ++ beBytes 4 (crc32c h) ++ payload
  b ++ List.replicate (4096 - b.length) 0

/-- CONTROL payload of a Weltilink port (Table 4-4). -/
def controlPayload (s : State) (l : LaneRun) : List Byte :=
  beBytes 8 s.time.tick64 ++ ct96Be (ct96 (sciOfTick s s.time.tick64)) ++ beBytes 4 s.plan.m ++
  beBytes 1 (b2n (stampHoldover s) + 2 * b2n (!s.time.sciSet) + 4 * b2n l.hcrcPrev + 8 * b2n l.fecPrev) ++ List.replicate 7 0

/-- Frames that one lane of a Weltilink port sends in the tick that begins: IDLE frames, with one CONTROL frame among the first six, which end within 1 µs, where the
port carries an ingest feed (R95, R100). How the frames of 163.84 ns lie against the tick is open: a free value says how many IDLE frames stand before the CONTROL
frame, and whether one frame more begins in the tick. -/
-- DESIGN CHOICE, notes/assumptions/139.md
def laneTx (port lane width : Nat) (control transit : Bool) (s : State) : State :=
  let l := (portRun s port).lanes.getD lane LaneRun.reset
  let (v, s) := drawNat s
  let total := (5 * s.time.len + v / 6 % 128) / 128
  let lead := if transit then v % (total + 1) else if control then v % 6 else total
  let flags := 4 * b2n (stampHoldover s)
  let idle := fun (seq n : Nat) (s : State) => if n = 0 then s else transmit s port (.idle lane n (weltiFrame 0 lane width flags seq []))
  let s := idle l.txSeq lead s
  let s := if control && !transit then idle (l.txSeq + lead + 1) (total - 1 - lead) (transmit s port (.welti lane (weltiFrame 2 lane width flags (l.txSeq + lead) (controlPayload s l)))) else s
  onPort s port (setLane lane (fun l => { l with txSeq := (l.txSeq + (if control && !transit then Nat.max total (lead + 1) else total)) % 65536 }))

/-- What the Weltilink ports send in the tick that begins (R95, R100). Of a port whose transmit direction carries Transit it is the IDLE frames between the flow-ticks, which the
model leaves out (log entry 14). -/
def controlTx (s : State) : State :=
  (s.plan.objs .portConfig).foldl (fun s e =>
    let p := e.2.1
    let carries := (s.plan.objs .feedDefine).any (fun f => (feedPorts f.2.2).contains p)
    let transit := (s.plan.objs .apertureLink).any (fun l => l.2.2.nat 1 == p)
    if portEth e.2.2 then s
    else (List.range (e.2.2.nat 2)).foldl (fun s i => laneTx p i (e.2.2.nat 2) carries transit s) s) s

/-- ARRIVAL_STATS_UPDATE: every 2^16 ticks the extremes of r are published in ns and start afresh (R122). A feed that
received no packet in that time keeps the values it last published. -/
-- DESIGN CHOICE, notes/assumptions/144.md
def execArrivalStatsUpdate (s : State) : Host.Outcome State Fault Refusal :=
  .next { s with feeds := s.feeds.map (fun e =>
    match e.2.runArr with
    | none => e
    | some (lo, hi) => (e.1, { e.2 with arrMin := lo / (1000000 * uFs : Nat), arrMax := hi / (1000000 * uFs : Nat), runArr := none })) }

/-! ### Ethernet frames -/

/-- A received Ethernet frame taken apart. -/
structure EthView where
  dst : List Byte
  vlans : List Nat
  etype : Nat
  /-- Bytes after the EtherType, without FCS. -/
  body : List Byte

/-- Take a frame apart (at most two 802.1Q tags are looked at). -/
def ethView (f : List Byte) : EthView :=
  let n := f.length - 4
  let at2 := fun i => beField f i 2
  if at2 12 = 0x8100 then
    if at2 16 = 0x8100 then ⟨f.take 6, [at2 14 % 4096, at2 18 % 4096], at2 20, sliceL f 22 (n - 22)⟩
    else ⟨f.take 6, [at2 14 % 4096], at2 16, sliceL f 18 (n - 18)⟩
  else ⟨f.take 6, [], at2 12, sliceL f 14 (n - 14)⟩

/-- Multicast groups of the feeds on a port (R92). -/
def portGroups (p : Plan) (port : Nat) : List (List Byte) :=
  ((p.objs .feedDefine).filter (fun e => (feedPorts e.2.2).contains port && !e.2.2.is 1 2 && ipMulticast (ipBytes e.2.2 4))).map
    (fun e => ipBytes e.2.2 4) |>.eraseDups

/-- MAC address of a multicast group. -/
def groupMac (a : List Byte) : List Byte :=
  if isV4 a then [1, 0, 0x5E, (a.getD 13 0) &&& 127, a.getD 14 0, a.getD 15 0] else [0x33, 0x33] ++ a.drop 12

/-- MAC addresses of the groups that a port's own addresses make it join: the solicited-node group of its IPv6 address, the groups to which the queries of
IGMP and MLD go (R92), and with PTP = 1 the groups of IEEE 1588 (R93). -/
-- PRESUMED, notes/assumptions/140.md
def ownGroupMacs (pb : Block) : List (List Byte) :=
  let six := fun (a b c d e f : Nat) => [a, b, c, d, e, f].map (BitVec.ofNat 8)
  let a6 := ipBytes pb 7
  (if ipNone (ipBytes pb 4) then [] else [six 1 0 0x5E 0 0 1]) ++
  (if ipNone a6 then [] else [six 0x33 0x33 0 0 0 1, six 0x33 0x33 0xFF 0 0 0 |>.take 3 |>.append (a6.drop 13)]) ++
  (if pb.flag 12 then [six 1 0x1B 0x19 0 0 0, six 1 0x80 0xC2 0 0 0x0E, six 1 0 0x5E 0 1 0x81, six 1 0 0x5E 0 0 0x6B, six 0x33 0x33 0 0 1 0x81, six 0x33 0x33 0 0 0 0x6B] else [])

/-- Does a port take frames sent to a MAC address (Table 4-2, check 4)? -/
def macTaken (p : Plan) (port : Nat) (pb : Block) (dst : List Byte) : Bool :=
  dst == leBytes 6 (pb.nat 3) || dst == List.replicate 6 255 || ((portGroups p port).map groupMac).contains dst || (ownGroupMacs pb).contains dst

/-- An IP datagram with its addresses in 16-byte form. -/
structure IpView where
  ok : Bool
  proto : Nat
  src : List Byte
  dst : List Byte
  v4 : Bool
  body : List Byte

/-- Check and read the IP header (Table 4-2, check 7). -/
def ipView (e : EthView) : IpView :=
  let b := e.body
  if e.etype = 0x0800 then
    let total := beField b 2 2
    { ok := b.getD 0 0 == 0x45 && beField b 6 2 % 0x4000 == 0 && sum16 (b.take 20) == 0xFFFF && decide (20 ≤ total) && decide (total ≤ b.length),
      proto := (b.getD 9 0).toNat, src := mapV4 (sliceL b 12 4), dst := mapV4 (sliceL b 16 4), v4 := true, body := sliceL b 20 (total - 20) }
  else if e.etype = 0x86DD then
    let len := beField b 4 2
    { ok := b.getD 6 0 == 17 && decide (len + 40 ≤ b.length), proto := (b.getD 6 0).toNat, src := sliceL b 8 16, dst := sliceL b 24 16, v4 := false,
      body := sliceL b 40 len }
  else { ok := false, proto := 256, src := [], dst := [], v4 := false, body := [] }

/-- An inbound RoCEv2 packet other than ACK, NAK (opcode 0x11) and CNP (0x81) is counted by the streams to its sender (R321). -/
def roceUnsup (s : State) (port : Nat) (v : IpView) : State :=
  if [0x11, 0x81].contains (v.body.getD 8 0).toNat then s
  else (s.plan.objs .streamDefine).foldl (fun (s : State) (e : Nat × Nat × Block) =>
    if e.2.2.is 1 2 ∧ e.2.2.nat 2 = port ∧ ipBytes e.2.2 4 = v.src then
      { s with streams := tmod s.streams (e.1, e.2.1) StreamRun.reset (fun r => { r with roceUnsup := r.roceUnsup + 1 }) }
    else s) s

/-- UDP checksum of a datagram is right; zero is accepted for IPv4 only (check 8). The length is that of the IP header, whatever the UDP length field says. -/
-- DESIGN CHOICE, notes/assumptions/146.md
def udpSumOk (v : IpView) : Bool :=
  let u := v.body
  let pseudo := if v.v4 then v.src.drop 12 ++ v.dst.drop 12 ++ [0, 17] ++ beBytes 2 u.length
                else v.src ++ v.dst ++ beBytes 4 u.length ++ [0, 0, 0, 17]
  (v.v4 && beField u 6 2 == 0) || (sum16 (pseudo ++ u) == 0xFFFF && beField u 6 2 != 0)

/-- IEEE 1588 event messages: Sync, Delay_Req, Pdelay_Req, Pdelay_Resp over Ethernet or UDP port 319 (R93). -/
def ptpEvent (e : EthView) (v : IpView) : Bool :=
  if e.etype = 0x88F7 then decide ((e.body.getD 0 0).toNat % 16 ≤ 3)
  else v.ok && v.proto == 17 && beField v.body 2 2 == 319 && decide ((v.body.getD 8 0).toNat % 16 ≤ 3)

/-- Is this a frame for PTP at all: EtherType 0x88F7, or UDP ports 319 and 320? -/
def ptpFrame (e : EthView) (v : IpView) : Bool :=
  e.etype == 0x88F7 || (v.ok && v.proto == 17 && (beField v.body 2 2 == 319 || beField v.body 2 2 == 320))

/-- Frames for the port agent: ARP, ICMP, IGMP, ICMPv6, and MLD, which goes behind a hop-by-hop header (check 6). -/
def agentFrame (e : EthView) (v : IpView) : Bool :=
  e.etype == 0x0806 || (e.etype == 0x0800 && (v.proto == 1 || v.proto == 2)) ||
  (e.etype == 0x86DD && (v.proto == 58 || (v.proto == 0 && (e.body.getD 40 0).toNat == 58)))

/-- RoCEv2: UDP port 4791 (check 6). -/
def roceFrame (v : IpView) : Bool := v.ok && v.proto == 17 && beField v.body 2 2 == 4791

/-- Does a feed's destination match on a port (check 9)? -/
def dstMatch (pb fb : Block) (v : IpView) : Bool :=
  if fb.nat 4 = 2 ^ 63 ∧ fb.nat 5 = 0 then v.dst == ipBytes pb (if v.v4 then 4 else 7)
  else v.dst == ipBytes fb 4

/-- Does a feed match by address and UDP port (check 9)? -/
def feedMatch (port : Nat) (pb fb : Block) (v : IpView) : Bool :=
  !fb.is 1 2 && (feedPorts fb).contains port && dstMatch pb fb v && fb.nat 3 == beField v.body 2 2 &&
  (ipNone (ipBytes fb 6) || ipBytes fb 6 == v.src)

/-- The Vorsy header checks on ingest (R103). -/
def vorsyOk (u : List Byte) : Bool :=
  let pb := beField u 20 2
  decide (32 ≤ u.length) && beField u 0 2 == 0x5646 && u.getD 2 0 == 1 && u.getD 3 0 == 1 && beField u 6 2 / 256 == 0 && beField u 22 2 == 0 &&
  decide (32 ≤ pb) && decide (pb ≤ 8192) && pb % 32 == 0 && pb + 32 == u.length

/-- A VDIF header: its big-endian words (R5, R104). -/
structure VdifView where
  invalid : Bool
  secs : Nat
  refEpoch : Nat
  frame : Nat
  chans : Nat
  bytes : Nat
  cplx : Bool
  bits : Nat
  thread : Nat
  station : Nat
  hdr : Nat

/-- Read a VDIF header. -/
def vdifView (u : List Byte) : VdifView :=
  let w := fun i => beField u (4 * i) 4
  { invalid := bit (w 0) 31, secs := w 0 % 2 ^ 30, refEpoch := bits (w 1) 29 24, frame := w 1 % 2 ^ 24, chans := bits (w 2) 28 24,
    bytes := w 2 % 2 ^ 24 * 8, cplx := bit (w 3) 31, bits := bits (w 3) 30 26 + 1, thread := bits (w 3) 25 16, station := w 3 % 65536,
    hdr := if bit (w 0) 30 then 16 else 32 }

/-- Seconds from 2000-01-01 to half-year epoch `e`, counting 86,400 s per day (R105). -/
def vdifEpochSec (e : Nat) : Nat :=
  let leap := fun y => y % 4 == 0
  let days := (List.range (e / 2)).foldl (fun a y => a + (if leap y then 366 else 365)) 0
  (days + (if e % 2 = 1 then (if leap (e / 2) then 182 else 181) else 0)) * 86400

/-- Does the matched feed agree with the encapsulation's header (check 12, R102, R104)? Gives first sample, payload, CLIP and INVALID. -/
def headerAgrees (fb : Block) (u : List Byte) : Option (Nat × List Byte × Bool × Bool) :=
  let w := feedW fb
  if fb.is 1 0 then
    let k := beField u 8 8
    let fl := beField u 6 2
    if (k * w) % 256 = 0 then some (k, u.drop 32, bit fl 0, bit fl 7) else none
  else
    let h := vdifView u
    let data := u.drop h.hdr
    let n := data.length * 8 / w
    let rate := fb.nat 13 / fb.nat 14
    let k := (vdifEpochSec h.refEpoch + h.secs) * rate + h.frame * n
    if h.chans = 0 ∧ h.bits = fb.nat 11 ∧ h.cplx = (fb.nat 12 == 1) ∧ h.bytes = u.length ∧ data.length % 32 = 0 ∧ data.length * 8 % w = 0 ∧ (k * w) % 256 = 0
    then some (k, data, false, h.invalid) else none

/-- Identifier match (check 11). -/
def identMatch (fb : Block) (u : List Byte) : Bool :=
  if fb.is 1 0 then beField u 4 2 == fb.nat 8
  else let h := vdifView u; h.station == fb.nat 9 && h.thread == fb.nat 10

/-- Encapsulation header well formed (check 10). -/
def encapOk (vdif : Bool) (u : List Byte) : Bool :=
  if vdif then decide (16 ≤ u.length) && (vdifView u).bytes == u.length && decide ((vdifView u).hdr ≤ u.length) else vorsyOk u

/-- PMA and FEC latency that the Ephemeris holds for a port, by its lowest lane (R93). -/
def portLatency (s : State) (port : Nat) : Option Int := (ephFind s 0x02 port).map (fun l => toSigned 64 (leField l 0 8))

/-- A timestamp of a port (R93): the CT96 time of a point `t` fs from the start of the running tick, in steps of 320 ps and within 1 ns of it, a free value saying
where. -/
-- DESIGN CHOICE, notes/assumptions/141.md
def ptpStamp (s : State) (t : Int) : Nat × State :=
  let (v, s) := drawNat s
  let g := t / 320000 + (v % 8 : Nat) - 3
  (ct96 (sciOfTick s s.time.tick64 + (if (g * 320000 - t).natAbs ≤ 1000000 then g else t / 320000) * 320000 * uFs), s)

/-- A received event message goes to the port management queue. The timestamp point is the first bit after the start-of-frame delimiter, which stands before the
last bit by the frame's bits at 200 Gbit/s on each lane. The frame's receive time is that at the lane pins, to which the device comes with the latency of the Ephemeris;
without one the stamp is late by a latency that the model leaves free, and is flagged (R93). -/ -- DESIGN CHOICE, notes/assumptions/141.md
def ptpRx (port width : Nat) (frame : List Byte) (rxFs : Nat) (s : State) : State :=
  let lat := portLatency s port
  let (v, s) := if lat.isSome then (0, s) else drawNat s
  let (x, s) := ptpStamp s ((rxFs : Int) - (frame.length * 40000 / Nat.max 1 width : Nat) + (v : Nat))
  onPort s port (fun p => { p with mgmt := p.mgmt ++ [(frame, x, lat.isNone)] })

/-- CT96 of a receive time in the running tick. -/
def rxCt96 (s : State) (rxFs : Nat) : Nat := ct96 (sciOfTick s s.time.tick64 + (rxFs * uFs : Nat))

/-- Count what forward error correction reports (Table 4-8). -/
def fecCount (fec : List FecWords) (port : Nat) (s : State) : State :=
  fec.foldl (fun (s : State) (w : FecWords) =>
    let s := if w.corrected = 0 then s else bump s port w.lane .fecCorrCw w.corrected
    let s := if w.uncorrectable = 0 then s else bump s port w.lane .fecUncorrCw w.uncorrectable
    if w.symbols = 0 then s else bump s port w.lane .fecSymbols w.symbols) s

/-! ### Received Transit flows (R332 to R334) -/

/-- The schedule's entry of a received flow of which no granule has come. -/
def scheduled (port flow : Nat) : FlowSpec :=
  let l := Config.flowEntry port flow
  let n := fun i => l.getD i 0
  ⟨n 0, n 1, n 2, n 3, n 4, n 5, n 6, n 7, n 8⟩
/-- A received flow, named by its link's port and its number. Its entry of the schedule stands as long as the configuration does (R334); under a new one it is `f`. -/
def flowRun (s : State) (k : Nat × Nat) (f : FlowSpec) : FlowRun :=
  match tget s.flows k with
  | some r => if r.cfg = s.regs.crcActive then r else { r with spec := f, cfg := s.regs.crcActive }
  | none => { spec := f, slots := [], sent := 0, late := 0, absent := 0, cfg := s.regs.crcActive }
/-- Bytes of a flow-tick from an offset on reach the receive buffer, granule by granule: what comes after device tick m + L_t - 1 is late, and of a granule that comes
twice the first arrival stands (R333). -/
def takeGranules (s : State) (port flow : Nat) (spec : FlowSpec) (sendTick offset : Nat) (bytes : List Byte) (invalid : Bool) : State :=
  let r := flowRun s (port, flow) spec
  let n := bytes.length / 32
  if sendTick + r.spec.lt ≤ s.time.tick64 then { s with flows := tset s.flows (port, flow) { r with late := (r.late + n) % 2 ^ 64 } }
  else
    let slot := (r.slots.find? (fun x => x.1 == sendTick)).getD (sendTick, [], false)
    let grans := (List.range n).foldl (fun (t : Tab Nat (List Byte)) (i : Nat) =>
      let g := offset / 32 + i
      if (tget t g).isSome then t else tset t g (sliceL bytes (32 * i) 32)) slot.2.1
    { s with flows := tset s.flows (port, flow) { r with slots := r.slots.filter (fun x => x.1 != sendTick) ++ [(sendTick, grans, slot.2.2 || invalid)] } }
/-- What a link's port brings of a flow: the sending tick by its TSN. Flow 0 is the control flow, whose messages are commands of their own. -/
def flowArrives (s : State) (port flow tsn offset : Nat) (bytes : List Byte) (invalid : Bool) : State :=
  if flow = 0 ∨ (s.plan.find .apertureLink devDome port).isNone then s
  else takeGranules s port flow (scheduled port flow) (tickOfTsn s.time.tick64 tsn).toNat offset bytes invalid
/-- A Vorsy TRANSIT packet (Table 11-2) from the peer of a port's link, checked as other Vorsy headers are (R103). -/
def transitPkt (s : State) (port : Nat) (v : IpView) : Option (List Byte) :=
  let u := v.body.drop 8
  let pl := beField u 20 2
  if (s.plan.find .apertureLink devDome port).any (fun b => ipBytes b 4 == v.src) && decide (32 ≤ u.length) && beField u 0 2 == 0x5646 && u.getD 2 0 == 1 && u.getD 3 0 == 7 &&
    decide (32 ≤ pl) && decide (pl ≤ 8192) && pl % 32 == 0 && pl + 32 == u.length then some u else none

/-- ETH_FRAME_RX: the checks of Table 4-2 in order (R90 to R93, R101 to R105). The frame holds its FCS; `rxFs` is the time from the start
of the running tick to its last bit. An IP packet that is neither UDP nor diverted counts in UNMATCHED. -/
-- DESIGN CHOICE, notes/assumptions/145.md
def execEthFrameRx (port : Nat) (frame : List Byte) (fec : List FecWords) (rxFs : Nat) (s : State) : Host.Outcome State Fault Refusal :=
  if 128 ≤ port ∨ fec.any (fun w => decide (32 ≤ w.lane)) = true then .fault .noSuchUnit
  else
    match s.plan.port port with
    | none => .next s
    | some pb =>
      if !portEth pb || !(portRun s port).linkUp then .next s
      else
        let s := fecCount fec port (bump (bump s port 0 .rxFrames 1) port 0 .rxBytes frame.length)
        let drop := fun (c : PortCtr) => Host.Outcome.next (bump s port 0 c 1)
        let e := ethView frame
        let len := frame.length
        if len < 4 ∨ leField frame (len - 4) 4 ≠ crc32 (frame.take (len - 4)) then drop .fcsErr
        else if len < 64 then drop .runt
        else if pb.nat 11 + (if e.vlans.isEmpty then 18 else 22) < len then drop .oversize
        else if e.etype = 0x8808 then drop .pauseRx
        else if !macTaken s.plan port pb e.dst then drop .unmatched
        else if e.vlans != (match pb.nat? 10 with | some v => [v] | none => []) then drop .unmatched
        else
          let v := ipView e
          if pb.flag 12 && ptpEvent e v then
            .next (bump (ptpRx port (pb.nat 2) frame rxFs s) port 0 .ptpRx 1)
          else if roceFrame v then .next (roceUnsup s port v)
          else if ptpFrame e v then .next s
          else if agentFrame e v then .next (onPort s port (fun p => { p with agentQ := p.agentQ ++ [frame] }))
          else if !v.ok then drop .ipErr
          else if v.proto != 17 then drop .unmatched
          else if !udpSumOk v then drop .csumErr
          else
            let cands := (s.plan.objs .feedDefine).filter (fun f => feedMatch port pb f.2.2 v)
            let u := v.body.drop 8
            match cands with
            | [] =>
              match transitPkt s port v with
              | some u => .next (flowArrives s port (beField u 22 2) (beField u 16 4) (beField u 8 8) (u.drop 32) (bit (beField u 6 2) 7))
              | none => drop .unmatched
            | c :: _ =>
              if !encapOk (c.2.2.is 1 1) u then drop .hdrErr
              else match cands.find? (fun f => identMatch f.2.2 u) with
                | none => drop .unmatched
                | some f =>
                  match headerAgrees f.2.2 u with
                  | none => drop .hdrErr
                  | some (k, payload, clip, inv) => .next (landPacket s f.2.1 k rxFs payload clip inv)

/-! ### Port agent -/

/-- House second of the running tick. -/
def houseSec (s : State) : Nat := s.time.house / uSec

/-- AGENT_REPLY: the agent takes the next diverted frame and answers it when it is a request for the port's own addresses, at most 1,000
frames per second; further frames go to AGENT_DROP (R92). -/
def execAgentReply (port : Nat) (s : State) : Host.Outcome State Fault Refusal :=
  if 128 ≤ port then .fault .noSuchUnit
  else
    let p := portRun s port
    match p.agentQ, s.plan.port port with
    | f :: rest, some pb =>
      let used := if p.agentSec = houseSec s then p.agentUsed else 0
      let s := onPort s port (fun p => { p with agentQ := rest })
      if 1000 ≤ used then .next (bump s port 0 .agentDrop 1)
      else
        let s := onPort s port (fun p => { p with agentSec := houseSec s, agentUsed := used + 1 })
        let e := ethView f
        let v := ipView e
        let own4 := ipBytes pb 4
        let own6 := ipBytes pb 7
        let arp := e.etype == 0x0806 && beField e.body 6 2 == 1 && !ipNone own4 && mapV4 (sliceL e.body 24 4) == own4
        let echo4 := e.etype == 0x0800 && v.proto == 1 && v.body.getD 0 0 == 8 && !ipNone own4 && v.dst == own4
        let b6 := e.body.drop 40
        let echo6 := e.etype == 0x86DD && v.proto == 58 && b6.getD 0 0 == 128 && !ipNone own6 && v.dst == own6
        let ns := e.etype == 0x86DD && v.proto == 58 && b6.getD 0 0 == 135 && !ipNone own6 && sliceL b6 8 16 == own6
        if arp || echo4 || echo6 || ns then .next (transmit s port (.answer f)) else .next s
    | _, _ => .next s

/-- MEMBERSHIP_REPORT: IGMPv3 and MLDv2 reports for the groups of the feeds on a port (R92). -/
def execMembershipReport (port : Nat) (s : State) : Host.Outcome State Fault Refusal :=
  if 128 ≤ port then .fault .noSuchUnit
  else
    let g := portGroups s.plan port
    let g4 := (g.filter isV4).map ofBe
    let g6 := (g.filter (fun a => !isV4 a)).map ofBe
    let s := if g4.isEmpty then s else transmit s port (.report false g4)
    .next (if g6.isEmpty then s else transmit s port (.report true g6))

/-! ### Weltilink frames (R95 to R101) -/

/-- One step of the PRBS31 generator x^31 + x^28 + 1: next bit and register (PRESUMED, log entry 13). -/
def prbs31 (r : Nat) : Bool × Nat :=
  let b := (r.testBit 30) != (r.testBit 27)
  (b, (r * 2 + b2n b) % 2 ^ 31)

/-- Bits of bytes, the most significant one first. -/
def bitsMsb (l : List Byte) : List Bool := l.flatMap (fun b => (List.range 8).map (fun k => b.toNat.testBit (7 - k)))

/-- Bit errors of a payload against PRBS31, and the checker's register after it (R98). A run of TEST frames sets the register by its first 31 bits; from there on the
sequence runs by itself, so a wrong bit counts once. -/
-- DESIGN CHOICE, notes/assumptions/142.md
def prbsErrors (reg : Option Nat) (payload : List Byte) : Nat × Option Nat :=
  let bs := bitsMsb payload
  if reg.isNone && decide (bs.length < 31) then (0, none)
  else
    let r0 := reg.getD ((bs.take 31).foldl (fun a b => 2 * a + b2n b) 0)
    let (e, r) := (if reg.isNone then bs.drop 31 else bs).foldl (fun (a : Nat × Nat) x => let (y, r) := prbs31 a.2; (a.1 + b2n (x != y), r)) (0, r0)
    (e, some r)

/-- Change one lane. -/
def onLane (s : State) (port lane : Nat) (f : LaneRun → LaneRun) : State := onPort s port (setLane lane f)

/-- WELTI_FRAME_RX: a frame on lane `lane` of a link; `fecBad` marks an overlap with an uncorrectable codeword (R97). A VERSION other than 1, a PAYLOAD_BYTES that Table 4-3
does not allow, and a STREAM_ID or SAMPLE_INDEX other than 0 in an IDLE, CONTROL or TEST frame count in HDR_ERR like a reserved field. -/
-- DESIGN CHOICE, notes/assumptions/147.md
def execWeltiFrameRx (port lane : Nat) (frame : List Byte) (fec : List FecWords) (fecBad : Bool) (rxFs : Nat) (s : State) : Host.Outcome State Fault Refusal :=
  if 128 ≤ port ∨ 32 ≤ lane ∨ fec.any (fun w => decide (32 ≤ w.lane)) = true then .fault .noSuchUnit
  else
    match s.plan.port port with
    | none => .next s
    | some pb =>
      let l0 := (portRun s port).lanes.getD lane LaneRun.reset
      if portEth pb || decide (pb.nat 2 ≤ lane) || l0.st == .down then .next s
      else
        let s := fecCount fec port (bump (bump s port lane .rxFrames 1) port lane .rxBytes frame.length)
        let syncOk := beField frame 0 2 == 0x5E7A
        let hcrcOk := beField frame 28 4 == crc32c (frame.take 28)
        let good := syncOk && hcrcOk
        match l0.st with
        | .down => .next s
        | .hunt =>
          if !good then .next (onLane s port lane (fun l => { l with good := 0 }))
          else if l0.good + 1 < 4 then .next (onLane s port lane (fun l => { l with good := l.good + 1 }))
          else .next (weltiUse (linkEvent (onLane s port lane (fun l => { l with st := .framed, good := 0, bad := 0, seq := none })) port) pb)
        | .framed =>
          if !good && decide (4 ≤ l0.bad + 1) then
            let s := if hcrcOk then bump s port lane .hdrErr 1
                     else bump (onLane s port lane (fun l => { l with hcrcNow := true })) port lane .hcrcErr 1
            .next (linkEvent (bump (onLane s port lane (fun l => { l with st := .hunt, good := 0, bad := 0 })) port lane .linkDown 1) port)
          else
            let s := onLane s port lane (fun l => { l with bad := if good then 0 else l.bad + 1 })
            if !hcrcOk then .next (bump (onLane s port lane (fun l => { l with hcrcNow := true })) port lane .hcrcErr 1)
            else if !syncOk then .next (bump s port lane .hdrErr 1)
            else .next (weltiUse s pb)
where
  /-- A frame received in FRAMED with a good header. -/
  weltiUse (s : State) (pb : Block) : State :=
    let typ := (frame.getD 2 0).toNat % 16
    let pl := beField frame 16 2
    let sid := beField frame 6 2
    let k := beField frame 8 8
    let reservedBad := (frame.getD 2 0).toNat / 16 != 1 || decide (32 ≤ (frame.getD 3 0).toNat) || decide (8 ≤ (frame.getD 5 0).toNat) ||
      beField frame 20 8 != 0 || decide (4064 < pl) || pl % 32 != 0 || ((typ == 0 || typ == 2 || typ == 3) && (sid != 0 || k != 0))
    if fecBad then bump (onLane s port lane (fun l => { l with fecNow := true })) port lane .fecDiscard 1
    else if decide (5 ≤ typ) || (frame.getD 3 0).toNat % 32 != lane || (frame.getD 4 0).toNat != pb.nat 2 || reservedBad then bump s port lane .hdrErr 1
    else
      let q := beField frame 18 2
      let prev := ((portRun s port).lanes.getD lane LaneRun.reset).seq
      let s := match prev with | some p => if q = (p + 1) % 65536 then s else bump s port lane .seqGap 1 | none => s
      let s := onLane s port lane (fun l => { l with seq := some q })
      let payload := sliceL frame 32 pl
      if typ = 1 then
        match (s.plan.objs .feedDefine).find? (fun f => f.2.2.is 1 2 && (feedPorts f.2.2).contains port && f.2.2.nat 8 == sid) with
        | none => bump s port lane .unmatched 1
        | some f =>
          if (k * feedW f.2.2) % 256 ≠ 0 then bump s port lane .hdrErr 1
          else landPacket s f.2.1 k rxFs payload (bit (frame.getD 5 0).toNat 0) (bit (frame.getD 5 0).toNat 1)
      else if typ = 2 then
        let p := portRun s port
        let used := if p.ctlSec = houseSec s then p.ctlUsed else 0
        if 1000 ≤ used then bump s port lane .agentDrop 1
        else onPort s port (fun p => { p with mgmt := p.mgmt ++ [(frame, rxCt96 s rxFs, false)], ctlSec := houseSec s, ctlUsed := used + 1 })
      else if typ = 3 then
        let l := (portRun s port).lanes.getD lane LaneRun.reset
        let (e, r) := prbsErrors (if prev = some ((q + 65535) % 65536) then l.prbs else none) payload
        let s := onLane s port lane (fun l => { l with prbs := r })
        if e = 0 then s else bump s port lane .testErr e
      -- a TRANSIT frame: the TSN of its sending tick, and the offset of its bytes in the flow-tick (R332)
      else if typ = 4 then flowArrives s port sid (k / 2 ^ 32) (k % 2 ^ 32) payload (bit (frame.getD 5 0).toNat 1)
      else s

/-! ### Queries and the management queue -/

/-- Block of PORT_STATS, PORT_MGMT_SEND and PORT_MGMT_RECV. -/
def portOnlyBlock : List Param := [pI "PORT" 127]

/-- The counters of Table 4-8 in order. -/
def portCtrs : List PortCtr :=
  [.rxFrames, .rxBytes, .fecCorrCw, .fecUncorrCw, .fecSymbols, .fcsErr, .runt, .oversize, .ipErr, .csumErr, .pauseRx, .ptpRx, .agentDrop, .unmatched,
   .hdrErr, .hcrcErr, .fecDiscard, .seqGap, .testErr, .linkDown]

/-- A counter over all lanes of a port. -/
def PortRun.total (p : PortRun) (c : PortCtr) : Nat := (p.cnt.filter (fun e => e.1.1 == c)).foldl (fun a e => a + e.2) 0

/-- Counters that Table 4-8 keeps per lane. -/
def PortCtr.perLane : PortCtr → Bool
  | .fecCorrCw | .fecUncorrCw | .fecSymbols | .hcrcErr | .fecDiscard | .seqGap | .testErr => true
  | _ => false

/-- PORT_STATS: an operator reads the ports of its own sector (Table 13-10). The counters stand in the order of Table 4-8, one kept per lane as a value for each lane. -/
-- DESIGN CHOICE, notes/assumptions/148.md
def portStatsAct : Act := fun c m =>
  let p := m.block.nat 0
  if !m.byOwner && p / 32 != m.fn.port then .error (rej .denied 0)
  else match c.s.plan.port p with
    | none => .error (rej .nosuch 0)
    | some b =>
      let r := portRun c.s p
      .ok { s := c.s, body := some (portCtrs.flatMap (fun k =>
        if k.perLane then (List.range (b.nat 2)).flatMap (fun l => leBytes 8 (r.count k l)) else leBytes 8 (r.total k))) }

/-- PORT_MGMT_SEND: sends one frame and returns its CT96 transmit time (R93): the frame leaves at some time of the running tick, a free value. A word after the time flags
it where the port's latency is not known. -/
-- DESIGN CHOICE, notes/assumptions/141.md
def portMgmtSendAct : Act := fun c m =>
  let p := m.block.nat 0
  if (c.s.plan.port p).isNone then .error (rej .nosuch 0)
  else
    let (v, s) := drawNat c.s
    .ok { s := transmit s p (.frame m.data),
          body := some (ct96Le (ct96 (sciOfTick s s.time.tick64 + (v % (20 * s.time.len) * 320000 * uFs : Nat))) ++ leBytes 4 (b2n (portLatency s p).isNone)) }

/-- PORT_MGMT_RECV: frames of the queue with their receive times, each with its length, bit 31 of which flags the time (Table 13-10); they leave the queue. -/
-- DESIGN CHOICE, notes/assumptions/141.md
def portMgmtRecvAct : Act := fun c m =>
  let p := m.block.nat 0
  if (c.s.plan.port p).isNone then .error (rej .nosuch 0)
  else
    let q := (portRun c.s p).mgmt
    .ok { s := onPort c.s p (fun p => { p with mgmt := [] }), result := q.length,
          body := some (q.flatMap (fun e => ct96Le e.2.1 ++ leBytes 4 (e.1.length + 2 ^ 31 * b2n e.2.2) ++ padTo 0 (ceilDiv e.1.length 8 * 8) e.1)) }

end Sys2Proof.Machine
end

