-- ==== Sys2Proof/Machine/Condition.lean ====
section
/-! DEFINITION. Condition.lean: release of a landing slot and feed conditioning (R118 to R149). -/
namespace Sys2Proof.Machine

/-- Block of FEED_CONDITION (Table 5-7). SIDEBAND: 0 USB, 1 LSB; PRESET: 0 SWIFT, 1 STEADY, 2 DEEP, 3 STILL, 4 CUSTOM. -/
def feedConditionBlock : List Param :=
  [pN "FEED" 0 1023, pSd "FTW" (-(2 ^ 47)) (2 ^ 47 - 1) 0, pNWd "PHASE0" 0 (2 ^ 48 - 1) ["KEEP"] 0, pWd "SIDEBAND" ["USB", "LSB"] 0,
   ⟨"LO_HZ", .any, .val (.num 0), []⟩, pD "D" 1 64 1, pWd "PRESET" ["SWIFT", "STEADY", "DEEP", "STILL", "CUSTOM"] 1,
   ⟨"T", .set [8, 16, 32, 64] [], .val (.num 16), []⟩, pF "DELAY_EN" 0, pF "FRINGE_EN" 0, pD "DMAX" 0 (2 ^ 30 - 1) 0,
   pWd "DLY_RING" ["AUTO", "SRAM", "HBM"] 0, pD "EXTRAP_LIMIT" 1 1048576 12207]

/-- Conditioning settings of a feed that the owner has not conditioned: every default of Table 5-7. -/
def condDefault (f : Nat) : Block :=
  [.num f, .num 0, .named 0, .named 0, .num 0, .num 1, .named 1, .num 16, .num 0, .num 0, .num 0, .named 0, .num 12207]

/-- Settings in force for a sample tick: the last ones from that tick or earlier (R149). -/
def settingAt (l : List (Nat × Block)) (n : Nat) (d : Block) : Block :=
  (l.foldl (fun (a : Option (Nat × Block)) e => if e.1 ≤ n then (match a with | some x => if x.1 ≤ e.1 then some e else a | none => some e) else a) none).elim d (·.2)

def condD (c : Block) : Nat := c.nat 5
/-- Taps per phase (Table 5-3). -/
def condT (c : Block) : Nat := match c.word? 6 with | some 0 => 8 | some 1 => 16 | some 2 => 32 | some 3 => 64 | _ => c.nat 7
/-- Number of sub-bands of a feed: the number of its tiles (R14). -/
def feedK (b : Block) : Nat := (feedTiles b).length
/-- Input samples per complex sample: 1 complex, 2 through the RTC, 2K for a split feed (R141). -/
def feedDiv (b : Block) : Nat := if b.flag 12 then 1 else if 1 < feedK b then 2 * feedK b else 2
/-- Complex samples per tick S_c (R141). -/
def feedSc (b : Block) (m : Nat) : Nat := feedS b m / feedDiv b
/-- Output samples per tick S_o (R141). -/
def feedSo (b c : Block) (m : Nat) : Nat := feedSc b m / condD c
/-- Output rate f_o as a fraction: numerator and denominator (R126). -/
def feedFo (b c : Block) : Nat × Nat := (b.nat 13, b.nat 14 * feedDiv b * condD c)

/-! ### Release (R110, R118 to R120) -/

/-- A slot's stream byte, if its granule is present. -/
def slotByte (sl : LSlot) (pos : Nat) : Option Byte := (tget sl.grans (pos / 32)).map (fun g => g.getD (pos % 32) 0)

/-- Component `c` of the sample byte stream (R124), with its validity; absent granules read zero (R118). -/
def component (sl : LSlot) (nbits c : Nat) : Int × Bool :=
  let b := c * nbits
  let b0 := slotByte sl (b / 8)
  let b1 := slotByte sl ((b + nbits - 1) / 8)
  let v := (b0.getD 0).toNat + 256 * (if (b + nbits - 1) / 8 = b / 8 then 0 else (b1.getD 0).toNat)
  (toSigned nbits (v >>> (b % 8)), b0.isSome && b1.isSome)

/-- Samples of tick `n` with validity, and whether each is at full scale (R119). -/
def slotSamples (r : Ring) (sl : LSlot) : List ((Int × Int) × Bool × Bool) :=
  let nb := r.block.nat 11
  let k0 := (firstSample r.block (r.mAt sl.tick) sl.tick).toNat
  let full := fun (x : Int) => x == -(2 ^ (nb - 1) : Nat) || x == (2 ^ (nb - 1) : Nat) - 1
  (List.range (feedS r.block (r.mAt sl.tick))).map (fun i =>
    let k := k0 + i
    if r.block.flag 12 then
      let (re, v1) := component sl nb (2 * k)
      let (im, v2) := component sl nb (2 * k + 1)
      ((re, im), v1 && v2, full re || full im)
    else
      let (re, v) := component sl nb k
      ((re, 0), v, full re))

/-- A feed tick record (Table 4-7). -/
structure FeedRec where
  tick : Nat
  valid : Nat
  clip : Nat
  flags : Nat

/-- The feed tick record of a released slot (R119, R120). -/
def feedRecOf (s : State) (r : Ring) (sl : LSlot) (xs : List ((Int × Int) × Bool × Bool)) (poison : Bool) : FeedRec :=
  let valid := (xs.filter (fun x => x.2.1)).length
  let clip := (xs.filter (fun x => x.2.1 && x.2.2)).length
  let missing := decide (0 < missingGranules r sl)
  { tick := sl.tick, valid := valid, clip := clip,
    flags := b2n (decide (0 < clip) || sl.extClip) + 2 * b2n sl.extClip + 4 * b2n missing + 8 * b2n sl.late + 16 * b2n poison + 32 * b2n (holdAt s sl.tick) }

/-! ### Stages (R126 to R139) -/

/-- The sample that stands before the first landed one: zero and invalid (R143). -/
def noSmp : Smp := { re := 0, im := 0, ok := false, fl := 0 }

/-- A weighted sum over a support of samples: exact sum, one convergent rounding by `sh` bits; valid if all are, with all their flags. -/
def firSum (taps : List (Int × Int)) (xs : List Smp) (sh : Nat) : Smp :=
  let z := (taps.zip xs).foldl (fun (a : Int × Int × Bool × Nat) e =>
    let (h, x) := e
    (a.1 + h.1 * x.re - h.2 * x.im, a.2.1 + h.1 * x.im + h.2 * x.re, a.2.2.1 && x.ok, a.2.2.2 ||| x.fl)) (0, 0, true, 0)
  { re := rneShift z.1 sh, im := rneShift z.2.1 sh, ok := z.2.2.1, fl := z.2.2.2 }

/-- `n` samples of a line, newest first, ending at position `p` of the array; positions before it are `noSmp`. -/
def window (a : Array Smp) (p : Int) (n : Nat) : List Smp :=
  (List.range n).map (fun (m : Nat) => let q := p - m; if q < 0 then noSmp else a.getD q.toNat noSmp)

/-- Powers of -j, by which the RTC shifts by a quarter of the rate (R127). -/
def minusJ (k : Int) : Int × Int := match (k % 4).toNat with | 0 => (1, 0) | 1 => (0, -1) | 2 => (-1, 0) | _ => (0, 1)

/-- RTC over one tick: `k0` the absolute index of the first new real sample, `hist` real samples before it (R127). The taps have 17 fractional bits, as those of R133. -/
-- DESIGN CHOICE, notes/assumptions/99.md
def rtcStage (hist xs : List Smp) (k0 : Int) : List Smp :=
  let a := (hist ++ xs).toArray
  let h : Int := hist.length
  (List.range (xs.length / 2)).map (fun (i : Nat) =>
    let taps := (List.range 64).map (fun (m : Nat) =>
      let c := minusJ (k0 + 2 * i + 1 - m)
      let t := Config.rtcTap m
      (t * c.1, t * c.2))
    firSum taps (window a (h + 2 * i + 1) 64) 17)

/-- Band splitter, sub-band `k` of `kk` (R128): the polyphase bank of 2K branches with its 2K-point DFT, offset by half a channel, is the prototype against the input
turned by frequency (k + 1/2)B, over 32K samples. The factors are rounded as R153 rounds twiddles, the sum is exact and rounded once (R126). -/
-- DESIGN CHOICE, notes/assumptions/149.md
def splitStage (kk k : Nat) (hist xs : List Smp) (i0 : Int) : List Smp :=
  let a := (hist ++ xs).toArray
  let h : Int := hist.length
  (List.range (xs.length / (2 * kk))).map (fun (i : Nat) =>
    let newest : Int := 2 * kk * (i0 + i) + 2 * kk - 1
    let z := firSum ((List.range (32 * kk)).map (fun (m : Nat) =>
      let (co, si) := twiddle (((2 * k + 1 : Nat) : Int) * (newest - m) % (4 * kk : Nat)).toNat (4 * kk)
      (Config.splitTap kk m * co, -(Config.splitTap kk m * si)))) (window a (h + 2 * kk * i + 2 * kk - 1) (32 * kk)) 0
    { z with re := rne z.re (Config.splitScale kk), im := rne z.im (Config.splitScale kk) })

/-- Outputs of the band splitter that a tile of the feed computes: run r of 256 is computed for every sub-band by tile r mod K (R129). `void` tells of each of the
feed's tiles whether its work is void, and the flags that this gives. -/
def splitRuns (kk : Nat) (void : List (Option Nat)) (i0 : Int) (ys : List Smp) : List Smp :=
  ys.mapIdx (fun (i : Nat) (y : Smp) => match void.getD ((i0 + i) / 256 % kk).toNat none with | some fl => { y with ok := false, fl := y.fl ||| fl } | none => y)

/-- NCO mixer and sideband conjugation of the sample with index `i` (R126, R130). -/
def mixSample (c : Block) (iS thS i : Int) (x : Smp) : Smp :=
  let th := ofSigned 48 (thS + c.int 1 * (i - iS))
  let (co, si) := twiddle (th / 2 ^ 28) (2 ^ 20)
  let y : Smp := { x with re := rneShift (x.re * co + x.im * si) 17, im := rneShift (x.im * co - x.re * si) 17 }
  if c.is 3 1 then { y with im := -y.im } else y

/-- Decimator over one tick (R132 to R134): `j0` the first output index; samples from `swap` on use the second region. -/
def decimStage (c : Block) (coefA coefB : Nat → Int) (swap : Option Nat) (hist xs : List Smp) (j0 : Int) : List Smp :=
  let d := condD c
  if d = 1 then xs
  else
    let a := (hist ++ xs).toArray
    let h : Int := hist.length
    let n := d * condT c
    (List.range (xs.length / d)).map (fun (j : Nat) =>
      let co := match swap with | some sw => if (sw : Int) ≤ j0 + j then coefB else coefA | none => coefA
      firSum ((List.range n).map (fun (m : Nat) => (co m, 0))) (window a (h + j * d + d - 1) n) 17)

/-- FRINGE in 2^-48 turn per output sample (R139): `sub` the sub-band of a split feed. -/
def fringe (b c : Block) (sub : Nat) : Int :=
  let half : Int := if b.flag 12 then 0 else if 1 < feedK b then 2 * sub + 1 else 1
  let vin : Int := (half * 2 ^ 47 + c.int 1) * (b.nat 13 : Int)
  let lo : Int := (c.nat 4 * b.nat 14 * feedDiv b * 2 ^ 32 : Nat)
  rne ((condD c : Int) * (if c.is 3 1 then lo - vin else lo + vin)) (b.nat 13)

/-- tau_q of a block in 2^-32 output samples: first output index `j`, length `l` (R136). -/
def delayTau (r : Option DelayRec) (j : Int) (l : Nat) : Int :=
  match r with
  | none => 0
  | some r =>
    let u : Int := 2 * (j - r.u0) + l - 1
    rne (r.c0 * 2 ^ 96 + r.c1 * u * 2 ^ 64 + r.c2 * u * u * 2 ^ 32 + r.c3 * u * u * u) (2 ^ 96)

/-- tau_q of a block under DMAX, its whole samples and its phase in 1/1024 (R136, R138): first output index `j`, length `l`. -/
def delaySplit (c : Block) (r : Option DelayRec) (j : Int) (l : Nat) : Int × Int × Nat :=
  let tq := clampInt 0 ((c.nat 10 : Int) * 2 ^ 32) (delayTau r j l)
  let ph := (rne (tq % 2 ^ 32) (2 ^ 22)).toNat
  (tq, if ph = 1024 then tq / 2 ^ 32 + 1 else tq / 2 ^ 32, if ph = 1024 then 0 else ph)

/-- One block of the delay stage: outputs and whether it was clamped (R136, R138). `pos` is the array position of its first sample. The taps have 17 fractional bits. -/
-- DESIGN CHOICE, notes/assumptions/99.md
def delayBlock (b c : Block) (sub : Nat) (r : Option DelayRec) (a : Array Smp) (pos j : Int) (l : Nat) : List Smp × Bool :=
  let (tq, ti, ph) := delaySplit c r j l
  let bad := tq != delayTau r j l
  let taps := (List.range 16).map (fun m => (Config.delayTap ph m, (0 : Int)))
  let psi := (ofSigned 20 (rne (-(fringe b c sub * tq)) (2 ^ 60)))
  let (co, si) := twiddle psi (2 ^ 20)
  ((List.range l).map (fun (i : Nat) =>
    let z := firSum taps (window a (pos + i - ti) 16) 17
    let z := if c.flag 9 && r.isSome then { z with re := rneShift (z.re * co + z.im * si) 17, im := rneShift (z.im * co - z.re * si) 17 } else z
    if bad then { z with ok := false } else z), bad)

/-- Delay stage over one tick (R136): outputs and number of clamped blocks. -/
def delayStage (b c : Block) (sub : Nat) (r : Option DelayRec) (hist xs : List Smp) (j0 : Int) : List Smp × Nat :=
  if !c.flag 8 then (xs, 0)
  else
    let a := (hist ++ xs).toArray
    let h : Int := hist.length
    let n := xs.length
    (List.range (ceilDiv n 64)).foldl (fun (acc : List Smp × Nat) k =>
      let l := Nat.min 64 (n - 64 * k)
      let (z, bad) := delayBlock b c sub r a (h + (64 * k : Nat)) (j0 + (64 * k : Nat)) l
      (acc.1 ++ z, acc.2 + b2n bad)) ([], 0)

/-- The last `n` entries of a list. -/
def lastN {α : Type} (n : Nat) (l : List α) : List α := l.drop (l.length - n)

/-- Parameters whose change clears the pipeline history: D, PRESET, T, SIDEBAND, DMAX, DLY_RING (R145). -/
def condClears (old new : Block) : Bool := [5, 6, 7, 3, 10, 11].any (fun i => old.at i != new.at i)

/-- Conditioning of one released tick of a feed (R147). `poisonOut` names the delay-line samples that read back poisoned (R140), output index j of sub-band k of K as
j K + k; `void` the feed's tiles whose work of this tick is void, with the flags that this gives (R513, R515, R518). -/
def conditionTick (fr : FeedRun) (r : Ring) (rec : FeedRec) (xs : List Smp) (poisonOut : List Nat) (void : List (Option Nat)) : FeedRun :=
  let b := r.block
  let n := rec.tick
  let f := b.nat 0
  let c := settingAt fr.cond n (condDefault f)
  let old := if fr.condNext = 0 then c else settingAt fr.cond (fr.condNext - 1) (condDefault f)
  let fresh := fr.cond.filter (fun e => decide (fr.condNext ≤ e.1) && decide (e.1 ≤ n))
  let changed := !fresh.isEmpty
  let k0 := firstSample b (r.mAt n) n
  let div : Int := feedDiv b
  let i0 := k0 / div
  let d := condD c
  let j0 := i0 / d
  let kk := feedK b
  -- changes up to this sample tick, those of ticks that were not landed among them: the NCO law starts anew with each (R131), and some
  -- clear the history (R145)
  let (iS, thS, _) := fresh.foldl (fun (a : Int × Int × Block) (e : Nat × Block) =>
    let iE := firstSample b (r.mAt e.1) e.1 / div
    -- a change of a tick before the feed's own effective tick leaves the law that began there
    if iE < a.1 then (a.1, a.2.1, e.2)
    else (iE, (match e.2.at 2 with | .num p => p | _ => ofSigned 48 (a.2.1 + a.2.2.int 1 * (iE - a.1))), e.2)) (fr.ncoFrom, fr.ncoPhase, old)
  let clear := changed && condClears old c
  -- a change of D, PRESET or T allocates the regions anew: the active one zero, the staged one as loaded since (R134)
  let newRegion := (fr.regions.filter (fun e => decide (e.1 ≤ n))).getLast?
  let active := if newRegion.isSome then [] else fr.active
  let staged := match newRegion with | some x => x.2 | none => fr.staged
  let regions := fr.regions.filter (fun e => decide (n < e.1))
  -- the swap acts in the sample tick of its SWAP_SAMPLE; one of a region that has gone goes with it
  let gone := match fr.swap, newRegion with | some x, some y => decide (x.2 < y.1) | _, _ => false
  let swap := match fr.swap with | some x => if gone || decide (n < x.2) then none else some x.1 | none => none
  let input := if clear then [] else fr.input
  let subs := (List.range kk).map (fun k => let sr := fr.subs.getD k CondRun.reset; if clear then { sr with mixed := [], decim := [] } else sr)
  -- the delay record whose FIRST_TICK has come (R137)
  let due := fr.delayQ.filter (fun q => decide (q.firstTick ≤ n))
  let delay := match due.getLast? with | some q => some q | none => fr.delay
  let delayQ := fr.delayQ.filter (fun q => decide (n < q.firstTick))
  let extrap := match delay with | some q => decide (q.firstTick + c.nat 12 < n) | none => false
  let custom := c.is 6 4
  let coefA := if custom then (fun m => active.getD m 0) else (fun m => Config.presetTap ((c.word? 6).getD 0) d m)
  let coefB := if custom then (fun m => staged.getD m 0) else coefA
  let nOut := xs.length / feedDiv b / d
  let taken : Bool := match swap with | some sw => decide ((sw : Int) < j0 + nOut) | none => false
  let outs := subs.mapIdx (fun sub sr =>
    let poisonOut := (poisonOut.filter (fun p => p % kk == sub)).map (fun p => p / kk)
    let y := if b.flag 12 then xs else if 1 < kk then splitRuns kk void i0 (splitStage kk sub input xs i0) else rtcStage input xs k0
    let mixed := y.mapIdx (fun i x => mixSample c iS thS (i0 + i) x)
    let dec := decimStage c coefA coefB swap sr.mixed mixed j0
    -- the delay line: output samples of earlier ticks and of this one (R140)
    let from0 : Int := j0 - sr.decim.length
    let poison := fun (j : Int) (l : List Smp) => if poisonOut.isEmpty then l else l.mapIdx (fun (i : Nat) (x : Smp) => if decide (0 ≤ j + i) && poisonOut.contains (j + i).toNat then { x with ok := false } else x)
    let line := poison from0 sr.decim
    let dec := poison j0 dec
    let poisoned := (poisonOut.eraseDups.filter (fun (p : Nat) => decide (from0 ≤ (p : Int)) && decide ((p : Int) < j0 + dec.length))).length
    let (z, clamped) := delayStage b c sub delay line dec j0
    let z := match void.getD sub none with | some fl => z.map (fun (x : Smp) => { x with ok := false, fl := x.fl ||| fl }) | none => z
    let valid := (z.filter (fun (x : Smp) => x.ok)).length
    let seen := z.foldl (fun (a : Nat) (x : Smp) => a ||| x.fl) 0
    let flags := seen % 64 + 64 * b2n (decide (0 < clamped)) + 2048 * b2n (seen.testBit 11)
    let out : OutTick := { tick := n, sub := sub, validOut := valid, clip := rec.clip, flags := flags, samples := z, first := j0, avail := n + feedH b + 5 }
    let cnt := sr.cnt
    let cnt' : CondCnt := { validOut := (cnt.validOut + valid) % 2 ^ 64, dlyRange := cnt.dlyRange + clamped, dlyExtrap := cnt.dlyExtrap + b2n extrap,
                            dlyRecords := cnt.dlyRecords + due.length, coefSwaps := cnt.coefSwaps + b2n (taken && d != 1), condPoison := cnt.condPoison + poisoned }
    (out, ({ mixed := lastN (d * condT c) (sr.mixed ++ mixed), decim := lastN (c.nat 10 + 16) (line ++ dec), cnt := cnt' } : CondRun)))
  { fr with
    condNext := Nat.max fr.condNext (n + 1), ncoFrom := iS, ncoPhase := ofSigned 48 thS, input := lastN (32 * kk + 64) (input ++ xs), subs := outs.map (·.2) ++ fr.subs.drop kk,
    active := if taken then staged else active, staged := if taken then active else staged, regions := regions, swap := if taken || gone then none else fr.swap,
    delay := delay, delayQ := delayQ, outs := fr.outs ++ outs.map (·.1) }

/-- A released tick as landed (R282). -/
def rawTickOf (r : Ring) (rec : FeedRec) (xs : List ((Int × Int) × Bool × Bool)) : RawTick :=
  { tick := rec.tick, first := firstSample r.block (r.mAt rec.tick) rec.tick, clip := rec.clip, flags := rec.flags,
    samples := xs.map (fun x => ({ re := x.1.1, im := x.1.2, ok := x.2.1, fl := rec.flags } : Smp)) }

/-- Physical tile of a logical tile (R16). -/
def physTile (s : State) (l : Nat) : Nat := s.dev.tileMap.getD l l
/-- Is a logical tile quarantined because a record of its units disagrees with the committed copy (R448, R518)? -/
def quarTile (s : State) (l : Nat) : Bool := s.regs.upset.any (fun (x : Nat × Nat × Nat × Nat) => x.2.2.1 == physTile s l)

/-- Tiles of a feed whose conditioning of the tick is void, with the flags that this gives: a failed tile's work is shed; that with a zeroed coefficient word, and that on a
quarantined tile, is invalid (R513, R515, R518). -/
def voidTiles (s : State) (b : Block) : List (Option Nat) :=
  (feedTiles b).map (fun t => if s.care.dead.contains t then some 2048 else if s.care.coefBad.contains (b.nat 0) || quarTile s t then some 0 else none)

/-- Release the slot of a ring that is due at the running device tick (R110): m - H - 4. A ring that a newer one has followed releases its slots as a removal does, and they are not
processed (R116). -/
def releaseRing (s : State) (fr : FeedRun) (r : Ring) (poisoned poisonOut : List Nat) : FeedRun :=
  match r.slots.find? (fun sl => sl.tick + feedH r.block + 4 == s.time.tick64) with
  | none => fr
  | some sl0 =>
    let poisoned := poisoned ++ sl0.bad
    let nPois := (poisoned.filter (fun g => (tget sl0.grans g).isSome)).length
    let sl := { sl0 with grans := sl0.grans.filter (fun e => !poisoned.contains e.1) }
    let xs := slotSamples r sl
    let rec0 := feedRecOf s r sl xs (decide (0 < nPois))
    let sh := 16 - r.block.nat 11
    let smps := xs.map (fun x => ({ re := x.1.1 * 2 ^ sh, im := x.1.2 * 2 ^ sh, ok := x.2.1, fl := rec0.flags } : Smp))
    let fr := { fr with
      rings := fr.rings.map (fun q => if q == r then { q with slots := q.slots.filter (fun x => x.tick != sl.tick) } else q),
      valid := (fr.valid + rec0.valid) % 2 ^ 64, clip := (fr.clip + rec0.clip) % 2 ^ 64, landPoison := fr.landPoison + nPois,
      clipTicks := fr.clipTicks + rec0.flags % 2 }
    if r.closed && fr.rings.getLast?.any (fun (q : Ring) => q.block != r.block || q.first != r.first) then fr
    else
      let fr := conditionTick { fr with raws := fr.raws ++ [rawTickOf r rec0 xs] } r rec0 smps poisonOut (voidTiles s r.block)
      { fr with outs := fr.outs.map (fun o => if o.tick == sl.tick && s.dev.stale.contains ((feedTiles r.block).getD o.sub 0) then { o with flags := o.flags ||| 131072 } else o) }

/-- LANDING_SLOT_RELEASE: the slot of sample tick m - H - 4 goes to conditioning (R110). `poisoned` lists the granules of an HBM ring that
read back poisoned (R115), `poisonOut` the delay-line samples that did (R140). -/
def execLandingSlotRelease (feed : Nat) (poisoned poisonOut : List Nat) (s : State) : Host.Outcome State Fault Refusal :=
  if 1024 ≤ feed then .fault .noSuchUnit
  else
    let fr := feedRun s feed
    let fr := fr.rings.foldl (fun fr r => releaseRing s fr r poisoned poisonOut) fr
    let fr := { fr with rings := fr.rings.filter (fun r => !(r.closed && r.slots.isEmpty)) }
    .next { s with feeds := tset s.feeds feed fr }

/-! ### Coefficients and delay records -/

/-- Block of COEF_LOAD's INLINE slots: FEED, first entry, COUNT (R401). -/
def coefLoadBlock : List Param := [pN "FEED" 0 1023, pN "FIRST" 0 (2 ^ 24), pN "COUNT" 1 (2 ^ 24)]
/-- Block of COEF_SWAP. -/
def coefSwapBlock : List Param := [pN "FEED" 0 1023, ⟨"SWAP_SAMPLE", .any, .req, []⟩]

/-- Conditioning settings committed for a feed. -/
def Plan.cond (p : Plan) (f : Nat) : Block := (p.find .feedCondition devDome f).getD (condDefault f)

/-- Does a change of conditioning change D, PRESET or T (R134, R135)? -/
def regionsChange (o n : Block) : Bool := [5, 6, 7].any (fun i => o.at i != n.at i)

/-- Settings of a feed that sets which wait for their tick bring (R391). -/
def condWaiting (s : State) (f : Nat) : List (Nat × Block) :=
  s.psets.flatMap (fun x => (x.cmds.filter (fun m => m.op == .feedCondition && m.block.nat 0 == f)).map (fun m => (x.e, m.block)))
/-- Settings of a feed for a sample tick: those in force or committed, and those of sets that wait for their tick (R149, R391). -/
def condFor (s : State) (f n : Nat) : Block := settingAt ((feedRun s f).cond ++ condWaiting s f) n (condDefault f)

/-- Sample tick of a sample under the M of its tick (R108, R109). -/
def Plan.tickOf (p : Plan) (b : Block) (k : Int) : Int :=
  match p.mOld with | some (e, m0) => if (e : Int) ≤ tickOfSample b p.m k then tickOfSample b p.m k else tickOfSample b m0 k | none => tickOfSample b p.m k

/-- The sample tick of an output sample, and its settings, over the settings from a tick on: `at0` gives the tick that the sample would have under some settings. -/
def swapFrom (at0 : Block → Int) (lo : Int) (c : Block) : List (Nat × Block) → Int × Block
  | [] => (if lo ≤ at0 c then at0 c else lo, c)
  | e :: r => if at0 c < e.1 then (if lo ≤ at0 c then at0 c else lo, c) else swapFrom at0 e.1 e.2 r
/-- Sample tick and settings of an absolute output-sample index, as the pipeline will meet it (R134, R135, R149). -/
def swapTickOf (s : State) (f : Nat) (b : Block) (sw : Nat) : Int × Block :=
  let fr := feedRun s f
  let later := ((fr.cond ++ condWaiting s f).filter (fun e => decide (fr.condNext ≤ e.1))).mergeSort (fun x y => decide (x.1 ≤ y.1))
  swapFrom (fun c => s.plan.tickOf b ((sw : Int) * condD c * feedDiv b)) 0 (settingAt fr.cond (fr.condNext - 1) (condDefault f)) later

/-- The last device tick in which a change for sample tick n may arrive: n + H + 2 (R135, R137). -/
def tooLate (s : State) (n : Int) (h : Nat) : Bool := decide (n + h + 2 < s.time.tick64)

/-- Signed words of a load buffer. -/
def loadWords (data : List Byte) (w count : Nat) : List Int := (List.range count).map (fun i => toSigned (8 * w) (leField data (w * i) w))

/-- Write a range of a bank. -/
def writeBank {α : Type} (bank : List α) (first : Nat) (xs : List α) : List α := bank.take first ++ xs ++ bank.drop (first + xs.length)

/-- The staged region under the committed settings, of `n` coefficients (R134). -/
def FeedRun.stagedOf (fr : FeedRun) (n : Nat) : List Int :=
  let l := match fr.regions.getLast? with | some x => x.2 | none => fr.staged
  l ++ List.replicate (n - l.length) 0
/-- The staged region that sample tick `n` will meet: one that a waiting set allocates is all zero (R134). -/
def stagedAt (s : State) (f n cnt : Nat) : List Int :=
  let fr := feedRun s f
  let own := match (fr.regions.filter (fun e => decide (e.1 ≤ n))).getLast? with | some x => x.2 | none => fr.staged
  let l := if (condWaiting s f).any (fun e => decide (e.1 ≤ n) && regionsChange (s.plan.cond f) e.2) then [] else own
  l ++ List.replicate (cnt - l.length) 0
/-- Write that region. -/
def FeedRun.setStaged (l : List Int) (fr : FeedRun) : FeedRun :=
  match fr.regions.getLast? with
  | some x => { fr with regions := fr.regions.dropLast ++ [(x.1, l)] }
  | none => { fr with staged := l }

/-- COEF_LOAD: writes the staged region (R134). A feed with D = 1 has none; the device takes up to T entries and no output ever uses them. -/
-- DESIGN CHOICE, notes/assumptions/165.md
def coefLoadAct : Act := fun c m =>
  let f := m.block.nat 0
  match c.s.plan.feed f with
  | none => .error (rej .nosuch 0)
  | some _ =>
    let cc := c.s.plan.cond f
    let n := condD cc * condT cc
    let first := m.block.nat 1
    let count := m.block.nat 2
    let ws := loadWords m.data 4 count
    if m.data.length ≠ 4 * count ∨ n < first + count then .error (rej .format 2)
    else if ws.any (fun x => decide (x < -131072) || decide (131071 < x)) then .error (rej .format 2)
    else if (feedRun c.s f).swap.isSome then .error (rej .busy 0)
    else
      .ok { s := onFeed c.s f (FeedRun.setStaged (writeBank ((feedRun c.s f).stagedOf n) first ws)) }

/-- The coefficient limit of R133: for each of the D phases the magnitudes sum to at most 1.25. -/
def coefLimitOk (d : Nat) (h : List Int) : Bool :=
  (List.range d).all (fun p => decide (((h.zipIdx.filter (fun e => e.2 % d == p)).foldl (fun a e => a + e.1.natAbs) 0) ≤ 163840))

/-- COEF_SWAP: schedules the swap at an absolute output-sample index (R134, R135). -/
def coefSwapAct : Act := fun c m =>
  let f := m.block.nat 0
  let sw := m.block.nat 1
  match c.s.plan.feed f with
  | none => .error (rej .nosuch 0)
  | some b =>
    let (n, cc) := swapTickOf c.s f b sw
    let fr := feedRun c.s f
    if fr.swap.isSome then .error (rej .busy 0)
    else if tooLate c.s n (feedH b) then .error (rej .timeout 0)
    else if condD cc = 1 ∨ !cc.is 6 4 then .error (rej .inconsistent 0)
    else if !coefLimitOk (condD cc) (stagedAt c.s f n.toNat (condD cc * condT cc)) then .error (rej .inconsistent 0)
    else .ok { s := onFeed c.s f (fun fr => { fr with swap := some (sw, n.toNat) }) }

/-- DELAY_POLY: queues one record of Table 5-4 (R137). -/
def delayPolyAct : Act := fun c m =>
  let d := m.data
  let f := leField d 0 2
  let sg := fun i => toSigned 64 (leField d i 8)
  if d.length ≠ 48 ∨ leField d 2 6 ≠ 0 then .error (rej .format 0)
  else if 1023 < f then .error (rej .format 0)
  else match c.s.plan.feed f with
    | none => .error (rej .nosuch 0)
    | some b =>
      let n := leField d 8 8
      let fr := feedRun c.s f
      let cc := condFor c.s f n
      let u0 := firstSample b (c.s.plan.mAt n) n / (feedDiv b * condD cc : Nat)
      let r : DelayRec := { firstTick := n, c0 := sg 16, c1 := sg 24, c2 := sg 32, c3 := sg 40, u0 := u0 }
      if fr.delayQ.any (fun q => q.firstTick == n) then
        if tooLate c.s n (feedH b) then .error (rej .timeout 0)
        else .ok { s := onFeed c.s f (fun fr => { fr with delayQ := fr.delayQ.map (fun q => if q.firstTick = n then r else q) }) }
      else if 16 ≤ fr.delayQ.length then .error (rej .busy 0)
      else if tooLate c.s n (feedH b) then .error (rej .timeout 0)
      else
        let lo := fr.delayQ.filter (fun q => decide (q.firstTick < n))
        let hi := fr.delayQ.filter (fun q => decide (n < q.firstTick))
        .ok { s := onFeed c.s f (fun fr => { fr with delayQ := lo ++ [r] ++ hi }) }

/-- GROUP_DELAY_FS: the fixed delay of conditioning, rounded once (R142). -/
def groupDelayFs (b c : Block) : Int :=
  let d := condD c
  let k := feedK b
  -- terms in half samples at the input rate f
  let first : Nat := if b.flag 12 then 0 else if 1 < k then 32 * k - 1 else 63
  let dec : Nat := if d = 1 then 0 else (d * condT c - 1) * feedDiv b
  let dly : Nat := if c.flag 8 then 14 * d * feedDiv b else 0
  rne (((first + dec + dly) * 10 ^ 15 * b.nat 14 : Nat) : Int) (2 * b.nat 13)

end Sys2Proof.Machine
end

