-- ==== Sys2Proof/Machine/Hbm.lean ====
section
/-! DEFINITION. Hbm.lean: HBM contents, poison, pages and rings (R484 to R505). -/
namespace Sys2Proof.Machine

/-! ### Words, poison and counters -/

/-- Change HBM. -/
def onHbm (s : State) (f : HbmSt → HbmSt) : State := { s with hbm := f s.hbm }
/-- Count on a stack (modulo 2^64, R505). -/
def hbmCount (s : State) (c : HbmCtr) (h k : Nat) : State :=
  onHbm s (fun b => { b with cnt := tset b.cnt (c, h) ((tgetD b.cnt (c, h) 0 + k) % 2 ^ 64) })
/-- Stack of a memory address. -/
def stackOf (a : Nat) : Nat := a / 2 ^ 36
/-- Stack and page of a memory address. -/
def pageOf (a : Nat) : Nat × Nat := (a / 2 ^ 36, a % 2 ^ 36 / 2 ^ 21)
/-- Is the 32-byte word at `a` poisoned? -/
def poisonedAt (s : State) (a : Nat) : Bool := s.hbm.poison.contains (a / 32)
/-- Set or clear the poison of the word at `a`. -/
def setPoison (s : State) (a : Nat) (v : Bool) : State :=
  onHbm s (fun b => { b with poison := if v then (if b.poison.contains (a / 32) then b.poison else (a / 32) :: b.poison) else b.poison.filter (fun w => w != a / 32) })
/-- Event of a stack (Table 16-9): sources 1072 + 8h to 1072 + 8h + 7. -/
def hbmEvent (s : State) (h k : Nat) : State := raise s (1072 + 8 * h + k) (causeId 0x3F (8 * h + k))
/-- Write an entry in a stack's error log, which keeps the last 1,024 (R499). -/
def hbmLog (s : State) (a cls who : Nat) : State :=
  onHbm s (fun b =>
    let mine := b.errors.filter (fun e => e.stack == stackOf a)
    let old := if 1024 ≤ mine.length then (match mine.head? with | some x => b.errors.erase x | none => b.errors) else b.errors
    { b with errors := old ++ [{ stack := stackOf a, addr := a % 2 ^ 36, tick := s.time.tick64, cls := cls, who := who }] })

/-- A datapath write of whole words: it clears the poison of the words it covers (R496, R497). -/
def hbmStore (s : State) (a : Nat) (bytes : List Byte) : State :=
  onHbm s (fun b => { b with mem := memPutList b.mem a bytes,
                             poison := b.poison.filter (fun w => !(decide (a ≤ 32 * w) && decide (32 * w + 32 ≤ a + bytes.length))) })

/-! ### Pages (R485 to R487) -/

/-- Pages of an object, in order of allocation. -/
def pagesOf (s : State) (k : ObjKey) : List Page := s.hbm.pages.filter (fun p => p.obj == some k)
/-- Is a page of a stack free for allocation? -/
def pageFree (s : State) (h p : Nat) : Bool :=
  !(s.hbm.pages.any (fun x => x.stack == h && x.page == p)) && !s.hbm.lost.contains (h, p) && !s.hbm.failed.contains h
/-- Does a page belong to an instrument that is defined and not placed (log entry 52)? -/
def pageIdle (s : State) (p : Page) : Bool :=
  match p.obj with
  | some k => k.op == .instrDefine && s.plan.has .instrDefine k.dome k.index && !s.plan.placed k.dome k.index && !s.hbm.failed.contains p.stack
  | none => false
/-- Lowest free allocatable page of a stack (R485), else one of an unplaced instrument. -/
def freePage (s : State) (h : Nat) : Option Nat :=
  ((List.range 17088).findSome? (fun i => if pageFree s h (64 + i) then some (64 + i) else none)).or
    ((s.hbm.pages.find? (fun p => p.stack == h && pageIdle s p)).map (fun p => p.page))
/-- Lowest free index of a dome's BAR2 aperture (R487). -/
def freeBar2 (s : State) (d : Nat) : Nat :=
  let used := (s.hbm.pages.filter (fun p => p.dome == d)).map (fun p => p.bar2)
  ((List.range (used.length + 1)).find? (fun i => !used.contains i)).getD 0

/-- Allocate one zeroed page of a stack to an object (R418, R486). -/
def allocPage (s : State) (d h : Nat) (k : ObjKey) : State :=
  match freePage s h with
  | none => s
  | some p =>
    let s := onHbm s (fun b => { b with pages := b.pages.filter (fun x => !(x.stack == h && x.page == p)) })
    let s := onHbm s (fun b => { b with pages := b.pages ++ [{ dome := d, bar2 := freeBar2 s d, stack := h, page := p, obj := some k }] })
    onHbm s (fun b => { b with mem := memClear b.mem (pageAddr h p 0) (pageAddr h (p + 1) 0),
                               poison := b.poison.filter (fun w => pageOf (32 * w) != (h, p)) })

/-- Allocate `n` pages that alternate between the stacks (R284). -/
def allocPages (s : State) (d : Nat) (hstacks : List Nat) (n : Nat) (k : ObjKey) : State :=
  (List.range n).foldl (fun s i => allocPage s d (hstacks.getD (i % Nat.max 1 hstacks.length) 0) k) s

/-- Free the pages of an object. -/
def freePages (s : State) (k : ObjKey) : State := onHbm s (fun b => { b with pages := b.pages.filter (fun p => p.obj != some k) })

/-- Bring an object's pages to the stacks and number that the configuration gives them; pages that stay keep their contents. -/
def syncObj (s : State) (k : ObjKey) (d : Nat) (hstacks : List Nat) (n : Nat) : State :=
  let have' := pagesOf s k
  let kept := ((List.range n).zip have').all (fun e => e.2.stack == hstacks.getD (e.1 % Nat.max 1 hstacks.length) 0 && e.2.dome == d)
  if kept && have'.length == n then s
  else if kept && decide (have'.length < n) then
    (List.range (n - have'.length)).foldl (fun (s : State) (i : Nat) => allocPage s d (hstacks.getD ((have'.length + i) % Nat.max 1 hstacks.length) 0) k) s
  else if kept then onHbm s (fun b => { b with pages := b.pages.filter (fun p => p.obj != some k || (have'.take n).contains p) })
  else allocPages (freePages s k) d hstacks n k

/-- Whole 2 MiB pages of a size. -/
def pagesFor (bytes : Nat) : Nat := ceilDiv bytes (2 ^ 21)

/-- Memory address of byte `off` of an object's pages. -/
def objAddr (s : State) (k : ObjKey) (off : Nat) : Option Nat :=
  ((pagesOf s k)[off / 2 ^ 21]?).map (fun p => pageAddr p.stack p.page (off % 2 ^ 21))

/-- Write bytes at an offset of an object, page by page; bytes beyond its pages are not stored. -/
def objPut (s : State) (k : ObjKey) (off : Nat) (bytes : List Byte) : State :=
  let n := 2 ^ 21 - off % 2 ^ 21
  let put := fun (s : State) (at' : Nat) (l : List Byte) => match objAddr s k at' with | some x => hbmStore s x l | none => s
  (List.range (ceilDiv (bytes.length - n) (2 ^ 21))).foldl (fun (s : State) (j : Nat) => put s (off + n + j * 2 ^ 21) (sliceL bytes (n + j * 2 ^ 21) (2 ^ 21))) (put s off (bytes.take n))

/-- Write a bit field of an object's byte stream, least significant bit first (R282). -/
def objPutBits (s : State) (k : ObjKey) (base bit width v : Nat) : State :=
  (List.range ((bit % 8 + width + 7) / 8)).foldl (fun s i =>
    match objAddr s k (base + bit / 8 + i) with
    | none => s
    | some a =>
      let old := (memGet s.hbm.mem a).toNat
      let m := ((2 ^ width - 1) * 2 ^ (bit % 8)) / 256 ^ i % 256
      let x := (v % 2 ^ width * 2 ^ (bit % 8)) / 256 ^ i % 256
      onHbm s (fun b => { b with mem := memPut b.mem a (BitVec.ofNat 8 ((old &&& (255 - m)) ||| x)) })) s

/-- Read bytes of an object with a mark for poison (R498). -/
def objGet (s : State) (k : ObjKey) (off n : Nat) : List (Byte × Bool) :=
  (List.range n).map (fun i => match objAddr s k (off + i) with
    | some a => (memGet s.hbm.mem a, poisonedAt s a)
    | none => (0, false))

/-- Stacks of a sector (R15). -/
def sectorStacks (n : Nat) : List Nat := [2 * n, 2 * n + 1]
/-- Sector of a logical tile (R16). -/
def sectorOf (tile : Nat) : Nat := tile / 16
/-- STACK_MASK of a dome (Table 14-3). -/
def stackAllowed (p : Plan) (d h : Nat) : Bool :=
  if d = 0 ∨ d = devDome then true else match p.grant d 3 with | some b => (b.nat 3).testBit h | none => false
/-! ### Tiles and their event sources -/

/-- Raise source 12t + k of the physical tile that holds logical tile `l` (Table 16-9). -/
def raiseTile (s : State) (l k kind obj : Nat) (o : Origin) : State := raise s (12 * physTile s l + k) (causeId kind obj) o

/-! ### Rings (R199) -/

/-- Write a record into a ring under sequence number `seq`: false when the ring is full. -/
def ringPut (s : State) (k : ObjKey) (r : RingRun) (seq : Nat) (bytes : List Byte) : State × RingRun × Bool :=
  if r.slots ≤ r.held.length then (s, r, false)
  else (objPut s k ((r.written % r.slots) * r.slotBytes) (bytes.take r.slotBytes), { r with written := r.written + 1, held := r.held ++ [seq] }, true)

/-- Release the slots up to a sequence number under serial comparison (R40, R199). -/
def RingRun.ack (r : RingRun) (seq : Nat) : RingRun := { r with held := r.held.filter (fun x => !(x == seq || tsnEarlier x seq)) }

/-! ### Records as fields -/

/-- A record: its fields as width in bytes and value, so that a ring holds it little-endian and a stream big-endian (R5, R313). -/
abbrev Fields := List (Nat × Nat)
/-- Little-endian bytes. -/
def Fields.le (f : Fields) : List Byte := f.flatMap (fun e => leBytes e.1 e.2)
/-- Big-endian bytes, each field in its own width. -/
def Fields.be (f : Fields) : List Byte := f.flatMap (fun e => beBytes e.1 e.2)

end Sys2Proof.Machine
end

