-- ==== Sys2Proof/Machine/Instr.lean ====
section
/-! DEFINITION. Instr.lean: the parameter tables of channelisation, instruments, masks, Plates and streams, and what each
object reads, sends and costs in time. -/
namespace Sys2Proof.Machine

/-! ### Defining tables -/

/-- COARSE_DEFINE (Table 6-1). -/
def coarseBlock : List Param :=
  [pN "FEED" 0 1023, pN "LOG2N" 6 16, ⟨"TAPS", .set [4, 8, 12, 16] [], .val (.num 8), []⟩,
   ⟨"OS", .set [1] ["8/7", "4/3"], .val (.named 0), []⟩, pNWd "COEF" 0 15 ["GEN"] 0, (pN "SHIFT" 0 (2 ^ 62)).byRule,
   pD "CH_FIRST" 0 (2 ^ 62) 0, (pN "CH_COUNT" 0 (2 ^ 62)).byRule]
/-- SK_DEFINE: INSTRUMENT, then Table 6-8. -/
def skBlock : List Param :=
  [pNW "INSTRUMENT" 0 63 ["NONE"], pW "SCOPE" ["FEED", "INSTRUMENT"], ⟨"SOURCE", .two 1023 63 false, .req, []⟩, pN "FIRST" 0 (2 ^ 62),
   pN "COUNT" 0 (2 ^ 62), pD "M_SK" 64 16384 1024, pD "LOW" 0 (2 ^ 32 - 1) 0xD00000, pD "HIGH" 0 (2 ^ 32 - 1) 0x1300000,
   pWd "POLICY" ["BLANK", "FLAG"] 1, pWd "HOLD" ["AUTO", "SRAM", "HBM"] 0, pF "VALUES" 0, pNWd "PUBLISH" 0 255 ["NONE"] 0]
/-- SK_DELETE. -/
def skDeleteBlock : List Param :=
  [pW "SCOPE" ["FEED", "INSTRUMENT"], ⟨"SOURCE", .two 1023 63 false, .req, []⟩, pNW "INSTRUMENT" 0 63 ["NONE"]]
/-- ZOOM_DEFINE (Table 6-7). -/
def zoomBlock : List Param :=
  [pN "WINDOW" 0 63, pN "FEED" 0 1023, pN "FIRST" 0 (2 ^ 62), pN "W" 1 64, pN "LOG2NF" 5 15, ⟨"TAPS", .set [4, 8] [], .val (.num 4), []⟩,
   pNWd "COEF" 0 15 ["GEN"] 0, (pN "SHIFT" 0 (2 ^ 62)).byRule, pWd "STATE" ["AUTO", "SRAM", "HBM"] 0]

/-- DEST, STREAM, RING_SLOTS of Table 7-5, with DEST at position `i`. -/
def destParams (i : Nat) : List Param :=
  [pW "DEST" ["STREAM", "HBM"], (pN "STREAM" 0 63).when i [.named 0], pD "RING_SLOTS" 2 65536 16]
/-- Names of the instrument kinds in the order of Table 1-4. -/
def kindNames : List String :=
  ["SPECTROMETER", "ZOOM", "RTSA", "FENGINE", "CORRELATOR", "FX", "BEAMFORMER", "RFIMON", "RECORDER", "SWEEP", "CALIBRATOR", "LOOPBACK"]
/-- KIND and INSTRUMENT. -/
def kindInstr : List Param := [pW "KIND" kindNames, pN "INSTRUMENT" 0 63]
/-- SPECTROMETER and ZOOM (Table 7-5). -/
def detTable (hi : Nat) : List Param :=
  kindInstr ++ [pN "SOURCE_X" 0 hi, ⟨"SOURCE_Y", .nat 0 hi ["NONE"], .val (.named 0), []⟩, pN "FIRST" 0 (2 ^ 62), pN "COUNT" 1 65536,
   pD "DETECT" 0 63 1, pD "INT_TICKS" 1 1048576 1, pD "OFFSET" 0 (2 ^ 62) 0, pF "CH_COUNTS" 0] ++ destParams 10
/-- RTSA and SWEEP (Table 9-2). -/
def rtsaTable : List Param :=
  kindInstr ++ [⟨"SOURCE", .two 1023 63 false, .req, []⟩, pN "FIRST" 0 (2 ^ 62), pN "COUNT" 1 65536, pWd "TRACE" ["NONE", "SAMPLE", "PEAK"] 0,
   pD "TRACE_DECIM" 1 65536 1] ++
  [⟨"DEST", .nat 1 0 ["STREAM", "HBM"], .rule, [(5, [.named 1, .named 2])]⟩, (pN "STREAM" 0 63).when 7 [.named 0], pD "RING_SLOTS" 2 65536 16]
/-- FENGINE (Table 8-8). -/
def fengineTable : List Param :=
  kindInstr ++ [⟨"INPUTS", .twos1 2048 1023 63, .req, []⟩, pN "FIRST" 0 (2 ^ 62), pN "COUNT" 1 65536, pD "RQ_SHIFT" 0 20 0,
   pWd "DEST" ["NONE", "STREAM"] 0, (pN "STREAM" 0 63).when 6 [.named 1]]
/-- CORRELATOR and FX (Table 8-4). -/
def correlTable (fx : Bool) : List Param :=
  kindInstr ++ [if fx then pL1 "INPUTS" 256 [(0, 1023)] else pL1 "INPUTS" 2048 [(0, 63), (0, 1023)], pNWd "APERTURE" 0 255 ["NONE"] 0,
   pN "FIRST" 0 (2 ^ 62), pN "COUNT" 1 65536, pD "DUMP_TICKS" 1 1048576 1, pD "OFFSET" 0 (2 ^ 62) 0,
   pWd "MODE" ["AUTO", "DIRECT", "BATCHED"] 0, (pN "SUB_TICKS" 1 4096).byRule, pF "NORM" 0] ++ destParams 11 ++
  [pD "RQ_SHIFT" 0 20 0, pNWd "PARTS" 1 64 ["AUTO"] 0]
/-- BEAMFORMER (Table 8-5), and CH_COUNTS of R231 after it, where the table gives it no place. -/ -- DESIGN CHOICE, notes/assumptions/156.md
def beamTable (own : Bool) : List Param :=
  kindInstr ++ [pW "SOURCE" ["OWN", "FENGINE"], if own then pL1 "INPUTS" 2048 [(0, 1023)] else pL1 "INPUTS" 2048 [(0, 63), (0, 1023)],
   pNWd "APERTURE" 0 255 ["NONE"] 0, pNWd "PARTS" 1 64 ["AUTO"] 0, pN "FIRST" 0 (2 ^ 62), pN "COUNT" 1 65536, pN "BEAMS" 1 1024,
   pD "WGRAN" 1 4096 1, (pN "MINVALID" 1 2048).byRule, pWd "OUTPUT" ["VOLTAGE", "POWER"] 0, pD "BSHIFT" 0 16 0,
   pD "INT_TICKS" 1 1048576 1, pD "OFFSET" 0 (2 ^ 62) 0] ++ destParams 15 ++ [pD "RQ_SHIFT" 0 20 0, pF "CH_COUNTS" 0]
/-- RFIMON (R635). -/
def rfimonTable : List Param := kindInstr ++ [⟨"SOURCE_X", .two 1023 63 false, .req, []⟩, pN "FIRST" 0 (2 ^ 62), pN "COUNT" 1 65536] ++ destParams 5
/-- The channel points of Table 10-1: COARSE, ZOOM, Q4 and BEAM. -/
def chanPoints : List PV := [.named 2, .named 3, .named 4, .named 5]
/-- RECORDER (Table 10-1). SOURCE holds its kind in bits 39:32 (0 feed, 1 window, 2 instrument) and, at a Q4 point, the feed in bits 31:16
beside the instrument in bits 15:0; STACKS is a list of stacks, empty for both (log entry 21). -/
def recorderTable : List Param :=
  kindInstr ++ [pWd "MODE" ["TRIGGERED", "CONTINUOUS"] 0, pW "POINT" ["INPUT", "COND", "COARSE", "ZOOM", "Q4", "BEAM"], pN "SOURCE" 0 (3 * 2 ^ 32 - 1),
   pD "SUBBAND" 0 (2 ^ 62) 0, pD "BEAM" 0 (2 ^ 62) 0, (pN "FIRST" 0 (2 ^ 62)).when 3 chanPoints, (pN "COUNT" 1 32768).when 3 chanPoints, pD "PRE" 0 (2 ^ 40) 0,
   (pN "POST" 1 (2 ^ 40)).when 2 [.named 0], pD "SEGMENTS" 1 65536 1, ⟨"STACKS", .idlist 2 7 7 [], .val (.list []), []⟩,
   ⟨"A_SOURCES", .trigs 4, .rule, [(2, [.named 0])]⟩,
   ⟨"B_SOURCES", .trigs 4, .val (.list []), []⟩, pWd "SEQ" ["A", "A_THEN_B"] 0, (pN "WINDOW" 1 (2 ^ 32)).when 15 [.named 1],
   pWd "POS_FROM" ["A", "B"] 0, pWd "HOLDOFF" ["NONE", "UNITS", "EVENTS"] 0, (pN "HOLDOFF_N" 1 (2 ^ 40)).when 18 [.named 1, .named 2],
   pWd "REARM" ["AUTO", "MANUAL"] 0, pWd "FULL" ["STOP", "OVERWRITE"] 0, pD "KE" 0 16 0, pD "KP" 0 20 0, pWd "DEST" ["HBM", "STREAM"] 0,
   ((pN "STREAM" 0 63).when 24 [.named 1]).when 2 [.named 1], pNWd "PUBLISH" 0 255 ["NONE"] 0]
/-- CALIBRATOR (R635). -/
def calibratorTable : List Param := kindInstr
/-- LOOPBACK (Table 21-6). STREAM carries the EGRESS packets, or the reports where DEST names STREAM. -/
def loopbackTable : List Param :=
  kindInstr ++ [pW "PATH" ["TRANSIT", "EGRESS", "PORT"], (pI "FROM" 63).when 2 [.named 0], (pI "TO" 63).when 2 [.named 0], (pI "PORT" 127).when 2 [.named 2],
   ⟨"BYTES", .step 32 1048576 32 [], .val (.num 65536), []⟩, pWd "PATTERN" ["PRBS31", "PRBS13", "COUNT"] 0, (pN "STREAM" 0 63).when 2 [.named 1],
   pD "REPORT_TICKS" 1 1048576 1024, pWd "DEST" ["STREAM", "HBM"] 1, pD "RING_SLOTS" 2 65536 16]

/-- The table that an INSTR_DEFINE or INSTR_MODIFY block follows: its KIND slot selects it, and SOURCE for a BEAMFORMER (R403). -/
def instrTable (sl : List Slot) : List Param :=
  match (sl.getD 0 0).toNat - 2 ^ 63 with
  | 0 => detTable 1023
  | 1 => detTable 63
  | 2 => rtsaTable
  | 3 => fengineTable
  | 4 => correlTable false
  | 5 => correlTable true
  | 6 => beamTable ((sl.getD 2 0).toNat == 2 ^ 63)
  | 7 => rfimonTable
  | 8 => recorderTable
  | 9 => rtsaTable
  | 10 => calibratorTable
  | 11 => loopbackTable
  | _ => kindInstr

/-- MASK_DEFINE: TYPE, then Table 9-3 or Table 9-6. -/
def maskTable (sl : List Slot) : List Param :=
  if (sl.getD 0 0).toNat = 2 ^ 63 + 1 then
    [pW "TYPE" ["FREQ", "SWEEP"], pN "MASK" 0 7, pN "INSTRUMENT" 0 63, pN "FIRST" 0 (2 ^ 62), pN "COUNT" 1 4096, pD "DM0" 0 (2 ^ 32 - 1) 0,
     pN "DMSTEP" 1 1048576, pN "TRIALS" 1 1024, ⟨"WIDTHS", .asc1 8 1 64, .val (.list [[1]]), []⟩, pL "THR" 8 [(-(2 ^ 31), 2 ^ 31 - 1)],
     pD "MINV" 0 256 192, pD "CLUSTER" 1 65536 64, pNWd "PUBLISH" 0 255 ["NONE"] 0] ++ destParams 13
  else
    [pW "TYPE" ["FREQ", "SWEEP"], pN "MASK" 0 7, pN "INSTRUMENT" 0 63, pN "FIRST" 0 (2 ^ 62), pN "COUNT" 1 65536,
     pWd "COND" ["ENTER", "LEAVE", "INSIDE", "OUTSIDE"] 1, pD "NCONS" 1 65535 1, pWd "ARM" ["CONTINUOUS", "SINGLE"] 0, pD "TRIG_MAX" 1 64 16,
     pNWd "PUBLISH" 0 255 ["NONE"] 0] ++ destParams 10
/-- PLATE_DEFINE (Table 9-8). -/
def plateTable : List Param :=
  [pN "PLATE" 0 15, pN "INSTRUMENT" 0 63, pN "FIRST" 0 (2 ^ 62), pN "COUNT" 1 65536, pD "CPC" 1 256 1, pWd "COMBINE" ["EACH", "PEAK"] 0,
   pD "LEVELS" 2 1024 512, pS "FLOOR" (-32767) 32767, pD "STEP" 1 4096 16, pWd "PERSIST" ["NONE", "LINEAR", "EXP"] 0, pD "K" 1 1048576 1024,
   pD "DEC" 1 65535 1, pD "SH" 1 16 4, pNWd "DECIM" 1 65536 ["AUTO"] 0, pD "SNAP_TICKS" 1 1048576 1, pD "SNAP_OFFSET" 0 (2 ^ 62) 0,
   pWd "DEST" ["STREAM", "HBM"] 1, (pN "STREAM" 0 63).when 16 [.named 0], pD "SNAP_SLOTS" 2 1024 4]
/-- STREAM_DEFINE (Table 11-1); STREAM_MODIFY adds RESET. -/
def streamTable (modify : Bool) : List Param :=
  let udp : List PV := [.named 0, .named 2]
  let rc : List PV := [.named 2]
  let vd : List PV := [.named 1]
  [pN "STREAM" 0 63, pWd "KIND" ["UDP", "VDIF", "ROCE"] 0, pI "PORT" 127, pNWd "DST_MAC" 0 (2 ^ 48 - 1) ["AUTO"] 0, ⟨"DST_IP", .any, .req, []⟩,
   ⟨"DST_IP 2", .any, .req, []⟩, pD "SRC_UDP" 1 65535 49152, pN "DST_UDP" 1 65535, pD "DSCP" 0 63 0, (pN "STREAM_ID" 0 65535).when 1 udp,
   ⟨"MAX_PAYLOAD", .step 64 8192 32 [], .val (.num 8192), []⟩, pN "RATE" 1 1600000, pD "BURST" 16384 (2 ^ 24) 65536,
   ⟨"SPILL", .step 0 (2 ^ 40) (2 ^ 21) [], .val (.num 0), []⟩, (pN "STATION_ID" 0 65535).when 1 vd, pD "THREAD_BASE" 0 1023 0,
   ⟨"FRAME_BYTES", .step 64 8192 32 [], .val (.num 8000), []⟩, (pN "EPOCH_SEC" 0 (2 ^ 62)).when 1 vd, (pN "REF_EPOCH" 0 63).when 1 vd,
   (pN "QPN" 0 (2 ^ 24 - 1)).when 1 rc, (pN "RKEY" 0 (2 ^ 32 - 1)).when 1 rc, ⟨"REMOTE_ADDR", .any, .rule, [(1, rc)]⟩,
   (⟨"REMOTE_BYTES", .step (2 ^ 20) (2 ^ 38) 64 [], .rule, [(1, rc)]⟩), pD "PSN0" 0 (2 ^ 24 - 1) 0,
   ⟨"PMTU", .set [1024, 2048, 4096] [], .val (.num 4096), []⟩, pD "RTO_US" 1 65535 1000, pD "RETRY" 0 7 7, pD "RTT_MAX_US" 1 1000000 1000,
   pD "IMM_TICKS" 1 65536 1, pWd "CREDIT" ["NONE", "HOST"] 0, pF "ECN" 0] ++ (if modify then [pF "RESET" 0] else [])

/-- SEXTANT_ATTACH (Table 12-7): each name's four inputs or outputs stand side by side (log entry 24). -/
def attachBlock : List Param :=
  let four := fun (f : Nat → Param) => (List.range 4).map f
  let sized := fun (n : String) => four (fun k => (pN n 0 0x3BFFF).when (2 + k) [.named 1, .named 2, .named 3])
  let outs := fun (n : String) => four (fun k => (pN n 0 0x3BFFF).when (30 + k) [.named 1, .named 2])
  [pN "HANDLE" 0 63, pN "INSTRUMENT" 0 63] ++ four (fun _ => pW "IN_TYPE" ["NONE", "Q4", "CHAN", "CAND"]) ++
  four (fun k => (⟨"IN_SOURCE", .two 1023 63 false, .req, []⟩ : Param).when (2 + k) [.named 1, .named 2, .named 3]) ++
  four (fun k => (pN "FIRST" 0 (2 ^ 62)).when (2 + k) [.named 1, .named 2]) ++ four (fun k => (pN "COUNT" 1 65536).when (2 + k) [.named 1, .named 2]) ++
  sized "IN_OFFSET" ++ sized "IN_STRIDE" ++ four (fun k => (pN "IN_VOFFSET" 0 0x3BFFF).when (2 + k) [.named 2]) ++
  four (fun _ => pW "OUT_TYPE" ["NONE", "HBM", "DACQ"]) ++
  four (fun k => (pNW "OUT_TARGET" 2 65536 ["DAC0", "DAC1", "DAC2", "DAC3", "DAC4", "DAC5", "DAC6", "DAC7"]).when (30 + k) [.named 1, .named 2]) ++
  outs "OUT_OFFSET" ++ outs "OUT_STRIDE" ++ four (fun k => (pN "OUT_MAX" 64 65536).when (30 + k) [.named 1, .named 2]) ++
  four (fun k => (pNW "OUT_EVENT" 0 255 ["None"]).when (30 + k) [.named 1, .named 2])

/-! ### Objects of the plan -/

def Plan.coarse (p : Plan) (f : Nat) : Option Block := p.find .coarseDefine devDome f
def Plan.zoom (p : Plan) (d w : Nat) : Option Block := p.find .zoomDefine d w
def Plan.instr (p : Plan) (d i : Nat) : Option Block := p.find .instrDefine d i
def Plan.mask (p : Plan) (d k : Nat) : Option Block := p.find .maskDefine d k
def Plan.plate (p : Plan) (d k : Nat) : Option Block := p.find .plateDefine d k
def Plan.stream (p : Plan) (d k : Nat) : Option Block := p.find .streamDefine d k
/-- INDEX of an SK definition: the feed in feed scope; in instrument scope the instrument with its source (log entry 22). -/
def skIndex (instr : Nat) (src : PV) : Nat := match src with | .obj k n => instr * 2 ^ 17 + k * 2 ^ 16 + n | _ => instr
/-- The SK definition of a source in instrument scope. -/
def Plan.skInstr (p : Plan) (d i : Nat) (src : Src) : Option (Nat × Block) :=
  let idx := match src with | .feed f => skIndex i (.obj 0 f) | .window _ w => skIndex i (.obj 1 w)
  (p.find .skDefine d idx).map (fun b => (idx, b))

def coN (c : Block) : Nat := 2 ^ c.nat 1
/-- Hop H_c (Table 6-1). -/
def coHop (c : Block) : Nat := match c.word? 3 with | some 0 => 7 * coN c / 8 | some _ => 3 * coN c / 4 | none => coN c
def coFirst (c : Block) : Nat := c.nat 6
def coCount (c : Block) : Nat := c.nat 7
/-- Position of OS in its column, for the generated prototypes. -/
def coOs (c : Block) : Nat := match c.word? 3 with | some k => k + 1 | none => 0
def zoW (z : Block) : Nat := z.nat 3
def zoN (z : Block) : Nat := 2 ^ z.nat 4
/-- Kept fine channels of each coarse channel (R168). -/
def zoKeep (z c : Block) : Nat := zoN z * coHop c / coN c
/-- Output samples per tick of a feed (R141). -/
def Plan.so (p : Plan) (f : Nat) : Nat := match p.feed f with | some b => feedSo b (p.cond f) p.m | none => 0
/-- F_max of a source (R151, R167). -/
def Plan.fmax (p : Plan) : Src → Nat
  | .feed f => match p.coarse f with | some c => ceilDiv (p.so f) (coHop c) | none => 0
  | .window d w => match p.zoom d w with
    | some z => match p.coarse (z.nat 1) with | some c => ceilDiv (p.so (z.nat 1)) (coHop c * zoN z) | none => 0
    | none => 0
/-- F_H of a source: conditioning output samples per frame (R175). -/
def Plan.fh (p : Plan) : Src → Nat
  | .feed f => match p.coarse f with | some c => coHop c | none => 1
  | .window d w => match p.zoom d w with | some z => (match p.coarse (z.nat 1) with | some c => coHop c * zoN z | none => 1) | none => 1
/-- The feed behind a source. -/
def Plan.feedOf (p : Plan) : Src → Nat
  | .feed f => f
  | .window d w => match p.zoom d w with | some z => z.nat 1 | none => 1024
/-- L_sk of an SK definition over a source: 0 unless it blanks (R175). -/
def Plan.lskOf (p : Plan) (src : Src) (b : Block) : Nat :=
  if b.is 8 0 then ceilDiv ((b.nat 5 - 1) * p.fh src) (Nat.max 1 (p.so (p.feedOf src))) + 1 else 0
/-- L_sk of a feed's own SK definition. -/
def Plan.lskFeed (p : Plan) (f : Nat) : Nat := match p.find .skDefine devDome f with | some b => p.lskOf (.feed f) b | none => 0
/-- HOLD of a feed. -/
def Plan.hold (p : Plan) (f : Nat) : Nat := match p.feed f with | some b => feedH b | none => 0
/-- Logical tile of a feed that holds one of its coarse channels (R201). -/
def Plan.feedTile (p : Plan) (f ch : Nat) : Nat :=
  match p.feed f, p.coarse f with
  | some b, some c => (feedTiles b).getD (if feedK b = 1 then 0 else ch / coN c) ((feedTiles b).headD 0)
  | some b, none => (feedTiles b).headD 0
  | none, _ => 0
/-- Logical tile on which a channel of a source lies: that of its feed's coarse channel, or of its window. -/
def Plan.srcTile (p : Plan) (src : Src) (ch : Nat) : Nat :=
  match src with
  | .feed f => p.feedTile f ch
  | .window d w => match p.place? .zoomDefine d w with | some x => x.tiles.headD 0 | none => 0
/-- Transit latency of a window's coarse channels: one tick where its tile is not the one that holds its first channel (R169, R330). -/
def Plan.zoomTransit (p : Plan) (d w : Nat) : Nat :=
  match p.zoom d w, p.place? .zoomDefine d w with
  | some z, some x => b2n (x.tiles.headD 0 != p.feedTile (z.nat 1) (z.nat 2))
  | _, _ => 0
/-- Device tick in which the source's frames of sample tick n are available, minus n, for an instrument, Transit left out (R192). -/
def Plan.lambda0 (p : Plan) (d i : Nat) (src : Src) : Nat :=
  let f := p.feedOf src
  p.hold f + (match src with | .feed _ => 6 | .window _ _ => 7) + p.lskFeed f +
  (match p.skInstr d i src with | some (_, b) => p.lskOf src b | none => 0)
/-- Device tick in which the source's frames of sample tick n are available, minus n, for an instrument (R192, R330). -/
def Plan.lambda (p : Plan) (d i : Nat) (src : Src) : Nat :=
  p.lambda0 d i src + (match src with | .feed _ => 0 | .window x w => p.zoomTransit x w)

/-- Kind of an instrument, as its position in Table 1-4. -/
def iKind (b : Block) : Nat := (b.word? 0).getD 12
/-- A two-kind source value. -/
def srcOf (d : Nat) : PV → Src
  | .obj 1 w => .window d w
  | .obj _ f => .feed f
  | .num f => .feed f.toNat
  | _ => .feed 1024
/-- A list entry that is a feed or a window (R400). -/
def entrySrc (d : Nat) (x : Int) : Src := if 2 ^ 32 ≤ x then .window d (x.toNat % 2 ^ 32) else .feed x.toNat
/-- Channel sources that an instrument reads, in the order of its inputs. -/
def iSources (d : Nat) (b : Block) : List Src :=
  match iKind b with
  | 0 => .feed (b.nat 2) :: (match b.at 3 with | .num y => [.feed y.toNat] | _ => [])
  | 1 => .window d (b.nat 2) :: (match b.at 3 with | .num y => [.window d y.toNat] | _ => [])
  | 2 => [srcOf d (b.at 2)]
  | 3 => (b.rows 2).map (fun r => entrySrc d (r.headD 0))
  | 5 => (b.nats 2).map .feed
  | 6 => if b.is 2 0 then (b.nats 3).map .feed else []
  | 7 => [srcOf d (b.at 2)]
  | 8 => (match b.word? 3 with
    | some 2 => [.feed (b.nat 4 % 2 ^ 32)]
    | some 3 => [.window d (b.nat 4 % 2 ^ 32)]
    | _ => [])
  | 9 => [srcOf d (b.at 2)]
  | _ => []
/-- Q4 inputs (FENGINE instrument, feed) of an instrument (R208, R226). -/
def iQ4 (b : Block) : List (Nat × Nat) :=
  match iKind b with
  | 4 => (b.rows 2).map (fun r => ((r.getD 0 0).toNat, (r.getD 1 0).toNat))
  | 6 => if b.is 2 1 then (b.rows 3).map (fun r => ((r.getD 0 0).toNat, (r.getD 1 0).toNat)) else []
  | _ => []
/-- Channel range of an instrument: FIRST and COUNT. -/
def iRange (b : Block) : Nat × Nat :=
  match iKind b with
  | 0 => (b.nat 4, b.nat 5) | 1 => (b.nat 4, b.nat 5) | 2 => (b.nat 3, b.nat 4) | 3 => (b.nat 3, b.nat 4) | 4 => (b.nat 4, b.nat 5)
  | 5 => (b.nat 4, b.nat 5) | 6 => (b.nat 6, b.nat 7) | 7 => (b.nat 3, b.nat 4) | 8 => (if chanPoints.contains (b.at 3) then (b.nat 7, b.nat 8) else (0, 1)) | 9 => (b.nat 3, b.nat 4)
  | _ => (0, 0)
/-- Does an instrument requantise (R179, R631)? -/
def iRequantises (b : Block) : Bool := iKind b == 3 || iKind b == 5 || (iKind b == 6 && b.is 2 0)
/-- Positions that hold the whole channel range of an instrument over an aperture, whose FIRST and COUNT are the device's share (R235). -/
def wholePos : Nat × Nat := (32, 33)
/-- The whole channel range of an instrument (R225, R227). -/
def iWhole (b : Block) : Nat × Nat := match b.at wholePos.1, b.at wholePos.2 with | .num f, .num c => (f.toNat, c.toNat) | _, _ => iRange b
/-- The channels that an instrument takes from its sources: of a requantiser all that any member of the aperture needs (R225). -/
def iTaken (b : Block) : Nat × Nat := if iRequantises b then iWhole b else iRange b
/-- APERTURE parameter of a CORRELATOR, FX or BEAMFORMER. -/
def iAperture (b : Block) : PV := match iKind b with | 4 => b.at 3 | 5 => b.at 3 | 6 => b.at 4 | _ => .dflt
/-- Number of inputs of a product set or beamformer. -/
def iInputs (b : Block) : Nat := (b.rows (if iKind b = 6 then 3 else 2)).length
/-- Input position at a Sextant's instrument for input `k` of handle `h`, feed `i` of a Q4 input (R365). -/
def sxPos (h k i : Nat) : Nat := 8192 + (4 * h + k) * 64 + i
/-- Inputs of a Sextant of one type over one source: handle, instrument, input, FIRST, COUNT. -/
def attachReaders (p : Plan) (d typ : Nat) (src : PV) : List (Nat × Nat × Nat × Nat × Nat) :=
  (p.of .sextantAttach d).flatMap (fun (e : Nat × Block) =>
    ((List.range 4).filter (fun k => e.2.is (2 + k) typ && e.2.at (6 + k) == src)).map (fun k => (e.1, e.2.nat 1, k, e.2.nat (10 + k), e.2.nat (14 + k))))
/-- Position of DEST in the instrument's table, if it has one. -/
def iDestPos (b : Block) : Option Nat :=
  match iKind b with
  | 0 => some 10 | 1 => some 10 | 2 => some 7 | 3 => some 6 | 4 => some 11 | 5 => some 11 | 6 => some 15 | 7 => some 5 | 8 => some 24
  | 9 => some 7 | 11 => some 10 | _ => none
/-- Destinations of records. -/
inductive Dest where
  | none
  | stream (n : Nat)
  | hbm (slots : Nat)
  deriving DecidableEq, Repr
/-- DEST, STREAM and slots from a table whose DEST column reads STREAM, HBM. -/
def destAt (b : Block) (i : Nat) : Dest :=
  match b.word? i with | some 0 => .stream (b.nat (i + 1)) | some 1 => .hbm (b.nat (i + 2)) | _ => .none
/-- Destination of an instrument's records. -/
def iDest (b : Block) : Dest :=
  match iKind b with
  | 3 => if b.is 6 1 then .stream (b.nat 7) else .none
  | 8 => if b.is 2 1 ∨ b.is 24 1 then .stream (b.nat 25) else .hbm 0
  | 11 => if b.is 10 0 then .stream (b.nat 8) else .hbm (b.nat 11)
  | _ => match iDestPos b with | some i => destAt b i | none => .none
/-- Streams that an instrument names (R307). -/
def iStreams (b : Block) : List Nat :=
  (match iDest b with | .stream n => [n] | _ => []) ++ (if iKind b = 11 ∧ b.is 2 1 then [b.nat 8] else [])

/-- The source of a Q4 input (FENGINE instrument, feed). -/
def Plan.q4Src (p : Plan) (d : Nat) (e : Nat × Nat) : Src :=
  match p.instr d e.1 with
  | some b => ((iSources d b).find? (fun s => match s with | .feed f => f == e.2 | .window _ w => w == e.2)).getD (.feed 1024)
  | none => .feed 1024

/-- Source whose F_max governs an instrument: its first one that this device has. -/
def Plan.mainSrc (p : Plan) (d : Nat) (b : Block) : Src :=
  let l := iSources d b ++ (iQ4 b).map (p.q4Src d)
  (l.find? (fun s => (p.feed (p.feedOf s)).isSome)).getD (l.headD (.feed 1024))

/-- Work through all objects of one kind, in dome and number order of definition: dome, number, parameters. -/
def forObjs (s : State) (op : Op) (f : State → Nat → Nat → Block → State) : State := (s.plan.objs op).foldl (fun (s : State) (e : Nat × Nat × Block) => f s e.1 e.2.1 e.2.2) s

/-- Run-time state of an instrument, and its change. -/
def instrRun (s : State) (d i : Nat) : InstrRun := tgetD s.instrs (d, i) InstrRun.reset
def onInstr (s : State) (d i : Nat) (f : InstrRun → InstrRun) : State := { s with instrs := tmod s.instrs (d, i) InstrRun.reset f }
/-- Count in an instrument's counters, modulo 2^64. -/
def InstrRun.count (r : InstrRun) (c : ICtr) (k : Nat) : InstrRun := { r with cnt := tset r.cnt c ((tgetD r.cnt c 0 + k) % 2 ^ 64) }
def iCount (s : State) (d i : Nat) (c : ICtr) (k : Nat) : State := onInstr s d i (fun r => r.count c k)
/-- Logical tile of part `k` of an instrument; tile 0 where it has no placement. -/
def iTile (s : State) (d i k : Nat) : Nat := match s.plan.place? .instrDefine d i with | some x => x.tiles.getD k (x.tiles.headD 0) | none => 0
/-- Whole-tick Transit latency L_inst, part of an instrument's placement (R330). -/
def iTransit (s : State) (d i : Nat) : Nat :=
  match s.plan.place? .instrDefine d i with | some x => (x.chosen.getD 0 0).toNat | none => 0
/-- Channels of part `k` of `p` over `c` channels: first and count (R201). -/
def partRange (c p k : Nat) : Nat × Nat := (ceilDiv (k * c) p, ceilDiv ((k + 1) * c) p - ceilDiv (k * c) p)
/-- Channels of part `k` of `n` channels under a placement: first offset and count, which stand after L_inst, mode, SUB_TICKS and G (R201, R235). -/
def placedPart (tiles : List Nat) (chosen : List Int) (n k : Nat) : Nat × Nat :=
  if chosen.length ≤ 4 then partRange n (Nat.max 1 tiles.length) k
  else ((((chosen.drop 4).take k).foldl (fun (a : Nat) (c : Int) => a + c.toNat) 0), (chosen.getD (4 + k) 0).toNat)
/-- Channels of part `k` of an instrument of `n` channels. -/
def iPart (s : State) (d i n k : Nat) : Nat × Nat :=
  match s.plan.place? .instrDefine d i with
  | some x => placedPart x.tiles x.chosen n k
  | none => partRange n 1 k
/-- Runs of a channel range of a source on the tiles that hold them: tile, offset in the range, channels (R201). -/
def Plan.tileRuns (p : Plan) (src : Src) (first n : Nat) : List (Nat × Nat × Nat) :=
  (List.range n).foldl (fun (a : List (Nat × Nat × Nat)) (j : Nat) =>
    let t := p.srcTile src (first + j)
    match a.getLast? with
    | some (u, o, k) => if u = t then a.dropLast ++ [(u, o, k + 1)] else a ++ [(t, j, 1)]
    | none => [(t, j, 1)]) []
/-- Logical tiles on which a source's channels lie (R201). -/
def srcTiles (p : Plan) : Src → List Nat
  | .feed f => match p.feed f with | some b => feedTiles b | none => []
  | .window d w => match p.place? .zoomDefine d w with | some x => x.tiles | none => []
/-- Is a requantiser of an instrument shed on a logical tile in the running tick (R165)? -/
def rqShed (s : State) (d i l : Nat) : Bool := s.sheds.contains (d, .requantiser, i, l)
/-- Number of parts of an instrument. -/
def iParts (s : State) (d i : Nat) : Nat := match s.plan.place? .instrDefine d i with | some x => Nat.max 1 x.tiles.length | none => 1
/-- Is part `k` of an instrument shed in the running device tick (R45)? -/
def partShed (s : State) (d i k : Nat) : Bool := s.sheds.contains (d, .own, i, iTile s d i k)
/-- Logical tile of the part that holds channel `ch` of an instrument (R278). -/
def chanTile (s : State) (d i : Nat) (b : Block) (ch : Nat) : Nat :=
  let rg := iRange b
  let parts := iParts s d i
  let k := ((List.range parts).find? (fun k => let r := iPart s d i rg.2 k; decide (rg.1 + r.1 ≤ ch) && decide (ch < rg.1 + r.1 + r.2))).getD 0
  iTile s d i k
/-- Logical tile on which an SK definition tests a channel: the tile that holds it in feed scope and before a requantiser, the instrument's tile otherwise (R172). -/
def skTile (s : State) (k : Nat × Nat) (b : Block) (ch : Nat) : Nat :=
  if k.1 = devDome then s.plan.feedTile k.2 ch
  else match s.plan.instr k.1 (b.nat 0) with
    | some ib => if iRequantises ib then s.plan.srcTile (srcOf k.1 (b.at 2)) ch else chanTile s k.1 (b.nat 0) ib ch
    | none => 0
/-- The tiles of a list of channels that an SK definition tests. -/
def skTiles (s : State) (k : Nat × Nat) (b : Block) (chs : List Nat) : List Nat := (chs.map (skTile s k b)).eraseDups

end Sys2Proof.Machine
end

