-- ==== Sys2Proof/Machine/Egress.lean ====
section
/-! DEFINITION. Egress.lean: how records and channel data become packets and enter a stream or a ring (R306 to R325). -/
namespace Sys2Proof.Machine

/-- A stream's run-time state, and its change. -/
def streamRun (s : State) (d k : Nat) : StreamRun := tgetD s.streams (d, k) StreamRun.reset
def onStream (s : State) (d k : Nat) (f : StreamRun → StreamRun) : State := { s with streams := tmod s.streams (d, k) StreamRun.reset f }

/-- Add to the last segment of a dome's open interval (R434). -/
def onSegment (s : State) (d : Nat) (f : Seg → Seg) : State :=
  match tget s.meter.opens d with
  | some x => { s with meter := { s.meter with opens := tset s.meter.opens d { x with segs := x.segs.dropLast ++ (x.segs.getLast?.toList.map f) } } }
  | none => s
/-- Meter wire bytes sent on a dome's streams (Table 14-10). -/
def meterEgress (s : State) (d n : Nat) : State := onSegment s d (fun g => { g with egress := g.egress + n })

/-- Does a stream send over IPv6? -/
def stV6 (st : Block) : Bool := !isV4 (ipBytes st 4)
/-- Is the stream's port tagged (R308)? -/
def stTag (p : Plan) (st : Block) : Nat := match p.port (st.nat 2) with | some pb => (match pb.at 10 with | .num _ => 4 | _ => 0) | none => 0
/-- Wire bytes of a Vorsy packet (R317). -/
def wireVorsy (p : Plan) (st : Block) (payload : Nat) : Nat := payload + (if stV6 st then 118 else 98) + stTag p st
/-- Wire bytes of a RoCE message of `m` bytes (R323). -/
def wireRoce (p : Plan) (st : Block) (m : Nat) (imm : Bool) : Nat :=
  m + ceilDiv m (st.nat 24) * ((if stV6 st then 102 else 82) + stTag p st) + 16 + 4 * b2n imm
/-- Wire bytes of a datagram of `n` payload bytes of a VDIF stream: as a Vorsy packet, whose 32-byte header counts among the 98. -/
def wireVdif (p : Plan) (st : Block) (n : Nat) : Nat := n + (if stV6 st then 86 else 66) + stTag p st

/-- Token units of one byte: the bucket counts in 1 / (8 * 10^9) byte, so that RATE Mbit/s adds RATE units in one femtosecond (R317). -/
def tokenByte : Nat := 8000000000
/-- Bytes that a stream holds (R319). -/
def StreamRun.held (r : StreamRun) : Nat :=
  (r.spill.map (fun p => p.bytes.length)).foldl (· + ·) 0 + (r.unacked.map (fun m => m.pkt.bytes.length)).foldl (· + ·) 0

/-! ### CAPTURE_READ into a stream (R299, R326, R395) -/

/-- The completion of a CAPTURE_READ from what moved of each stack: at once, or as its part of an aperture read (R396). -/
def readDone (s : State) (c : CapRead) : State :=
  let opc := Op.captureRead.info.code
  let ok := c.hstacks.filter (fun h => c.moved.contains h && !(c.failed.any (fun f => f.1 == h)))
  let bad := c.hstacks.filter (fun h => !ok.contains h)
  let codeOf := fun (h : Nat) => ((c.failed.find? (fun f => f.1 == h)).map (fun f => f.2)).getD 8
  let codes := (bad.map codeOf).eraseDups
  let bitmap := (ok.map (fun h => 2 ^ h)).foldl (· + ·) 0
  let status := if bad.isEmpty then 0 else if ok.isEmpty ∧ codes.length = 1 then codes.headD 8 else 1
  let same := fun (x : CapRead) => x.req.fn == c.req.fn && x.req.tag == c.req.tag
  match c.ap with
  | some (a, id) => apReadOwn { s with capReads := s.capReads.filter (fun x => !same x) } a id status bitmap (if status = 0 then c.bytes else 0)
  | none =>
    let s := { s with capReads := s.capReads.filter (fun x => !same x) }
    let tsn := tsnOf (decidedTick s c.req)
    if status = 1 then finish s opc c.req 1 c.hstacks.length tsn bitmap 0 (some (bad.flatMap (fun h => leBytes 2 h ++ leBytes 1 (codeOf h) ++ leBytes 5 0)))
    else finish s opc c.req status 0 tsn (if status = 0 then c.bytes else 0) 0 none

/-- A packet of a CAPTURE_READ has left, or was acknowledged. -/
def readMoved (s : State) (fn : Fn) (tag : BitVec 16) (hstacks : List Nat) : State :=
  match s.capReads.find? (fun x => x.req.fn == fn && x.req.tag == tag) with
  | none => s
  | some c =>
    let c' := { c with left := c.left - 1, moved := (c.moved ++ hstacks).eraseDups }
    if c'.left = 0 then readDone s c' else { s with capReads := s.capReads.map (fun x => if x == c then c' else x) }

/-- A record's last packet has left. -/
def recordSent (s : State) (d i q : Nat) : State :=
  onInstr s d i (fun r => { r with cap := { r.cap with recs := r.cap.recs.map (fun x => if x.seq = q ∧ x.stage = .streaming then { x with stage := .sent } else x) } })

/-- What the end of a packet's way brings about: a record is sent, a read has moved. -/
def packetGone (s : State) (d : Nat) (e : Option PktEnd) (acked : Bool) (roce : Bool) : State :=
  match e with
  | some (.record i q) => if acked then s else recordSent s d i q
  | some (.read fn tag hs _) => if roce != acked then s else readMoved s fn tag hs
  | none => s

/-- What a dropped packet stands for: its bytes are not among those queued (R404); in a queue pair in ERROR its stacks fail (R326). -/
def packetLost (s : State) (d : Nat) (e : Option PktEnd) (error : Bool) : State :=
  match e with
  | some (.record i q) => recordSent s d i q
  | some (.read fn tag hs n) =>
    readMoved { s with capReads := s.capReads.map (fun c => if c.req.fn == fn && c.req.tag == tag then
      { c with bytes := c.bytes - n, failed := if error then c.failed ++ hs.map (fun h => (h, 8)) else c.failed } else c) } fn tag hs
  | none => s

/-- Drop a packet, with at most one STREAM_DROP notice per stream per tick (R319). -/
def dropPkt (s : State) (d k : Nat) (p : Pkt) : State :=
  let noted := (streamRun s d k).noticed
  let s := onStream s d k (fun r => { r with pktDrop := r.pktDrop + 1, byteDrop := r.byteDrop + p.wire, noticed := true })
  let s := packetLost s d p.ends (streamRun s d k).error
  if noted then s else noticeDome s d 0x8004 0 (causeId 0x02 k) k

/-- Wire bytes that a stream's bucket gives from now to the end of the next tick, in token units (R317). -/
def tickTokens (p : Plan) (st : Block) (r : StreamRun) : Nat := r.tokens + st.nat 11 * (p.m * 6400000)

/-- Queue a packet: it leaves as RATE lets it within the next tick, goes to the tail of the spill, or is dropped (R309, R317, R319, R324). -/
-- DEDUCED, notes/assumptions/166.md
def pushPkt (s : State) (d k : Nat) (p : Pkt) : State :=
  match s.plan.stream d k with
  | none => s
  | some st =>
    let r := streamRun s d k
    if r.error then dropPkt s d k p
    else if r.spill.isEmpty ∧ ((r.go.map (fun x => x.wire)).foldl (· + ·) p.wire) * tokenByte ≤ tickTokens s.plan st r ∧ (portRun s (st.nat 2)).linkUp then
      onStream s d k (fun r => { r with go := r.go ++ [p] })
    else if r.held + p.bytes.length ≤ st.nat 13 then
      onStream s d k (fun r => { r with spill := r.spill ++ [p], spillPeak := Nat.max r.spillPeak (r.held + p.bytes.length) })
    else dropPkt s d k p

/-- The 32-byte Vorsy stream header (Table 4-5, R310). -/
def vorsyHeader (typ id flags mid tsn payload last tick : Nat) : List Byte :=
  beBytes 2 0x5646 ++ beBytes 1 1 ++ beBytes 1 typ ++ beBytes 2 id ++ beBytes 2 flags ++ beBytes 8 mid ++ beBytes 4 tsn ++ beBytes 2 payload ++
  beBytes 2 last ++ beBytes 8 tick

/-- Build and queue one packet: a VDIF frame, or a Vorsy packet whose content is padded to a multiple of 32 (R310, R311, R315). TICK64 is carried under
R41, and `imm` is the immediate of R322. -/
def queuePkt (s : State) (d k : Nat) (st : Block) (imm : Bool) (x : PktIn) : State :=
  if x.vdif then pushPkt s d k { bytes := x.content, wire := wireVdif s.plan st x.content.length, tick := x.tick, poisoned := false, imm := false, ends := x.ends }
  else
    let n := ceilDiv x.content.length 32 * 32
    let full := x.tick % 65536 == 0 || (streamRun s d k).full
    let body := vorsyHeader x.typ (st.nat 9) (x.flags + 64 * b2n full) x.mid (tsnOf x.tick) n x.last (if full then x.tick else 0) ++ padTo 0 n x.content
    let wire := if st.is 1 2 then wireRoce s.plan st (32 + n) imm else wireVorsy s.plan st n
    pushPkt (onStream s d k (fun r => { r with full := false })) d k { bytes := body, wire := wire, tick := x.tick, poisoned := false, imm := imm, ends := x.ends }

/-- Does a packet go before another: lower instrument, part, TSN or record sequence (R306)? -/
def PktIn.before (a b : PktIn) : Bool :=
  decide (a.instr < b.instr) || (a.instr == b.instr && (decide (a.part < b.part) || (a.part == b.part && decide (a.seq < b.seq))))
/-- Put a packet behind all that do not come after it. -/
def pktInsert (x : PktIn) : List PktIn → List PktIn
  | [] => [x]
  | y :: r => if x.before y then x :: y :: r else y :: pktInsert x r
/-- The packets of a tick in their order (R306); packets of one place keep theirs. -/
def pktOrder (l : List PktIn) : List PktIn := l.foldl (fun (a : List PktIn) (x : PktIn) => pktInsert x a) []

/-- A packet reaches a stream in the running tick. -/
def handPkt (s : State) (d k : Nat) (x : PktIn) : State := onStream s d k (fun r => { r with inbox := r.inbox ++ [x] })

/-- Drop the newest packets of a spill that no longer fit it. -/
def trimSpill (s : State) (d k size : Nat) : State :=
  (List.range (streamRun s d k).spill.length).foldl (fun (s : State) _ =>
    let r := streamRun s d k
    match r.spill.getLast? with
    | some p => if size < r.held then dropPkt (onStream s d k (fun r => { r with spill := r.spill.dropLast })) d k p else s
    | none => s) s

/-- Put a stream's packets that RATE had room for and that have not left by the end of the next tick at the head of its spill, which loses the newest
that it has no room for (R309, R319). -/
def returnOld (s : State) (d k : Nat) (st : Block) : State :=
  trimSpill (onStream s d k (fun r => { r with spill := r.go.take r.goOld ++ r.spill, go := r.go.drop r.goOld, goOld := 0 })) d k (st.nat 13)

/-- The packets that a stream has received in the running tick are queued; the last message of every IMM_TICKS-th tick carries an immediate (R306, R309, R322). -/
def queueTick (s : State) (d k : Nat) (st : Block) : State :=
  let s := if (streamRun s d k).goOld = 0 then s else returnOld s d k st
  let s := onStream s d k (fun r => { r with goOld := r.go.length })
  let r := streamRun s d k
  let l := pktOrder r.inbox
  let n := r.immTicks + 1
  let now := st.is 1 2 && n % Nat.max 1 (st.nat 28) == 0
  let s := onStream s d k (fun r => { r with inbox := [], immTicks := n })
  let s := l.zipIdx.foldl (fun (s : State) (e : PktIn × Nat) => queuePkt s d k st (now && e.2 + 1 == l.length) e.1) s
  onStream s d k (fun r => { r with noticed := false })

/-- The streams at the end of a device tick; a new tick may notify a drop (R319). -/
def streamTick (s : State) : State := forObjs s .streamDefine (fun s d k st => queueTick s d k st)

/-- One Vorsy packet for a stream, of a part and a TSN or record sequence (R306, R310). -/
def vorsyPkt (s : State) (d k : Nat) (at' : Nat × Nat × Nat) (typ flags mid tick last : Nat) (content : List Byte) (ends : Option PktEnd) : State :=
  match s.plan.stream d k with
  | none => s
  | some _ => handPkt s d k { instr := at'.1, part := at'.2.1, seq := at'.2.2, vdif := false, typ := typ, flags := flags, mid := mid, last := last, tick := tick, content := content, ends := ends }

/-- Send a record as RESULT packets (R313, Table 11-3). -/
def sendResult (s : State) (d k kind instr sub seq flags lastTick : Nat) (bytes : List Byte) (ends : Option PktEnd) : State :=
  match s.plan.stream d k with
  | none => s
  | some st =>
    let chunk := st.nat 10 - 32
    let n := Nat.max 1 (ceilDiv bytes.length chunk)
    (List.range n).foldl (fun s i =>
      let desc := beBytes 4 (bytes.length % 2 ^ 32) ++ beBytes 4 (bytes.length / 2 ^ 32) ++ beBytes 4 seq ++ beBytes 2 instr ++ beBytes 2 sub ++ List.replicate 16 0
      vorsyPkt s d k (instr, sub, seq) 4 (flags % 64) (i * chunk) lastTick kind (desc ++ sliceL bytes (i * chunk) chunk) (if i + 1 = n then ends else none)) s

/-- Send bytes of a capture region as CAPTURE packets (R313, Table 11-3). `unit` is the first unit, block or tick of what starts at a byte of them (R310), `key` the TSN or record sequence
of R306. -/
def sendCapture (s : State) (d k key instr seq region flags tick : Nat) (unit : Nat → Nat) (off : Nat) (bytes : List Byte) (ends : Option PktEnd) : State :=
  match s.plan.stream d k with
  | none => s
  | some st =>
    let chunk := st.nat 10 - 32
    let n := ceilDiv bytes.length chunk
    (List.range n).foldl (fun s i =>
      let part := sliceL bytes (i * chunk) chunk
      let ro := off + i * chunk
      let desc := beBytes 4 seq ++ beBytes 4 part.length ++ beBytes 4 (ro % 2 ^ 32) ++ beBytes 2 (ro / 2 ^ 32) ++ beBytes 2 instr ++ List.replicate 16 0
      vorsyPkt s d k (instr, 0, key) 5 (flags % 64) (unit (i * chunk)) tick region (desc ++ part) (if i + 1 = n then ends else none)) s

/-- The Q4 byte of a sample: 0x88 when invalid (R178). -/
def q4Byte (x : Smp) : Byte := if x.ok then BitVec.ofNat 8 (ofSigned 4 x.re + 16 * ofSigned 4 x.im) else 0x88
/-- The two bytes of a beam sample: 0x8080 when invalid (R230). -/
def beamBytes (x : Smp) : List Byte := if x.ok then [BitVec.ofNat 8 (ofSigned 8 x.re), BitVec.ofNat 8 (ofSigned 8 x.im)] else [0x80, 0x80]

/-- What the packets of a part's tick have in common: CHANNELS (`typ` 2) or BEAM (`typ` 3), instrument, part, feed or beam, bytes of a sample, the tick record and
one sample's bytes. -/
structure TickForm where
  typ : Nat
  instr : Nat
  part : Nat
  sub : Nat
  size : Nat
  flags : Nat
  /-- The part shed the tick (R314). -/
  shed : Bool
  record : List Byte
  enc : Smp → List Byte

/-- Packets of one run of `nch` channels of a tick of `frames` frames under MAX_PAYLOAD: frames of each, and packets; one without samples where the part shed the tick
(R312, R314). -/
def runPackets (st : Block) (f : TickForm) (nch frames : Nat) : Nat × Nat :=
  let per := Nat.max 1 ((st.nat 10 - 64) / (nch * f.size))
  (per, if f.shed then 1 else Nat.max 1 (ceilDiv frames per))

/-- One run of channels of a tick as packets, the first of which has index `base` of the `total` of the part's tick (R311, R312, R314). Bit 20 of a sample's marks
stands for a limited component (R179, R230). -/
def sendRun (s : State) (d k : Nat) (f : TickForm) (st : Block) (firstCh nch base total : Nat) (c : ChTick) : State :=
  let (per, pk) := runPackets st f nch c.frames.length
  (List.range pk).foldl (fun s i =>
    let fs := if f.shed then [] else sliceL c.frames (i * per) per
    let smps := fs.flatMap (fun e => sliceL e.2 (firstCh - c.first) nch)
    let valid := (smps.filter (fun x => x.ok)).length
    let desc := beBytes 4 firstCh ++ beBytes 2 fs.length ++ beBytes 2 nch ++ beBytes 4 valid ++ beBytes 2 f.instr ++ beBytes 2 (b2n (i == 0)) ++
      beBytes 2 (base + i) ++ beBytes 2 total ++ beBytes 4 ((smps.filter (fun x => x.fl.testBit 20)).length) ++ List.replicate 8 0
    let frame0 := (fs.head?.map (fun e => e.1)).getD ((c.frames.head?.map (fun e => e.1)).getD 0)
    let content := desc ++ (if i = 0 then f.record else []) ++ smps.flatMap f.enc
    vorsyPkt s d k (f.instr, f.part, c.tick) f.typ (r10Flags f.flags + 128 * b2n (valid == 0)) frame0 c.tick f.sub content none) s

/-- A part's tick as CHANNELS or BEAM packets, in ascending run (R312). -/
def sendTick (s : State) (d k : Nat) (f : TickForm) (c : ChTick) (nch : Nat) : State :=
  match s.plan.stream d k with
  | none => s
  | some st =>
    let w := Nat.max 1 (Nat.min nch ((st.nat 10 - 64) / f.size))
    let runs := (List.range (ceilDiv nch w)).map (fun i => (c.first + i * w, Nat.min w (nch - i * w)))
    let count := fun (r : Nat × Nat) => (runPackets st f r.2 c.frames.length).2
    let total := (runs.map count).foldl (· + ·) 0
    (runs.foldl (fun (a : State × Nat) (r : Nat × Nat) => (sendRun a.1 d k f st r.1 r.2 a.2 total c, a.2 + count r)) (s, 0)).1

/-- A VDIF data frame of one thread (R315): header words big-endian in the standard layout (log entry 13). -/
def vdifFrame (st : Block) (bits sec frame thread : Nat) (smps : List Smp) : List Byte :=
  let bad := smps.all (fun x => !x.ok)
  let off := fun (v : Int) => ofSigned bits (v + 2 ^ (bits - 1))
  let word := fun (x : Smp) => if x.ok then off x.re + 2 ^ bits * off x.im else 0
  let total := smps.foldl (fun (a : Nat × Nat) x => (a.1 + word x * 2 ^ a.2, a.2 + 2 * bits)) (0, 0)
  beBytes 4 (b2n bad * 2 ^ 31 + sec % 2 ^ 30) ++ beBytes 4 (st.nat 18 * 2 ^ 24 + frame) ++ beBytes 4 (st.nat 16 / 8 + 4) ++
  beBytes 4 (2 ^ 31 + (bits - 1) * 2 ^ 26 + thread * 2 ^ 16 + st.nat 14) ++ List.replicate 16 0 ++ leBytes (st.nat 16) total.1

/-- VDIF frames that a tick completes (R315, R316): samples of frame indices collected until a data array is full, and thread by thread the channels of all parts. -/
def sendVdif (s : State) (d k instr bits rate : Nat) (c : ChTick) (nch : Nat) : State :=
  match s.plan.stream d k with
  | none => s
  | some st =>
    let n := st.nat 16 * 8 / (2 * bits)
    let all := (streamRun s d k).vdif ++ c.frames
    -- a stream starts at the first multiple of N (R316)
    let start := match all.head? with | some e => ceilDiv e.1 n * n | none => 0
    let all := all.filter (fun e => decide (start ≤ e.1))
    let groups := all.length / n
    let s := onStream s d k (fun r => { r with vdif := all.drop (groups * n) })
    (List.range groups).foldl (fun s g =>
      let fs := sliceL all (g * n) n
      let q := (fs.head?.map (fun e => e.1)).getD 0
      (List.range nch).foldl (fun s ch =>
        let f := vdifFrame st bits (st.nat 17 + q / rate) (q % rate / n) (st.nat 15 + ch) (fs.map (fun e => e.2.getD ch { re := 0, im := 0, ok := false, fl := 0 }))
        handPkt s d k { instr := instr, part := 0, seq := c.tick, vdif := true, typ := 0, flags := 0, mid := 0, last := 0, tick := c.tick, content := f, ends := none }) s) s

/-- Where a record of an object goes: an instrument's own ring, or that of a mask or Plate. -/
structure Sink where
  dome : Nat
  instr : Nat
  /-- SUBID of RESULT packets and RESULT_ACK (Table 11-3, R404). -/
  sub : Nat
  kind : Nat
  dest : Dest
  key : ObjKey

/-- Deliver a record (R199, R218, R254, R270, R313): the state, the ring and whether it was dropped at a full ring. -/
def deliver (s : State) (k : Sink) (ring : Option RingRun) (seq flags lastTick : Nat) (f : Fields) : State × Option RingRun × Bool :=
  match k.dest with
  | .none => (s, ring, false)
  | .stream n => (sendResult s k.dome n k.kind k.instr k.sub seq flags lastTick f.be none, ring, false)
  | .hbm _ =>
    match ring with
    | none => (s, ring, true)
    | some r => let (s, r, ok) := ringPut s k.key r seq f.le; (s, some r, !ok)

/-- An instrument's own sink, with its ring and SUBID. -/
def iSink (d i ring sid kind : Nat) (b : Block) : Sink := { dome := d, instr := i, sub := sid, kind := kind, dest := iDest b, key := ⟨.instrDefine, d, i, ring⟩ }

/-- Is an instrument placed over an aperture, so that some of its inputs may lie on other devices (R225, R235)? -/
def iShared (b : Block) : Bool := match iAperture b with | .num _ => true | _ => false
/-- Inputs of a product set or beamformer, each with the number of its feed: the source, or none where another device of its aperture has it (R225, R235). -/
def Plan.inputSrcs (p : Plan) (d : Nat) (b : Block) : List (Nat × Option Src) :=
  let here := fun (f : Nat) (s : Src) => (f, if iShared b && (p.feed (p.feedOf s)).isNone then none else some s)
  (iQ4 b).map (fun e => here e.2 (p.q4Src d e)) ++ (iSources d b).map (fun s => here (p.feedOf s) s)
/-- Members of an instrument's aperture, in member order, and its number; none without one. -/
def Plan.apSharers (p : Plan) (b : Block) : Nat × List Nat :=
  match iAperture b with | .num a => (a.toNat, ((p.aperture a.toNat).map apMembers).getD []) | _ => (0, [])
/-- The member of an instrument's aperture that holds an input (log entry 47). -/
def Plan.inputHome (p : Plan) (b : Block) (x : Nat × Option Src) : Nat :=
  let (a, ms) := p.apSharers b
  let others := ms.filter (fun y => y != ownSerial)
  if x.2.isSome then ownSerial else others.getD (Config.inputMember a x.1 % Nat.max 1 others.length) ownSerial

/-- The aperture of a received flow's instrument, and the member that sends it. -/
def flowHome (s : State) (sp : FlowSpec) : Option (Nat × Nat) :=
  (s.plan.instr sp.dome sp.instr).bind (fun b => match iAperture b with
    | .num _ => ((s.plan.inputSrcs sp.dome b)[sp.pos % 4096]?).map (fun x => ((s.plan.apSharers b).1, s.plan.inputHome b x))
    | _ => none)
/-- Results with the contributions of a member that counts again carry STALE until its first complete flow-tick (R341). -/
def markStale (s : State) (a serial : Nat) : State :=
  { s with flows := s.flows.map (fun e => if flowHome s e.2.spec == some (a, serial) then (e.1, { e.2 with stale := true }) else e) }

/-- Is this device excluded from the aperture of an instrument, so that the instrument produces no output here (R340)? -/
def apQuiet (s : State) (b : Block) : Bool :=
  match iAperture b with
  | .num a => ((apMember s a.toNat ownSerial).map (fun m => m.excluded)).getD false
  | _ => false

/-- Deliver a record of an instrument through its ring `ring`, or in RESULT packets of SUBID `sid`. -/
def iDeliver (s : State) (d i ring sid kind : Nat) (b : Block) (seq flags lastTick : Nat) (f : Fields) : State × Bool :=
  if apQuiet s b then (s, false) else
  let (s, r, dropped) := deliver s (iSink d i ring sid kind b) (tget (instrRun s d i).rings ring) seq flags lastTick f
  (match r with | some r => onInstr s d i (fun x => { x with rings := tset x.rings ring r }) | none => s, dropped)

/-- Generation of the work of a dome: while a reset drains it, all that is left is work of the generation before (R423, R425). -/
def workGen (s : State) (d : Nat) : Nat := match (domeRun s d).drain with | some x => x.oldGen | none => genOf s d

/-- A record, as its instrument forms it. -/
def iRecord (s : State) (d i ring sid kind : Nat) (b : Block) (seq flags lastTick : Nat) (f : Fields) (drops : ICtr) (event : Option (Nat × Nat)) : Made :=
  { dome := d, instr := i, gen := workGen s d, block := b, ring := ring, sub := sid, kind := kind, seq := seq, flags := flags, lastTick := lastTick, body := f, drops := drops, event := event }
/-- Form a record, which reaches its destination at the start of the next device tick (R198, R220, R246). -/
def iMake (s : State) (d i ring sid kind : Nat) (b : Block) (seq flags lastTick : Nat) (f : Fields) (drops : ICtr) (event : Option (Nat × Nat)) : State :=
  { s with made := s.made ++ [iRecord s d i ring sid kind b seq flags lastTick f drops event] }

def plateRun (s : State) (d k : Nat) : PlateRun := tgetD s.plates (d, k) PlateRun.reset
def onPlate (s : State) (d k : Nat) (f : PlateRun → PlateRun) : State := { s with plates := tmod s.plates (d, k) PlateRun.reset f }
/-- A ring slot that a window of the running frame shows is written again (R552, R553). -/
def eyeTouch (s : State) (k slot : Nat) : State :=
  let b := (s.plan.find .eyepieceConfig devDome 0).getD []
  if s.eye.latched.zipIdx.any (fun (e : Option (Nat × Nat) × Nat) => (match e.1 with | some x => x.1 == slot | none => false) && b.at (17 + 10 * e.2) == .num k) then
    { s with eye := { s.eye with dirty := true } }
  else s

/-- A Plate's snapshot reaches its destination; `sub` of its record is the Plate, `block` the definition that it was copied under (R270, R278). A Plate that has
gone takes none. -/
def deliverSnap (s : State) (x : Made) : State :=
  match tget s.plates (x.dome, x.sub) with
  | none => s
  | some r =>
    let sink : Sink := { dome := x.dome, instr := x.instr, sub := x.sub, kind := 5, dest := destAt x.block 16, key := ⟨.plateDefine, x.dome, x.sub, 0⟩ }
    let s := match r.ring with | some g => if x.dome = 0 then eyeTouch s x.sub (g.written % Nat.max 1 g.slots) else s | none => s
    let (s, ring, dropped) := deliver s sink r.ring x.seq x.flags x.lastTick x.body
    let s := onPlate s x.dome x.sub (fun r => { r with ring := ring, snapDrop := r.snapDrop + b2n dropped })
    match x.event with
    | some (t, u) =>
      let s := raiseTile s t u 0x0B x.sub (.dome x.dome)
      if dropped then raiseTile s t u 0x02 x.instr (.dome x.dome) else s
    | none => s

/-- One record reaches its stream or ring, or is dropped at a full ring (R199, R204). A record of a generation that is over is discarded and counted
(R425), and a suspended dome's goes nowhere (R27). -/
def deliverOne (s : State) (x : Made) : State :=
  if x.gen ≠ genOf s x.dome then iCount s x.dome x.instr .genDiscard 1
  else if suspended s x.dome then s
  else if x.kind = 5 then deliverSnap s x
  else
    let (s, dropped) := iDeliver s x.dome x.instr x.ring x.sub x.kind x.block x.seq x.flags x.lastTick x.body
    let s := if dropped then iCount s x.dome x.instr x.drops 1 else s
    match x.event with
    | some (t, u) => raiseTile s t u (if dropped then 0x02 else 0x01) x.instr (.dome x.dome)
    | none => s

/-- The records formed in the tick that has ended are delivered, in the order in which they were formed. -/
def deliverMade (s : State) : State := s.made.foldl deliverOne { s with made := [] }

end Sys2Proof.Machine
end

