-- ==== Sys2Proof/Machine/Trigger.lean ====
section
/-! DEFINITION. Trigger.lean: science times of samples and frames, capture positions, dispersion delays, and how triggers reach captures (R255,
R260, R280, R286, R287, R289). -/
namespace Sys2Proof.Machine

/-! ### Exact ratios -/

/-- A rational number as numerator and denominator. -/
abbrev Ratio := Int × Nat
def Ratio.add (a b : Ratio) : Ratio := (a.1 * b.2 + b.1 * a.2, a.2 * b.2)
def Ratio.mul (a b : Ratio) : Ratio := (a.1 * b.1, a.2 * b.2)
def Ratio.neg (a : Ratio) : Ratio := (-a.1, a.2)
/-- Reciprocal of a positive ratio. -/
def Ratio.inv (a : Ratio) : Ratio := (a.2, a.1.toNat)

/-- binary64 of a ratio, round to nearest even, exponent range aside (R260). -/
def rnd64 (a : Ratio) : Ratio :=
  if a.1 = 0 ∨ a.2 = 0 then (0, 1) else
  let n := a.1.natAbs
  let e0 : Int := (n.log2 : Int) - a.2.log2
  let ge : Bool := if 0 ≤ e0 then decide (a.2 * 2 ^ e0.toNat ≤ n) else decide (a.2 ≤ n * 2 ^ (-e0).toNat)
  let e : Int := (if ge then e0 else e0 - 1) - 52
  let m : Int := if 0 ≤ e then rne a.1 (a.2 * 2 ^ e.toNat) else rne (a.1 * (2 ^ (-e).toNat : Nat)) a.2
  if 0 ≤ e then (m * (2 ^ e.toNat : Nat), 1) else (m, 2 ^ (-e).toNat)

/-! ### Frames and samples of a source -/

/-- Conditioning of the feed behind a source: definition and settings. -/
def Plan.srcFeed (p : Plan) (src : Src) : Option (Block × Block) := (p.feed (p.feedOf src)).map (fun b => (b, p.cond (p.feedOf src)))
/-- Input samples per conditioning output sample: rho D (R141). -/
def rhoD (b c : Block) : Nat := feedDiv b * condD c
/-- First conditioning output sample of a tick (R141). -/
def firstOut (b c : Block) (m : Nat) (n : Int) : Int := firstSample b m n / (feedDiv b : Int) / (condD c : Int)
/-- First frame of a source in a sample tick (R151, R167). -/
def Plan.firstFrame (p : Plan) (src : Src) (n : Int) : Int :=
  match p.srcFeed src with
  | none => 0
  | some (b, c) =>
    let q := match p.coarse (p.feedOf src) with | some co => firstOut b c (p.mAt n) n / (coHop co : Int) | none => 0
    match src with
    | .feed _ => q
    | .window d w => match p.zoom d w with | some z => q / (zoN z : Int) | none => q

/-- Twice the centre of a coarse frame's support, in output samples (R255). -/
def coarseCentre2 (co : Block) (q : Ratio) : Ratio :=
  Ratio.add (Ratio.mul (Ratio.add q (1, 1)) (2 * (coHop co : Int), 1)) (-((coN co * co.nat 2 + 1 : Nat) : Int), 1)
/-- Centre of a frame's support, in conditioning output samples (R255). -/
def Plan.frameCentre (p : Plan) (src : Src) (q : Int) : Ratio :=
  match p.coarse (p.feedOf src) with
  | none => (0, 1)
  | some co =>
    let half := fun (r : Ratio) => (r.1, 2 * r.2)
    match src with
    | .feed _ => half (coarseCentre2 co (q, 1))
    | .window d w =>
      match p.zoom d w with
      | none => (0, 1)
      | some z => half (coarseCentre2 co (2 * (q + 1) * (zoN z : Int) - ((zoN z * z.nat 5 + 1 : Nat) : Int), 2))

/-- Science time of conditioning output sample `j` of a feed in `TimeSt` units, exact (R255). -/
def outTime (s : State) (b c : Block) (j : Ratio) : Ratio :=
  let x : Ratio := Ratio.add (Ratio.mul j ((rhoD b c : Int), 1)) (-((b.nat 16 : Nat) : Int), 1)
  Ratio.add (Ratio.mul x (((b.nat 14 * uSec : Nat) : Int), b.nat 13)) (s.time.epoch + ((b.nat 15 * s.plan.period : Nat) : Int) - groupDelayFs b c * uFs, 1)
/-- Science time of an input sample of a feed, exact (R108). -/
def inTime (s : State) (b : Block) (k : Int) : Ratio :=
  Ratio.add (Ratio.mul (k - b.nat 16, 1) (((b.nat 14 * uSec : Nat) : Int), b.nat 13)) (s.time.epoch + ((b.nat 15 * s.plan.period : Nat) : Int), 1)
/-- A time rounded convergently to 2^-48 s, in `TimeSt` units. -/
def roundCt (t : Ratio) : Int := rne t.1 (t.2 * uCt) * uCt
/-- Time of a frame (R255), rounded to 2^-48 s. -/
def frameTime (s : State) (src : Src) (q : Int) : Int :=
  match s.plan.srcFeed src with
  | none => 0
  | some (b, c) => roundCt (outTime s b c (s.plan.frameCentre src q))

/-! ### Dispersion delays (R139, R154, R162, R168, R260) -/

/-- Sky frequency of a channel in Hz, exact. -/
def Plan.sky (p : Plan) (src : Src) (ch : Nat) : Ratio :=
  match p.srcFeed src, p.coarse (p.feedOf src) with
  | some (b, c), some co =>
    let f : Ratio := ((b.nat 13 : Int), b.nat 14)
    let lo : Ratio := ((c.nat 4 : Int), 2 ^ 16)
    let signed := fun (v : Ratio) => if c.is 3 1 then Ratio.neg v else v
    let coarse := fun (cc : Nat) =>
      if 1 < feedK b ∧ !b.flag 12 then Ratio.add lo (signed (Ratio.mul f ((cc : Int), 2 * feedK b * coN co)))
      else
        let half : Int := if b.flag 12 then 0 else 1
        let vin := Ratio.mul f (half * 2 ^ 47 + c.int 1, 2 ^ 48 * feedDiv b)
        Ratio.add (Ratio.add lo (signed vin)) (Ratio.mul f ((cc : Int) - (coN co / 2 : Nat), rhoD b c * coN co))
    match src with
    | .feed _ => coarse ch
    | .window d w =>
      match p.zoom d w with
      | none => coarse ch
      | some z =>
        let k := Nat.max 1 (zoKeep z co)
        let ff : Int := ((ch % k + (zoN z - k) / 2 : Nat) : Int) - (zoN z / 2 : Nat)
        Ratio.add (coarse (z.nat 2 + ch / k)) (Ratio.mul f (ff, rhoD b c * coHop co * zoN z))
  | _, _ => (0, 1)

/-- Frame period of a source in seconds, exact. -/
def Plan.framePeriod (p : Plan) (src : Src) : Ratio :=
  match p.srcFeed src with
  | none => (1, 1)
  | some (b, c) => (((p.fh src * rhoD b c * b.nat 14 : Nat) : Int), b.nat 13)

/-- Sky frequency in GHz as binary64. -/
def Plan.skyGhz (p : Plan) (src : Src) (ch : Nat) : Ratio := let v := p.sky src ch; rnd64 (v.1, v.2 * 10 ^ 9)

/-- KAPPA of the channels of a sweep mask, in binary64 in the order written (R260; log entry 23). -/
def Plan.kappa (p : Plan) (src : Src) (first count : Nat) : List Nat :=
  let vs := (List.range count).map (fun c => p.skyGhz src (first + c))
  let top := vs.foldl (fun (a : Ratio) v => if a.1 * v.2 < v.1 * a.2 then v else a) (0, 1)
  let inv2 := fun (v : Ratio) => let w := Ratio.inv v; rnd64 (Ratio.mul w w)
  let k0 := rnd64 (Ratio.mul (rnd64 (Ratio.mul (2 ^ 32, 1) (rnd64 (4148808, 10 ^ 6)))) (rnd64 (1, 10 ^ 6)))
  let tf := rnd64 (p.framePeriod src)
  vs.map (fun v =>
    let x := rnd64 (Ratio.add (inv2 v) (Ratio.neg (inv2 top)))
    let y := rnd64 (Ratio.mul (rnd64 (Ratio.mul k0 x)) (Ratio.inv tf))
    (rne y.1 y.2).toNat)
/-- Trial dispersion d_k of a sweep mask (Table 9-6). -/
def trialDm (mb : Block) (k : Nat) : Nat := mb.nat 5 + k * mb.nat 6
/-- Delay of a channel in a trial, in frames (R260). -/
def sweepDelay (mb : Block) (kappa k : Nat) : Nat := (rne ((trialDm mb k * kappa : Nat) : Int) (2 ^ 32)).toNat
/-- Source of a mask's instrument. -/
def Plan.maskSrc (p : Plan) (d : Nat) (mb : Block) : Src := match p.instr d (mb.nat 2) with | some b => srcOf d (b.at 2) | none => .feed 1024
/-- Largest delay of a sweep mask (R260). -/
def Plan.dmMax (p : Plan) (d : Nat) (mb : Block) : Nat :=
  ((p.kappa (p.maskSrc d mb) (mb.nat 3) (mb.nat 4)).map (fun k => sweepDelay mb k (mb.nat 7 - 1))).foldl Nat.max 0

/-! ### Latencies of captures (R213, R246, R280, R286, R289) -/

/-- L_inst of an instrument (R330). -/
def Plan.lInst (p : Plan) (d i : Nat) : Nat := match p.place? .instrDefine d i with | some x => (x.chosen.getD 0 0).toNat | none => 0
/-- Longest lambda of an instrument's own sources (R192). -/
def Plan.lamIn (p : Plan) (d i : Nat) : Nat :=
  match p.instr d i with
  | none => 0
  | some b => ((iSources d b).map (fun src => p.lambda d i src)).foldl Nat.max 0
/-- lambda of an instrument, with Transit (R192, R246). -/
def Plan.lam (p : Plan) (d i : Nat) : Nat := if (p.instr d i).isNone then 0 else p.lamIn d i + p.lInst d i
/-- lambda_q: latency of the Q4 of a requantising instrument, on the tiles that requantise (R164, R213). -/
def Plan.lamQ (p : Plan) (d i : Nat) : Nat := p.lamIn d i + 1
/-- lambda_x of a correlator, FX or beamformer (R213). -/
def Plan.lamX (p : Plan) (d i : Nat) : Nat :=
  match p.instr d i with
  | none => 0
  | some b => if (iQ4 b).isEmpty then p.lamQ d i + p.lInst d i else ((iQ4 b).map (fun e => p.lamQ d e.1)).foldl Nat.max 0 + p.lInst d i

/-- Channel source of a capture, or its feed at INPUT and COND. SOURCE holds its number in the low 32 bits (log entry 21). -/
def Plan.capSrc (p : Plan) (d : Nat) (b : Block) : Src :=
  let n := b.nat 4 % 2 ^ 32
  match b.word? 3 with
  | some 3 => .window d n
  | some 4 => p.q4Src d (n % 2 ^ 16, n / 2 ^ 16)
  | some 5 =>
    (match p.instr d (n % 2 ^ 16) with
     | some x => (match iSources d x, iQ4 x with
       | src :: _, _ => src
       | _, q :: _ => p.q4Src d q
       | _, _ => .feed 1024)
     | none => .feed 1024)
  | _ => .feed n
/-- Capture latency lambda_c (Table 10-2). -/
def Plan.lamC (p : Plan) (d i : Nat) (b : Block) : Nat :=
  let n := b.nat 4 % 2 ^ 32
  match b.word? 3 with
  | some 0 => p.hold n + 4
  | some 1 => p.hold n + 5
  | some 4 => p.lamQ d (n % 2 ^ 16)
  | some 5 => p.lamX d (n % 2 ^ 16) + 1
  | _ => p.lambda d i (p.capSrc d b)
/-- First unit of a sample tick at a capture's point (R280). -/
def Plan.firstUnit (p : Plan) (d : Nat) (b : Block) (n : Int) : Int :=
  let src := p.capSrc d b
  match b.word? 3 with
  | some 0 => (match p.srcFeed src with | some (fb, _) => firstSample fb (p.mAt n) n | none => 0)
  | some 1 => (match p.srcFeed src with | some (fb, c) => firstOut fb c (p.mAt n) n | none => 0)
  | _ => p.firstFrame src n
/-- Conditioning output samples per unit: 1 / rho D at INPUT (R255, R287). -/
def Plan.unitInputs (p : Plan) (d : Nat) (b : Block) : Nat :=
  let src := p.capSrc d b
  match p.srcFeed src with
  | none => 1
  | some (fb, c) => match b.word? 3 with | some 0 => 1 | some 1 => rhoD fb c | _ => rhoD fb c * p.fh src
/-- Sample tick that holds a unit. -/
def Plan.unitTick (p : Plan) (d : Nat) (b : Block) (x : Int) : Int :=
  match p.srcFeed (p.capSrc d b) with
  | none => 0
  | some (fb, _) =>
    let k := (x + 1) * p.unitInputs d b - 1
    let n := tickOfSample fb (if k < (fb.nat 16 : Int) then p.mAt ((fb.nat 15 : Int) - 1) else p.m) k
    if p.firstUnit d b (n + 1) ≤ x then n + 1 else if x < p.firstUnit d b n then n - 1 else n

/-- λ of R192 for the source of an SK definition `b`: with the holds of the source's path, its own among them (R286). -/
def Plan.skLam (p : Plan) (inst : Bool) (src : Src) (b : Block) : Nat :=
  p.hold (p.feedOf src) + (match src with | .feed _ => 6 | .window _ _ => 7) + p.lskFeed (p.feedOf src) + (if inst then p.lskOf src b else 0)
/-- ceil(k F_H / S_src). -/
def Plan.frameTicks (p : Plan) (src : Src) (k : Nat) : Nat := ceilDiv (k * p.fh src) (Nat.max 1 (p.so (p.feedOf src)))
/-- Entries of a capture's stage: columns 13 and 14 of its block. -/
def capEntries (b : Block) (stageB : Bool) : List (List Int) := if stageB then (if b.is 15 1 then b.rows 14 else []) else b.rows 13
/-- Source of an SK trigger entry: SCOPE, SOURCE and INSTRUMENT slots (log entry 21). -/
def entrySk (d : Nat) (e : List Int) : Option (Nat × Nat × Src) :=
  let src := entrySrc d (e.getD 2 0)
  if e.getD 1 0 = -(2 ^ 63) then some (devDome, (e.getD 2 0).toNat, src)
  else some (d, skIndex (e.getD 3 0).toNat (match src with | .feed f => .obj 0 f | .window _ w => .obj 1 w), src)

/-- Lambda_s of a trigger entry (Table 10-5) and the decision delay d(n) - n of a capture (R289). Links are at most 4 deep (R286). -/
def Plan.capDelay : Nat → Plan → Nat → Nat → Block → Nat
  | fuel, p, d, i, b =>
    let lc := p.lamC d i b
    ((capEntries b false ++ capEntries b true).map (fun e => lamS fuel p d i b e)).foldl Nat.max lc
where
  lamS : Nat → Plan → Nat → Nat → Block → List Int → Nat
    | fuel, p, d, i, b, e =>
      let k := (e.getD 1 0).toNat
      match (e.headD 0).toNat with
      | 2 => (e.getD 3 2).toNat
      | 3 => (match p.mask d k with | some mb => p.lam d (mb.nat 2) + 1 | none => 0)
      | 4 => (match p.mask d k with
        | some mb => p.lam d (mb.nat 2) + 2 + p.frameTicks (p.maskSrc d mb) (mb.nat 11 + p.dmMax d mb + 63)
        | none => 0)
      | 5 => (match entrySk d e with
        | some (dd, ix, src) => (match p.find .skDefine dd ix with
          | some sb => p.skLam (dd != devDome) src sb + p.frameTicks src (sb.nat 5 - 1) + 1
          | none => 0)
        | none => 0)
      | 7 => (match fuel with
        | 0 => 0
        | f + 1 => (match p.instr d k with
          | some lb => ((capEntries lb false ++ capEntries lb true).map (fun x => lamS f p d k lb x)).foldl Nat.max (p.lamC d k lb) + 1
          | none => 0))
      | _ => p.lamC d i b
/-- Guard G (R289). -/
def Plan.capGuard (p : Plan) (d i : Nat) (b : Block) : Nat := p.capDelay 4 d i b - p.lamC d i b

/-! ### Positions (R287) -/

/-- Position of a time at a capture's point: unit and fraction in 2^-32 unit. -/
def timePos (s : State) (d : Nat) (b : Block) (t : Int) : Int × Nat :=
  let p := s.plan
  let src := p.capSrc d b
  match p.srcFeed src with
  | none => (0, 0)
  | some (fb, c) =>
    let f : Ratio := ((fb.nat 13 : Int), fb.nat 14 * uSec)
    let x0 : Int := t - s.time.epoch - ((fb.nat 15 * p.period : Nat) : Int)
    let inp := fun (x : Int) => Ratio.add (Ratio.mul (x, 1) f) ((fb.nat 16 : Int), 1)
    let cond : Ratio := let r := inp (x0 + groupDelayFs fb c * uFs); (r.1, r.2 * rhoD fb c)
    let frame := fun (u : Ratio) (nt h : Nat) =>
      Ratio.add (Ratio.mul (Ratio.add u (((nt + 1 : Nat) : Int), 2)) (1, h)) (-1, 1)
    let coarse : Ratio := match p.coarse (p.feedOf src) with | some co => frame cond (coN co * co.nat 2) (coHop co) | none => cond
    let u : Ratio := match b.word? 3, src with
      | some 0, _ => inp x0
      | some 1, _ => cond
      | _, .window dd w => (match p.zoom dd w with | some z => frame coarse (zoN z * z.nat 5) (zoN z) | none => coarse)
      | _, _ => coarse
    let v := rne (u.1 * 2 ^ 32) u.2
    (v / 2 ^ 32, (v % 2 ^ 32).toNat)

/-- Time of a unit at a capture's point, rounded to 2^-48 s: the inverse of `timePos` (R287). -/
def unitTime (s : State) (d : Nat) (b : Block) (x : Int) : Int :=
  let src := s.plan.capSrc d b
  match s.plan.srcFeed src with
  | none => 0
  | some (fb, c) =>
    match b.word? 3 with
    | some 0 => roundCt (inTime s fb x)
    | some 1 => roundCt (outTime s fb c (x, 1))
    | _ => frameTime s src x

/-! ### Arrival (R286, R289) -/

/-- Hand a trigger to a capture. -/
def giveTrig (s : State) (d i : Nat) (t : Trig) : State := onInstr s d i (fun r => { r with cap := { r.cap with arriving := r.cap.arriving ++ [t] } })

/-- The entries of the TRIGGERED captures that a trigger of type `typ` from object `sel` reaches: dome, instrument, parameters, stage, entry. -/
def capReaders (s : State) (typ : Nat) (sel : Nat → List Int → Bool) : List (Nat × Nat × Block × Bool × Nat × List Int) :=
  (s.plan.objs .instrDefine).flatMap (fun (e : Nat × Nat × Block) =>
    if iKind e.2.2 = 8 ∧ e.2.2.is 2 0 ∧ s.plan.placed e.1 e.2.1 then
      [false, true].flatMap (fun st => ((capEntries e.2.2 st).zipIdx.filter (fun x => x.1.headD 0 == (typ : Int) && sel e.1 x.1)).map (fun x =>
        (e.1, e.2.1, e.2.2, st, x.2, x.1)))
    else [])

/-- Channel sources that the units of a capture come from: at BEAM every input of its beamformer (R280, R287). -/
def Plan.capSrcs (p : Plan) (d : Nat) (b : Block) : List Src :=
  match b.word? 3, p.instr d (b.nat 4 % 2 ^ 16) with
  | some 5, some x => iSources d x ++ (iQ4 x).map (p.q4Src d)
  | _, _ => [p.capSrc d b]

/-- A trigger known by its time: frame `q` of a source where it has one, and its time. `reached` is the device tick in which it arrives. -/
def timeTrig (s : State) (reached typ : Nat) (sel : Nat → List Int → Bool) (grid : Option (Src × Int)) (time : Int) (hold : Bool) : State :=
  (capReaders s typ sel).foldl (fun (s : State) (e : Nat × Nat × Block × Bool × Nat × List Int) =>
    let (d, i, b, st, k, ent) := e
    let same : Bool := match grid with | some g => decide (2 ≤ (b.word? 3).getD 0) && (s.plan.capSrcs d b).contains g.1 | none => false
    let eps : Int := if typ = 2 then ent.getD 2 0 * uFs else 0
    let (pos, frac) := match grid with | some g => (if same then (g.2, 0) else timePos s d b time) | none => timePos s d b (time - eps)
    giveTrig s d i { typ := typ, entry := k, stageB := st, pos := pos, frac := frac, fracValid := !same, time := time - eps, holdover := hold, reached := reached }) s

/-- A trigger at a unit of each capture's own point: MANUAL, LEVEL and EVENT. -/
def unitTrig (s : State) (d i : Nat) (b : Block) (typ : Nat) (st : Bool) (k : Nat) (pos : Int) (reached : Nat) : State :=
  giveTrig s d i { typ := typ, entry := k, stageB := st, pos := pos, frac := 0, fracValid := false, time := unitTime s d b pos, holdover := false, reached := reached }

/-- An event on a channel reaches the captures that name it: the first unit of the sample tick written in the next device tick (Table 10-5). -/
def eventTrig (s : State) (chan : Nat) : State :=
  (capReaders s 6 (fun d e => e.getD 1 0 == (chan : Int) && s.plan.holdsChan d chan)).foldl (fun (s : State) (e : Nat × Nat × Block × Bool × Nat × List Int) =>
    let (d, i, b, st, k, _) := e
    unitTrig s d i b 6 st k (s.plan.firstUnit d b ((s.time.tick64 : Int) + 1 - s.plan.lamC d i b)) s.time.tick64) s

/-- A TDC result record reaches the captures that name its channel (Table 10-5). -/
def edgeTrig (s : State) (chan : Nat) (time : Int) (hold : Bool) : State :=
  timeTrig s s.time.tick64 2 (fun d e => e.getD 1 0 == (chan : Int) && s.plan.holdsChan d chan) none time hold

/-- A block with an excursion reaches the captures that name its SK definition (Table 10-5). -/
def skTrig (s : State) (k : Nat × Nat) (src : Src) (frame : Nat) : State :=
  timeTrig s s.time.tick64 5 (fun d e => match entrySk d e with | some (dd, ix, _) => dd == k.1 && ix == k.2 | none => false) (some (src, frame))
    (frameTime s src frame) false

end Sys2Proof.Machine
end

