-- ==== Sys2Proof/Machine/Channel.lean ====
section
/-! DEFINITION. Channel.lean: the coarse channeliser and the stitch, zoom windows, spectral kurtosis and the requantiser (R150 to R184). -/
namespace Sys2Proof.Machine

/-! ### Filter bank arithmetic (R152, R153) -/

/-- Saturation of both components to 2^17 - 1, with the number of components saturated. -/
def sat17 (z : Int × Int) : (Int × Int) × Nat :=
  let f := fun (x : Int) => clampInt (-131071) 131071 x
  ((f z.1, f z.2), b2n (f z.1 != z.1) + b2n (f z.2 != z.2))

/-- Interleave two lists. -/
def interleave {α : Type} : List α → List α → List α
  | [], b => b
  | a :: r, b => match b with | [] => a :: r | y :: b => a :: y :: interleave r b

/-- One butterfly: a' = a + b and b' = (a - b) W with one rounding each (R153). -/
def butterfly (sh num den : Nat) (a b : Int × Int) : (Int × Int) × (Int × Int) × Nat :=
  let (p, n1) := sat17 (rneShift (a.1 + b.1) sh, rneShift (a.2 + b.2) sh)
  let d := (a.1 - b.1, a.2 - b.2)
  let (q, n2) :=
    if num = 0 then sat17 (rneShift d.1 sh, rneShift d.2 sh)
    else
      let (c, s) := twiddle num den
      sat17 (rneShift (d.1 * c + d.2 * s) (17 + sh), rneShift (d.2 * c - d.1 * s) (17 + sh))
  (p, q, n1 + n2)

/-- Radix-2 decimation in frequency: `k` stages left, `s` the present stage, `n` the size; outputs in natural order, with saturations. -/
def fft (shift n : Nat) : Nat → Nat → List (Int × Int) → List (Int × Int) × Nat
  | 0, _, xs => (xs, 0)
  | k + 1, s, xs =>
    let h := xs.length / 2
    let bs : List ((Int × Int) × (Int × Int) × Nat) := ((xs.take h).zip (xs.drop h)).mapIdx (fun (i : Nat) (e : (Int × Int) × (Int × Int)) => butterfly (b2n (shift.testBit s)) (i * 2 ^ s) n e.1 e.2)
    let (lo, n1) := fft shift n k (s + 1) (bs.map (fun e => e.1))
    let (hi, n2) := fft shift n k (s + 1) (bs.map (fun e => e.2.1))
    (interleave lo hi, n1 + n2 + (bs.map (fun e => e.2.2)).foldl (· + ·) 0)

/-- One frame: filter, rotation, transform (R152, R153). `x` holds the N * T inputs oldest first, `s0` the index of the first. -/
def pfbFrame (n t shift lg : Nat) (h : Nat → Int) (x : Array Smp) (s0 : Int) : List (Int × Int) × Nat :=
  let v := (List.range n).map (fun (m : Nat) =>
    let z := (List.range t).foldl (fun (a : Int × Int) (j : Nat) =>
      let y := x.getD (m + j * n) noSmp
      let c := h (m + j * n)
      (a.1 + c * y.re, a.2 + c * y.im)) (0, 0)
    sat17 (rneShift z.1 17, rneShift z.2 17))
  let rot := (s0 % (n : Int)).toNat
  let va := (v.map (fun e => e.1)).toArray
  let u := (List.range n).map (fun (p : Nat) => va.getD ((p + n - rot) % n) (0, 0))
  let (y, ov) := fft shift n lg 0 u
  (y, ov + (v.map (fun e => e.2)).foldl (· + ·) 0)

/-- The frame as channels: FFT output k is channel (k + N/2) mod N (R154). -/
def fftShift {α : Type} (l : List α) : List α := l.drop (l.length / 2) ++ l.take (l.length / 2)

/-- A prototype coefficient from a stored half set: h[m] = h[N T - 1 - m] (R156). -/
def halfSet (set : List Int) (len m : Nat) : Int := if m < len / 2 then set.getD m 0 else set.getD (len - 1 - m) 0

/-- Coarse prototype of a definition. -/
def coarseProto (s : State) (c : Block) : Nat → Int :=
  match c.at 4 with
  | .num k => let set := tgetD s.coefSets (0, k.toNat) []; fun m => halfSet set (coN c * c.nat 2) m
  | _ => fun m => Config.coarseTap (c.nat 1) (c.nat 2) (coOs c) m
/-- Zoom prototype of a window of dome `d`. -/
def zoomProto (s : State) (d : Nat) (z : Block) : Nat → Int :=
  match z.at 6 with
  | .num k => let set := tgetD s.coefSets (d, k.toNat) []; fun m => halfSet set (zoN z * z.nat 5) m
  | _ => fun m => Config.zoomTap (z.nat 4) (z.nat 5) m

/-! ### Stitch (R161, R162) -/

/-- Stitch the frames of K sub-bands: channel C = k N_c + c, with the saturations counted for each sub-band, on whose tile they happen. -/
def stitch (kk : Nat) (c : Block) (subs : List (List Smp)) : List Smp × List Nat :=
  let n := coN c
  let z := n / 32
  let arr := subs.map (fun l => l.toArray)
  let get := fun (k i : Nat) => (arr.getD k #[]).getD i noSmp
  let mix := fun (own other : Smp) (i : Nat) =>
    let a := Config.stitchA kk (c.nat 1) (c.nat 2) (coOs c) i
    let b := Config.stitchB kk (c.nat 1) (c.nat 2) (coOs c) i
    let (v, ov) := sat17 (rneShift (a.1 * own.re - a.2 * own.im + b.1 * other.re - b.2 * other.im) 17,
                          rneShift (a.1 * own.im + a.2 * own.re + b.1 * other.im + b.2 * other.re) 17)
    (({ re := v.1, im := v.2, ok := own.ok && other.ok, fl := own.fl ||| other.fl } : Smp), ov)
  let all : List (List (Smp × Nat)) := (List.range kk).map (fun (k : Nat) => (List.range n).map (fun (i : Nat) =>
    if i < z ∧ 0 < k then mix (get k i) (get (k - 1) i) i
    else if n - z ≤ i ∧ k + 1 < kk then mix (get k i) (get (k + 1) i) i
    else (get k i, 0)))
  (all.flatMap (fun l => l.map (fun e => e.1)), all.map (fun l => (l.map (fun e => e.2)).foldl (· + ·) 0))

/-! ### Delivery to readers -/

/-- The channels of a range of a tick. -/
def ChTick.range (c : ChTick) (first count : Nat) : ChTick :=
  { c with first := first, frames := c.frames.map (fun e => (e.1, sliceL e.2 (first - c.first) count)) }

/-- Transit latency of what input `pos` of an instrument takes: channel data go straight to its own requantiser, and Transit carries the Q4 (R164, R225, R330). -/
def inTransit (s : State) (d i pos : Nat) : Nat := if pos < 4096 ∧ (s.plan.instr d i).any iRequantises then 0 else iTransit s d i
/-- TR_SENT of the flows that bring an input to the parts of an instrument on other tiles of this device: each flow-tick has a tick record, then 1 byte for each Q4 sample or 9
for each channel sample (R328, R343). Such a flow loses nothing, and has no late and no absent granule. -/
def countFlows (s : State) (d i pos : Nat) (c : ChTick) : State :=
  match s.plan.place? .instrDefine d i, s.plan.instr d i with
  | some x, some b =>
    if inTransit s d i pos = 0 then s
    else
      let src := if pos < 4096 then (iSources d b)[pos]? else ((iQ4 b).map (s.plan.q4Src d) ++ iSources d b)[pos - 4096]?
      let bps := if pos < 4096 then 9 else 1
      let counts := (x.chosen.drop 4).map Int.toNat
      match src with
      | none => s
      | some src => (x.tiles.zip counts).zipIdx.foldl (fun (s : State) (e : (Nat × Nat) × Nat) =>
          let first := (iRange b).1 + (counts.take e.2).foldl (· + ·) 0
          (s.plan.tileRuns src first e.1.2).foldl (fun (s : State) (r : Nat × Nat × Nat) =>
            if r.1 = e.1.1 then s
            else
              let key := (256 + 64 * d + i, (pos * 64 + r.1) * 64 + e.2)
              let f := flowRun s key ⟨d, i, pos, first + r.2.1, r.2.2, c.frames.length, 1, bps, 1⟩
              { s with flows := tset s.flows key { f with sent := (f.sent + ceilDiv (32 + c.frames.length * r.2.2 * bps) 32) % 2 ^ 64 } }) s) s
  | _, _ => s
/-- Hand a tick to input `pos` of an instrument, for the device tick `at0` and its Transit latency. -/
def toInstr (s : State) (at0 d i pos : Nat) (c : ChTick) : State :=
  onInstr (countFlows s d i pos c) d i (fun r => { r with inq := r.inq ++ [(pos, at0 + inTransit s d i pos, c)] })

/-- Change an SK unit. -/
def onSk (s : State) (k : Nat × Nat) (f : SkRun → SkRun) : State := { s with sks := tmod s.sks k SkRun.reset f }
def skRun (s : State) (k : Nat × Nat) : SkRun := tgetD s.sks k SkRun.reset

/-- Take a tick into an SK unit: its tested samples, and under BLANK the tick itself, which leaves in device tick `due`. -/
def skTake (b : Block) (due : Nat) (c : ChTick) (r : SkRun) : SkRun :=
  { r with frames := r.frames ++ c.frames.map (fun e => (e.1, c.tick, sliceL e.2 (b.nat 3 - c.first) (b.nat 4))),
           held := if b.is 8 0 then r.held ++ [(due, c)] else r.held }

/-- The SK unit of a feed for a sample tick: its settings in force. -/
def skSetting (r : SkRun) (n : Nat) : Option Block :=
  (r.settings.foldl (fun (a : Option (Nat × Option Block)) e => if e.1 ≤ n then (match a with | some x => if x.1 ≤ e.1 then some e else a | none => some e) else a) none).bind (·.2)

/-- Ticks for which an instrument holds what a source gives it until its last source's data of the same sample tick are present (R330). -/
def inPad (p : Plan) (d i : Nat) (b : Block) (src : Src) : Nat :=
  if iRequantises b then 0 else ((iSources d b).map (fun x => p.lambda d i x)).foldl Nat.max 0 - p.lambda d i src

/-- Hand a tick of a source to the inputs of one instrument that read it, through its SK in instrument scope (R172); absent frames only take
its time. -/
def throughSk (s : State) (absent : Bool) (at0 d i : Nat) (b : Block) (src : Src) (c : ChTick) : State :=
  let pos := ((iSources d b).zipIdx.filter (fun x => x.1 == src)).map (fun x => x.2)
  let rg := iTaken b
  let key := (d, skIndex i (match src with | .feed f => .obj 0 f | .window _ w => .obj 1 w))
  let give := fun (s : State) (late : Nat) => pos.foldl (fun (s : State) (x : Nat) => toInstr s (at0 + late + inPad s.plan d i b src) d i x (c.range rg.1 rg.2)) s
  if pos.isEmpty then s
  else match skSetting (skRun s key) c.tick with
    | none => give s 0
    | some k => if absent then give s (s.plan.lskOf src k) else let s := onSk s key (skTake k (at0 + s.plan.lskOf src k) c); if k.is 8 0 then s else give s 0

/-- Does a window process sample tick `n`? A change of its coarse definition leaves it the earlier ones (R24, R166). -/
def Plan.windowTakes (p : Plan) (d w n : Nat) : Bool :=
  match p.place? .zoomDefine d w with | some x => x.placed || decide (n < x.since) | none => false

/-- Hand a tick of a source to every reader: windows, Sextants, then instruments in dome and instrument order. -/
def deliverSrc (s : State) (absent : Bool) (at0 : Nat) (src : Src) (c : ChTick) : State :=
  let s : State := match src with
    | .feed f => forObjs s .zoomDefine (fun s d w z =>
        if z.nat 1 = f ∧ s.plan.windowTakes d w c.tick then
          { s with zooms := tmod s.zooms (d, w) ZoomRun.reset (fun r => { r with inq := r.inq ++ [(at0 + s.plan.zoomTransit d w, c.range (z.nat 2) (zoW z))] }) }
        else s)
    | .window _ _ => s
  let pv : PV := match src with | .feed f => .obj 0 f | .window _ w => .obj 1 w
  let own := fun (d : Nat) => match src with | .feed _ => true | .window x _ => x == d
  let doms := ((s.plan.objs .sextantAttach).map (fun (e : Nat × Nat × Block) => e.1)).eraseDups.filter own
  let s := doms.foldl (fun (s : State) (d : Nat) => (attachReaders s.plan d 2 pv).foldl (fun (s : State) (r : Nat × Nat × Nat × Nat × Nat) =>
    if s.plan.takes d r.2.1 c.tick then toInstr s at0 d r.2.1 (sxPos r.1 r.2.2.1 0) (c.range r.2.2.2.1 r.2.2.2.2) else s) s) s
  forObjs s .instrDefine (fun s d i b =>
    if !s.plan.takes d i c.tick then s
    else throughSk s absent at0 d i b src c)

/-- Samples leave a unit for the readers that the plan has in device tick `at0`, once the sets of that tick are applied (R87, R192). -/
def handOff (s : State) (at0 : Nat) (h : Handoff) : State := { s with handoff := s.handoff ++ [(at0, h)] }

/-- Does a hand-off carry samples of a source, as opposed to Q4 or beams? -/
def Handoff.isSource : Handoff → Bool
  | .src _ _ => true
  | .absent _ _ => true
  | .q4 _ _ _ _ _ => false
  | .beam _ _ _ _ => false
  | .packets _ _ _ _ _ _ _ => false

/-- The dome whose instrument made a hand-off; none for samples of the feed plan and of windows. -/
def Handoff.dome? : Handoff → Option Nat
  | .src _ _ => none
  | .absent _ _ => none
  | .q4 d _ _ _ _ => some d
  | .beam d _ _ _ => some d
  | .packets d _ _ _ _ _ _ => some d

/-- Can a reader defined later still take it? Packets for a stream are not kept. -/
def Handoff.kept : Handoff → Bool
  | .packets _ _ _ _ _ _ _ => false
  | .src _ _ => true
  | .absent _ _ => true
  | .q4 _ _ _ _ _ => true
  | .beam _ _ _ _ => true

/-- Take one hand-off of a source to its readers. -/
def takeSrc (s : State) (x : Nat × Handoff) : State :=
  match x.2 with
  | .src src c => deliverSrc s false x.1 src c
  | .absent f c => deliverSrc s true x.1 (.feed f) c
  | _ => s

/-- The readers of sources take what is available in the running device tick, unless sets due in it still wait. -/
def takeSrcs (s : State) : State :=
  if s.dev.st != .halted && s.psets.any (fun p => decide (p.e ≤ s.time.tick64)) then s
  else
    let now := fun (x : Nat × Handoff) => x.2.isSource && decide (x.1 ≤ s.time.tick64)
    let due := s.handoff.filter now
    due.foldl takeSrc { s with handoff := s.handoff.filter (fun x => !now x), taken := s.taken ++ due }

/-! ### Coarse channelisation of one tick (R151 to R162) -/

def coarseRun (s : State) (f : Nat) : CoarseRun := tgetD s.coarse f CoarseRun.reset

/-- Parameters of COARSE_DEFINE whose change clears the history: LOG2N, TAPS, OS, COEF (R158). -/
def coarseClears (old new : Block) : Bool := [1, 2, 3, 4].any (fun i => old.at i != new.at i)

/-- The frames of one sub-band in a tick: `hist` before the tick's first output sample `j0`. -/
def subFrames (proto : Nat → Int) (c : Block) (hist xs : List Smp) (j0 : Int) : List (Nat × List Smp) × Nat :=
  let n := coN c
  let t := c.nat 2
  let h : Int := coHop c
  let line := (hist ++ xs).toArray
  let start : Int := j0 - hist.length
  let q0 := j0 / h
  let cnt := ((j0 + xs.length) / h - q0).toNat
  let fr := (List.range cnt).map (fun (i : Nat) =>
    let s0 : Int := (q0 + i + 1) * h - (n * t : Nat)
    let sup := ((List.range (n * t)).map (fun (m : Nat) => let p := s0 + m - start; if p < 0 then noSmp else line.getD p.toNat noSmp))
    let (y, ov) : List (Int × Int) × Nat := pfbFrame n t (c.nat 5) (c.nat 1) proto sup.toArray s0
    let ok := sup.all (fun x => x.ok)
    let fl := sup.foldl (fun (a : Nat) (x : Smp) => a ||| x.fl) 0
    (((q0 + i).toNat, (fftShift y).map (fun (z : Int × Int) => ({ re := z.1, im := z.2, ok := ok, fl := fl } : Smp))), ov))
  (fr.map (fun e => e.1), (fr.map (fun e => e.2)).foldl (· + ·) 0)

/-- Channelise one conditioned tick of a feed: every sub-band, the stitch, and the kept channels; with the sub-bands in which something saturated. -/
def coarseTick (s : State) (f : Nat) (b : Block) (outs : List OutTick) : CoarseRun × Option (ChTick × List Nat) :=
  let cr := coarseRun s f
  match outs.head? with
  | none => (cr, none)
  | some o0 =>
    let n := o0.tick
    if cr.settings.all (fun e => decide (n < e.1)) then (cr, none)
    else
      let c := settingAt cr.settings n (coarseDflt f)
      let old := settingAt cr.settings (n - 1) (coarseDflt f)
      let clear := cr.settings.any (fun e => e.1 == n) && coarseClears old c
      let hist := if clear then [] else cr.hist
      let proto := coarseProto s c
      let kk := Nat.max 1 (feedK b)
      let subs := outs.mapIdx (fun k o =>
        let xs := o.samples.map (fun x => ({ x with fl := o.flags } : Smp))
        (subFrames proto c (hist.getD k []) xs o.first, lastN (coN c * c.nat 2 + coHop c) (hist.getD k [] ++ xs)))
      let rows := (subs.head?.map (fun e => e.1.1)).getD []
      let frs : List ((Nat × List Smp) × List Nat) := rows.mapIdx (fun i e =>
        if kk = 1 ∨ b.flag 12 then ((e.1, e.2), [])
        else
          let (l, ov) := stitch kk c (subs.map (fun x => ((x.1.1.getD i (0, [])).2)))
          ((e.1, l), ov))
      let kept := frs.map (fun e => (e.1.1, sliceL e.1.2 (coFirst c) (coCount c)))
      let ovs : List Nat := subs.mapIdx (fun (k : Nat) e => e.1.2 + (frs.map (fun x => x.2.getD k 0)).foldl (· + ·) 0)
      let ov := ovs.foldl (· + ·) 0
      let fl := kept.foldl (fun (a : Nat) e => e.2.foldl (fun (a : Nat) (x : Smp) => a ||| x.fl) a) 0
      let valid := (kept.map (fun e => (e.2.filter (fun x => x.ok)).length)).foldl (· + ·) 0
      ({ cr with hist := subs.map (fun e => e.2), frames := (cr.frames + kept.length) % 2 ^ 64, validCh := (cr.validCh + valid) % 2 ^ 64,
                 pfbOvf := (cr.pfbOvf + ov) % 2 ^ 64 },
       some ({ tick := n, first := coFirst c, frames := kept, clip := o0.clip, ovf := ov, rqClip := 0, flags := fl ||| (128 * b2n (decide (0 < ov))) ||| (131072 * b2n ((feedTiles b).any s.dev.stale.contains)), valid := valid },
             (List.range ovs.length).filter (fun k => decide (0 < ovs.getD k 0))))
where
  /-- Settings of a feed without a coarse definition. -/
  coarseDflt (f : Nat) : Block := [.num f, .num 6, .num 8, .named 0, .named 0, .num 63, .num 0, .num 64]

/-- The frames that belong to a sample tick which a new ring does not land (R116, R151): they are invalid, and count as NOMINAL (R189). -/
-- DEDUCED, notes/assumptions/51.md
def absentTick (s : State) (f n : Nat) (b co : Block) : ChTick :=
  let c := settingAt (feedRun s f).cond n (condDefault f)
  let j0 := firstSample b s.plan.m n / feedDiv b / condD c
  let h : Int := coHop co
  let q0 := j0 / h
  { tick := n, first := coFirst co, clip := 0, ovf := 0, rqClip := 0, flags := 0,
    frames := (List.range ((j0 + feedSo b c s.plan.m) / h - q0).toNat).map (fun (i : Nat) => ((q0 + i).toNat, List.replicate (coCount co) noSmp)) }

/-- Below the first sample tick of a feed's newest ring, device tick `m` has the absent frames of sample tick m - H - 5 in place of the channeliser's. -/
def handAbsent (s : State) (m f : Nat) (b : Block) : State :=
  let fr := feedRun s f
  match s.plan.coarse f with
  | some co =>
    if m < feedH b + 5 ∨ fr.firstTick ≤ m - feedH b - 5 ∨ fr.rings.getLast?.any (fun (r : Ring) => r.closed) then s
    else handOff s (m + 1 + s.plan.lskFeed f) (.absent f (absentTick s f (m - feedH b - 5) b co))
  | none => s

/-- Coarse channelisation of a feed at the end of device tick `m` (R164): conditioned ticks available in it. -/
def coarseStep (s : State) (m f : Nat) : State :=
  match s.plan.feed f with
  | none => s
  | some b =>
    let fr := feedRun s f
    let due := fr.outs.filter (fun o => decide (o.avail ≤ m))
    let s := onFeed s f (fun fr => { fr with outs := fr.outs.filter (fun o => !decide (o.avail ≤ m)) })
    let ticks := (due.map (fun (o : OutTick) => o.tick)).eraseDups
    let s := handAbsent s m f b
    ticks.foldl (fun s n =>
      let (cr, out) := coarseTick s f b (due.filter (fun o => o.tick == n))
      let s := { s with coarse := tset s.coarse f cr }
      match out with
      | none => s
      | some (c, hit) =>
        -- on the tile where the saturation happened (R184)
        let s := hit.foldl (fun (s : State) (k : Nat) => raiseTile s ((feedTiles b).getD k 0) 0 0x05 f (.feed f)) s
        match skSetting (skRun s (devDome, f)) n with
        | none => handOff s (m + 1) (.src (.feed f) c)
        | some k =>
          let s := onSk s (devDome, f) (skTake k (m + 1 + s.plan.lskOf (.feed f) k) c)
          if k.is 8 0 then s else handOff s (m + 1) (.src (.feed f) c)) s

/-! ### Zoom windows (R167 to R171) -/

def zoomRun (s : State) (d w : Nat) : ZoomRun := tgetD s.zooms (d, w) ZoomRun.reset

/-- The mark of a window's coarse sample that SK has blanked, beside the flags of its tick (R171). -/
def ownBlank (x : Smp) : Nat := 2 ^ 21 * b2n (x.fl.testBit 8)
/-- Flags of a fine sample: its own blanking in place of its tick's. -/
def fineFlags (fl : Nat) : Nat := fl % 256 + 256 * b2n (fl.testBit 21) + fl % 2 ^ 21 / 512 * 512
/-- Flags of a coarse tick that pass to the fine ticks whose support includes it: those of Table 6-4, SHED and STALE among them (R171, R197). -/
def passFlags (fl : Nat) : Nat := fl % 512 ||| (fl &&& 0x20800)

/-- Poisoned words of an HBM history are read back: the samples that they hold are invalid and counted (R170). Which samples a word holds is left open: a free
number picks them, at most the nine that 32 bytes touch. -/ -- DESIGN CHOICE, notes/assumptions/153.md
def zoomPoisoned (s : State) (d w : Nat) : State :=
  match s.plan.zoom d w, s.plan.place? .zoomDefine d w with
  | some z, some x =>
    if x.chosen.headD 0 ≠ 1 then s
    else
      let k : ObjKey := ⟨.zoomDefine, d, w, 0⟩
      let size := zoW z * zoN z * z.nat 5 + 2 * zoN z
      let words := if s.hbm.poison.isEmpty then []
        else (List.range (ceilDiv (9 * size) 64)).filterMap (fun (j : Nat) => (objAddr s k (32 * j)).filter (fun a => poisonedAt s a))
      words.foldl (fun (s : State) (a : Nat) =>
        let (pick, s) := drawNat (setPoison s a false)
        let r := zoomRun s d w
        let hit := ((List.range (r.hist.length * zoW z)).filter (fun j => pick.testBit j)).take 9
        let hist := r.hist.mapIdx (fun (q : Nat) (e : Nat × List Smp) => (e.1, e.2.mapIdx (fun (ch : Nat) (y : Smp) => if hit.contains (q * zoW z + ch) then { y with ok := false } else y)))
        { s with zooms := tset s.zooms (d, w) { r with hist := hist, zoomPoison := (r.zoomPoison + hit.length) % 2 ^ 64 } }) s
  | _, _ => s

/-- The fine frames that a tick of coarse frames completes. -/
def zoomTick (s : State) (d w : Nat) (z co : Block) (c : ChTick) : ZoomRun × ChTick :=
  let r := zoomRun s d w
  let shed := s.sheds.any (fun e => e.1 == d && e.2.1 == .zoom && e.2.2.1 == w)
  let tiles := match s.plan.place? .zoomDefine d w with | some x => x.tiles | none => []
  let out := shed || tiles.any (quarTile s)
  let stale := tiles.any s.dev.stale.contains
  let inp := if out then c.frames.map (fun e => (e.1, e.2.map (fun x => ({ x with re := 0, im := 0, ok := false } : Smp)))) else c.frames
  let inp := inp.map (fun e => (e.1, e.2.map (fun x => ({ x with fl := x.fl ||| passFlags c.flags ||| ownBlank x } : Smp))))
  let n := zoN z
  let t := z.nat 5
  let line := r.hist ++ inp
  let keep := zoKeep z co
  let ends := inp.filter (fun e => (e.1 + 1) % n == 0)
  let frames := ends.map (fun e =>
    let lo : Int := (e.1 : Int) + 1 - (n * t : Nat)
    let sup := (List.range (n * t)).map (fun (i : Nat) => line.find? (fun x => ((x.1 : Int) == lo + i)))
    let chans := (List.range (zoW z)).map (fun (ch : Nat) =>
      let xs := sup.map (fun x => match x with | some y => y.2.getD ch noSmp | none => noSmp)
      let (y, ov) := pfbFrame n t (z.nat 7) (z.nat 4) (zoomProto s d z) xs.toArray 0
      let ok := xs.all (fun x => x.ok)
      let fl := xs.foldl (fun (a : Nat) (x : Smp) => a ||| x.fl) 0
      ((sliceL (fftShift y) ((n - keep) / 2) keep).map (fun (v : Int × Int) => ({ re := v.1, im := v.2, ok := ok, fl := fl } : Smp)), ov))
    ((e.1 / n, chans.flatMap (fun x => x.1)), (chans.map (fun x => x.2)).foldl (· + ·) 0))
  let fine := frames.map (fun e => e.1)
  let ov := (frames.map (fun e => e.2)).foldl (· + ·) 0
  let valid := (fine.map (fun e => (e.2.filter (fun x => x.ok)).length)).foldl (· + ·) 0
  let fl := fine.foldl (fun (a : Nat) e => e.2.foldl (fun (a : Nat) (x : Smp) => a ||| x.fl) a) 0
  ({ r with hist := lastN (n * t) line, fineFrames := (r.fineFrames + fine.length) % 2 ^ 64, validFine := (r.validFine + valid) % 2 ^ 64,
            zoomOvf := (r.zoomOvf + ov) % 2 ^ 64 },
   { tick := c.tick, first := 0, frames := fine.map (fun e => (e.1, e.2.map (fun (x : Smp) => { x with fl := fineFlags x.fl }))), clip := c.clip, ovf := ov, rqClip := 0,
     flags := passFlags fl ||| (512 * b2n (decide (0 < ov))) ||| (2048 * b2n shed) ||| (131072 * b2n stale), valid := valid,
     blanked := (fine.map (fun e => (e.2.filter (fun x => x.fl.testBit 21 && !x.ok)).length)).foldl (· + ·) 0 })

/-- A zoom window at the end of device tick `m` (R164). -/
def zoomStep (s : State) (m d w : Nat) : State :=
  match s.plan.zoom d w with
  | none => s
  | some z =>
    let settings := (coarseRun s (z.nat 1)).settings
    if settings.isEmpty then s
    else
      let s := zoomPoisoned s d w
      let r := zoomRun s d w
      let due := r.inq.filter (fun e => decide (e.1 ≤ m))
      let s := { s with zooms := tset s.zooms (d, w) { r with inq := r.inq.filter (fun e => !decide (e.1 ≤ m)) } }
      due.foldl (fun s e =>
        let (r, c) := zoomTick s d w z (settingAt settings e.2.tick []) e.2
        let s := { s with zooms := tset s.zooms (d, w) r }
        let tile := match s.plan.place? .zoomDefine d w with | some x => x.tiles.headD 0 | none => 0
        let s := if 0 < c.ovf then raiseTile s tile 1 0x06 w (.dome d) else s
        handOff s (m + 1) (.src (.window d w) c)) s

/-! ### Spectral kurtosis (R173 to R177) -/

/-- Class of one channel in one block: valid count, S1, S2, and code 0 PASS, 1 HIGH, 2 LOW, 3 UNTESTED (R173). -/
def skClass (b : Block) (xs : List Smp) : Nat × Nat × Nat × Nat :=
  let ps := (xs.filter (fun x => x.ok)).map (fun x => (x.re * x.re + x.im * x.im).toNat)
  let mv := ps.length
  let s1 := ps.foldl (· + ·) 0
  let s2 := (ps.map (fun p => p * p)).foldl (· + ·) 0
  let v : Int := ((mv + 1) * 2 ^ 24 : Nat) * ((mv * s2 : Nat) - (s1 * s1 : Nat) : Int)
  let u : Int := ((mv : Int) - 1) * (s1 * s1 : Nat)
  let code := if mv < 64 then 3 else if s1 = 0 then 2 else if (b.nat 7 : Int) * u < v then 1 else if v < (b.nat 6 : Int) * u then 2 else 0
  (mv, s1, s2, code)

/-- The reported SK value (R173). -/
def skValue (mv s1 s2 : Nat) : Nat :=
  if s1 = 0 ∨ mv ≤ 1 then 0x7FC00000
  else f32OfRat (((mv : Int) + 1) * ((mv * s2 : Nat) - (s1 * s1 : Nat) : Int)) ((mv - 1) * (s1 * s1))

/-- Instruments of kind RFIMON that receive an SK definition's block records (R635). -/
def skReaders (p : Plan) (k : Nat × Nat) (b : Block) : List (Nat × Nat × Block) :=
  (p.objs .instrDefine).filter (fun e => iKind e.2.2 == 7 && p.placed e.1 e.2.1 &&
    (if k.1 = devDome then e.2.2.at 2 == b.at 2 && decide (e.2.2.nat 3 < b.nat 3 + b.nat 4) && decide (b.nat 3 < e.2.2.nat 3 + e.2.2.nat 4)
     else e.1 == k.1 && b.nat? 0 == some e.2.1))

/-- The SK settings in force for a definition: by sample tick in feed scope, else those of the plan. -/
def skBlockAt (s : State) (k : Nat × Nat) (n : Nat) : Option Block :=
  skSetting (skRun s k) n

/-- End of the block in progress, if its frames are present: one past its last frame. -/
def skEnd (b : Block) (r : SkRun) : Option Nat :=
  let natural := r.at0 + b.nat 5
  let stop := match r.closeAt with | some c => Nat.min c natural | none => natural
  if r.frames.any (fun e => decide (stop ≤ e.1 + 1)) then some stop else none

/-- Decide the block in progress: class, block record, blanking (R173, R174, R177). -/
def skDecide (s : State) (k : Nat × Nat) : State :=
  let r := skRun s k
  match r.frames.head? with
  | none => s
  | some f1 =>
    match skBlockAt s k f1.2.1 with
    | none => s
    | some b =>
      match skEnd b r with
      | none => s
      | some stop =>
        let mine := r.frames.filter (fun e => decide (e.1 < stop))
        let rest := r.frames.filter (fun e => !decide (e.1 < stop))
        -- LOW, HIGH, VALUES and PUBLISH are those of the tick in which the block is decided, its last frame's (R176)
        let b := ((mine.getLast?.bind (fun e => skBlockAt s k e.2.1)).getD b)
        let n := b.nat 4
        let cls := (List.range n).map (fun (i : Nat) => skClass b (mine.map (fun e => e.2.2.getD i noSmp)))
        let exc := (List.range n).filter (fun i => let c := (cls.getD i (0, 0, 0, 3)).2.2.2; c == 1 || c == 2)
        let cnt := fun (x : Nat) => (cls.filter (fun c => c.2.2.2 == x)).length
        let tick := (mine.getLast?.map (fun e => e.2.1)).getD f1.2.1
        let srcNo := match b.at 2 with | .obj _ x => x | _ => 0
        let rec0 : Fields := [(1, b2n (k.1 != devDome)), (1, b2n (b.is 8 0)), (2, srcNo), (4, b.nat 3), (4, n), (8, r.at0), (4, tsnOf tick), (2, exc.length), (6, 0)] ++
          cls.flatMap (fun c => [(4, if b.flag 10 then skValue c.1 c.2.1 c.2.2.1 else 0), (2, c.1), (1, c.2.2.2), (1, 0)])
        let bl := b.is 8 0
        let s := onSk s k (fun r => { r with
          frames := rest, at0 := stop, f0 := if r.closeAt == some stop then stop else r.f0, closeAt := if r.closeAt == some stop then none else r.closeAt,
          blanks := if bl && !exc.isEmpty then r.blanks ++ [(r.at0, stop, exc.map (fun i => b.nat 3 + i))] else r.blanks,
          blocks := r.blocks + n, high := r.high + cnt 1, low := r.low + cnt 2, untested := r.untested + cnt 3,
          blanked := if bl then r.blanked + exc.length * mine.length else r.blanked,
          records := if k.1 = devDome then r.records ++ [rec0.le] else r.records })
        -- flags of the block's samples, of its own blanking and of the tiles of the unit (R10, R27)
        let marks := mine.foldl (fun (a : Nat) (e : Nat × Nat × List Smp) => e.2.2.foldl (fun (a : Nat) (x : Smp) => a ||| x.fl) a) 0
        let fl := r10Flags (passFlags marks ||| 256 * b2n (bl && !exc.isEmpty) ||| 131072 * b2n ((skTiles s k b ((List.range n).map (fun i => b.nat 3 + i))).any (fun l => s.dev.stale.contains l)))
        let s := ((skReaders s.plan k b).filter (fun e => !suspended s e.1)).foldl (fun s e =>
          let ir := instrRun s e.1 e.2.1
          let s := iMake s e.1 e.2.1 0 srcNo 10 e.2.2 ir.seq fl tick rec0 .resultDrop none
          onInstr s e.1 e.2.1 (fun x => ({ x with seq := (x.seq + 1) % 2 ^ 32 } : InstrRun).count .skRecords 1)) s
        if exc.isEmpty then s
        else
          let s := (skTiles s k b (exc.map (fun i => b.nat 3 + i))).foldl (fun s l => raiseTile s l 2 0x07 srcNo (if k.1 = devDome then .feed srcNo else .dome k.1)) s
          let s := skTrig s k (srcOf k.1 (b.at 2)) r.at0
          match b.nat? 11 with
          | some ch => publish s ch 3 (causeId 0x07 srcNo) (if k.1 = devDome then 0 else k.1)
          | none => s

/-- Does the model have this SK unit? -/
def skKnown (s : State) (k : Nat × Nat) : Bool := (tget s.sks k).isSome

/-- SK_BLOCK_DECIDE (R173): `dome` is 0xFFFF and `index` the feed in feed scope. -/
def execSkBlockDecide (dome index : Nat) (s : State) : Host.Outcome State Fault Refusal :=
  if 65536 ≤ dome then .fault .noSuchUnit
  else if skKnown s (dome, index) then .next (skDecide (takeSrcs s) (dome, index)) else .next s

/-- A held tick with the decided blanking applied: blanked samples are invalid and carry the blanked mark (R174). -/
def skApply (blanks : List (Nat × Nat × List Nat)) (c : ChTick) : ChTick :=
  let hit := fun (fr ch : Nat) => blanks.any (fun b => decide (b.1 ≤ fr) && decide (fr < b.2.1) && b.2.2.contains ch)
  let frames := c.frames.map (fun e => (e.1, e.2.mapIdx (fun (i : Nat) (x : Smp) => if hit e.1 (c.first + i) then { x with ok := false, fl := x.fl ||| 256 } else x)))
  let any := c.frames.any (fun e => blanks.any (fun b => decide (b.1 ≤ e.1) && decide (e.1 < b.2.1) && !b.2.2.isEmpty))
  let gone := (c.frames.map (fun e => ((List.range e.2.length).filter (fun i => hit e.1 (c.first + i))).length)).foldl (· + ·) 0
  { c with frames := frames, flags := if any then c.flags ||| 256 else c.flags, blanked := c.blanked + gone }

/-- SK_HOLD_RELEASE (R175): the oldest held tick leaves with its blanking, once every block that holds its frames is decided. -/
def execSkHoldRelease (dome index : Nat) (s : State) : Host.Outcome State Fault Refusal :=
  if 65536 ≤ dome then .fault .noSuchUnit
  else if !skKnown s (dome, index) then .next s
  else
    let s := takeSrcs s
    let r := skRun s (dome, index)
    match r.held with
    | [] => .next s
    | (due, c) :: rest =>
      let lastFrame := (c.frames.getLast?.map (fun e => e.1)).getD 0
      if !c.frames.isEmpty ∧ r.at0 ≤ lastFrame then .next s
      else
        let c' := skApply r.blanks c
        let low := (rest.head?.bind (fun x => x.2.frames.head?.map (fun e => e.1))).getD r.at0
        let s := onSk s (dome, index) (fun r => { r with held := rest, blanks := r.blanks.filter (fun b => decide (low < b.2.1)) })
        let at0 := Nat.max due s.time.tick64
        if dome = devDome then .next (handOff s at0 (.src (.feed index) c'))
        else
          let i := index / 2 ^ 17
          let src : Src := if index % 2 ^ 17 < 2 ^ 16 then .feed (index % 2 ^ 16) else .window dome (index % 2 ^ 16)
          match s.plan.instr dome i with
          | none => .next s
          | some b =>
            let c2 := c'.range (iTaken b).1 (iTaken b).2
            .next (((iSources dome b).zipIdx.filter (fun x => x.1 == src)).foldl (fun s x => toInstr s (at0 + inPad s.plan dome i b src) dome i x.2 c2) s)

/-! ### Requantiser (R178 to R182) -/

/-- One component: gain, convergent rounding, limit to 7; with whether it was limited (R179). -/
def rqComp (x : Int) (g sh : Nat) : Int × Bool := let y := rne (x * g) (2 ^ (12 + sh)); let z := clampInt (-7) 7 y; (z, z != y)

/-- Requantise a tick of input `pos` with one gain bank: the Q4 tick, and per channel the clipped samples. A channel that is `out`, as one whose tile has shed the
tick, gives blanked samples alone (R165). -/
def requantise (gain : List Nat) (sh n pos : Nat) (out : List Bool) (c : ChTick) : ChTick × List Nat :=
  let ga := gain.toArray
  let oa := out.toArray
  let rows := c.frames.map (fun e => (e.1, e.2.mapIdx (fun (i : Nat) (x : Smp) =>
    let g := ga.getD (pos * n + i) 0x1000
    let (a, l1) := rqComp x.re g sh
    let (b, l2) := rqComp x.im g sh
    if x.ok && !oa.getD i false then (({ x with re := a, im := b, fl := x.fl % 2 ^ 20 + 2 ^ 20 * b2n (l1 || l2) } : Smp), l1 || l2)
    else (({ x with re := 0, im := 0, ok := false } : Smp), false))))
  let clips := (List.range n).map (fun (i : Nat) => (rows.filter (fun e => (e.2.getD i (noSmp, false)).2)).length)
  let tot := clips.foldl (· + ·) 0
  ({ c with frames := rows.map (fun e => (e.1, e.2.map (fun x => x.1))), rqClip := tot, flags := (c.flags % 1024) ||| (c.flags &&& 0x20800) ||| (1024 * b2n (decide (0 < tot))),
            valid := (rows.map (fun e => (e.2.filter (fun x => x.1.ok)).length)).foldl (· + ·) 0, blanked := 0 }, clips)

/-- The bank for a sample tick, and the banks after it (R181). -/
def bankFor (a b : List Nat) (swap : Option Nat) (n : Nat) : List Nat × List Nat × List Nat × Option Nat :=
  match swap with
  | some t => if t ≤ n then (b, b, a, none) else (a, a, b, swap)
  | none => (a, a, b, none)

/-- The gain bank for a sample tick (R181): the banks stay where they are until every input has passed SWAP_TICK. -/
def InstrRun.gains (r : InstrRun) (n : Nat) : List Nat := if r.gainSwap.any (fun t => decide (t ≤ n)) then r.gainB else r.gainA
/-- The exchange of the gain banks, once the input of the longest latency `lat` has processed SWAP_TICK in device tick `m` (R181). -/
def InstrRun.swapGains (r : InstrRun) (m lat : Nat) : InstrRun :=
  if r.gainSwap.any (fun t => decide (t + lat ≤ m)) then { r with gainA := r.gainB, gainB := r.gainA, gainSwap := none } else r

/-- Key of a source in the counters of a requantiser, which are kept per feed, or per window (R183). -/
def srcKey : Src → Nat
  | .feed f => f
  | .window _ w => 65536 + w

/-- Requantise a tick of input `pos` of an instrument, which reads `src` from channel `first`, with its gains and counters (R179 to R183). -/
def rqStep (s : State) (d i pos : Nat) (src : Src) (sh first n : Nat) (c : ChTick) : State × ChTick :=
  let tiles := (List.range n).map (fun (j : Nat) => s.plan.srcTile src (first + j))
  let shed := tiles.eraseDups.filter (rqShed s d i)
  let gone := shed ++ tiles.eraseDups.filter (quarTile s)
  let (q, clips) := requantise ((instrRun s d i).gains c.tick) sh n pos (tiles.map gone.contains) c
  let q := { q with flags := q.flags ||| 2048 * b2n (!shed.isEmpty) ||| 131072 * b2n (tiles.eraseDups.any s.dev.stale.contains) }
  let tot := c.frames.length * n
  let cc := clips.zipIdx.foldl (fun l e => if e.1 = 0 then l else (padTo 0 ((pos + 1) * n) l).modify (pos * n + e.2) (fun x => satAdd x e.1 (2 ^ 32 - 1))) (instrRun s d i).clipCh
  let k := srcKey src
  let s := onInstr s d i (fun r => (((({ r with clipCh := cc } : InstrRun).count (.q4Samples k) tot).count (.validQ4 k) q.valid).count
    (.rqClip k) q.rqClip).count (.rqBlank k) (tot - q.valid))
  -- on the tiles where a sample was limited (R184)
  let hit := ((tiles.zip clips).filter (fun e => decide (0 < e.2))).map (fun e => e.1)
  (hit.eraseDups.foldl (fun (s : State) (l : Nat) => raiseTile s l 3 0x08 i (.dome d)) s, q)

/-- Channel or fine tick record (Table 6-3, R171); `id` is the feed or the window. -/
def chanRecord (id : Nat) (c : ChTick) : Fields :=
  [(4, tsnOf c.tick), (4, c.frames.length), (4, c.valid), (4, c.blanked), (4, c.clip), (4, c.ovf), (2, c.flags % 65536), (2, id), (4, 0)]

/-- Q4 tick record (Table 6-10). -/
def q4Record (feed n : Nat) (c : ChTick) : Fields :=
  let tot := c.frames.length * n
  let valid := (c.frames.map (fun e => (e.2.filter (fun x => x.ok)).length)).foldl (· + ·) 0
  [(4, tsnOf c.tick), (4, tot), (4, valid), (4, c.rqClip), (2, c.flags % 65536), (2, feed), (4, c.clip), (8, 0)]

end Sys2Proof.Machine
end

