-- ==== Sys2Proof/Machine/Detect.lean ====
section
/-! DEFINITION. Detect.lean: detection and integration, correlation and beamforming (R185 to R239, R631). -/
namespace Sys2Proof.Machine

/-! ### Input ticks of an instrument -/

/-- Sample ticks whose data an instrument processes in device tick `m`, in order, from inputs `lo` to `hi - 1`. -/
def readyTicks (s : State) (m d i lo hi : Nat) : List Nat :=
  (((instrRun s d i).inq.filter (fun e => decide (e.2.1 ≤ m) && decide (lo ≤ e.1) && decide (e.1 < hi))).map (fun (e : Nat × Nat × ChTick) => e.2.2.tick)).eraseDups

/-- The data of sample tick `n` for input `pos`. -/
def inputAt (s : State) (d i pos n : Nat) : Option ChTick :=
  ((instrRun s d i).inq.find? (fun e => e.1 == pos && e.2.2.tick == n)).map (fun (e : Nat × Nat × ChTick) => e.2.2)

/-- Remove a processed sample tick. -/
def dropTick (s : State) (d i lo hi n : Nat) : State :=
  onInstr s d i (fun r => { r with inq := r.inq.filter (fun e => !(decide (lo ≤ e.1) && decide (e.1 < hi) && e.2.2.tick == n)) })

/-- Parts of an instrument shed in the running tick. -/
def shedParts (s : State) (d i : Nat) : List Nat := (List.range (iParts s d i)).filter (fun k => partShed s d i k)

/-- Parts of an instrument whose work of the running tick counts in no result: shed, or on a quarantined tile (R46, R518). -/
def outParts (s : State) (d i : Nat) : List Nat := (List.range (iParts s d i)).filter (fun k => partShed s d i k || quarTile s (iTile s d i k))

/-- Is channel offset `c` of an instrument of `n` channels in a shed part? -/
def chanShed (s : State) (d i : Nat) (shed : List Nat) (n c : Nat) : Bool :=
  shed.any (fun k => let r := iPart s d i n k; decide (r.1 ≤ c) && decide (c < r.1 + r.2))

/-- Flag bits that an instrument's own processing adds in a tick: SHED, PARTIAL and STALE (R197). -/
def unitFlags (s : State) (d i : Nat) : Nat :=
  let shed := shedParts s d i
  let parts := iParts s d i
  let out := outParts s d i
  2048 * b2n (!shed.isEmpty) + 65536 * b2n (!out.isEmpty && decide (1 < parts)) +
  131072 * b2n ((List.range parts).any (fun k => s.dev.stale.contains (iTile s d i k)))

/-- A new bank of a definition and placement that starts at sample tick `n` with `k` accumulators. -/
def Bank.new (b : Block) (tiles : List Nat) (chosen : List Int) (n k : Nat) : Bank :=
  { block := b, tiles := tiles, chosen := chosen, partShed := tiles.map (fun _ => 0), partFlags := tiles.map (fun _ => 0), first := n, last := n, frames := 0, nominal := 0,
    clip := 0, ovf := 0, rqClip := 0, flags := 0, shed := 0, absent := 0, acc := List.replicate k Acc.reset, ends := false }
/-- A new bank of an instrument as it is placed. -/
def openBank (s : State) (d i : Nat) (b : Block) (n k : Nat) : Bank :=
  match s.plan.place? .instrDefine d i with | some x => Bank.new b x.tiles x.chosen n k | none => Bank.new b [] [] n k
/-- Parts of a bank, and the channels of one. -/
def Bank.parts (bk : Bank) : Nat := Nat.max 1 bk.tiles.length
def Bank.part (bk : Bank) (k : Nat) : Nat × Nat := placedPart bk.tiles bk.chosen (iRange bk.block).2 k
/-- Logical tile of a part: where the instrument has it now, if its parts are still the same. -/
def Bank.tile (s : State) (d i : Nat) (bk : Bank) (k : Nat) : Nat :=
  match s.plan.place? .instrDefine d i with
  | some x => if x.chosen.drop 4 == bk.chosen.drop 4 then x.tiles.getD k 0 else bk.tiles.getD k 0
  | none => bk.tiles.getD k 0
/-- SUB_TICKS and the cell size G under which a BATCHED bank accumulates (R221). -/
def Bank.subTicks (bk : Bank) : Nat := Nat.max 1 (bk.chosen.getD 2 1).toNat
def Bank.cell (bk : Bank) : Nat := Nat.max 1 (bk.chosen.getD 3 1).toNat
/-- What the parts' tiles add to a bank in a tick: shed units where `units` gives some, and STALE of a tile (R217, R223). -/
def Bank.mark (s : State) (d i : Nat) (units : Nat → Nat) (bk : Bank) : Bank :=
  { bk with partShed := bk.partShed.mapIdx (fun (k : Nat) (x : Nat) => x + units k),
            partFlags := bk.partFlags.mapIdx (fun (k : Nat) (x : Nat) => x ||| 131072 * b2n (s.dev.stale.contains (bk.tile s d i k))) }

/-- Does an integration of length `l` on the grid of R190 end with tick `n`? -/
def gridEnds (l off n : Nat) : Bool := (n + 1 + l - off % l) % l == 0

/-- Close the open bank early (R191), as when the instrument is unplaced or its grid moves. -/
def closeBank (s : State) (d i : Nat) : State :=
  onInstr s d i (fun r => match r.bank with | some b => { r with bank := none, closed := r.closed ++ [b] } | none => r)

/-- Is `n` the last sample tick under the old M, which ends an integration (R191)? -/
def lastOldM (s : State) (n : Nat) : Bool := s.plan.mOld.any (fun x => x.1 == n + 1)
/-- A bank that is open over the old M although its last sample tick brought nothing closes before the first one under the new M (R191). -/
def closeOldM (s : State) (d i n : Nat) : State :=
  match s.plan.mOld, (instrRun s d i).bank with
  | some (e, _), some b => if b.first < e ∧ e ≤ n then closeBank s d i else s
  | _, _ => s

/-! ### Detectors (R185 to R189) -/

/-- Power of a sample. -/
def Smp.pow (x : Smp) : Nat := (x.re * x.re + x.im * x.im).toNat

/-- One valid sample into the single-source accumulators. -/
def Acc.add (a : Acc) (p : Nat) : Acc :=
  { a with v := a.v + 1, sumP := a.sumP + p, peak := if a.peak < p then p else a.peak, min := if p < a.min then p else a.min, samp := p }

/-- One jointly valid pair into the POL accumulators (R187). -/
def Acc.addPol (a : Acc) (x y : Smp) : Acc :=
  { a with v := a.v + 1, sumP := a.sumP + x.pow, yy := a.yy + y.pow, re := a.re + x.re * y.re + x.im * y.im, im := a.im + x.im * y.re - x.re * y.im }

/-- Accumulate one sample tick of a detection instrument. -/
def detAcc (s : State) (d i : Nat) (b : Block) (bk : Bank) (two : Bool) (x : ChTick) (y : Option ChTick) : Bank :=
  let n := (iRange b).2
  let shed := shedParts s d i
  let out := outParts s d i
  let acc := bk.acc.mapIdx (fun (c : Nat) (a : Acc) =>
    if chanShed s d i out n c then a
    else x.frames.foldl (fun (a : Acc) (e : Nat × List Smp) =>
      let u := e.2.getD c noSmp
      match y with
      | none => if u.ok && !two then a.add u.pow else a
      | some yt =>
        let w := ((yt.frames.find? (fun z => z.1 == e.1)).map (fun (z : Nat × List Smp) => z.2.getD c noSmp)).getD noSmp
        if u.ok && w.ok then a.addPol u w else a) a)
  -- SOURCE_Y = SOURCE_X has one series of tick records
  let z := if (iSources d b)[0]? == (iSources d b)[1]? then none else y
  { bk with last := x.tick, frames := bk.frames + x.frames.length, nominal := bk.nominal + x.frames.length * n,
            clip := satAdd bk.clip (x.clip + (match z with | some z => z.clip | none => 0)) (2 ^ 32 - 1), ovf := satAdd bk.ovf (x.ovf + (match z with | some z => z.ovf | none => 0)) (2 ^ 32 - 1),
            flags := bk.flags ||| x.flags ||| (match y with | some z => z.flags | none => 0) ||| unitFlags s d i, shed := bk.shed + b2n (!shed.isEmpty), acc := acc }

/-- A SPECTROMETER or ZOOM in device tick `m` (R190, R198). -/
def detStep (s : State) (m d i : Nat) (b : Block) : State :=
  let two := (b.nat? 3).isSome
  (readyTicks s m d i 0 2).foldl (fun (s : State) (n : Nat) =>
    match inputAt s d i 0 n with
    | none => dropTick s d i 0 2 n
    | some x =>
      let y := if two then inputAt s d i 1 n else none
      let s := closeOldM s d i n
      let bk := (instrRun s d i).bank.getD (openBank s d i b n (iRange b).2)
      let bk := detAcc s d i b bk two x y
      let s := dropTick s d i 0 2 n
      let s := if (shedParts s d i).isEmpty then s else iCount s d i .shedTicks 1
      if gridEnds (b.nat 7) (b.nat 8) n || lastOldM s n then onInstr s d i (fun r => { r with bank := none, closed := r.closed ++ [bk] })
      else onInstr s d i (fun r => { r with bank := some bk })) s

/-- An RFIMON in device tick `m`: its detector/integrator adds up CLIP_SAMPLES of the tick records that it reads (R26). -/ -- DESIGN CHOICE, notes/assumptions/128.md
def rfimonStep (s : State) (m d i : Nat) : State :=
  (readyTicks s m d i 0 1).foldl (fun (s : State) (n : Nat) =>
    iCount (dropTick s d i 0 1 n) d i .clipSamples (((inputAt s d i 0 n).map (fun (c : ChTick) => c.clip)).getD 0)) s

/-- binary32 of a quotient, or the empty-channel value (R194). -/
def meanOr (num : Int) (v : Nat) : Nat := if v = 0 then 0x7FC00000 else f32OfRat num v

/-- The header of Table 7-3. -/
def detHeader (s : State) (kind i detect flags : Nat) (bk : Bank) (first count seq sx sy : Nat) : Fields :=
  let vs := bk.acc.map (fun a => a.v)
  [(1, kind), (1, 1), (2, i), (2, detect), (2, flags), (8, bk.first), (4, bk.last + 1 - bk.first), (4, bk.shed), (8, vs.foldl (· + ·) 0),
   (8, bk.nominal), (8, vs.foldl Nat.min (vs.headD 0)), (8, vs.foldl Nat.max 0), (4, first), (4, count), (12, ct96 (nominalOfTick s bk.first)),
   (4, seq), (2, sx), (2, sy), (4, bk.clip), (4, bk.ovf), (4, 0)]

/-- The data arrays of a detection result (R193, R196). -/
def detArrays (detect : Nat) (chCounts : Bool) (acc : List Acc) : Fields :=
  (if detect.testBit 0 then acc.map (fun a => (4, meanOr a.sumP a.v)) else []) ++
  (if detect.testBit 1 then acc.map (fun a => (4, if a.v = 0 then 0x7FC00000 else f32OfRat a.peak 1)) else []) ++
  (if detect.testBit 2 then acc.map (fun a => (4, if a.v = 0 then 0x7FC00000 else f32OfRat a.min 1)) else []) ++
  (if detect.testBit 3 then acc.map (fun a => (4, if a.v = 0 then 0x7FC00000 else f32OfRat a.samp 1)) else []) ++
  (if detect.testBit 4 then acc.flatMap (fun a => [(12, a.sumP), (4, 0)]) else []) ++
  (if detect.testBit 5 then acc.map (fun a => (4, meanOr a.sumP a.v)) ++ acc.map (fun a => (4, meanOr a.yy a.v)) ++
     acc.flatMap (fun a => [(4, meanOr a.re a.v), (4, meanOr a.im a.v)]) else []) ++
  (if chCounts then acc.map (fun a => (8, a.v)) else [])


/-- Convert the oldest closed bank of a detection instrument into its result, which states the definition that the bank accumulated under (R193 to R199, R204,
R205). It goes where the present definition `b` sends results. -/
def detResult (s : State) (d i : Nat) (b : Block) (bk : Bank) : State :=
  let r := instrRun s d i
  let o := bk.block
  let rg := iRange o
  let fl := bk.r10 + 64 * o.nat 9
  let f := detHeader s (iKind o) i (o.nat 6) fl bk rg.1 rg.2 r.seq (o.nat 2) (match o.at 3 with | .num y => y.toNat | _ => 0xFFFF) ++ detArrays (o.nat 6) (o.flag 9) bk.acc
  let s := iMake s d i 0 (if iKind o = 1 then o.nat 2 else 0) (iKind o) b r.seq (fl % 64) bk.last f .resultDrop (some (bk.tile s d i 0, 4))
  let valid := (bk.acc.map (fun a => a.v)).foldl (· + ·) 0
  onInstr s d i (fun r => (((({ r with seq := (r.seq + 1) % 2 ^ 32, closed := r.closed.drop 1 } : InstrRun).count .results 1).count
    .emptyCh ((bk.acc.filter (fun a => a.v == 0)).length)).count .valid valid).count .nominal bk.nominal)

/-! ### Requantisers of FENGINE, FX and BEAMFORMER (R179, R631) -/

/-- A flow that this device sends to another of an aperture (R328, R332): the instrument and its input, the producing tile, the channels, and the port of the link. -/
structure TxFlow where
  dome : Nat
  instr : Nat
  input : Nat
  first : Nat
  n : Nat
  port : Nat
  deriving DecidableEq, Repr
/-- The flows that this device sends, in ascending order of instrument, producing part and consuming part: a part of each input on a tile, and the parts that the other
members have of the instrument (R235, R332; log entry 14). -/
def txFlows (s : State) : List TxFlow :=
  ((s.plan.objs .instrDefine).mergeSort (fun (x y : Nat × Nat × Block) => decide (x.1 < y.1) || (x.1 == y.1 && decide (x.2.1 ≤ y.2.1)))).flatMap (fun e =>
    let b := e.2.2
    if !iShared b || !s.plan.placed e.1 e.2.1 then []
    else
      let (a, ms) := s.plan.apSharers b
      let w := iWhole b
      let parts := (ms.zipIdx.filter (fun y => y.1 != ownSerial)).flatMap (fun y =>
        let share := partRange w.2 ms.length y.2
        let t := Nat.max 1 ((b.nat? (if iKind b = 6 then 5 else 15)).getD (((apMember s a y.1).map (fun m => m.tiles)).getD 64))
        match s.plan.apPort a y.1 with
        | some port => (List.range t).map (fun k => let r := partRange share.2 t k; (w.1 + share.1 + r.1, r.2, port))
        | none => [])
      (s.plan.inputSrcs e.1 b).zipIdx.flatMap (fun (x : (Nat × Option Src) × Nat) => match x.1.2 with
        | none => []
        | some src => (s.plan.tileRuns src w.1 w.2).flatMap (fun r => parts.filterMap (fun p =>
            let lo := Nat.max p.1 (w.1 + r.2.1)
            let hi := Nat.min (p.1 + p.2.1) (w.1 + r.2.1 + r.2.2)
            if lo < hi then some ⟨e.1, e.2.1, x.2, lo, hi - lo, p.2.2⟩ else none))))
/-- The flow-ticks of one input of an instrument go to the other members, each under its number on its link: the tick record, the data, zeros up to 32 bytes; INVALID where
the producer shed the tick (R328, R332). TR_SENT counts their granules (R343). -/
def sendFlows (s : State) (d i input : Nat) (q : ChTick) : State :=
  let all := txFlows s
  (all.zipIdx.filter (fun x => x.1.dome == d && x.1.instr == i && x.1.input == input)).foldl (fun (s : State) (x : TxFlow × Nat) =>
    let f := x.1
    let number := 1 + ((all.take x.2).filter (fun y => y.port == f.port)).length
    let c := q.range f.first f.n
    let l := (q4Record input f.n c).le ++ (c.frames.flatMap (fun y => y.2)).map q4Byte
    let bytes := l ++ List.replicate ((32 - l.length % 32) % 32) 0
    let spec : FlowSpec := ⟨d, i, input, f.first, f.n, c.frames.length, 1, 1, iTransit s d i⟩
    let r := flowRun s (128 + f.port, number) spec
    { s with out := { s.out with frames := s.out.frames ++ [(f.port, PortMsg.transit number s.time.tick64 bytes (c.flags.testBit 11) (stampHoldover s))] },
             flows := tset s.flows (128 + f.port, number) { r with sent := (r.sent + bytes.length / 32) % 2 ^ 64 } }) s

/-- Hand a Q4 tick of input `pos` of instrument `i` (its feed or window number `feed`) to the readers of its dome (R631): Sextants, correlators,
beamformers and Q4 captures, and the other members of an aperture. -/
def deliverQ4 (s : State) (at0 d i pos feed : Nat) (q : ChTick) : State :=
  let s := (attachReaders s.plan d 1 (.obj 0 i)).foldl (fun (s : State) (r : Nat × Nat × Nat × Nat × Nat) =>
    if s.plan.takes d r.2.1 q.tick && decide (pos < 64) then toInstr s at0 d r.2.1 (sxPos r.1 r.2.2.1 pos) (q.range r.2.2.2.1 r.2.2.2.2) else s) s
  (s.plan.of .instrDefine d).foldl (fun (s : State) (e : Nat × Block) =>
    if !s.plan.takes d e.1 q.tick then s
    else
      let rg := iRange e.2
      let s := ((iQ4 e.2).zipIdx.filter (fun x => x.1 == (i, feed))).foldl (fun (s : State) (x : (Nat × Nat) × Nat) =>
        let s := if iShared e.2 then sendFlows s d e.1 x.2 q else s
        toInstr s at0 d e.1 (4096 + x.2) (q.range rg.1 rg.2)) s
      let s := if e.1 = i ∧ iShared e.2 ∧ (iKind e.2 = 5 ∨ iKind e.2 = 6) then sendFlows s d i pos q else s
      if iKind e.2 = 8 ∧ e.2.is 3 4 ∧ e.2.nat 4 % 2 ^ 16 = i ∧ e.2.nat 4 % 2 ^ 32 / 2 ^ 16 = feed then toInstr s at0 d e.1 0 (q.range rg.1 rg.2) else s) s

/-- RQ_SHIFT of an instrument with a requantiser. -/
def rqShift (b : Block) : Nat := match iKind b with | 3 => b.nat 5 | 6 => b.nat 18 | _ => b.nat 14

/-- Requantise every tick of an instrument's own inputs that is ready in device tick `m`; the Q4 is available in the next device tick, and an FX or BEAMFORMER has
it at input 4096 + pos after its Transit (R164, R225). What would have been available before the running device tick is handed to no other reader. -/
def rqAll (s : State) (m d i : Nat) (b : Block) : State :=
  let rg := iTaken b
  let srcs := iSources d b
  let s := (List.range srcs.length).foldl (fun (s : State) (pos : Nat) =>
    let src := srcs.getD pos (.feed 0)
    ((instrRun s d i).inq.filter (fun e => e.1 == pos && decide (e.2.1 ≤ m))).foldl (fun (s : State) (e : Nat × Nat × ChTick) =>
      let (s, q) := rqStep s d i pos src (rqShift b) rg.1 rg.2 e.2.2
      let feed := match src with | .feed f => f | .window _ w => w
      let at0 := e.2.1 + 1
      let give := fun (s : State) (h : Handoff) => if s.time.tick64 ≤ at0 then handOff s at0 h else s
      let s := onInstr s d i (fun r => { r with inq := r.inq.filter (fun x => !(x.1 == pos && x.2.2.tick == e.2.2.tick)) })
      let s := give s (.q4 d i pos feed q)
      if iKind b = 3 then
        match iDest b with
        -- each part sends the channels of its tile (R631)
        | .stream k =>
          let part := fun (t : Nat × Nat × Nat) => ({ off := t.2.1, width := t.2.2, flags := q.flags, valid := 0, clips := 0, shed := rqShed s d i t.1 } : PartTick)
          give s (.packets d k i feed false ((s.plan.tileRuns src rg.1 rg.2).map part) (q.range rg.1 rg.2))
        | _ => s
      else
        let c := q.range (iRange b).1 (iRange b).2
        onInstr (countFlows s d i (4096 + pos) c) d i (fun r => { r with inq := r.inq ++ [(4096 + pos, at0 + iTransit s d i, c)] })) s) s
  onInstr s d i (fun r => r.swapGains m (s.plan.lamIn d i))

/-- RQ_CLIP_CH of a requantiser whose sources or range change: each count stays with its source and channel (R183). -/
def clipMap (d : Nat) (o n : Block) (l : List Nat) : List Nat :=
  let (of, oc) := iTaken o
  let (nf, nc) := iTaken n
  (iSources d n).flatMap (fun src => (List.range nc).map (fun (j : Nat) =>
    match (iSources d o).findIdx? (fun x => x == src) with
    | some k => if of ≤ nf + j ∧ nf + j < of + oc then l.getD (k * oc + (nf + j - of)) 0 else 0
    | none => 0))

/-! ### Correlation (R206 to R225) -/

/-- Products (i, j) in the order of k (R210). -/
def products (n : Nat) : List (Nat × Nat) := (List.range n).flatMap (fun j => (List.range (j + 1)).map (fun i => (i, j)))

/-- Accumulate one sample tick of every input: entry c P + k (R210, R211, R216). -/
def corrAcc (s : State) (d i : Nat) (b : Block) (bk : Bank) (n : Nat) (ins : List (Option ChTick)) : Bank :=
  let nc := (iRange b).2
  let ni := iInputs b
  let shed := shedParts s d i
  let out := outParts s d i
  let batched := corrBatched s d i b
  let units := fun (k : Nat) => if !batched && shed.contains k then 1 else 0
  let frames := ((ins.filterMap id).head?.map (fun c => c.frames.map (fun (e : Nat × List Smp) => e.1))).getD []
  let rows := ins.map (fun c => match c with | some t => (t.frames.map (fun (e : Nat × List Smp) => e.2.toArray)).toArray | none => #[])
  let ra := rows.toArray
  let get := fun (inp fr ch : Nat) => (((ra.getD inp #[]).getD fr #[]).getD ch noSmp)
  let acc := bk.acc.mapIdx (fun (x : Nat) (a : Acc) =>
    let np := ni * (ni + 1) / 2
    let ch := x / np
    let (pi, pj) := (products ni).getD (x % np) (0, 0)
    if !batched && chanShed s d i out nc ch then a
    else (List.range frames.length).foldl (fun (a : Acc) (fr : Nat) =>
      let u := get pi fr ch
      let w := get pj fr ch
      if u.ok && w.ok then { a with v := a.v + 1, re := a.re + u.re * w.re + u.im * w.im, im := a.im + u.im * w.re - u.re * w.im } else a) a)
  let missing := (ins.filter (fun c => c.isNone)).length
  let bk := bk.mark s d i units
  { bk with last := n, frames := bk.frames + frames.length, nominal := bk.nominal + acc.length * frames.length,
            clip := satAdd bk.clip ((ins.filterMap id).foldl (fun (a : Nat) c => a + c.clip) 0) (2 ^ 32 - 1), rqClip := satAdd bk.rqClip ((ins.filterMap id).foldl (fun (a : Nat) c => a + c.rqClip) 0) (2 ^ 32 - 1),
            flags := bk.flags ||| (ins.filterMap id).foldl (fun (a : Nat) c => a ||| c.flags) 0 ||| 65536 * b2n (decide (0 < missing)),
            absent := bk.absent + missing, acc := acc }
where
  /-- Does a correlator accumulate in BATCHED mode (R219)? Admission's choice stands in its placement. -/
  corrBatched (s : State) (d i : Nat) (b : Block) : Bool :=
    iKind b == 4 && (match s.plan.place? .instrDefine d i with | some x => x.chosen.getD 1 0 == 1 | none => false)

/-- BATCHED: SUB_TICKS, which admission fixed (R221). -/
def subTicks (s : State) (d i : Nat) : Nat := match s.plan.place? .instrDefine d i with | some x => Nat.max 1 (x.chosen.getD 2 1).toNat | none => 1

/-- Cell batches of a part in schedule order: channel, i group, j group, array cycles over the `frames` of a sub-integration (R206, R221). -/
def cellBatches (nc n g frames : Nat) : List (Nat × Nat × Nat × Nat) :=
  let gs := ceilDiv n g
  let sz := fun (k : Nat) => Nat.min g (n - k * g)
  (List.range nc).flatMap (fun c => (List.range gs).flatMap (fun j => (List.range (j + 1)).map (fun i =>
    (c, i, j, ceilDiv ((if i = j then sz j * (sz j + 1) / 2 else sz i * sz j) * frames) 4096))))

/-- The cell batches of a part scheduled in slot `t` of SUB_TICKS: channel, i group, j group (R221). The schedule is fixed at commit, with F_max frames a tick. -/
-- DEDUCED, notes/assumptions/157.md
def slotBatches (nc n g sub fmax t : Nat) : List (Nat × Nat × Nat) :=
  let bs := cellBatches nc n g (sub * fmax)
  let tot := Nat.max 1 ((bs.map (fun b => b.2.2.2)).foldl (· + ·) 0)
  (bs.foldl (fun (a : Nat × List (Nat × Nat × Nat)) (b : Nat × Nat × Nat × Nat) =>
    (a.1 + b.2.2.2, if sub * a.1 / tot = t then a.2 ++ [(b.1, b.2.1, b.2.2.1)] else a.2)) (0, [])).2

/-- Unfinished cell batches of a shed item: those after the first so many in schedule order, at least one. How many a part has finished, the spec leaves to the
cause of the shed (R45), so it is free. -/ -- DEDUCED, notes/assumptions/170.md
def unfinished (s : State) (l : List (Nat × Nat × Nat)) : State × List (Nat × Nat × Nat) :=
  let (x, s) := drawNat s
  (s, l.drop (x % Nat.max 1 l.length))
/-- The batches that a part on a quarantined tile had scheduled in device tick `m`, and the unfinished ones of a shed part, add nothing to their products; the latter
are counted (R223). A tile that gives STALE then gives it to the dump (R197, R217). -/
def shedBatches (s : State) (m d i : Nat) : State :=
  let r := instrRun s d i
  match r.corr with
  | none => s
  | some (t0, bk) =>
    if m < t0 then s
    else
      let n := iInputs bk.block
      let np := n * (n + 1) / 2
      let prods := (products n).toArray
      let fmax := s.plan.fmax (s.plan.mainSrc d bk.block)
      let one := fun (a : State × Bank × Nat) (k : Nat) =>
        let (s, bk0, u) := a
        let l := bk.tile s d i k
        let shed := s.sheds.contains (d, .own, i, l)
        let bk0 := { bk0 with partFlags := bk0.partFlags.modify k (fun x => x ||| 131072 * b2n (s.dev.stale.contains l || quarTile s l)) }
        if !shed && !quarTile s l then (s, bk0, u)
        else
          let pr := bk.part k
          let slot := slotBatches pr.2 n bk.cell bk.subTicks fmax (m - t0)
          let (s, gone) := if quarTile s l then (s, slot) else unfinished s slot
          let acc := bk0.acc.mapIdx (fun (x : Nat) (y : Acc) =>
            let (pi, pj) := prods.getD (x % np) (0, 0)
            if decide (pr.1 ≤ x / np) && gone.contains (x / np - pr.1, pi / bk.cell, pj / bk.cell) then { y with v := 0, re := 0, im := 0 } else y)
          let units := b2n shed * gone.length
          (s, { bk0 with acc := acc, partShed := bk0.partShed.modify k (fun x => x + units) }, u + units)
      let (s, bk, units) := (List.range bk.parts).foldl one (s, bk, 0)
      onInstr s d i (fun r => ({ r with corr := some (t0, bk) } : InstrRun).count .shedUnits units)

/-- Add a sub-integration to a dump (R221). -/
def Bank.merge (a b : Bank) : Bank :=
  { a with last := b.last, ends := b.ends, frames := a.frames + b.frames, nominal := a.nominal + b.nominal, clip := satAdd a.clip b.clip (2 ^ 32 - 1),
           rqClip := satAdd a.rqClip b.rqClip (2 ^ 32 - 1), flags := a.flags ||| b.flags, absent := a.absent + b.absent,
           partShed := (a.partShed.zip b.partShed).map (fun (e : Nat × Nat) => e.1 + e.2), partFlags := (a.partFlags.zip b.partFlags).map (fun (e : Nat × Nat) => e.1 ||| e.2),
           acc := (a.acc.zip b.acc).map (fun (e : Acc × Acc) => { e.1 with v := e.1.v + e.2.v, re := e.1.re + e.2.re, im := e.1.im + e.2.im }) }

/-- Flush the sub-integration under correlation into the open dump, and close the dump at its end (R221). -/
def flushCorr (s : State) (d i : Nat) : State :=
  onInstr s d i (fun r => match r.corr with
    | none => r
    | some (_, bk) =>
      let dump := match r.bank with | some x => x.merge bk | none => bk
      if bk.ends then { r with corr := none, bank := none, closed := r.closed ++ [dump] } else { r with corr := none, bank := some dump })

/-- Discard the dump of a BATCHED correlator that is open before sample tick `n`; sub-integrations of dumps already ended go on. The correlator restarts at the next
sub-integration boundary (R222), and LOST is raised on the tile of every part (R239). -/
def loseOpen (s : State) (d i n : Nat) : State :=
  let r := instrRun s d i
  let old := fun (x : Bank) => decide (x.first < n)
  -- what follows the last sub-integration that ended a dump is open
  let keepSubs := (r.subs.reverse.dropWhile (fun (x : Bank) => !x.ends && old x)).reverse
  let keepCorr := r.subs.any (fun (x : Bank) => x.ends) || r.corr.any (fun (e : Nat × Bank) => e.2.ends || !old e.2)
  let keepBank := r.subs.any (fun (x : Bank) => x.ends) || r.corr.any (fun (e : Nat × Bank) => e.2.ends) || r.bank.any (fun (x : Bank) => !old x)
  let lost := r.sub.any old || decide (keepSubs.length < r.subs.length) || (r.corr.isSome && !keepCorr) || (r.bank.isSome && !keepBank)
  if lost then
    let s := onInstr s d i (fun r => ({ r with bank := if keepBank then r.bank else none, sub := r.sub.filter (fun x => !old x), corr := if keepCorr then r.corr else none, subs := keepSubs, await := true } : InstrRun).count .dumpLost 1)
    (((List.range (iParts s d i)).map (iTile s d i)).eraseDups).foldl (fun (s : State) (l : Nat) => raiseTile s l 5 0x03 i (.dome d)) s
  else s

/-- The first sample tick that a BATCHED correlator has not taken in, where it holds anything. -/
def corrNext (s : State) (d i : Nat) : Nat :=
  let r := instrRun s d i
  match r.sub.toList ++ r.subs.reverse ++ (r.corr.toList.map (fun (e : Nat × Bank) => e.2)) ++ r.bank.toList with
  | x :: _ => x.last + 1
  | [] => 0

/-- A CORRELATOR or FX in device tick `m` (R213, R220, R221). -/
def corrStep (s : State) (m d i : Nat) (b : Block) : State :=
  let s := if iKind b = 5 then rqAll s m d i b else s
  let n := iInputs b
  let batched := corrAcc.corrBatched s d i b
  let s := shedBatches s m d i
  (readyTicks s m d i 4096 (4096 + n)).foldl (fun (s : State) (t : Nat) =>
    let ins := (List.range n).map (fun p => inputAt s d i (4096 + p) t)
    let r := instrRun s d i
    let entries := (iRange b).2 * (n * (n + 1) / 2)
    let s := if (ins.filter (fun c => c.isNone)).isEmpty then s else iCount s d i .absentTicks (ins.filter (fun c => c.isNone)).length
    if batched then
      let s := match s.plan.mOld with
        | some (e, _) => let s := if e ≤ t then loseOpen s d i e else s; if t = e then onInstr s d i (fun r => { r with await := true }) else s
        | none => s
      let begins := gridEnds (subTicks s d i) (b.nat 7) (t + subTicks s d i - 1)
      let s := if begins then onInstr s d i (fun r => { r with await := false }) else s
      let r := instrRun s d i
      if r.await && !begins then dropTick s d i 4096 (4096 + n) t else
      let bk := corrAcc s d i b (r.sub.getD (openBank s d i b t entries)) t ins
      let s := dropTick s d i 4096 (4096 + n) t
      if gridEnds (subTicks s d i) (b.nat 7) t then onInstr s d i (fun r => { r with sub := none, subs := r.subs ++ [{ bk with ends := gridEnds (b.nat 6) (b.nat 7) t }] })
      else onInstr s d i (fun r => { r with sub := some bk })
    else
      let s := closeOldM s d i t
      let r := instrRun s d i
      let bk := corrAcc s d i b (r.bank.getD (openBank s d i b t entries)) t ins
      let s := iCount s d i .shedUnits (shedParts s d i).length
      let s := dropTick s d i 4096 (4096 + n) t
      if gridEnds (b.nat 6) (b.nat 7) t || lastOldM s t then onInstr s d i (fun r => { r with bank := none, closed := r.closed ++ [bk] })
      else onInstr s d i (fun r => { r with bank := some bk })) s

/-- One part record of a dump, under the definition that the dump accumulated with (R214 to R217). -/
def dumpPart (s : State) (i : Nat) (bk : Bank) (seq parts base k : Nat) : Fields :=
  let b := bk.block
  let n := iInputs b
  let np := n * (n + 1) / 2
  let rg := iRange b
  let pr := bk.part k
  let acc := sliceL bk.acc (pr.1 * np) (pr.2 * np)
  let auto := (List.range n).map (fun j => j * (j + 1) / 2 + j)
  let absent := (auto.filter (fun p => (List.range pr.2).all (fun c => (acc.getD (c * np + p) Acc.reset).v == 0))).length
  let norm := b.flag 10
  [(1, if iKind b = 5 then 3 else 2), (1, 1), (2, i), (2, b2n norm), (2, bk.partR10 k), (8, bk.first), (4, bk.last + 1 - bk.first), (4, bk.partShed.getD k 0),
   (8, (acc.map (fun a => a.v)).foldl (· + ·) 0), (8, np * pr.2 * bk.frames), (4, bk.frames), (2, n), (2, base + k), (4, rg.1 + pr.1), (4, pr.2), (4, parts), (4, seq),
   (12, ct96 (nominalOfTick s bk.first)), (4, bk.clip), (4, bk.rqClip), (2, absent), (2, 0)]
  ++ [(4, 0), (4, 0)] ++
  acc.flatMap (fun a => if norm then [(4, meanOr a.re a.v), (4, meanOr a.im a.v), (4, a.v)] else [(4, ofSigned 32 a.re), (4, ofSigned 32 a.im), (4, a.v)])

/-- Parts of an instrument on the members of its aperture before this device, and on all of them: PARTS each, or each member's active tiles (R215, R235). -/
def apParts (s : State) (b : Block) (own : Nat) : Nat × Nat :=
  match iAperture b, s.plan.apIndex (iAperture b) with
  | .num a, (k, m) =>
    let tiles := fun (x : Nat) => if x = k then own else match b.nat? (if iKind b = 6 then 5 else 15) with
      | some t => t
      | none => ((apOf s a.toNat).members.getD x { serial := 0, excluded := false, rejoining := false, refs := [], tick := 0, state := 0, cfgGen := 0, withdrawn := false, tiles := 64 }).tiles
    (((List.range k).map tiles).foldl (· + ·) 0, ((List.range m).map tiles).foldl (· + ·) 0)
  | _, _ => (0, own)

/-- Read out a closed dump: one record per part (R215, R218, R239). -/
def dumpResult (s : State) (d i : Nat) (b : Block) (bk : Bank) : State :=
  let seq := (instrRun s d i).seq
  let parts := bk.parts
  let (base, all) := apParts s bk.block parts
  let sub := if iKind bk.block = 4 ∧ bk.chosen.getD 1 0 = 1 then bk.subTicks else 0
  let s := (List.range parts).foldl (fun (s : State) (k : Nat) =>
    let f := dumpPart s i bk seq all base k
    -- SUB_TICKS stands in bytes 88 to 91
    let f := f.mapIdx (fun (x : Nat) (e : Nat × Nat) => if x = 22 then (4, sub) else e)
    iMake s d i k (base + k) (if iKind bk.block = 5 then 3 else 2) b seq (bk.partR10 k) bk.last f .dumpDrop (some (bk.tile s d i k, 5))) s
  let valid := (bk.acc.map (fun a => a.v)).foldl (· + ·) 0
  onInstr s d i (fun r => ((({ r with seq := (r.seq + 1) % 2 ^ 32, closed := r.closed.drop 1 } : InstrRun).count .dumps 1).count .valid valid).count .nominal bk.nominal)

/-- The dump of a BATCHED correlator ends early with the last sub-integration taken in (R191, R222). -/
def endBatched (s : State) (d i : Nat) : State :=
  onInstr s d i (fun r =>
    match r.subs.reverse, r.corr with
    | x :: l, _ => { r with subs := (({ x with ends := true } : Bank) :: l).reverse }
    | [], some (t0, x) => { r with corr := some (t0, { x with ends := true }) }
    | [], none => match r.bank with | some x => { r with bank := none, closed := r.closed ++ [x] } | none => r)

/-! ### Beamforming (R226 to R234) -/

/-- Weight of beam `bm`, group `w`, input `n` (R227). -/
def weightAt (wa : Array Nat) (gw ni bm w n : Nat) : Int × Int :=
  let x := wa.getD ((bm * gw + w) * ni + n) 0
  (toSigned 8 (x % 256), toSigned 8 (x / 256))

/-- One beam's samples of a tick before scaling: exact sums, valid inputs, validity (R229). -/
def beamSums (b : Block) (wa : Array Nat) (bm : Nat) (frames : List Nat) (ins : Array (Array (Array Smp))) (ni nc minv : Nat) : List (Nat × List (Int × Int × Nat × Nat × Bool)) :=
  -- weight groups start at the beamformer's own FIRST, whatever this device's share (R227, R235)
  let gw := ceilDiv (iWhole b).2 (b.nat 9)
  let off := (iRange b).1 - (iWhole b).1
  frames.mapIdx (fun (fi : Nat) (fr : Nat) => (fr, (List.range nc).map (fun (c : Nat) =>
    let z := (List.range ni).foldl (fun (a : Int × Int × Nat × Nat) (n : Nat) =>
      let x := ((ins.getD n #[]).getD fi #[]).getD c noSmp
      let w := weightAt wa gw ni bm ((off + c) / b.nat 9) n
      if x.ok then (a.1 + w.1 * x.re - w.2 * x.im, a.2.1 + w.1 * x.im + w.2 * x.re, a.2.2.1 + 1, a.2.2.2 ||| x.fl) else a) (0, 0, 0, 0)
    (z.1, z.2.1, z.2.2.1, z.2.2.2, decide (minv ≤ z.2.2.1)))))

/-- Hand a beam's tick to the captures that read it (R280). -/
def deliverBeam (s : State) (at0 d i bm : Nat) (c : ChTick) : State :=
  (s.plan.of .instrDefine d).foldl (fun (s : State) (e : Nat × Block) =>
    if iKind e.2 = 8 ∧ e.2.is 3 5 ∧ e.2.nat 4 % 2 ^ 16 = i ∧ e.2.nat 6 = bm ∧ s.plan.takes d e.1 c.tick then
      let rg := iRange e.2
      toInstr s at0 d e.1 0 (c.range rg.1 rg.2)
    else s) s

/-- Device ticks for which taken samples are kept: no instrument, placed or waiting for its effective tick, has a longer Transit latency than one over all
links one after the other (R330), and an SK hold in instrument scope that waits for its effective tick adds L_sk (R175, R192). -/
def keepTaken (s : State) : Nat :=
  let links := ((s.plan.objs .apertureLink).map (fun (e : Nat × Nat × Block) => e.2.2)) ++
    (s.psets.flatMap (fun (p : PSet) => p.cmds)).filterMap (fun (c : Cmd) => if c.op == .apertureLink then some c.block else none)
  let sk := (s.psets.flatMap (fun (p : PSet) => p.cmds)).map (fun (c : Cmd) =>
    if c.op == .skDefine && (c.block.word? 1).getD 0 != 0 then s.plan.lskOf (match c.block.at 2 with | .obj 1 w => .window c.dome w | .obj _ f => .feed f | _ => .feed 0) c.block else 0)
  (links.map (fun (b : Block) => ceilDiv (b.nat 8 * 10) (Nat.max 1 s.plan.m * 64))).foldl (fun (a x : Nat) => a + x) (5 + sk.foldl Nat.max 0)

/-- Conditioning output rate of a feed as a fraction (R126). -/
def feedRate (p : Plan) (f : Nat) : Nat × Nat := match p.feed f with | some b => feedFo b (p.cond f) | none => (1, 1)

/-- Rate of a source's channel samples in Hz as a fraction (R141, R315). -/
def Plan.chanRate (p : Plan) (src : Src) : Nat × Nat := let r := feedRate p (p.feedOf src); (r.1, r.2 * p.fh src)

/-- The channel source behind an instrument's samples: its first input, or that of the FENGINE that it names first. -/
def Plan.rateSrc (p : Plan) (d : Nat) (b : Block) : Src :=
  match iSources d b, iQ4 b with | s :: _, _ => s | _, q :: _ => p.q4Src d q | _, _ => .feed 1024

/-- A tick of an instrument reaches its stream: VDIF frames, or each part's CHANNELS or BEAM packets with the tick record, of Q4 that of the feed and of a beam that
of the part (R182, R232, R309, R312, R315). -/
def sendParts (s : State) (d k i sub : Nat) (beam : Bool) (parts : List PartTick) (c : ChTick) : State :=
  let nch := (parts.map (fun x => x.width)).foldl (· + ·) 0
  match s.plan.stream d k, s.plan.instr d i with
  | some st, some b =>
    if apQuiet s b then s
    else if st.is 1 1 then let r := s.plan.chanRate (s.plan.rateSrc d b); sendVdif s d k i (if beam then 8 else 4) (Nat.max 1 (r.1 / Nat.max 1 r.2)) c nch
    else parts.zipIdx.foldl (fun (s : State) (e : PartTick × Nat) =>
      let x := e.1
      let mine := c.range (c.first + x.off) x.width
      let sm := mine.frames.flatMap (fun (y : Nat × List Smp) => y.2)
      let beamRec : Fields := [(4, tsnOf c.tick), (2, sub), (2, x.flags % 8192), (4, sm.length), (4, (sm.filter (fun (y : Smp) => y.ok)).length), (8, x.valid), (4, x.clips), (4, mine.first)]
      let form : TickForm := if beam then ⟨3, i, e.2, sub, 2, x.flags, x.shed, beamRec.be, beamBytes⟩ else ⟨2, i, e.2, sub, 1, x.flags, x.shed, (q4Record sub nch c).be, fun y => [q4Byte y]⟩
      sendTick s d k form mine x.width) s
  | _, _ => s

/-- Every reader takes what is available in device tick `m`. -/
def takeAll (s : State) (m : Nat) : State :=
  let s := takeSrcs s
  let due := s.handoff.filter (fun (x : Nat × Handoff) => decide (x.1 ≤ m))
  let keep := keepTaken s
  due.foldl (fun (s : State) (x : Nat × Handoff) =>
      match x.2 with
      | .q4 d i pos feed c => deliverQ4 s x.1 d i pos feed c
      | .beam d i bm c => deliverBeam s x.1 d i bm c
      | .packets d k i sub beam parts c => sendParts s d k i sub beam parts c
      | _ => takeSrc s x)
    { s with handoff := s.handoff.filter (fun (x : Nat × Handoff) => decide (m < x.1)),
             taken := (s.taken ++ due.filter (fun (x : Nat × Handoff) => x.2.kept)).filter (fun (x : Nat × Handoff) => decide (m < x.1 + keep)) }

/-- The requantiser's output of the sample ticks that it is to process anew is taken back as far as no reader has it, with its counts: a change at device tick e
holds from sample tick e - λ on, whose Q4 the instrument reads in e (R191, R206). -/
def undoRq (s : State) (d i : Nat) : State :=
  let again := (instrRun s d i).inq.map (fun (x : Nat × Nat × ChTick) => (x.1, x.2.2.tick))
  let mine := fun (x : Nat × Handoff) => match x.2 with
    | .q4 d' i' pos _ q => d' == d && i' == i && again.contains (pos, q.tick)
    | .packets d' _ i' _ beam _ q => d' == d && i' == i && !beam && again.any (fun (y : Nat × Nat) => y.2 == q.tick)
    | _ => false
  let old := s.taken.filter mine ++ s.handoff.filter mine
  old.foldl (fun (s : State) (x : Nat × Handoff) =>
    match x.2 with
    | .q4 _ _ pos feed q =>
      let all := q.frames.flatMap (fun (e : Nat × List Smp) => e.2)
      let n := all.length / Nat.max 1 q.frames.length
      let k := match s.plan.instr d i with | some b => srcKey ((iSources d b).getD pos (.feed feed)) | none => feed
      let less := fun (r : InstrRun) (c : ICtr) (k : Nat) => r.count c (2 ^ 64 - k)
      onInstr s d i (fun r => less (less (less (less { r with clipCh := r.clipCh.mapIdx (fun (j : Nat) (k : Nat) =>
        if n * pos ≤ j ∧ j < n * (pos + 1) then k - (q.frames.filter (fun (e : Nat × List Smp) => (e.2.getD (j - n * pos) noSmp).fl.testBit 20)).length else k) }
        (.q4Samples k) all.length) (.validQ4 k) q.valid) (.rqClip k) q.rqClip) (.rqBlank k) (all.length - q.valid))
    | _ => s) { s with handoff := s.handoff.filter (fun (x : Nat × Handoff) => !mine x) }

/-- An instrument placed anew at the running device tick e starts with sample tick e - λ: it has the samples that were under way then, and its requantiser has
done the sample tick whose Q4 it reads in e (R192, R213, R235). -/
def refill (s : State) (d i : Nat) (b : Block) : State :=
  let now := s.time.tick64
  let l := iTransit s d i
  let rg := iRange b
  let rq := [3, 5, 6].contains (iKind b)
  -- an SK unit in instrument scope that is at work keeps what it holds
  let busy := fun (src : Src) =>
    let r := skRun s (d, skIndex i (match src with | .feed f => .obj 0 f | .window _ w => .obj 1 w))
    !r.frames.isEmpty || !r.held.isEmpty
  let mine := ((iSources d b).zipIdx.filter (fun x => busy x.1)).map (fun x => x.2)
  let give := fun (s : State) (absent : Bool) (at0 : Nat) (src : Src) (c : ChTick) =>
    let held := match s.plan.skInstr d i src with | some (_, k) => s.plan.lskOf src k | none => 0
    if now ≤ at0 + held + inPad s.plan d i b src + l + b2n rq ∧ !busy src then throughSk s absent at0 d i b src c else s
  let s := s.taken.foldl (fun (s : State) (x : Nat × Handoff) =>
    match x.2 with
    | .src src c => give s false x.1 src c
    | .absent f c => give s true x.1 (.feed f) c
    | .q4 d' i' _ feed c =>
      if d' = d ∧ now ≤ x.1 + l then ((iQ4 b).zipIdx.filter (fun y => y.1 == (i', feed))).foldl (fun (s : State) y => toInstr s x.1 d i (4096 + y.2) (c.range rg.1 rg.2)) s else s
    | .packets _ _ _ _ _ _ _ => s
    | .beam _ _ _ _ => s) (onInstr s d i (fun r => { r with inq := r.inq.filter (fun x => decide (sxPos 0 0 0 ≤ x.1) || mine.contains x.1) }))
  if rq ∧ 0 < now then rqAll (undoRq s d i) (now - 1) d i b else s

/-- A BEAMFORMER in device tick `m`. -/
def beamStep (s : State) (m d i : Nat) (b : Block) : State :=
  let s := if b.is 2 0 then rqAll s m d i b else s
  let ni := iInputs b
  let rg := iRange b
  let minv := match b.at 10 with | .num k => k.toNat | _ => ni
  (readyTicks s m d i 4096 (4096 + ni)).foldl (fun (s : State) (t : Nat) =>
    let ins := (List.range ni).map (fun p => inputAt s d i (4096 + p) t)
    let missing := (ins.filter (fun c => c.isNone)).length
    let s := if missing = 0 then s else iCount s d i .absentTicks missing
    let r := instrRun s d i
    let (w, wa, wb, sw) := bankFor r.wgtA r.wgtB r.wgtSwap t
    let shed := shedParts s d i
    let out := outParts s d i
    let parts := iParts s d i
    let frames := ((ins.filterMap id).head?.map (fun c => c.frames.map (fun (e : Nat × List Smp) => e.1))).getD []
    let arr := (ins.map (fun c => match c with | some x => (x.frames.map (fun (e : Nat × List Smp) => e.2.toArray)).toArray | none => #[])).toArray
    let inFl := (ins.filterMap id).foldl (fun (a : Nat) c => a ||| c.flags) 0 ||| 65536 * b2n (decide (0 < missing))
    -- what a part's own tile adds (R217, R233)
    let partFl := fun (k : Nat) => 2048 * b2n (shed.contains k) + 131072 * b2n (s.dev.stale.contains (iTile s d i k))
    let s := iCount s d i .shedUnits shed.length
    let clip := (ins.filterMap id).foldl (fun (a : Nat) c => a + c.clip) 0
    let rqc := (ins.filterMap id).foldl (fun (a : Nat) c => a + c.rqClip) 0
    let s := onInstr s d i (fun r => { r with wgtA := wa, wgtB := wb, wgtSwap := sw })
    let s := dropTick s d i 4096 (4096 + ni) t
    let sums := (List.range (b.nat 8)).map (fun bm => beamSums b w.toArray bm frames arr ni rg.2 minv)
    let sums := sums.map (fun l => l.map (fun (e : Nat × List (Int × Int × Nat × Nat × Bool)) => (e.1, e.2.mapIdx (fun (c : Nat) x => if chanShed s d i out rg.2 c then (0, 0, 0, x.2.2.2.1, false) else x))))
    if b.is 11 0 then
      -- VOLTAGE (R230, R232)
      sums.zipIdx.foldl (fun (s : State) e =>
        let rows := e.1.map (fun (x : Nat × List (Int × Int × Nat × Nat × Bool)) => (x.1, x.2.map (fun y =>
          let p := rneShift y.1 (b.nat 12)
          let q := rneShift y.2.1 (b.nat 12)
          let p' := clampInt (-127) 127 p
          let q' := clampInt (-127) 127 q
          let hit := y.2.2.2.2 && (p' != p || q' != q)
          (({ re := p', im := q', ok := y.2.2.2.2, fl := y.2.2.2.1 % 2 ^ 20 + 2 ^ 20 * b2n hit } : Smp), hit, y.2.2.1))))
        let flat := rows.flatMap (fun x => x.2)
        let nv := (flat.filter (fun x => x.1.ok)).length
        let nclip := (flat.filter (fun x => x.2.1)).length
        -- a part's samples, and its clips
        let mine := fun (pk : Nat) => let pr := iPart s d i rg.2 pk; rows.flatMap (fun x => sliceL x.2 pr.1 pr.2)
        let clipOf := fun (pk : Nat) => ((mine pk).filter (fun y => y.2.1)).length
        let flOf := fun (pk : Nat) => (inFl % 4096) ||| (inFl &&& 0x30000) ||| partFl pk ||| (4096 * b2n (decide (0 < clipOf pk)))
        let fl := (List.range parts).foldl (fun (a : Nat) (pk : Nat) => a ||| flOf pk) 0
        let ct : ChTick := { tick := t, first := rg.1, frames := rows.map (fun x => (x.1, x.2.map (fun y => y.1))), clip := clip, ovf := 0, rqClip := rqc, flags := fl }
        let s := onInstr s d i (fun r => (((r.count .beamSamples flat.length).count .beamValid nv).count .beamBlank (flat.length - nv)).count .beamClip nclip)
        -- on the tile that holds the part (R239)
        let s := ((((List.range parts).filter (fun pk => decide (0 < clipOf pk))).map (iTile s d i)).eraseDups).foldl (fun (s : State) (l : Nat) => raiseTile s l 6 0x04 i (.dome d)) s
        let s := handOff s (m + 1) (.beam d i e.2 ct)
        match iDest b with
        | .stream k =>
          let part := fun (pk : Nat) =>
            let pr := iPart s d i rg.2 pk
            ({ off := pr.1, width := pr.2, flags := flOf pk, valid := ((mine pk).map (fun y => y.2.2)).foldl (· + ·) 0, clips := clipOf pk, shed := shed.contains pk } : PartTick)
          handOff s (m + 1) (.packets d k i e.2 true ((List.range parts).map part) ct)
        | _ => s) s
    else
      -- POWER (R231): accumulators of beam bm, channel c at bm * n_ch + c
      let s := closeOldM s d i t
      let bk := (instrRun s d i).bank.getD (openBank s d i b t (b.nat 8 * rg.2))
      let flat := sums.flatMap (fun l => l.flatMap (fun (x : Nat × List (Int × Int × Nat × Nat × Bool)) => x.2))
      let nv := (flat.filter (fun y => y.2.2.2.2)).length
      let s := onInstr s d i (fun r => ((r.count .beamSamples flat.length).count .beamValid nv).count .beamBlank (flat.length - nv))
      let acc := bk.acc.mapIdx (fun (x : Nat) (a : Acc) =>
        ((sums.getD (x / rg.2) []).foldl (fun (a : Acc) (e : Nat × List (Int × Int × Nat × Nat × Bool)) =>
          let y := e.2.getD (x % rg.2) (0, 0, 0, 0, false)
          if y.2.2.2.2 then a.add (y.1 * y.1 + y.2.1 * y.2.1).toNat else a) a))
      let bk := { bk with last := t, frames := bk.frames + frames.length, nominal := bk.nominal + frames.length * rg.2, clip := satAdd bk.clip clip (2 ^ 32 - 1), rqClip := satAdd bk.rqClip rqc (2 ^ 32 - 1), flags := bk.flags ||| inFl ||| unitFlags s d i, shed := bk.shed + b2n (!shed.isEmpty), absent := bk.absent + missing, acc := acc }
      if gridEnds (b.nat 13) (b.nat 14) t || lastOldM s t then onInstr s d i (fun r => { r with bank := none, closed := r.closed ++ [bk] })
      else onInstr s d i (fun r => { r with bank := some bk })) s

/-- POWER results: one record per beam, all with one RESULT_SEQ in one ring and with OVF 0, under the definition that the bank accumulated with (R191, R231). -/
-- DESIGN CHOICE, notes/assumptions/177.md
def beamResult (s : State) (d i : Nat) (b : Block) (bk : Bank) : State :=
  let o := bk.block
  let rg := iRange o
  let s := (List.range (o.nat 8)).foldl (fun (s : State) (bm : Nat) =>
    let r := instrRun s d i
    let one := { bk with acc := sliceL bk.acc (bm * rg.2) rg.2 }
    let f := detHeader s 4 i 1 (one.r10 + 64 * o.nat 19) one rg.1 rg.2 r.seq bm 0xFFFF ++ detArrays 1 (o.flag 19) one.acc
    iCount (iMake s d i 0 0 4 b r.seq one.r10 bk.last f .resultDrop (some (bk.tile s d i 0, 6))) d i .results 1) s
  onInstr s d i (fun r => { r with seq := (r.seq + 1) % 2 ^ 32, closed := r.closed.drop 1 })

/-! ### The commands -/

/-- INTEGRATION_END (R193): the closed bank becomes a result. -/
def execIntegrationEnd (dome instr : Nat) (s : State) : Host.Outcome State Fault Refusal :=
  match s.plan.instr dome instr with
  | none => if 64 ≤ instr then .fault .noSuchUnit else .next s
  | some b =>
    match (instrRun s dome instr).closed with
    | [] => .next s
    | bk :: _ => if iKind b ≤ 1 then .next (detResult s dome instr b bk) else if iKind b = 6 then .next (beamResult s dome instr b bk) else .next s

/-- SUB_INTEGRATION_END (R221): the completed sub-integration's correlation is scheduled from the next device tick. -/
def execSubIntegrationEnd (dome instr : Nat) (s : State) : Host.Outcome State Fault Refusal :=
  match s.plan.instr dome instr with
  | none => if 64 ≤ instr then .fault .noSuchUnit else .next s
  | some b =>
    match (instrRun s dome instr).subs with
    | [] => .next s
    | bk :: _ =>
      let s := flushCorr s dome instr
      .next (onInstr s dome instr (fun r => { r with subs := r.subs.drop 1, corr := some (s.time.tick64 + 1, bk) }))

/-- DUMP_END (R220, R221): the closed bank of a dump is read out. -/
def execDumpEnd (dome instr : Nat) (s : State) : Host.Outcome State Fault Refusal :=
  match s.plan.instr dome instr with
  | none => if 64 ≤ instr then .fault .noSuchUnit else .next s
  | some b =>
    let s := match (instrRun s dome instr).corr with
      | some (t0, bk) => if bk.ends && decide (t0 + bk.subTicks ≤ s.time.tick64) then flushCorr s dome instr else s
      | none => s
    match (instrRun s dome instr).closed with
    | [] => .next s
    | bk :: _ => if iKind b = 4 ∨ iKind b = 5 then .next (dumpResult s dome instr b bk) else .next s

end Sys2Proof.Machine
end

