-- ==== Sys2Proof/Machine/Rtsa.lean ====
section
/-! DEFINITION. Rtsa.lean: the Reticle, traces, the sweep search and Plates (R240 to R278). -/
namespace Sys2Proof.Machine

/-! ### Levels (R243) -/

/-- Largest `r + v` with `v` below `2^k` such that 10^(r+v) is at most `n`. -/
def levelSearch (n : Nat) : Nat → Nat → Nat
  | 0, r => r
  | k + 1, r => if 10 ^ (r + 2 ^ k) ≤ n then levelSearch n k (r + 2 ^ k) else levelSearch n k r

/-- The level code L(P) (R243). -/
def levelCode (p : Nat) : Int := if p = 0 then -32768 else (levelSearch (p ^ 640) 13 0 : Nat)

/-! ### Input of the instrument -/

/-- A tick with the samples of shed parts made invalid, and the flags of the instrument's own processing (R273, R274). -/
def shedInput (s : State) (d i : Nat) (b : Block) (c : ChTick) : ChTick :=
  let out := outParts s d i
  let n := (iRange b).2
  { c with flags := c.flags ||| unitFlags s d i,
           frames := if out.isEmpty then c.frames else c.frames.map (fun e => (e.1, e.2.mapIdx (fun (x : Nat) (y : Smp) => if chanShed s d i out n x then { y with ok := false } else y))) }

def maskRun (s : State) (d k : Nat) : MaskRun := tgetD s.masks (d, k) MaskRun.reset
def onMask (s : State) (d k : Nat) (f : MaskRun → MaskRun) : State := { s with masks := tmod s.masks (d, k) MaskRun.reset f }

/-- Masks and Plates of an instrument, with their numbers. -/
def Plan.masksOf (p : Plan) (d i : Nat) : List (Nat × Block) := (p.of .maskDefine d).filter (fun e => e.2.nat 2 == i)
def Plan.platesOf (p : Plan) (d i : Nat) : List (Nat × Block) := (p.of .plateDefine d).filter (fun e => e.2.nat 1 == i)

/-- Tile of a mask: its own placement for a sweep mask, else the part that holds its lowest channel (R258, R278). -/
def maskTile (s : State) (d k : Nat) (mb b : Block) : Nat :=
  let own := match s.plan.place? .maskDefine d k with | some x => x.tiles | none => []
  own.headD (chanTile s d (mb.nat 2) b (mb.nat 3))

/-- Bank of a mask in use for a sample tick (R250, R181). -/
def maskBank (s : State) (d k n : Nat) : State × List Nat × Nat :=
  let r := maskRun s d k
  let (w, a, bb, sw) := bankFor r.bankA r.bankB r.swap n
  let second := if r.swap.isSome && sw.isNone then !r.second else r.second
  (onMask s d k (fun r => { r with bankA := a, bankB := bb, swap := sw, second := second }), w, b2n second)

/-! ### Frequency masks (R248 to R256) -/

/-- Entry of a bank at definition: no upper and no lower line (R250). -/
def maskOpen : Nat := 0x80007FFF
/-- HIGH and LOW of a mask point (R249). -/
def pointHigh (x : Nat) : Int := toSigned 16 x
def pointLow (x : Nat) : Int := toSigned 16 (x / 2 ^ 16)

/-- What a frame shows a mask: points tested, points outside, and the largest excursion as offset, level and margin (R251, R254). -/
structure FrameView where
  tested : Nat
  out : Nat
  worst : Option (Nat × Int × Int × Int)

/-- Test a frame against a bank. -/
def testFrame (bank : Array Nat) (xs : List Smp) : FrameView :=
  (xs.zipIdx).foldl (fun (v : FrameView) (e : Smp × Nat) =>
    if !e.1.ok then v
    else
      let l := levelCode e.1.pow
      let x := bank.getD e.2 maskOpen
      let up := l - pointHigh x
      let dn := pointLow x - l
      if 0 < up ∨ 0 < dn then
        let exc := if dn ≤ up then up else dn
        let marg := if dn ≤ up then up else -dn
        let w := match v.worst with | some w => (if w.2.2.2 < exc then (e.2, l, marg, exc) else w) | none => (e.2, l, marg, exc)
        { v with tested := v.tested + 1, out := v.out + 1, worst := some w }
      else { v with tested := v.tested + 1 }) { tested := 0, out := 0, worst := none }

/-- Follow the runs of a mask over one frame of state `st` (0 NONE, 1 IN, 2 OUT) (R252). -/
def runFrame (r : MaskRun) (q st fl : Nat) : MaskRun :=
  if st = 0 then { r with lastFrame := q, state := 0, runLen := 0, prevState := 0, prevLen := 0 }
  else if st = r.state ∧ q = r.lastFrame + 1 then { r with lastFrame := q, runLen := r.runLen + 1, runFlags := r.runFlags ||| fl }
  else
    let adj := q == r.lastFrame + 1 && r.state != 0
    { r with lastFrame := q, state := st, runFirst := q, runLen := 1, runFlags := fl, prevState := if adj then r.state else 0, prevLen := if adj then r.runLen else 0 }

/-- Does the condition fire at this frame (Table 9-4)? -/
def maskFires (mb : Block) (r : MaskRun) : Bool :=
  let n := mb.nat 6
  decide (r.runLen = n) && decide (r.state ≠ 0) &&
  (match mb.word? 5 with
   | some 0 => r.state == 1 && r.prevState == 2 && decide (n ≤ r.prevLen)
   | some 1 => r.state == 2 && r.prevState == 1 && decide (n ≤ r.prevLen)
   | some 2 => r.state == 1
   | _ => r.state == 2)

/-- WORST fields of a record: in an IN frame the margin is 0 and the level, which the spec leaves open, is free; so is a margin beyond 16 bits. -/
def worstFields (s : State) (first : Nat) (v : FrameView) : State × Fields :=
  match v.worst with
  | some w =>
    if -32768 ≤ w.2.2.1 ∧ w.2.2.1 ≤ 32767 then (s, [(4, first + w.1), (2, ofSigned 16 w.2.1), (2, ofSigned 16 w.2.2.1)])
    else let (x, s) := drawNat s; (s, [(4, first + w.1), (2, ofSigned 16 w.2.1), (2, x)])
  | none => let (x, s) := drawNat s; (s, [(4, 0xFFFFFFFF), (2, x), (2, 0)])

/-- The sink of a mask's records. -/
def maskSink (d k : Nat) (mb : Block) : Sink :=
  if mb.is 0 1 then { dome := d, instr := mb.nat 2, sub := k, kind := 7, dest := destAt mb 13, key := ⟨.maskDefine, d, k, 0⟩ }
  else { dome := d, instr := mb.nat 2, sub := k, kind := 6, dest := destAt mb 10, key := ⟨.maskDefine, d, k, 0⟩ }

/-- Write one record of a mask, with its event and its count of drops. -/
def maskRecord (s : State) (d k tile cause : Nat) (mb : Block) (seq flags last : Nat) (f : Fields) : State :=
  let (s, ring, dropped) := deliver s (maskSink d k mb) (maskRun s d k).ring seq flags last f
  let s := onMask s d k (fun r => { r with ring := ring, drop := r.drop + b2n dropped })
  let src := if mb.is 0 1 then 8 else 7
  let s := raiseTile s tile src cause k (.dome d)
  if dropped then raiseTile s tile src 0x02 (mb.nat 2) (.dome d) else s

/-- One frame of a frequency mask in device tick `m`; `cnt` triggers of the sample tick came before it. -/
def freqFrame (s : State) (m d k : Nat) (mb b : Block) (bank : Array Nat) (bankNo : Nat) (c : ChTick) (cnt q : Nat) (xs : List Smp) : State × Nat :=
  let v := testFrame bank xs
  let st := if v.tested = 0 then 0 else if v.out = 0 then 1 else 2
  let s := onMask s d k (fun r =>
    let r := runFrame r q st c.flags
    { r with framesIn := r.framesIn + b2n (st == 1), framesOut := r.framesOut + b2n (st == 2), framesNone := r.framesNone + b2n (st == 0) })
  let r := maskRun s d k
  if !maskFires mb r ∨ (mb.is 7 1 ∧ !r.armed) then (s, cnt)
  else
    let s := onMask s d k (fun r => { r with armed := if mb.is 7 1 then false else r.armed, trigSeq := (r.trigSeq + 1) % 2 ^ 32, triggers := r.triggers + 1 })
    if mb.nat 8 ≤ cnt then (onMask s d k (fun r => { r with limited := r.limited + 1 }), cnt + 1)
    else
      let src := srcOf d (b.at 2)
      let time := frameTime s src q
      let fl := r10Flags r.runFlags
      let (s, w) := worstFields s (mb.nat 3) v
      let f : Fields := [(1, 6), (1, 1), (2, mb.nat 2), (1, k), (1, (mb.word? 5).getD 0), (2, fl + 64 * bankNo), (8, q), (8, r.runFirst), (12, ct96 time),
        (4, tsnOf c.tick), (4, r.trigSeq)] ++ w ++ [(4, v.out), (4, v.tested), (4, 0)]
      let tile := maskTile s d k mb b
      let s := maskRecord s d k tile 0x09 mb r.trigSeq fl c.tick f
      let s := match mb.nat? 9 with | some ch => (if cnt = 0 then publish s ch 3 (causeId 0x09 k) d else s) | none => s
      (timeTrig s (m + 1) 3 (fun dd e => dd == d && e.getD 1 0 == (k : Int)) (some (src, (q : Int))) time false, cnt + 1)

/-- A frequency mask over one tick. -/
def freqTick (s : State) (m d k : Nat) (mb b : Block) (c : ChTick) : State :=
  let (s, bank, no) := maskBank s d k c.tick
  let ba := bank.toArray
  (c.frames.foldl (fun (a : State × Nat) (e : Nat × List Smp) =>
    freqFrame a.1 m d k mb b ba no c a.2 e.1 (sliceL e.2 (mb.nat 3 - c.first) (mb.nat 4))) (s, 0)).1

/-! ### Sweep search (R258 to R264) -/

/-- Sweep value of a sample with its gain entry, and whether it was limited (R259). -/
def sweepValue (g : Nat) (x : Smp) : Int × Bool :=
  if !x.ok then (-128, false)
  else
    let v := rne (((x.pow : Int) - (g % 2 ^ 48 : Nat)) * (g / 2 ^ 48 : Nat)) (2 ^ 24)
    let z := clampInt (-127) 127 v
    (z, z != v)

/-- A sweep mask over one tick: its history grows (R259). A tick that it has, it does not take again. -/
def sweepTick (s : State) (d k : Nat) (mb : Block) (c : ChTick) : State :=
  if (maskRun s d k).hist.any (fun h => h.2.1 == c.tick) then s else
  let (s, bank, _) := maskBank s d k c.tick
  let ba := bank.toArray
  let rows := c.frames.map (fun e => (e.1, (sliceL e.2 (mb.nat 3 - c.first) (mb.nat 4)).mapIdx (fun (x : Nat) (y : Smp) => sweepValue (ba.getD x 0) y)))
  let clip := (rows.map (fun e => (e.2.filter (fun v => v.2)).length)).foldl (· + ·) 0
  onMask s d k (fun r =>
    let low := r.window * mb.nat 11
    { r with hist := r.hist.filter (fun h => decide (low ≤ h.1 + 63)) ++ rows.map (fun e => (e.1, c.tick, c.flags, e.2.map (fun v => v.1))), swClip := r.swClip + clip })

/-- A sweep mask's tick on its tile. Where the tile sheds it, or is quarantined, all of its samples are invalid; the shed of a tile that holds no part of the
instrument counts for the mask itself, as part 64 + its number (R258, R274). -/ -- DESIGN CHOICE of that number, notes/assumptions/169.md
def sweepPart (s : State) (d i k : Nat) (mb b : Block) (c : ChTick) : State :=
  let l := maskTile s d k mb b
  let shed := s.sheds.contains (d, .own, i, l)
  let s := if shed && !(List.range (iParts s d i)).any (fun j => iTile s d i j == l) then iCount s d i (.partShed (64 + k)) 1 else s
  let fl := 2048 * b2n shed + 131072 * b2n (s.dev.stale.contains l)
  sweepTick s d k mb { c with flags := c.flags ||| fl,
                              frames := if shed || quarTile s l then c.frames.map (fun e => (e.1, e.2.map (fun y => { y with ok := false }))) else c.frames }

/-- Sum and valid channels of trial delays at a reference frame (R261). -/
def sweepSum (hist : List (Nat × Nat × Nat × List Int)) (delays : List Nat) (q : Int) : Int × Nat :=
  delays.zipIdx.foldl (fun (a : Int × Nat) (e : Nat × Nat) =>
    match hist.find? (fun h => (h.1 : Int) == q + e.1) with
    | none => a
    | some h => let v := h.2.2.2.getD e.2 (-128); if v = -128 then a else (a.1 + v, a.2 + 1)) (0, 0)

/-- A candidate: score, trial, width index, frame, sum, valid sum. -/
structure Cand where
  score : Int
  trial : Nat
  width : Nat
  frame : Nat
  sum : Int
  valid : Nat

/-- The best candidate of a window: ties go to the lowest trial, the smallest width, the earliest frame (R261, R262). -/
def bestCand (mb : Block) (kappa : List Nat) (hist : List (Nat × Nat × Nat × List Int)) (a : Nat) : Option Cand :=
  let cl := mb.nat 11
  (List.range (mb.nat 7)).foldl (fun (best : Option Cand) (k : Nat) =>
    let delays := kappa.map (fun x => sweepDelay mb x k)
    (mb.nats 8).zipIdx.foldl (fun (best : Option Cand) (w : Nat × Nat) =>
      (List.range cl).foldl (fun (best : Option Cand) (o : Nat) =>
        let q := a * cl + o
        let z := (List.range w.1).foldl (fun (z : Int × Nat) (t : Nat) => let y := sweepSum hist delays ((q : Int) - t); (z.1 + y.1, z.2 + y.2)) (0, 0)
        let thr := ((mb.rows 9).getD w.2 []).headD 0
        if mb.nat 10 * mb.nat 4 * w.1 ≤ 256 * z.2 ∧ thr ≤ z.1 then
          match best with
          | some x => if x.score < z.1 - thr then some ⟨z.1 - thr, k, w.2, q, z.1, z.2⟩ else best
          | none => some ⟨z.1 - thr, k, w.2, q, z.1, z.2⟩
        else best) best) best) none

/-- Decide the next window of a sweep mask, if its history reaches far enough (R262, R263). -/
def sweepDecide (s : State) (d k : Nat) (mb b : Block) : State :=
  let r := maskRun s d k
  let cl := mb.nat 11
  let dmax := s.plan.dmMax d mb
  if !(r.hist.any (fun h => decide ((r.window + 1) * cl ≤ h.1 + 1 - dmax) && decide (dmax ≤ h.1 + 1))) then s
  else
    let src := srcOf d (b.at 2)
    let s := onMask s d k (fun r => { r with window := r.window + 1 })
    match bestCand mb (s.plan.kappa src (mb.nat 3) (mb.nat 4)) r.hist r.window with
    | none => s
    | some x =>
      let w := (mb.nats 8).getD x.width 1
      let q0 : Int := (x.frame : Int) + 1 - w
      let time := frameTime s src q0
      let tick := ((r.hist.find? (fun h => h.1 == x.frame)).map (fun h => h.2.1)).getD 0
      let fl := r10Flags ((r.hist.filter (fun h => decide (q0 ≤ (h.1 : Int)) && decide (h.1 ≤ x.frame + dmax))).foldl (fun (a : Nat) h => a ||| h.2.2.1) 0)
      let f : Fields := [(1, 7), (1, 1), (2, mb.nat 2), (1, k), (1, x.width), (2, fl), (8, x.frame), (12, ct96 time), (2, x.trial), (2, w), (4, ofSigned 32 x.sum),
        (4, ofSigned 32 (((mb.rows 9).getD x.width []).headD 0)), (4, x.valid), (4, r.trigSeq), (4, trialDm mb x.trial), (4, tsnOf tick), (8, 0)]
      let s := onMask s d k (fun r => { r with trigSeq := (r.trigSeq + 1) % 2 ^ 32, triggers := r.triggers + 1 })
      let s := maskRecord s d k (maskTile s d k mb b) 0x0A mb r.trigSeq fl tick f
      let s := onInstr s d (mb.nat 2) (fun r => { r with cands := r.cands ++ [f.le] })
      let s := match mb.nat? 12 with | some ch => publish s ch 3 (causeId 0x0A k) d | none => s
      timeTrig s s.time.tick64 4 (fun dd e => dd == d && e.getD 1 0 == (k : Int)) (some (src, q0)) time false

/-! ### Plates (R265 to R272) -/

def plateCols (pb : Block) : Nat := ceilDiv (pb.nat 3) (Nat.max 1 (pb.nat 4))
/-- Cells of a Plate. -/
def plateCells (pb : Block) : Nat := pb.nat 6 * plateCols pb
/-- Level of a level code, and whether it lay below or above (R266). -/
def plateLevel (pb : Block) (l : Int) : Nat × Bool × Bool :=
  let y := (l - pb.int 7) / (pb.nat 8 : Int)
  if y < 0 then (0, true, false) else if (pb.nat 6 : Int) ≤ y then (pb.nat 6 - 1, false, true) else (y.toNat, false, false)

/-- Apply a decay that is due (R268). -/
def plateDecay (pb : Block) (r : PlateRun) : PlateRun :=
  if !r.decayDue then r
  else
    let sh := pb.nat 12
    let f := fun (c : Nat) => match pb.word? 9 with
      | some 1 => c - Nat.min c (pb.nat 11)
      | some 2 => c - (c + 2 ^ sh - 1) / 2 ^ sh
      | _ => c
    { r with decayDue := false, decays := r.decays + 1, counts := r.counts.map f }

/-- Add one count to a cell (R267). -/
def plateAdd (pb : Block) (x : Nat) (l : Int) (r : PlateRun) : PlateRun :=
  let (y, lo, hi) := plateLevel pb l
  let i := y * plateCols pb + x
  let c := r.counts.getD i 0
  let r := { r with increments := r.increments + 1, below := r.below + b2n lo, above := r.above + b2n hi }
  if 2 ^ 32 - 1 ≤ c then { r with sat := r.sat + 1 }
  else { r with counts := (padTo 0 (plateCells pb) r.counts).set i (c + 1) }

/-- The increments of one accumulated frame (R267). -/
def plateFrame (pb : Block) (xs : List Smp) (r : PlateRun) : PlateRun :=
  let cpc := Nat.max 1 (pb.nat 4)
  let bad := (xs.filter (fun x => !x.ok)).length
  let r := { r with invalid := r.invalid + bad, valid := r.valid + (xs.length - bad) }
  if pb.is 5 1 then
    (List.range (plateCols pb)).foldl (fun (r : PlateRun) (x : Nat) =>
      let ok := (sliceL xs (x * cpc) cpc).filter (fun y => y.ok)
      if ok.isEmpty then r else plateAdd pb x (levelCode ((ok.map (fun y => y.pow)).foldl Nat.max 0)) r) r
  else xs.zipIdx.foldl (fun (r : PlateRun) (e : Smp × Nat) => if e.1.ok then plateAdd pb (e.2 / cpc) (levelCode e.1.pow) r else r) r

/-- Snapshot header (Table 9-9). -/
def snapHeader (s : State) (k : Nat) (pb : Block) (r : PlateRun) : Fields :=
  let sat := (r.counts.filter (fun c => decide (2 ^ 32 - 1 ≤ c))).length
  let first := r.first.getD r.last
  [(1, 5), (1, 1), (2, pb.nat 1), (1, k), (1, (pb.word? 9).getD 0), (2, r10Flags r.flags + 64 * b2n (decide (0 < sat))), (8, first), (4, r.last + 1 - first), (4, r.snapSeq),
   (8, r.frames), (8, r.skipped), (8, r.valid), (8, (r.frames - r.skipped) * pb.nat 3), (4, plateCols pb), (2, pb.nat 6), (2, pb.nat 4), (2, ofSigned 16 (pb.int 7)), (2, pb.nat 8),
   (12, ct96 (nominalOfTick s first)), (4, sat), (4, r.decays), (4, r.shed), (4, 0)]

/-- Copy a snapshot that is due, after a decay that is due; it reaches its destination at the start of the next device tick (R270). -/
def plateSnap (s : State) (d k : Nat) (pb : Block) : State :=
  let s := onPlate s d k (plateDecay pb)
  let r := plateRun s d k
  if !r.snapDue then s
  else
    let f := snapHeader s k pb r ++ (padTo 0 (plateCells pb) r.counts).map (fun c => (4, c))
    let tile := match s.plan.instr d (pb.nat 1) with | some b => chanTile s d (pb.nat 1) b (pb.nat 2) | none => 0
    let s := iMake s d (pb.nat 1) 0 k 5 pb r.snapSeq (r10Flags r.flags) r.last f .resultDrop (some (tile, 9))
    onPlate s d k (fun r => { r with snapDue := false, snapSeq := (r.snapSeq + 1) % 2 ^ 32, first := none, frames := 0, skipped := 0, valid := 0, flags := 0, shed := 0,
                                     decays := 0, snapshots := r.snapshots + 1 })

/-- A Plate over one tick. -/
def plateTick (s : State) (d k : Nat) (pb b : Block) (c : ChTick) (shed : Bool) : State :=
  let s := plateSnap s d k pb
  let s := onPlate s d k (fun r => match r.clear with | some t => (if t ≤ c.tick then { r with clear := none, counts := [] } else r) | none => r)
  let sat0 := (plateRun s d k).sat
  let s := onPlate s d k (fun r =>
    let r := { r with first := some (r.first.getD c.tick), last := c.tick, flags := r.flags ||| c.flags, shed := r.shed + b2n shed }
    c.frames.foldl (fun (r : PlateRun) (e : Nat × List Smp) =>
      let r := plateDecay pb r
      let r := { r with frames := r.frames + 1 }
      let r := if e.1 % Nat.max 1 r.u = 0 then plateFrame pb (sliceL e.2 (pb.nat 2 - c.first) (pb.nat 3)) r
               else { r with skipped := r.skipped + 1, plSkipped := r.plSkipped + 1 }
      { r with decayDue := !pb.is 9 0 && (e.1 + 1) % Nat.max 1 (pb.nat 10) == 0 }) r)
  let s := if sat0 < (plateRun s d k).sat then raiseTile s (chanTile s d (pb.nat 1) b (pb.nat 2)) 9 0x0C k (.dome d) else s
  if gridEnds (pb.nat 14) (pb.nat 15) c.tick then onPlate s d k (fun r => { r with snapDue := true }) else s

/-! ### Traces (R257) -/

/-- The trace record of the frames of one group (R257). -/
def traceRecord (i : Nat) (b : Block) (seqFrames : List (Nat × Nat × Nat × List Smp)) : Fields × Nat × Nat :=
  let rg := iRange b
  let peak := b.is 5 2
  let lv := (List.range rg.2).map (fun (c : Nat) =>
    let ok : List Smp := (seqFrames.map (fun e => e.2.2.2.getD c noSmp)).filter (fun x => x.ok)
    match ok.getLast? with
    | none => none
    | some x => some (if peak then levelCode ((ok.map (fun (y : Smp) => y.pow)).foldl Nat.max 0) else levelCode x.pow))
  let last := (seqFrames.getLast?.map (fun e => e.2.1)).getD 0
  let q := (seqFrames.getLast?.map (fun e => e.1)).getD 0
  let fl := r10Flags (seqFrames.foldl (fun (a : Nat) e => a ||| e.2.2.1) 0)
  ([(1, 8), (1, 1), (2, i), (2, fl), (2, b2n peak), (8, q / Nat.max 1 (b.nat 6) * Nat.max 1 (b.nat 6)), (4, rg.2), (4, (lv.filter (fun x => x.isSome)).length), (4, rg.1), (4, tsnOf last)] ++
    lv.map (fun x => (2, ofSigned 16 (x.getD (-32768)))), fl, last)

/-- Is a whole trace group present? -/
def traceReady (b : Block) (g : List (Nat × Nat × Nat × List Smp)) : Option Nat := (g.find? (fun e => (e.1 + 1) % Nat.max 1 (b.nat 6) == 0)).map (fun e => e.1)

/-! ### The instrument in a device tick -/

/-- An RTSA or SWEEP instrument in device tick `m` (R246). -/
def rtsaStep (s : State) (m d i : Nat) (b : Block) : State :=
  (readyTicks s m d i 0 1).foldl (fun (s : State) (n : Nat) =>
    match inputAt s d i 0 n with
    | none => s
    | some c0 =>
      let c := shedInput s d i b c0
      let out := shedParts s d i
      let shed := !out.isEmpty
      let pout := (List.range (iParts s d i)).filter (fun k => s.sheds.contains (d, .plate, i, iTile s d i k))
      let s := dropTick s d i 0 1 n
      let s := (out ++ pout).eraseDups.foldl (fun (s : State) (k : Nat) => iCount s d i (.partShed k) 1) s
      let s := (s.plan.masksOf d i).foldl (fun (s : State) (e : Nat × Block) => if e.2.is 0 1 then sweepPart s d i e.1 e.2 b c else freqTick s m d e.1 e.2 b c) s
      let cp := if pout.isEmpty then c else { c with flags := c.flags ||| 2048, frames := c.frames.map (fun e => (e.1, e.2.mapIdx (fun (x : Nat) (y : Smp) => if chanShed s d i pout (iRange b).2 x then { y with ok := false } else y))) }
      let s := (s.plan.platesOf d i).foldl (fun (s : State) (e : Nat × Block) => plateTick s d e.1 e.2 b cp (shed || !pout.isEmpty)) s
      if iKind b = 2 ∧ !b.is 5 0 then onInstr s d i (fun r => { r with group := r.group ++ c.frames.map (fun (e : Nat × List Smp) => (e.1, c.tick, c.flags, e.2)) }) else s) s

/-! ### The commands -/

/-- TRACE_GROUP_END (R246, R257): the record of the oldest whole group is at its destination at the start of the device tick after the one that processed the group's
last frame, which is the running one. -/
def execTraceGroupEnd (dome instr : Nat) (s : State) : Host.Outcome State Fault Refusal :=
  match s.plan.instr dome instr with
  | none => if 64 ≤ instr then .fault .noSuchUnit else .next s
  | some b =>
    let r := instrRun s dome instr
    match traceReady b r.group with
    | none => .next s
    | some q =>
      let mine := r.group.filter (fun e => decide (e.1 ≤ q))
      let (f, fl, last) := traceRecord instr b mine
      let s := onInstr s dome instr (fun r => { r with group := r.group.filter (fun e => !decide (e.1 ≤ q)) })
      let s := deliverOne s (iRecord s dome instr 0 0 8 b r.seq fl last f .resultDrop none)
      .next (onInstr s dome instr (fun r => ({ r with seq := (r.seq + 1) % 2 ^ 32 } : InstrRun).count .traces 1))

/-- SWEEP_WINDOW_DECIDE (R262). -/
def execSweepWindowDecide (dome mask : Nat) (s : State) : Host.Outcome State Fault Refusal :=
  match s.plan.mask dome mask with
  | none => if 8 ≤ mask then .fault .noSuchUnit else .next s
  | some mb =>
    match s.plan.instr dome (mb.nat 2) with
    | some b => .next (if mb.is 0 1 then sweepDecide s dome mask mb b else s)
    | none => .next s

/-- PLATE_DECAY (R268): the decay that the last accumulated frame made due. -/
def execPlateDecay (dome plate : Nat) (s : State) : Host.Outcome State Fault Refusal :=
  match s.plan.plate dome plate with
  | none => if 16 ≤ plate then .fault .noSuchUnit else .next s
  | some pb => .next (onPlate s dome plate (plateDecay pb))

/-- PLATE_SNAPSHOT (R270): the snapshot that the last tick made due. -/
def execPlateSnapshot (dome plate : Nat) (s : State) : Host.Outcome State Fault Refusal :=
  match s.plan.plate dome plate with
  | none => if 16 ≤ plate then .fault .noSuchUnit else .next s
  | some pb => .next (plateSnap s dome plate pb)

end Sys2Proof.Machine
end

