-- ==== Sys2Proof/Machine/SxVector.lean ====
section
/-! DEFINITION. SxVector.lean: the vector instructions of a Sextant as functions of their operands (R351, R352, Table 12-11). -/
namespace Sys2Proof.Machine

/-- Elements of width `w` of a register, from bit 0 (R351). -/
def elemsOf (w n x : Nat) : List Nat := (List.range n).map (fun i => (x >>> (w * i)) % 2 ^ w)
/-- A register from its elements. -/
def packElems (w : Nat) (l : List Nat) : Nat := l.foldr (fun e acc => e % 2 ^ w + 2 ^ w * acc) 0
/-- Element width of a W code (R376). -/
def vWidth (w : Nat) : Nat := 4 * 2 ^ (w % 4)
/-- Elements of a vector. -/
def vElems (w : Nat) (x : VReg) : List Nat := elemsOf (vWidth w) (512 / vWidth w) x.toNat
/-- A vector from elements of width `w` bits. -/
def vPack (w : Nat) (l : List Nat) : VReg := BitVec.ofNat 512 (packElems w l)

/-- Elementwise function of two vectors. -/
def vMap2 (w : Nat) (f : Nat → Nat → Nat) (a b : VReg) : VReg := vPack (vWidth w) (List.zipWith f (vElems w a) (vElems w b))
/-- Elementwise saturating function, with SAT (R352). -/
def vSat2 (w : Nat) (f : Int → Int → Int) (a b : VReg) : VReg × Bool :=
  let n := vWidth w
  let l := List.zipWith (fun x y => f (toSigned n x) (toSigned n y)) (vElems w a) (vElems w b)
  (vPack n (l.map (fun x => ofSigned n (satBits n x))), l.any (fun x => satBits n x != x))
/-- Elementwise function of one vector. -/
def vMap (w : Nat) (f : Nat → Nat) (a : VReg) : VReg := vPack (vWidth w) ((vElems w a).map f)

/-- Vector ALU operations OP 0x10 to 0x1E (Table 12-11), with SAT. -/
def vectorAlu (op w modf : Nat) (a b : VReg) : VReg × Bool :=
  let n := vWidth w
  let sh := modf % 64
  let sg := fun (x : Nat) => toSigned n x
  match op with
  | 0x10 => (vMap2 w (fun x y => x + y) a b, false)
  | 0x11 => vSat2 w (fun x y => x + y) a b
  | 0x12 => (vMap2 w (fun x y => x + 2 ^ n - y) a b, false)
  | 0x13 => vSat2 w (fun x y => x - y) a b
  | 0x14 => (vMap2 w (fun x y => if sg y < sg x then y else x) a b, false)
  | 0x15 => (vMap2 w (fun x y => if sg x < sg y then y else x) a b, false)
  | 0x16 => (vMap w (fun x => if x = 2 ^ (n - 1) then Config.vabsMin n else (sg x).natAbs) a, false)
  | 0x17 => (a &&& b, false)
  | 0x18 => (a ||| b, false)
  | 0x19 => (a ^^^ b, false)
  | 0x1A => (vMap w (fun x => x * 2 ^ sh) a, false)
  | 0x1B => (vMap w (fun x => x / 2 ^ sh) a, false)
  | 0x1C => (vPack 8 (List.replicate 64 ((a.toNat >>> (8 * sh)) % 256)), false)
  | 0x1D => (Config.vperm a b w modf, false)
  | _ => (Config.vqval a b w modf, false)

/-- Lanes of a real accumulator (R351). -/
def acReal (a : AReg) : List Int := (elemsOf 64 32 a.toNat).map (toSigned 64)
/-- Lanes of a complex accumulator: real and imaginary sum. -/
def acCplx (a : AReg) : List (Int × Int) := (elemsOf 64 32 a.toNat).map (fun x => (toSigned 32 x, toSigned 32 (x / 2 ^ 32)))
/-- A real accumulator from its lanes, each modulo 2^64. -/
def acOfReal (l : List Int) : AReg := BitVec.ofNat 2048 (packElems 64 (l.map (ofSigned 64)))
/-- A complex accumulator from its lanes, each sum modulo 2^32. -/
def acOfCplx (l : List (Int × Int)) : AReg := BitVec.ofNat 2048 (packElems 64 (l.map (fun z => ofSigned 32 z.1 + 2 ^ 32 * ofSigned 32 z.2)))

/-- What lane k gains from VMAC, W code 0 to 2 (Table 12-4a): sums of 4, 2 or 1 products. -/
def macGain (w : Nat) (a b : VReg) : List Int :=
  let n := vWidth w
  let m := 16 / n
  let p := List.zipWith (fun x y => toSigned n x * toSigned n y) (vElems w a) (vElems w b)
  (List.range 32).map (fun k => (sliceL p (m * k) m).foldl (· + ·) 0)
/-- VMAC, or VMACZ with `zero` (R351). -/
def vmac (acc : AReg) (w : Nat) (zero : Bool) (a b : VReg) : AReg :=
  if w % 4 = 3 then Config.vmac32 (if zero then 0 else acc) a b
  else acOfReal (List.zipWith (· + ·) (if zero then List.replicate 32 0 else acReal acc) (macGain w a b))

/-- A Q4 byte as a complex number: the blanked code in either nibble makes it 0 (R207, R351). -/
def q4Cplx (x : Nat) : Int × Int := if x % 16 = 8 ∨ x / 16 % 16 = 8 then (0, 0) else (toSigned 4 x, toSigned 4 (x / 16))
/-- VCMAC, or VCMACZ with `zero`, over half `h` (R351). -/
def vcmac (acc : AReg) (h : Nat) (conj zero : Bool) (a b : VReg) : AReg :=
  let half := fun (v : VReg) => (sliceL (elemsOf 8 64 v.toNat) (32 * h) 32).map q4Cplx
  let g := List.zipWith (fun (x y : Int × Int) => let yi := if conj then -y.2 else y.2; (x.1 * y.1 - x.2 * yi, x.1 * yi + x.2 * y.1)) (half a) (half b)
  acOfCplx (List.zipWith (fun (x y : Int × Int) => (x.1 + y.1, x.2 + y.2)) (if zero then List.replicate 32 (0, 0) else acCplx acc) g)

/-- Right shift with convergent rounding and saturation to `n` bits, with SAT (R352). -/
def narrow (n s : Nat) (x : Int) : Int × Bool := let y := rneShift x s; (satBits n y, satBits n y != y)

/-- VRND: 16 lanes of half `h` to 32-bit elements (R352). -/
def vrnd (h s : Nat) (a : AReg) : VReg × Bool :=
  let l := (sliceL (acReal a) (16 * h) 16).map (narrow 32 s)
  (vPack 32 (l.map (fun x => ofSigned 32 x.1)), l.any (fun x => x.2))
/-- Complex lanes to elements of `n` + `n` bits, real part first (R352). -/
def vrndc (n s : Nat) (lanes : List (Int × Int)) : VReg × Bool :=
  let l := lanes.map (fun z => (narrow n s z.1, narrow n s z.2))
  (vPack (2 * n) (l.map (fun z => ofSigned n z.1.1 + 2 ^ n * ofSigned n z.2.1)), l.any (fun z => z.1.2 || z.2.2))
/-- VSHRR: elements to half their width; they fill half `h` of the destination (R352; log entry 24). -/
def vshrr (w h s : Nat) (old a : VReg) : VReg × Bool :=
  let n := vWidth w / 2
  let l := (vElems w a).map (fun x => narrow n s (toSigned (vWidth w) x))
  let v := packElems n (l.map (fun x => ofSigned n x.1))
  let r := (Config.vshrrRest old).toNat
  (BitVec.ofNat 512 (if h = 0 then v + 2 ^ 256 * r else r + 2 ^ 256 * v), l.any (fun x => x.2))

/-- Narrowing operations OP 0x08 to 0x0B (Table 12-11). -/
def narrowing (op w modf : Nat) (ac : AReg) (old a : VReg) : VReg × Bool :=
  let s := modf % 64
  let h := modf / 64 % 2
  match op with
  | 0x08 => vrnd h s ac
  | 0x09 => vrndc 16 s (sliceL (acCplx ac) (16 * h) 16)
  | 0x0A => vrndc 8 s (acCplx ac)
  | _ => vshrr w h s old a

end Sys2Proof.Machine
end

