-- ==== Sys2Proof/Machine/SxBundle.lean ====
section
/-! DEFINITION. SxBundle.lean: the slots of a Sextant bundle (R349 to R358, R376): what each reads, writes and does. -/
namespace Sys2Proof.Machine

/-- What a scalar instruction does beside register writes. -/
inductive SxCtl where
  | none
  | jump (t : JumpTo)
  /-- LOOP: level, start, end, count (R358). -/
  | loop (k start stop count : Nat)
  | wait (d : Nat)
  | publish (chan : Nat)
  | done
  deriving DecidableEq, Repr

/-- What one slot of a bundle does: writes with their latency, accumulators as the next multiply-accumulate sees them, faults, control, and the
data memory it touches: address, bytes, write. -/
structure SlotOut where
  writes : List (Nat × PipeWrite) := []
  acc : List (Nat × AReg) := []
  faults : List Nat := []
  ctl : SxCtl := .none
  touch : List (Nat × Nat × Bool) := []

/-- Fault codes of Table 12-10. -/
def sxIllegal : Nat := 1
def sxAlign : Nat := 2
def sxAddr : Nat := 3
def sxMode : Nat := 4
def sxPc : Nat := 5
def sxLoop : Nat := 6
def sxEvt : Nat := 7

/-- A slot that raises a fault. -/
def slotFault (c : Nat) : SlotOut := { faults := [c] }
/-- Writes of SAT beside a result. -/
def satWrite (l : Nat) (s : Bool) : List (Nat × PipeWrite) := if s then [(l, .sat)] else []

/-! ### MAC slots (R351, R352, Table 12-11) -/

/-- A MAC slot. -/
def macSlot (e : Sextant) (w : Nat) : SlotOut :=
  let op := bits w 31 26
  let wc := bits w 25 24
  let d := bits w 23 19
  let a := bits w 18 14
  let va := e.v.getD a 0
  let vb := e.v.getD (bits w 13 9) 0
  let m := bits w 8 0
  let toAc := fun (l : Nat) (x : AReg) => ({ writes := [(l, .ac (d % 8) x)], acc := [(d % 8, x)] } : SlotOut)
  if op = 0 then {}
  else if 0x01 ≤ op ∧ op ≤ 0x02 then toAc 4 (vmac (e.acNow.getD (d % 8) 0) wc (op == 2) va vb)
  else if 0x03 ≤ op ∧ op ≤ 0x04 then toAc 4 (vcmac (e.acNow.getD (d % 8) 0) (m % 2) (m / 2 % 2 == 1) (op == 4) va vb)
  else if 0x08 ≤ op ∧ op ≤ 0x0B then
    let r := narrowing op wc m (e.ac.getD (a % 8) 0) (e.v.getD d 0) va
    { writes := (3, .v d r.1) :: satWrite 3 r.2 }
  else if 0x10 ≤ op ∧ op ≤ 0x1E then
    let r := vectorAlu op wc m va vb
    { writes := (2, .v d r.1) :: satWrite 2 r.2 }
  else if op = 0x1F then toAc 1 0
  else slotFault sxIllegal

/-- MAC slot `slot`: slot A writes AC0 to AC3, slot B AC4 to AC7 (Table 12-1); another accumulator as the destination is ILLEGAL (log entry 173). -/
def macOn (slot : Nat) (e : Sextant) (w : Nat) : SlotOut :=
  let o := macSlot e w
  if o.acc.isEmpty || bits w 23 19 / 4 == slot then o else slotFault sxIllegal

/-! ### Scalar slot -/

/-- Read a scalar register: X0 reads 0 (Table 12-1). -/
def xRead (e : Sextant) (r : Nat) : Word := if r = 0 then 0 else e.x.getD r 0
/-- Write a scalar register: X0 ignores writes (Table 12-1). -/
def xWrite (l d : Nat) (v : Word) : List (Nat × PipeWrite) := if d = 0 then [] else [(l, .x d v)]

/-- Sources pending for an interrupt: IPEND, with EVT while an event is queued and no WAIT runs (R359). -/
def sxPending (e : Sextant) : Word :=
  if !e.queue.isEmpty && (match e.run with | .waiting _ => false | _ => true) then e.ipend ||| 16 else e.ipend

/-- A special register by number (Table 12-2). -/
def sxSpecial (e : Sextant) (n : Nat) : Option Word :=
  let w := fun (x : Nat) => BitVec.ofNat 32 x
  match n with
  | 0x00 => some e.flags | 0x01 => some e.ipc | 0x02 => some e.iflags | 0x03 => some e.imask | 0x04 => some (sxPending e) | 0x05 => some e.ivec
  | 0x08 => e.lc[0]? | 0x09 => e.lc[1]? | 0x0A => e.lc[2]?
  | 0x0C => e.ls[0]? | 0x0D => e.ls[1]? | 0x0E => e.ls[2]?
  | 0x10 => e.le[0]? | 0x11 => e.le[1]? | 0x12 => e.le[2]?
  | 0x14 => some e.waitst
  | 0x18 => (e.timers[0]?).map (·.cnt) | 0x19 => (e.timers[1]?).map (·.cnt) | 0x1A => (e.timers[2]?).map (·.cnt) | 0x1B => (e.timers[3]?).map (·.cnt)
  | 0x1C => (e.timers[0]?).map (·.rld) | 0x1D => (e.timers[1]?).map (·.rld) | 0x1E => (e.timers[2]?).map (·.rld) | 0x1F => (e.timers[3]?).map (·.rld)
  | 0x20 => (e.timers[0]?).map (·.ctl) | 0x21 => (e.timers[1]?).map (·.ctl) | 0x22 => (e.timers[2]?).map (·.ctl) | 0x23 => (e.timers[3]?).map (·.ctl)
  | 0x28 => some (w e.cycle) | 0x29 => some (w (e.tick % 2 ^ 32)) | 0x2A => some (w (e.tick / 2 ^ 32)) | 0x2B => some (w e.itemst)
  | _ => none

/-- May MTS write this number (Table 12-2)? -/
def sxWritable (n : Nat) : Bool := (sxSpecial Sextant.reset n).isSome && !([0x14, 0x28, 0x29, 0x2A, 0x2B].contains n)

/-- Change a timer. -/
def onTimer (e : Sextant) (k : Nat) (f : SxTimer → SxTimer) : Sextant := { e with timers := e.timers.modify k f }

/-- Write a special register: reserved bits stay 0, IPEND is cleared by ones (Table 12-2). -/
def sxSetSpecial (e : Sextant) (n : Nat) (x : Word) : Sextant :=
  match n with
  | 0x00 => { e with flags := x &&& 0x0F1F } | 0x01 => { e with ipc := x } | 0x02 => { e with iflags := x &&& 0x0F1F }
  | 0x03 => { e with imask := x &&& 0x1F } | 0x04 => { e with ipend := e.ipend &&& ~~~ x } | 0x05 => { e with ivec := x }
  | 0x08 => { e with lc := e.lc.set 0 (x &&& 0xFFFF) } | 0x09 => { e with lc := e.lc.set 1 (x &&& 0xFFFF) } | 0x0A => { e with lc := e.lc.set 2 (x &&& 0xFFFF) }
  | 0x0C => { e with ls := e.ls.set 0 x } | 0x0D => { e with ls := e.ls.set 1 x } | 0x0E => { e with ls := e.ls.set 2 x }
  | 0x10 => { e with le := e.le.set 0 x } | 0x11 => { e with le := e.le.set 1 x } | 0x12 => { e with le := e.le.set 2 x }
  | 0x18 => onTimer e 0 (fun t => { t with cnt := x }) | 0x19 => onTimer e 1 (fun t => { t with cnt := x })
  | 0x1A => onTimer e 2 (fun t => { t with cnt := x }) | 0x1B => onTimer e 3 (fun t => { t with cnt := x })
  | 0x1C => onTimer e 0 (fun t => { t with rld := x }) | 0x1D => onTimer e 1 (fun t => { t with rld := x })
  | 0x1E => onTimer e 2 (fun t => { t with rld := x }) | 0x1F => onTimer e 3 (fun t => { t with rld := x })
  | 0x20 => onTimer e 0 (fun t => { t with ctl := x &&& 0xFF07 }) | 0x21 => onTimer e 1 (fun t => { t with ctl := x &&& 0xFF07 })
  | 0x22 => onTimer e 2 (fun t => { t with ctl := x &&& 0xFF07 }) | 0x23 => onTimer e 3 (fun t => { t with ctl := x &&& 0xFF07 })
  | _ => e

/-- Is loop level `k` active? -/
def loopOn (e : Sextant) (k : Nat) : Bool := e.flags.getLsbD (8 + k)
/-- Set or clear LEN[k]. -/
def setLoopOn (e : Sextant) (k : Nat) (v : Bool) : Sextant := { e with flags := BitVec.ofNat 32 (setBit e.flags.toNat (8 + k) v) }

/-- LOOP (R358, R376) in bundle `pc`. -/
def loopSlot (e : Sextant) (pc w : Nat) : SlotOut :=
  let k := bits w 25 24
  let stop := bits w 11 0
  let count := if bit w 23 then (xRead e (bits w 16 12)).toNat % 2 ^ 16 else bits w 22 12
  if k = 3 ∨ (bit w 23 ∧ bits w 22 17 ≠ 0) then slotFault sxIllegal
  else
    let outerBad := decide (k < 2) && loopOn e (k + 1) && !(decide ((e.ls.getD (k + 1) 0).toNat ≤ pc + 1) && decide (stop ≤ (e.le.getD (k + 1) 0).toNat))
    if stop < pc + 1 ∨ outerBad then slotFault sxLoop
    else { ctl := .loop k (pc + 1) stop count }

/-- The scalar slot of bundle `pc`; `prods` are the producer channels (Table 12-11). -/
def scalarSlot (e : Sextant) (prods : List Nat) (pc w : Nat) : SlotOut :=
  let op := bits w 31 26
  let d := bits w 25 21
  let a := xRead e (bits w 20 16)
  let b := xRead e (bits w 4 0)
  let imm := bits w 15 0
  let out := fun (l : Nat) (v : Word) => ({ writes := xWrite l d v } : SlotOut)
  let shifted := fun (k : Nat) (v : Word) => out 1 (if 31 < b.toNat then Config.shiftWide k a b else v)
  let go := fun (c : Bool) => ({ ctl := if c then .jump (.bundle imm) else .none } : SlotOut)
  match op with
  | 0x00 => {}
  | 0x01 => out 1 (a + b)
  | 0x02 => out 1 (a - b)
  | 0x03 => out 1 (a &&& b)
  | 0x04 => out 1 (a ||| b)
  | 0x05 => out 1 (a ^^^ b)
  | 0x06 => shifted 0 (a <<< (b.toNat % 32))
  | 0x07 => shifted 1 (BitVec.ofInt 32 (rneShift a.toInt (b.toNat % 32)))
  | 0x08 => shifted 2 (a >>> (b.toNat % 32))
  | 0x09 => { writes := [(1, .flags (cmpFlags a b))] }
  | 0x0A => out 1 (if Config.moviSigned then BitVec.ofInt 32 (toSigned 16 imm) else BitVec.ofNat 32 imm)
  | 0x0B => out 1 (BitVec.ofNat 32 (imm * 2 ^ 16 + (xRead e d).toNat % 2 ^ 16))
  | 0x10 => out 2 (a * b)
  | 0x11 => out 2 (BitVec.ofInt 32 (rne (a.toInt * b.toInt) (2 ^ 32)))
  | 0x14 => go true
  | 0x15 => go (e.flags.getLsbD 0)
  | 0x16 => go (!e.flags.getLsbD 0)
  | 0x17 => { writes := xWrite 1 31 (BitVec.ofNat 32 (pc + 3)), ctl := .jump (.bundle imm) }
  | 0x18 => loopSlot e pc w
  | 0x1C => out 1 ((sxSpecial e imm).getD (Config.mfsOpen imm e.now))
  | 0x1D =>
    if !sxWritable imm then slotFault sxIllegal
    else if 0x20 ≤ imm ∧ imm ≤ 0x23 ∧ a.getLsbD 2 ∧ !prods.contains (bits a.toNat 15 8) then slotFault sxEvt
    else { writes := [(2, .special imm a)] }
  | 0x20 => { ctl := .wait d }
  | 0x21 => if prods.contains imm then { ctl := .publish imm } else slotFault sxEvt
  | 0x22 => { ctl := .done }
  | 0x23 => { ctl := .jump .rti }
  | _ => slotFault sxIllegal

/-! ### Load/store slot (R353 to R356) -/

/-- Reverse the low `b` bits (R356). -/
def revBits (b x : Nat) : Nat := (List.range b).foldl (fun a i => a + (if x.testBit i then 2 ^ (b - 1 - i) else 0)) 0

/-- Effective address and new IXk of an access (R356): faults, address, update. -/
def addrMode (e : Sextant) (k am imm : Nat) : List Nat × Nat × Option Word :=
  let ix := e.ix.getD k 0
  let md := e.md.getD k 0
  let len := (e.len.getD k 0).toNat
  let base := (e.base.getD k 0).toNat
  let inside := decide (base ≤ ix.toNat) && decide (ix.toNat < base + len)
  match am with
  | 0 => ([], ix.toNat, some (ix + md))
  | 1 =>
    let n : Int := ix.toNat + md.toInt
    let n' : Int := if (base + len : Nat) ≤ n then n - len else if n < base then n + len else n
    (if md.toInt.natAbs < len ∧ inside then [] else [sxMode], ix.toNat, some (BitVec.ofInt 32 n'))
  | 2 =>
    let b := len.log2
    let ok := decide (2 ≤ len) && decide (len ≤ 2 ^ 18) && len == 2 ^ b && inside
    let r := revBits b (revBits b (ix.toNat - base) + ofSigned b md.toInt)
    (if ok then [] else [sxMode], ix.toNat, some (BitVec.ofNat 32 (base + r)))
  | _ => ([], (ofSigned 32 (ix.toNat + toSigned 16 imm)), none)

/-- Faults of an access of `n` bytes aligned to `al` (R353). -/
def accessFaults (a n al : Nat) : List Nat := (if a % al = 0 then [] else [sxAlign]) ++ (if a + n ≤ 0x40000 then [] else [sxAddr])

/-- Bytes of data memory as a number. -/
def dataRead (e : Sextant) (a n : Nat) : Nat := ofLe (memList e.data a n)

/-- One access of the load/store slot: `f` makes the writes from the address. -/
def accessSlot (e : Sextant) (k am imm n al : Nat) (wr : Bool) (f : Nat → List (Nat × PipeWrite)) : SlotOut :=
  let (fs, a, nx) := addrMode e k am imm
  let upd := match nx with | some x => [((1 : Nat), PipeWrite.addr .ix k x)] | none => []
  { writes := f a ++ upd, faults := fs ++ accessFaults a n al, touch := [(a, n, wr)] }

/-- The load/store slot (Table 12-11). -/
def memSlot (e : Sextant) (w : Nat) : SlotOut :=
  let op := bits w 31 26
  let d := bits w 25 21
  let k := bits w 20 18
  let am := bits w 17 16
  let imm := bits w 15 0
  let load := fun (n : Nat) (sg : Bool) =>
    accessSlot e k am imm n n false (fun a => xWrite 3 d (if sg then BitVec.ofInt 32 (toSigned (8 * n) (dataRead e a n)) else BitVec.ofNat 32 (dataRead e a n)))
  let vload := fun (k d l imm : Nat) => accessSlot e k am imm 64 64 false (fun a => [(l, PipeWrite.v d (BitVec.ofNat 512 (dataRead e a 64)))])
  let vstore := fun (k d imm : Nat) => accessSlot e k am imm 64 64 true (fun a => [((2 : Nat), PipeWrite.mem a (leBytes 64 (e.v.getD d 0).toNat))])
  let both := fun (p q : SlotOut) => ({ writes := p.writes ++ q.writes, faults := p.faults ++ q.faults, touch := p.touch ++ q.touch } : SlotOut)
  let d2 := (Config.pairReg (BitVec.ofNat 5 d)).toNat
  match op with
  | 0x00 => {}
  | 0x01 => load 1 true
  | 0x02 => load 1 false
  | 0x03 => load 2 true
  | 0x04 => load 2 false
  | 0x05 => load 4 false
  | 0x06 => let n := 2 ^ (Config.storeSize (BitVec.ofNat 32 w)).val
            accessSlot e k am imm n n true (fun a => [((2 : Nat), PipeWrite.mem a (leBytes n (xRead e d).toNat))])
  | 0x08 => vload k d 3 imm
  | 0x09 => vstore k d imm
  | 0x0A => accessSlot e k am imm 1 1 false (fun a => [((3 : Nat), PipeWrite.v d (vPack 8 (List.replicate 64 (dataRead e a 1))))])
  | 0x0B => accessSlot e k am imm 1 1 false (fun a => [((3 : Nat), PipeWrite.v d (Config.vldbU (BitVec.ofNat 8 (dataRead e a 1))))])
  | 0x0C => both (vload (k % 4) d 3 imm) (vload (4 + imm % 4) d2 4 imm)
  | 0x0D => both (vstore (k % 4) d imm) (vstore (4 + imm % 4) d2 imm)
  | 0x10 =>
    let kind := match imm % 4 with | 0 => AddrKind.ix | 1 => .md | 2 => .len | _ => .base
    { writes := [((1 : Nat), PipeWrite.addr kind k (xRead e d))] }
  | 0x11 => { writes := [((1 : Nat), PipeWrite.addr .ix k (BitVec.ofNat 32 (ofSigned 32 ((e.ix.getD k 0).toNat + toSigned 16 imm))))] }
  | _ => slotFault sxIllegal

/-! ### The bundle -/

/-- The register a write goes to, for the conflict check of R350. -/
def PipeWrite.reg : PipeWrite → Option (Nat × Nat)
  | .v r _ => some (0, r)
  | .ac r _ => some (1, r)
  | .x r _ => some (2, r)
  | .addr .ix r _ => some (3, r)
  | .addr .md r _ => some (4, r)
  | .addr .len r _ => some (5, r)
  | .addr .base r _ => some (6, r)
  | _ => none

/-- Registers a slot writes, the one that takes WAITST among them (R364). -/
def SlotOut.regs (o : SlotOut) : List (Nat × Nat) :=
  o.writes.filterMap (fun w => w.2.reg) ++ (match o.ctl with | .wait d => if d = 0 then [] else [(2, d)] | _ => [])

/-- Do two of the slots write one register? -/
def slotsClash : List SlotOut → Bool
  | [] => false
  | o :: r => r.any (fun p => o.regs.any (fun x => p.regs.contains x)) || slotsClash r

/-- The bundle at an address: its four slot words (R350). -/
def bundleAt (e : Sextant) (pc : Nat) : List Nat := (List.range 4).map (fun i => ofLe (memList e.prog (16 * pc + 4 * i) 4))
/-- Is the load/store word a paired access (R354)? -/
def isPaired (w : Nat) : Bool := bits w 31 26 == 0x0C || bits w 31 26 == 0x0D
/-- Is the scalar word DONE? -/
def isDone (w : Nat) : Bool := bits w 31 26 == 0x22

/-- The four slots of a bundle. -/
def slotsOf (e : Sextant) (prods : List Nat) (pc : Nat) : List SlotOut :=
  match bundleAt e pc with
  | [a, b, c, d] => [macOn 0 e a, macOn 1 e b, scalarSlot e prods pc c, memSlot e d]
  | _ => []

/-- Lowest fault code of a bundle, its own faults and those of its place (R350, R358, R375). -/
def bundleFault (e : Sextant) (slots : List SlotOut) : Option Nat :=
  let delay := !e.jumps.isEmpty && (List.range 3).any (fun k => loopOn e k && (e.le.getD k 0).toNat == e.pc)
  let l := slots.flatMap (fun o => o.faults) ++ (if slotsClash slots then [sxIllegal] else []) ++ (if delay then [sxLoop] else [])
  l.min?

/-! ### Writes landing, loops and branches -/

/-- Land a write. -/
def landWrite (e : Sextant) : PipeWrite → Sextant
  | .v r x => { e with v := e.v.set r x }
  | .ac r x => { e with ac := e.ac.set r x }
  | .x r x => { e with x := e.x.set r x }
  | .addr .ix r x => { e with ix := e.ix.set r x }
  | .addr .md r x => { e with md := e.md.set r x }
  | .addr .len r x => { e with len := e.len.set r x }
  | .addr .base r x => { e with base := e.base.set r x }
  | .flags x => { e with flags := (e.flags &&& 0xFFFFFFF0) ||| (x &&& 0xF) }
  | .sat => { e with flags := e.flags ||| 0x10 }
  | .special n x => sxSetSpecial e n x
  | .mem a b => { e with data := memPutList e.data a b }

/-- Land every write due in the present cycle, in order of issue: the later-issued one stands (R357). -/
def landDue (e : Sextant) : Sextant :=
  let (now, later) := e.pipe.partition (fun p => decide (p.1 ≤ e.now))
  now.foldl (fun e p => landWrite e p.2) { e with pipe := later }

/-- Loop evaluation at the end of bundle `pc` over levels `ks` (R358): the next bundle. -/
def loopEval (e : Sextant) (pc : Nat) : List Nat → Sextant × Nat
  | [] => (e, pc + 1)
  | k :: ks =>
    if !loopOn e k || (e.le.getD k 0).toNat != pc then loopEval e pc ks
    else
      let c := (e.lc.getD k 0).toNat
      if 1 < c then ({ e with lc := e.lc.set k (BitVec.ofNat 32 (c - 1)) }, (e.ls.getD k 0).toNat)
      else loopEval (setLoopOn { e with lc := e.lc.set k 0 } k false) pc ks

/-- RTI: FLAGS from IFLAGS, on to IPC (R359). -/
def rtiTo (e : Sextant) : Sextant := { e with flags := e.iflags, pc := e.ipc.toNat }

/-- The end of a bundle: loops, then a branch whose delay bundles are over. `skip` is END + 1 of a LOOP of count 0; `new` a branch of this bundle. -/
def endBundle (e : Sextant) (skip : Option Nat) (new : Option JumpTo) : Sextant :=
  let (e, nx) := loopEval e e.pc [0, 1, 2]
  let nx := skip.getD nx
  let old : List (Nat × JumpTo) := e.jumps.map (fun (j : Nat × JumpTo) => (j.1 - 1, j.2))
  let ripe : Option (Nat × JumpTo) := old.find? (fun (j : Nat × JumpTo) => j.1 == 0)
  let e := { e with pc := nx, jumps := old.filter (fun j => j.1 != 0) ++ (match new with | some t => [(2, t)] | none => []) }
  match ripe with
  | some (_, .bundle n) => { e with pc := n }
  | some (_, .rti) => rtiTo e
  | none => e

/-- LOOP: LS, LE, LC and LEN of level `k`, whatever the count; a count of 0 skips the loop (R358). -/
def setLoop (e : Sextant) (k start stop count : Nat) : Sextant × Option Nat :=
  (setLoopOn { e with ls := e.ls.set k (BitVec.ofNat 32 start), le := e.le.set k (BitVec.ofNat 32 stop), lc := e.lc.set k (BitVec.ofNat 32 count) } k true,
   if count = 0 then some (stop + 1) else none)

end Sys2Proof.Machine
end

