-- ==== Sys2Proof/Machine/Sextant.lean ====
section
/-! DEFINITION. Sextant.lean: issue, time, faults, interrupts, timers and WAITs of a Sextant (R350, R357 to R364, R375, R479, R598, R599). -/
namespace Sys2Proof.Machine

/-- A Sextant by physical tile. -/
def sxOf (s : State) (t : Nat) : Sextant := tgetD s.sextants t Sextant.reset
/-- Change a Sextant. -/
def onSx (s : State) (t : Nat) (f : Sextant → Sextant) : State := { s with sextants := tmod s.sextants t Sextant.reset f }

/-- SEXTANT_EVENTS parameters: HANDLE, subscribed and producer channels (Table 13-12). -/
def sextantEventsBlock : List Param := [pN "HANDLE" 0 63, pL "SUBS" 256 [(0, 255)], pL "PRODS" 256 [(0, 255)]]
/-- Channels to which a lease subscribes, and those it may publish on (R363). -/
def sxSubs (p : Plan) (e : Sextant) : List Nat :=
  match e.lease with | some (d, h) => ((p.find .sextantEvents d h).map (fun b => b.nats 1)).getD [] | none => []
def sxProds (p : Plan) (e : Sextant) : List Nat :=
  match e.lease with | some (d, h) => ((p.find .sextantEvents d h).map (fun b => b.nats 2)).getD [] | none => []
/-- Dome that holds the lease, 0 for none. -/
def sxDome (e : Sextant) : Nat := match e.lease with | some (d, _) => d | none => 0

/-- Publish an event of a timer or of EVPUB; its cause ID is left open (R362, R363, Table 16-7). -/
def sxPublish (s : State) (t chan : Nat) : State :=
  let (c, s) := drawNat s
  publish s chan 4 (c % 65536) (sxDome (sxOf s t))

/-! ### Time: timers and the pipeline (R357, R362) -/

/-- Cycles until a running timer reaches 0. -/
def SxTimer.left (k : SxTimer) : Nat := if k.cnt = 0 then 2 ^ 32 else k.cnt.toNat
/-- Is the timer counting (RUN)? -/
def SxTimer.run (k : SxTimer) : Bool := k.ctl.getLsbD 0
/-- A timer after `m` cycles, none of them past its expiry: expired, it reloads or stops (R362). -/
def SxTimer.pass (m : Nat) (k : SxTimer) : SxTimer :=
  if !k.run then k
  else if k.left = m then (if k.ctl.getLsbD 1 then { k with cnt := k.rld } else { k with cnt := 0, ctl := k.ctl &&& 0xFFFFFFFE })
  else { k with cnt := k.cnt - BitVec.ofNat 32 m }
/-- Does the timer expire after exactly `m` cycles? -/
def SxTimer.expires (m : Nat) (k : SxTimer) : Bool := k.run && k.left == m

/-- Let `m` cycles pass, up to the next expiry or landing write: expiries set IPEND and publish under PUB. -/
def sxAdvance (s : State) (t m : Nat) : State :=
  let e := sxOf s t
  let fired := e.timers.zipIdx.filter (fun (k : SxTimer × Nat) => k.1.expires m)
  let bits := (fired.map (fun (k : SxTimer × Nat) => 2 ^ k.2)).foldl (· + ·) 0
  let e' := { e with timers := e.timers.map (SxTimer.pass m), now := e.now + m, inTick := e.inTick + m,
                     cycle := if e.item.isSome then (e.cycle + m) % 2 ^ 32 else e.cycle, ipend := e.ipend ||| BitVec.ofNat 32 bits }
  let s := onSx s t (fun _ => landDue e')
  fired.foldl (fun s (k : SxTimer × Nat) => if k.1.ctl.getLsbD 2 then sxPublish s t (bits8 k.1.ctl) else s) s
where
  /-- CH of TIMCTL. -/
  bits8 (c : Word) : Nat := bits c.toNat 15 8

/-- Cycles to the next expiry or landing write of a Sextant. -/
def sxNext (e : Sextant) : Option Nat :=
  (((e.timers.filter SxTimer.run).map SxTimer.left) ++ e.pipe.map (fun (p : Nat × PipeWrite) => p.1 - e.now)).min?

/-- Let `n` cycles pass. `fuel` bounds the expiries and landings among them. A halted Sextant stands still (R599, R601). -/
def sxPassFuel : Nat → State → Nat → Nat → State
  | 0, s, _, _ => s
  | f + 1, s, t, n =>
    let e := sxOf s t
    if e.halted && !e.stepping || n = 0 then s
    else match sxNext e with
      | none => sxAdvance s t n
      | some m => let m := Nat.max 1 m
                  if n < m then sxAdvance s t n else sxPassFuel f (sxAdvance s t m) t (n - m)
/-- Let `n` Sextant cycles pass on a tile. -/
def sxPass (s : State) (t n : Nat) : State := sxPassFuel (n + 1) s t n

/-! ### Faults (R375) -/

/-- A fault stops issue and ends the item; the lease holder is told once per cause per tick, and the Logbook records it. -/
def sxFault (s : State) (t code : Nat) : State :=
  let e := sxOf s t
  let (cls, s) := drawNat s
  let s := onSx s t (fun e =>
    { e with fault := some (code, e.pc), run := .idle, jumps := [], flags := e.flags &&& 0xFFFFF8FF, faults := (e.faults + 1) % 2 ^ 64,
             lastFault := (code, e.pc), maxCycle := Nat.max e.maxCycle e.cycle, item := none, nextSt := e.nextSt ||| 1,
             aborted := e.aborted ++ e.item.toList, due := [] })
  match e.lease with
  | none => s
  | some (d, _) => logAdd (noticeDome s d 0x8006 0 code e.pc) { cls := cls % 7, typ := code, dome := d, gen := genOf s d, addr := e.pc }

/-! ### WAIT (R364, R479) -/

/-- WAITST (R364). -/
def waitWord (timeout : Bool) (cause chan : Nat) : Word := BitVec.ofNat 32 (2 ^ 16 * b2n timeout + 2 ^ 8 * cause + chan)

/-- End the WAIT of a Sextant with a WAITST value: Xd takes it and issue goes on. -/
def endWait (e : Sextant) (d : Nat) (w : Word) : Sextant :=
  let e := { e with waitst := w, x := if d = 0 then e.x else e.x.set d w, run := .running }
  let e := endBundle e none none
  if e.stepping then { e with stepping := false, halted := true, cause := 2 } else e

/-- End a WAIT with the oldest event of the queue, if there is one. -/
def waitEvent (e : Sextant) : Sextant :=
  match e.run, e.queue with
  | .waiting d, c :: r => endWait { e with queue := r } d (waitWord false 0 c)
  | _, _ => e

/-- An event reaches a subscribed Sextant: a WAIT takes it, else the queue of 16, else it is lost (R363, R364, R476). -/
def takeEvent (e : Sextant) (c : Nat) : Sextant :=
  if 16 ≤ e.queue.length then { e with overrun := true, lost := (e.lost + 1) % 2 ^ 64 }
  else if e.halted && !e.stepping then { e with queue := e.queue ++ [c] }
  else waitEvent { e with queue := e.queue ++ [c] }

/-- Channels with an armed producer (R479): inputs on pins, routed sources whose object exists, hosts under VF Enable, Sextants that run or have a
publishing timer, and cells with a stretch, a filter count or a constant input whose table gives a change. -/
def armedChans (s : State) : List Nat :=
  let pins := ((s.plan.objs .lutConfig).filter (fun (r : Nat × Nat × Block) => decide (384 ≤ r.2.1) && decide (r.2.1 < 400) && r.2.2.is 2 1)).map (fun r => r.2.2.nat 3)
  let routed := ((s.plan.objs .eventRoute).filter (fun (r : Nat × Nat × Block) => !(decide (1368 ≤ r.2.2.nat 1) && decide (r.2.2.nat 1 ≤ 1495)))).map (fun r => r.2.2.nat 2)
  let hosts := (s.plan.objs .domeCreate).flatMap (fun (r : Nat × Nat × Block) =>
    if ((s.hostPorts[r.2.2.nat 1]?).map (fun p => p.vfEnable)).getD false then (List.range 256).filter (fun c => s.plan.holdsChan r.2.1 c) else [])
  let sx := s.sextants.flatMap (fun (r : Nat × Sextant) =>
    let e := r.2
    let timer := e.timers.any (fun k => k.run && k.ctl.getLsbD 2)
    if timer || (e.run == .running) then sxProds s.plan e else [])
  pins ++ routed ++ hosts ++ sx

/-- Inputs of a cell: channels, and the constants. CELL blocks: TARGET, CELL, ENABLE, MODE, IN0 to IN3, STRETCH0 to 3, TABLE, FF, FILTER, EDGE. -/
def cellChans (b : Block) : List Nat := (List.range 4).filterMap (fun i => match b.at (4 + i) with | .num c => some c.toNat | _ => none)
/-- Does a constant input's table give an output change in the present state? -/
def cellConst (c : CellRun) (b : Block) : Bool :=
  (List.range 4).all (fun i => match b.at (4 + i) with | .num _ => false | _ => true) && b.nat 2 == 1 &&
  ((b.nat 12).testBit ((List.range 4).foldl (fun a i => a + (if b.is (4 + i) 1 then 2 ^ i else 0)) 0)) != c.out
/-- Channels on which a cell's output is routed. -/
def cellOut (p : Plan) (n : Nat) : List Nat := ((p.objs .eventRoute).filter (fun (r : Nat × Nat × Block) => r.2.2.nat 1 == 1368 + n)).map (fun r => r.2.2.nat 2)

/-- Live channels: the least set under R479; each round adds the outputs of cells with a live input. -/
def liveChans (s : State) : Nat → List Nat → List Nat
  | 0, l => l
  | k + 1, l =>
    let more := (s.plan.objs .lutConfig).flatMap (fun (r : Nat × Nat × Block) =>
      if decide (256 ≤ r.2.1) && decide (r.2.1 < 384) then
        let n := r.2.1 - 256
        let c := tgetD s.router.cells n CellRun.reset
        let busy := decide (0 < c.diff) || c.ends.any (fun x => decide (s.router.cycle < x)) || cellConst c r.2.2
        if busy || (cellChans r.2.2).any (fun x => l.contains x) then (cellOut s.plan n).filter (fun x => !l.contains x) else []
      else [])
    if more.isEmpty then l else liveChans s k (l ++ more)

/-- At the last core cycle of a tick: every WAIT ends, with DEADLOCK where none of its channels is live, else with TICK; source 1354 is raised once
for the deadlocks (R364, R479). -/
def quiescence (s : State) : State :=
  let live := liveChans s 128 (armedChans s)
  let dead := s.sextants.filter (fun (r : Nat × Sextant) =>
    (match r.2.run with | .waiting _ => !r.2.halted || r.2.stepping | _ => false) && !((sxSubs s.plan r.2).any (fun c => live.contains c)))
  let s' := { s with sextants := s.sextants.map (fun (r : Nat × Sextant) =>
    match r.2.run with
    | .waiting d =>
      if r.2.halted && !r.2.stepping then r
      else (r.1, endWait r.2 d (waitWord true (if (sxSubs s.plan r.2).any (fun c => live.contains c) then 1 else 2) 0))
    | _ => r) }
  let gone := dead.flatMap (fun (r : Nat × Sextant) => sxSubs s.plan r.2)
  if dead.isEmpty then s'
  else raise { s' with router := { s'.router with quiesced := dead.length } } 1354 (causeId 0x1E ((gone.min?).getD 0))

/-! ### Interrupts (R359) -/

/-- Is an interrupt taken at this bundle boundary: not in delay bundles, during a stall or in the last bundle before DONE? -/
def irqDue (e : Sextant) : Bool :=
  e.flags.getLsbD 11 && !e.stalled && (sxPending e &&& e.imask) != 0 && e.jumps.isEmpty && e.run != .idle && !isDone ((bundleAt e e.pc).getD 2 0)

/-- Take an interrupt: drain, save IPC and IFLAGS, clear IE and LEN, go on at IVEC. -/
def takeIrq (s : State) (t : Nat) : State :=
  let e := sxOf s t
  let drain := ((e.pipe.map (fun (p : Nat × PipeWrite) => p.1 - e.now)).max?).getD 0
  let s := sxPass s t drain
  onSx s t (fun e => { e with ipc := BitVec.ofNat 32 e.pc, iflags := e.flags, flags := e.flags &&& 0xFFFFF0FF, pc := e.ivec.toNat, run := .running })

/-! ### One bundle -/

/-- Does a watchpoint cover an access (R598)? -/
def watchHit (e : Sextant) (o : SlotOut) : Bool :=
  o.touch.any (fun (a : Nat × Nat × Bool) => e.wps.any (fun (w : Word × Word) =>
    let n := bits w.2.toNat 19 4
    w.2.getLsbD 31 && (if a.2.2 then w.2.getLsbD 1 else w.2.getLsbD 0) && decide (w.1.toNat < a.1 + a.2.1) && decide (a.1 < w.1.toNat + n)))

/-- Halt a Sextant with a cause (Table 21-5). -/
def sxHalt (e : Sextant) (c : Nat) : Sextant := { e with halted := true, cause := c, haltReq := false, stepping := false }

/-- Issue the bundle at the program counter; `portBusy` says that the tile port has a beat in this cycle's phase 1 (R354). -/
def issue (s : State) (t : Nat) (portBusy : Bool) : State :=
  let e := sxOf s t
  match e.image with
  | none => s
  | some im =>
    if im.bundles ≤ e.pc then sxFault s t sxPc
    else if portBusy && isPaired ((bundleAt e e.pc).getD 3 0) then sxPass (onSx s t (fun e => { e with stalls := (e.stalls + 1) % 2 ^ 64, stalled := true })) t 1
    else
      let slots := slotsOf e (sxProds s.plan e) e.pc
      match bundleFault e slots with
      | some c => sxFault s t c
      | none =>
        let ctls := (slots.map (fun o => o.ctl)).filter (fun c => c != .none)
        let ctl := ctls.headD .none
        let hit := slots.any (watchHit e)
        let e1 := { e with stalled := false, pipe := e.pipe ++ slots.flatMap (fun o => o.writes.map (fun (w : Nat × PipeWrite) => (e.now + w.1, w.2))),
                           acNow := (slots.flatMap (fun o => o.acc)).foldl (fun l (a : Nat × AReg) => l.set a.1 a.2) e.acNow }
        let (e2, skip) := match ctl with | .loop k a b c => setLoop e1 k a b c | _ => (e1, none)
        let s := sxPass (onSx s t (fun _ => e2)) t 1
        let s := match ctl with
          | .wait d => onSx s t (fun e => waitEvent { e with run := .waiting d })
          | .jump j => onSx s t (fun e => endBundle e none (some j))
          | .publish c => sxPublish (onSx s t (fun e => endBundle e none none)) t c
          | .done => onSx s t (fun e => { e with run := .idle, jumps := [], item := none, done := e.done ++ e.item.toList,
                                                 items := (e.items + 1) % 2 ^ 64, maxCycle := Nat.max e.maxCycle e.cycle })
          | _ => onSx s t (fun e => endBundle e skip none)
        if hit then onSx s t (fun e => sxHalt e 4) else s

/-- What comes at a bundle boundary: a requested halt, an interrupt, a breakpoint, or the bundle (R359, R598, R599). -/
def boundary (s : State) (t : Nat) (portBusy : Bool) : State :=
  let e := sxOf s t
  if e.haltReq then onSx s t (fun e => sxHalt e 1)
  else
    let s := if irqDue e then takeIrq s t else s
    let e := sxOf s t
    if e.run != .running then s
    else if e.bps.any (fun b => b.getLsbD 31 && b.toNat % 2 ^ 31 == e.pc) && !e.stepping then onSx s t (fun e => sxHalt e 3)
    else issue s t portBusy

/-- BUNDLE_ISSUE (R350): one Sextant cycle of physical tile `tile` with issue; nothing issues on a Sextant that runs no item or is halted. -/
def execBundleIssue (tile : Nat) (portBusy : Bool) (s : State) : Host.Outcome State Fault Refusal :=
  if 68 ≤ tile then .fault .noSuchUnit
  else
    let e := sxOf s tile
    if e.halted || e.run == .idle then .next s else .next (boundary s tile portBusy)

/-- INTERRUPT_TAKEN (R359): nothing where no interrupt is due at this bundle boundary. -/
def execInterruptTaken (tile : Nat) (s : State) : Host.Outcome State Fault Refusal :=
  if 68 ≤ tile then .fault .noSuchUnit
  else let e := sxOf s tile
       if e.halted || !irqDue e then .next s else .next (takeIrq s tile)

/-- SEXTANT_TIMER_EXPIRY (R362): cycles pass on the tile until timer `k` reaches 0; nothing where it is not the next to do so. -/
def execSextantTimerExpiry (tile k : Nat) (s : State) : Host.Outcome State Fault Refusal :=
  if 68 ≤ tile ∨ 4 ≤ k then .fault .noSuchUnit
  else
    let e := sxOf s tile
    match e.timers[k]? with
    | none => .next s
    | some x =>
      if e.halted || !x.run || e.timers.any (fun y => y.run && decide (y.left < x.left)) then .next s
      else .next (sxPass s tile x.left)

/-- WAIT_END (R364): a WAIT takes the oldest event; without one it goes on waiting. The WAITs that end at a tick boundary, with CAUSE TICK or
DEADLOCK, end with TICK_BOUNDARY (R479). -/
def execWaitEnd (tile : Nat) (s : State) : Host.Outcome State Fault Refusal :=
  if 68 ≤ tile then .fault .noSuchUnit
  else if (sxOf s tile).halted && !(sxOf s tile).stepping then .next s
  else .next (onSx s tile waitEvent)

end Sys2Proof.Machine
end

