-- ==== Sys2Proof/Machine/SxItem.lean ====
section
/-! DEFINITION. SxItem.lean: leases, images, items, banks, outputs and swaps of a Sextant (R345 to R348, R365 to R373, R601). -/
namespace Sys2Proof.Machine

/-! ### Places of a lease -/

/-- Physical tile of a lease, through its logical tile (R346). -/
def sxTile (s : State) (d h : Nat) : Option Nat := (s.plan.place? .sextantLoad d h).map (fun x => physTile s (x.tiles.headD 0))
/-- Attach parameters of a Sextant. -/
def sxAttach (p : Plan) (e : Sextant) : Option (Nat × Nat × Block) :=
  match e.lease with
  | none => none
  | some (d, h) => (p.find .sextantAttach d h).map (fun b => (d, h, b))
/-- lambda_s of an attach, fixed at admission (R367). -/
def sxLambda (p : Plan) (d h : Nat) : Nat := match p.place? .sextantAttach d h with | some x => x.latency | none => 0

/-! ### Scrub and image (R347, R371, R372) -/

/-- Parse an image header (Table 12-9). -/
def imageOf (b : List Byte) : SxImage :=
  { hflags := leField b 6 2, cycles := leField b 8 4, bundles := leField b 12 2, entry := leField b 14 2, ivec := leField b 16 2, crc := leField b 24 4 }
/-- Copy the staging copy's code into program memory. -/
def loadImage (e : Sextant) : Sextant :=
  let im := imageOf e.staged
  { e with image := some im, prog := memPutList [] 0 (sliceL e.staged 64 (16 * im.bundles)) }

/-- A scrub (R347): memories, registers, timers, events and staging copy are 0; the debug registers and the counters are not among them. With a
lease, its image follows in the same tick (R372), and the first item runs in the next with FIRST set. -/
def scrubbed (tick : Nat) (e : Sextant) : Sextant :=
  let r := { Sextant.reset with lease := e.lease, bps := e.bps, wps := e.wps, halted := false, cause := e.cause, ready := tick + 1,
                                nextSt := 4, stale := true }
  if e.lease.isNone ∨ e.incoming.isEmpty then r
  else
    let l := loadImage { r with staged := e.incoming }
    { l with ivec := BitVec.ofNat 32 (imageOf e.incoming).ivec }

/-- Run a scrub that is due on a tile. -/
def runScrub (s : State) (t : Nat) : State :=
  if (sxOf s t).scrub then onSx s t (scrubbed s.time.tick64) else s

/-- A lease change falls due: breakpoints and watchpoints go, a halt ends (R601), and the scrub of the tick awaits. -/
def changeLease (s : State) (t : Nat) (l : Option (Nat × Nat)) (image : List Byte) : State :=
  onSx s t (fun e => { e with lease := l, incoming := image, scrub := true, run := .idle, item := none, due := [], done := [], aborted := [], halted := false,
                              haltReq := false, stepping := false, bps := List.replicate 4 0, wps := List.replicate 2 (0, 0) })

/-- Physical tile of the Sextant that holds a lease at present. -/
def leaseTile (s : State) (d h : Nat) : Option Nat := (s.sextants.find? (fun e => e.2.lease == some (d, h))).map (fun e => e.1)

/-- A lease that moves to another tile (R345, R515): the image comes from the staging copy, data memory is scrubbed, FIRST is set. -/
def moveLease (s : State) (a b : Nat) : State :=
  let e := sxOf s a
  match e.lease with
  | none => s
  | some l => changeLease (changeLease s b (some l) e.staged) a none []

/-- Is a swap due at the start of an item of tick `m`? -/
def swapDue (e : Sextant) (m : Nat) : Bool := match e.swap with | some x => decide (x ≤ m) | none => false

/-- SEXTANT_SWAP at the start of the first item (R372, R373): the copy and clear cycles pass, the new image takes over. -/
def applySwap (s : State) (t : Nat) : State :=
  let e := sxOf s t
  let im := imageOf e.staged
  let clear := im.hflags.testBit 2
  let s := onSx s t (fun e => { e with halted := false, haltReq := false, stepping := false, bps := if e.halted then List.replicate 4 0 else e.bps,
                                       wps := if e.halted then List.replicate 2 (0, 0) else e.wps })
  let s := sxPass s t (ceilDiv im.bundles 8 + (if clear then 1920 else 0))
  onSx s t (fun e =>
    let r := Sextant.reset
    let e := loadImage { e with v := r.v, ac := r.ac, acNow := r.acNow, x := r.x, ix := r.ix, md := r.md, len := r.len, base := r.base, flags := 0,
                                lc := r.lc, ls := r.ls, le := r.le, ivec := BitVec.ofNat 32 im.ivec, pipe := [], jumps := [], swap := none, fault := none,
                                nextSt := e.nextSt ||| 2, data := if clear then memClear e.data 0 0x3C000 else e.data }
    if im.hflags.testBit 0 then { e with timers := r.timers } else e)

/-! ### Input banks (R365, R366) -/

/-- Bank address of input or output with OFFSET at `i` and STRIDE at `j` in device tick `m`. -/
def bankAt (b : Block) (i j m : Nat) : Nat := b.nat i + (m % 3) * b.nat j
/-- F_max of the source of an input. -/
def inFmax (s : State) (d : Nat) (b : Block) (k : Nat) : Nat :=
  match b.word? (2 + k) with
  | some 1 => ((s.plan.instr d (b.nat (6 + k))).map (fun x => ((iSources d x).map (fun src => s.plan.fmax src)).foldl Nat.max 0)).getD 0
  | some 2 => s.plan.fmax (srcOf d (b.at (6 + k)))
  | _ => 0
/-- Feeds of a Q4 input. -/
def inFeeds (s : State) (d : Nat) (b : Block) (k : Nat) : Nat := ((s.plan.instr d (b.nat (6 + k))).map (fun x => Nat.min 64 (iSources d x).length)).getD 0
/-- Feed or window numbers of a Q4 input's records. -/
def inIds (s : State) (d : Nat) (b : Block) (k : Nat) : List Nat :=
  ((s.plan.instr d (b.nat (6 + k))).map (fun x => (iSources d x).map (fun src => match src with | .feed f => f | .window _ w => w))).getD []

/-- Bytes of a Q4 bank (R366): frame, channel, feed; padding and missing samples are 0x88. -/
def q4Bank (nch fmax feeds : Nat) (ins : List (Option ChTick)) : List Byte :=
  let g := 64 * ceilDiv feeds 64
  let arr := (ins.map (fun (c : Option ChTick) => match c with | some c => (c.frames.map (fun (e : Nat × List Smp) => e.2.toArray)).toArray | none => #[])).toArray
  (List.range fmax).flatMap (fun q => (List.range nch).flatMap (fun c => (List.range g).map (fun i =>
    if i < feeds then ((arr.getD i #[]).getD q #[]).getD c noSmp |> q4Byte else 0x88)))
/-- Bytes of a CHAN bank: 8 per sample (R366). -/
def chanBank (nch fmax : Nat) (c : Option ChTick) : List Byte :=
  let arr := match c with | some c => (c.frames.map (fun (e : Nat × List Smp) => e.2.toArray)).toArray | none => #[]
  (List.range fmax).flatMap (fun q => (List.range nch).flatMap (fun i =>
    let x := (arr.getD q #[]).getD i noSmp
    leBytes 4 (ofSigned 32 x.re) ++ leBytes 4 (ofSigned 32 x.im)))
/-- Validity bitmap of a CHAN bank. -/
def chanValid (nch fmax : Nat) (c : Option ChTick) : List Byte :=
  let arr := match c with | some c => (c.frames.map (fun (e : Nat × List Smp) => e.2.toArray)).toArray | none => #[]
  let bitAt := fun (n : Nat) => decide (n < nch * fmax) && (((arr.getD (n / Nat.max 1 nch) #[]).getD (n % Nat.max 1 nch) noSmp).ok)
  (List.range (ceilDiv (nch * fmax) 8)).map (fun i => BitVec.ofNat 8 ((List.range 8).foldl (fun a j => a + (if bitAt (8 * i + j) then 2 ^ j else 0)) 0))

/-- Data of feed `i` of input `k` for sample tick `n`. -/
def inData (s : State) (d h inst k i n : Nat) : Option ChTick :=
  ((instrRun s d inst).inq.find? (fun x => x.1 == sxPos h k i && x.2.2.tick == n)).map (fun x => x.2.2)

/-- Write one input into its bank of device tick `m`: the bytes to write and what TICKINFO says of it (R366, R367). -/
def fillInput (s : State) (d h : Nat) (b : Block) (k m n : Nat) : List (Nat × List Byte) × Option SxInput :=
  let inst := b.nat 1
  let bank := bankAt b (18 + k) (22 + k) m
  let nch := b.nat (14 + k)
  let fmax := inFmax s d b k
  match b.word? (2 + k) with
  | some 1 =>
    let feeds := inFeeds s d b k
    let ins := (List.range feeds).map (fun i => inData s d h inst k i n)
    let ids := inIds s d b k
    let nq := ((s.plan.instr d (b.nat (6 + k))).map (fun x => (iTaken x).2)).getD 0
    let bytes := q4Bank nch fmax feeds ins
    let frames := ((ins.filterMap id).map (fun c => c.frames.length)).foldl Nat.max 0
    let empty : ChTick := { tick := n, first := 0, frames := [], clip := 0, ovf := 0, rqClip := 0, flags := 0 }
    let recs := ins.zipIdx.flatMap (fun (e : Option ChTick × Nat) =>
      let c := e.1.getD empty
      leBytes 4 (tsnOf n) ++ leBytes 4 (c.frames.length * nq) ++ leBytes 4 c.valid ++ leBytes 4 c.rqClip ++ leBytes 2 (c.flags % 65536) ++
      leBytes 2 (ids.getD e.2 0) ++ leBytes 4 c.clip ++ leBytes 8 0)
    ([(bank, bytes)], some { bank := bank, frames := frames, bytes := bytes.length, flags := (ins.filterMap id).foldl (fun (a : Nat) c => a ||| c.flags) 0, recs := recs })
  | some 2 =>
    let c := inData s d h inst k 0 n
    let bytes := chanBank nch fmax c
    let c' := c.getD { tick := n, first := 0, frames := [], clip := 0, ovf := 0, rqClip := 0, flags := 0 }
    let src := srcOf d (b.at (6 + k))
    let fid := match src with | .feed f => f | .window _ w => w
    ([(bank, bytes), (bankAt b (26 + k) (22 + k) m, chanValid nch fmax c)],
     some { bank := bank, frames := c'.frames.length, bytes := bytes.length, flags := c'.flags, recs := (chanRecord fid c').le })
  | some 3 =>
    let recs := ((instrRun s d (b.nat (6 + k))).cands).take 64
    let bytes := recs.flatMap id
    ([(bank, bytes)], some { bank := bank, frames := recs.length, bytes := bytes.length, flags := 0, recs := [] })
  | _ => ([], none)

/-- Land the inputs of the item of device tick `m` on a tile (R367). -/
def landInputs (s : State) (t m : Nat) : State :=
  let e := sxOf s t
  match sxAttach s.plan e with
  | none => s
  | some (d, h, b) =>
    let lam := sxLambda s.plan d h
    let since := match s.plan.place? .sextantAttach d h with | some x => x.since | none => 0
    if !s.plan.takes d (b.nat 1) (m - lam) ∨ m < lam ∨ m < since ∨ m < e.ready then s
    else
      let n := m - lam
      let taken := fun (s : State) => onInstr s d (b.nat 1) (fun r => { r with inq := r.inq.filter (fun x => !(decide (sxPos h 0 0 ≤ x.1) && decide (x.1 < sxPos h 4 0) && decide (x.2.2.tick ≤ n))) })
      -- inputs that arrive while a fault keeps items from starting are discarded (R375)
      if e.fault.isSome && !swapDue e m then taken s else
      let ins := (List.range 4).map (fun k => (k, fillInput s d h b k m n))
      let item : SxItem := { m := m, n := n, seq := e.itemSeq % 2 ^ 32, ins := ins.filterMap (fun (x : Nat × List (Nat × List Byte) × Option SxInput) => x.2.2.map (fun i => (x.1, i))) }
      let s := onSx s t (fun e => { e with data := (ins.flatMap (fun x => x.2.1)).foldl (fun (mm : Memory) (w : Nat × List Byte) => memPutList mm w.1 w.2) e.data,
                                           itemSeq := (e.itemSeq + 1) % 2 ^ 32, due := e.due ++ [item] })
      taken s

/-! ### Items (R367 to R369) -/

/-- TICKINFO of an item, with its own device tick m = n + lambda_s (R367). -/
def tickInfo (st : Nat) (i : SxItem) : List Byte :=
  let per := (List.range 4).flatMap (fun k => match tget i.ins k with
    | some x => leBytes 4 x.bank ++ leBytes 4 x.frames ++ leBytes 4 x.bytes ++ leBytes 4 (x.flags % 65536)
    | none => leBytes 16 0)
  padTo 0 256 (leBytes 8 i.m ++ leBytes 8 i.n ++ leBytes 4 i.seq ++ leBytes 4 st ++ leBytes 8 0 ++ per) ++ (i.ins.flatMap (fun (x : Nat × SxInput) => x.2.recs))

/-- Copy a PARAM block that has fallen due (R367, R377). -/
def takeParam (tick : Nat) (e : Sextant) : Sextant :=
  match e.param with
  | some (x, off, b) => if x ≤ tick then { e with data := memPutList e.data (0x3F000 + off) b, param := none } else e
  | none => e

/-- Start the oldest item whose inputs stand in their banks, once no item runs (R367). -/
def startItem (s : State) (t : Nat) : State :=
  let e := sxOf s t
  match e.due with
  | [] => s
  | i :: rest =>
    if e.run != .idle || e.halted || e.fault.isSome || e.scrub || e.image.isNone || decide (s.time.tick64 < i.m) then s
    else
      onSx s t (fun e =>
        let e := takeParam s.time.tick64 e
        { e with data := memPutList e.data 0x3C000 (tickInfo e.nextSt i), due := rest, item := some i, run := .running,
                 pc := (e.image.map (fun x => x.entry)).getD 0, cycle := 0, tick := s.time.tick64, itemst := e.nextSt, nextSt := 0, jumps := [], stalled := false })

/-- SEXTANT_ITEM_START (R367): a scrub and a swap that are due come first. -/
def execSextantItemStart (tile : Nat) (s : State) : Host.Outcome State Fault Refusal :=
  if 68 ≤ tile then .fault .noSuchUnit
  else if !ticking s then .next s
  else
    let s := runScrub s tile
    let e := sxOf s tile
    let s := if e.run == .idle && swapDue e s.time.tick64 && !e.due.isEmpty then applySwap s tile else s
    .next (startItem s tile)

/-- SWAP_APPLY (R372): nothing while an item runs or no swap is due. -/
def execSwapApply (tile : Nat) (s : State) : Host.Outcome State Fault Refusal :=
  if 68 ≤ tile then .fault .noSuchUnit
  else
    let e := sxOf s tile
    if e.run != .idle || !swapDue e s.time.tick64 then .next s else .next (startItem (applySwap s tile) tile)

/-- LEASE_SCRUB (R347): the scrub of a lease change that is due on the tile. -/
def execLeaseScrub (tile : Nat) (s : State) : Host.Outcome State Fault Refusal :=
  if 68 ≤ tile then .fault .noSuchUnit else .next (runScrub s tile)

/-! ### Outputs (R367, R368) -/

/-- Entries of a DAC queue (R542). -/
def dacRun (s : State) (n : Nat) : DacRun := tgetD s.dacs n DacRun.reset
def onDac (s : State) (n : Nat) (f : DacRun → DacRun) : State := { s with dacs := tmod s.dacs n DacRun.reset f }
/-- Flush a DAC's queue and drive code 0 (R541, R546). -/
def dacFlush (s : State) (n : Nat) : State :=
  onDac s n (fun r => { r with code := 0, queue := [], pos := 0, left := 0, playing := false, ending := false, waiting := [] })

/-- The dome that holds a DAC in its DACS grant, if any (R544). -/
def Plan.dacDome (p : Plan) (n : Nat) : Option Nat := ((p.objs .domeGrant).find? (fun e => e.2.1 == 10 && (e.2.2.nat 2).testBit n)).map (fun e => e.1)
/-- Append whole words to a DAC's queue; those that do not fit are dropped (R544). -/
def dacAppend (s : State) (n : Nat) (words : List Nat) : State :=
  onDac s n (fun r =>
    let room := 256 - r.queue.length
    { r with queue := r.queue ++ (words.take room).map (fun w => (w % 65536, w / 65536 % 65536)), qDrop := (r.qDrop + (words.length - room)) % 2 ^ 32,
             playing := r.playing || !words.isEmpty })

/-- Bytes of a DACQ word list. -/
def wordsOf (b : List Byte) : List Nat := (List.range (b.length / 4)).map (fun i => leField b (4 * i) 4)

/-- Ring key of output `j` of a Sextant. -/
def sxRing (d h j : Nat) : ObjKey := ⟨.sextantAttach, d, h, j⟩

/-- Publish the outputs of an item: its banks, or, for a shed item, empty records (R367, R368, R369). While a reset drains the dome they carry its old
generation: none is published, and each record counts in GEN_DISCARD (R348, R425). -/
def publishItem (s : State) (t : Nat) (i : SxItem) (shed : Bool) : State :=
  let e := sxOf s t
  match sxAttach s.plan e with
  | none => s
  | some (d, h, b) =>
    if (domeRun s d).drain.isSome then iCount s d (b.nat 1) .genDiscard ((List.range 4).filter (fun j => b.is (30 + j) 1)).length else
    (List.range 4).foldl (fun (s : State) (j : Nat) =>
      let desc := memList e.data (0x3F800 + 32 * j) 32
      let bytes := if shed then 0 else Nat.min (leField desc 0 4) (b.nat (46 + j))
      let inFl := i.ins.foldl (fun (a : Nat) (x : Nat × SxInput) => a ||| r10Flags x.2.flags) 0
      let fl := (inFl ||| (leField desc 20 2 % 4)) ||| (4 * b2n shed) ||| (8 * b2n e.stale)
      let payload := memList e.data (bankAt b (38 + j) (42 + j) i.m) bytes
      match b.word? (30 + j) with
      | some 1 =>
        let f : Fields := [(1, 11), (1, 1), (2, b.nat 1), (1, j), (1, 0), (2, fl), (8, i.n), (4, i.seq), (4, bytes), (8, if shed then 0 else leField desc 4 8),
                           (8, leField desc 12 8), (12, ct96 (nominalOfTick s i.n)), (12, 0)]
        let k := sxRing d h j
        match tget (instrRun s d (b.nat 1)).rings (1024 + 4 * h + j) with
        | none => s
        | some r =>
          let (s, r, ok) := ringPut s k r i.seq (f.le ++ payload)
          let s := onInstr s d (b.nat 1) (fun x => { x with rings := tset x.rings (1024 + 4 * h + j) r })
          if ok then (match b.nat? (50 + j) with | some c => publish s c 3 (causeId 0x01 (b.nat 1)) d | none => s)
          else raiseTile (iCount s d (b.nat 1) .resultDrop 1) (iTile s d (b.nat 1) 0) 6 0x02 (b.nat 1) (.dome d)
      | some 2 =>
        if shed then s
        else
          let s := dacAppend s ((b.word? (34 + j)).getD 0) (wordsOf payload)
          match b.nat? (50 + j) with | some c => publish s c 3 (causeId 0x01 (b.nat 1)) d | none => s
      | _ => s) s

/-! ### The tick boundary (R345, R367, R369, R601) -/

/-- Abort the item that runs (R369): issue stops, LEN clears, ABORTED is set for the next item. -/
def abortItem (s : State) (t : Nat) : State :=
  onSx s t (fun e => { e with run := .idle, jumps := [], flags := e.flags &&& 0xFFFFF8FF, item := none, nextSt := e.nextSt ||| 1, aborted := e.aborted ++ e.item.toList,
                              maxCycle := Nat.max e.maxCycle e.cycle, pc := if e.halted then (e.image.map (fun x => x.entry)).getD 0 else e.pc,
                              cause := if e.halted then 5 else e.cause })

/-- Is the item of the Sextant past its deadline at the end of device tick `m` (R369)? -/
def itemLate (e : Sextant) (m : Nat) : Bool := match e.item with | some i => decide (i.m + 1 ≤ m) | none => false

/-- Publish everything that awaits publication. -/
def publishAll (s : State) (t : Nat) : State :=
  let e := sxOf s t
  let late := if e.halted then e.due.filter (fun i => decide (i.m + 1 ≤ s.time.tick64)) else []
  let gone := e.aborted ++ late
  let s := onSx s t (fun e => { e with done := [], aborted := [], due := e.due.filter (fun i => !late.contains i), shedItems := (e.shedItems + gone.length) % 2 ^ 64 })
  let s := e.done.foldl (fun (s : State) i => publishItem s t i false) s
  let s := gone.foldl (fun (s : State) i => publishItem s t i true) s
  if e.done.isEmpty then s else onSx s t (fun e => { e with stale := false })

/-- A Sextant at the end of device tick `m`: the cycles of the tick that no bundle used pass, a late item is aborted, outputs leave, a scrub that is
still due runs, and the inputs of the next tick's item land. -/
def sxBoundary (s : State) (m t : Nat) : State :=
  let e := sxOf s t
  let left := if e.run == .running then 0 else 5 * s.time.len - e.inTick
  let s := sxPass s t left
  let s := onSx s t (fun e => { e with inTick := 0 })
  let s := if itemLate (sxOf s t) m then abortItem s t else s
  let s := publishAll s t
  let s := runScrub s t
  landInputs s t (m + 1)

/-- SEXTANT_ITEM_ABORT (R369): the item that has not executed DONE by the end of the running device tick, where this is its deadline. -/
def execSextantItemAbort (tile : Nat) (s : State) : Host.Outcome State Fault Refusal :=
  if 68 ≤ tile then .fault .noSuchUnit
  else if itemLate (sxOf s tile) s.time.tick64 then .next (publishAll (abortItem s tile) tile) else .next s

end Sys2Proof.Machine
end

