-- ==== Sys2Proof/Machine/Capture.lean ====
section
/-! DEFINITION. Capture.lean: RECORDER instruments: segments, triggers, records and continuous recording (R279 to R304). -/
namespace Sys2Proof.Machine

/-! ### Geometry (R280, R282, R284) -/

/-- Is this a channel point? -/
def capChan (b : Block) : Bool := decide (2 ≤ (b.word? 3).getD 0)
/-- Channels of a unit. -/
def capNch (b : Block) : Nat := if capChan b then b.nat 8 else 1
/-- Feed definition behind a capture. -/
def capFeed (p : Plan) (d : Nat) (b : Block) : Option (Block × Block) := p.srcFeed (p.capSrc d b)
/-- Bits of one raw unit. -/
def capBits (p : Plan) (d : Nat) (b : Block) : Nat :=
  match b.word? 3 with
  | some 0 => (match capFeed p d b with | some (fb, _) => feedW fb | none => 8)
  | some 1 => 36
  | some 4 => 8 * capNch b
  | some 5 => 16 * capNch b
  | _ => 36 * capNch b
/-- U_max and U_min (R280). -/
def capUmax (p : Plan) (d : Nat) (b : Block) : Nat :=
  match b.word? 3, capFeed p d b with
  | some 0, some (fb, _) => feedS fb p.m
  | some 1, some (fb, c) => feedSo fb c p.m
  | _, _ => p.fmax (p.capSrc d b)
def capUmin (p : Plan) (d : Nat) (b : Block) : Nat :=
  if capChan b then let src := p.capSrc d b; p.so (p.feedOf src) / Nat.max 1 (p.fh src) else capUmax p d b
/-- Components and bytes of one envelope element (Table 10-2). -/
def envElem (p : Plan) (d : Nat) (b : Block) : Nat × Nat :=
  match b.word? 3 with
  | some 0 => (match capFeed p d b with | some (fb, _) => (1 + fb.nat 12, 2) | none => (1, 2))
  | some 4 => (2, 1) | some 5 => (2, 1) | _ => (2, 4)
/-- Bytes of one envelope entry (R284). -/
def envBytes (p : Plan) (d : Nat) (b : Block) : Nat := let e := envElem p d b; 2 * e.1 * e.2

/-- The layout of a segment (Table 10-3). -/
structure CapGeom where
  units : Nat
  ticks : Nat
  envs : Nat
  pwrs : Nat
  tickOff : Nat
  rawOff : Nat
  validOff : Nat
  envOff : Nat
  pwrOff : Nat
  bytes : Nat
  deriving DecidableEq, Repr

/-- Round up to a multiple of 4,096. -/
def up4k (n : Nat) : Nat := ceilDiv n 4096 * 4096
/-- CAP_UNITS (R284). -/
def capUnits (p : Plan) (d i : Nat) (b : Block) : Nat :=
  ceilDiv (b.nat 9 + b.nat 10 + (if b.is 15 1 then b.nat 16 else 0) + (p.capGuard d i b + 1) * capUmax p d b) 64 * 64
/-- Geometry of a TRIGGERED capture. -/
def capGeom (p : Plan) (d i : Nat) (b : Block) : CapGeom :=
  let u := capUnits p d i b
  let t := ceilDiv u (Nat.max 1 (capUmin p d b)) + 1
  let ke := b.nat 22
  let kp := b.nat 23
  let n := capNch b
  let ne := if ke = 0 then 0 else ceilDiv u (2 ^ ke) + 1
  let np := if kp = 0 then 0 else ceilDiv u (2 ^ kp) + 1
  let valid := match b.word? 3 with
    | some 0 => ceilDiv (u * capBits p d b) 2048 | some 1 => ceilDiv u 8 | some 4 => 0 | some 5 => 0 | _ => ceilDiv (u * n) 8
  let o1 := 4096
  let o2 := up4k (o1 + 16 * t)
  let o3 := up4k (o2 + ceilDiv (u * capBits p d b) 8)
  let o4 := up4k (o3 + valid)
  let o5 := up4k (o4 + ne * n * envBytes p d b)
  let stop := o5 + np * n * 8
  { units := u, ticks := t, envs := ne, pwrs := np, tickOff := o1, rawOff := o2, validOff := if valid = 0 then 0 else o3, envOff := if ne = 0 then 0 else o4,
    pwrOff := if np = 0 then 0 else o5, bytes := pagesFor stop * 2 ^ 21 }

/-- Pages of a capture's ring. -/
def capKey (d i : Nat) : ObjKey := ⟨.instrDefine, d, i, 0⟩

/-! ### Units -/

/-- Stored value of one sample at a capture's point (R282, R283). -/
def capWord (p : Plan) (d : Nat) (b : Block) (x : Smp) : Nat × Nat :=
  match b.word? 3 with
  | some 0 =>
    let w := capBits p d b
    let n := w / (envElem p d b).1
    (w, if x.ok then ofSigned n x.re + (if n < w then 2 ^ n * ofSigned n x.im else 0) else 0)
  | some 4 => (8, (q4Byte x).toNat)
  | some 5 => (16, ofLe (beamBytes x))
  | _ => (36, if x.ok then ofSigned 18 x.re + 2 ^ 18 * ofSigned 18 x.im else 0)

/-- The ticks that a capture takes at device tick `m`. -/
def capInputs (s : State) (m d i : Nat) (b : Block) : List ChTick :=
  let one := fun (t first clip flags : Nat) (xs : List Smp) => ({ tick := t, first := 0, frames := xs.mapIdx (fun (k : Nat) (x : Smp) => (first + k, [x])), clip := clip, ovf := 0, rqClip := 0, flags := flags } : ChTick)
  let f := b.nat 4 % 2 ^ 32
  match b.word? 3 with
  | some 0 => (feedRun s f).raws.map (fun r => one r.tick r.first.toNat r.clip r.flags r.samples)
  | some 1 => ((feedRun s f).outs.filter (fun o => decide (o.avail ≤ m) && o.sub == b.nat 5)).map (fun o => one o.tick o.first.toNat o.clip o.flags o.samples)
  | _ => (readyTicks s m d i 0 1).filterMap (fun n => inputAt s d i 0 n)

/-- Power of a unit sample (R288). -/
def unitPow (x : Smp) : Nat := x.pow
/-- Valid samples of a tick. -/
def ChTick.validHere (c : ChTick) : Nat := (c.frames.map (fun e => (e.2.filter (fun x => x.ok)).length)).foldl (· + ·) 0
/-- Units of a tick from a unit on. -/
def ChTick.from (c : ChTick) (x : Int) : ChTick := { c with frames := c.frames.filter (fun e => decide (x ≤ (e.1 : Int))) }
/-- TICKMAP entry (R284). -/
def tickEntry (c : ChTick) : Fields := [(4, tsnOf c.tick), (2, c.flags % 4096), (2, 0), (8, c.validHere)]

/-- Units of a block of 2^k units. -/
def blockUnits (ts : List ChTick) (k beta : Nat) : List (List Smp) :=
  ts.flatMap (fun c => (c.frames.filter (fun e => e.1 / 2 ^ k == beta)).map (fun (e : Nat × List Smp) => e.2))
/-- Envelope entries of a block, one per channel (R295). -/
def envBlock (p : Plan) (d : Nat) (b : Block) (us : List (List Smp)) : Fields :=
  let (n, w) := envElem p d b
  let big : Int := (2 ^ (8 * w - 1) : Nat) - 1
  (List.range (capNch b)).flatMap (fun (c : Nat) =>
    let xs : List Smp := (us.map (fun u => u.getD c noSmp)).filter (fun x => x.ok)
    let lo := fun (f : Smp → Int) => xs.foldl (fun (a : Int) x => if f x < a then f x else a) big
    let hi := fun (f : Smp → Int) => xs.foldl (fun (a : Int) x => if a < f x then f x else a) (-big - 1)
    let pair := fun (f : Smp → Int) => [(w, ofSigned (8 * w) (lo f)), (w, ofSigned (8 * w) (hi f))]
    if n = 1 then pair (fun x => x.re) else pair (fun x => x.re) ++ pair (fun x => x.im))
/-- Power entries of a block, one per channel (R296). -/
def pwrBlock (b : Block) (us : List (List Smp)) : Fields :=
  (List.range (capNch b)).flatMap (fun (c : Nat) =>
    let xs : List Smp := (us.map (fun u => u.getD c noSmp)).filter (fun x => x.ok)
    [(4, meanOr (((xs.map unitPow).foldl (· + ·) 0 : Nat) : Int) xs.length), (4, xs.length)])

/-- Write the units of a tick, its TICKMAP entry and its blocks into the filling segment (R282, R284, R295, R296). `ts` are the ticks of the segment. -/
def capWrite (s : State) (d i seg : Nat) (b : Block) (c : ChTick) (ts : List ChTick) : State :=
  let p := s.plan
  let g := capGeom p d i b
  let k := capKey d i
  let base := seg * g.bytes
  let n := capNch b
  let bits := capBits p d b
  let s := objPut s k (base + g.tickOff + 16 * (c.tick % g.ticks)) (tickEntry c).le
  let s := c.frames.foldl (fun (s : State) (e : Nat × List Smp) =>
    (List.range n).foldl (fun (s : State) (ch : Nat) =>
      let (w, v) := capWord p d b (e.2.getD ch noSmp)
      objPutBits s k (base + g.rawOff) (e.1 % g.units * bits + ch * w) w v) s) s
  let s :=
    if g.validOff = 0 then s
    else if b.is 3 0 then
      let grans := (c.frames.map (fun e => e.1 % g.units * bits / 256)).eraseDups
      grans.foldl (fun (s : State) (gr : Nat) =>
        let ok := ts.all (fun t => t.frames.all (fun e => !(e.1 % g.units * bits / 256 == gr) || (e.2.getD 0 noSmp).ok))
        objPutBits s k (base + g.validOff) gr 1 (b2n ok)) s
    else c.frames.foldl (fun (s : State) (e : Nat × List Smp) =>
      (List.range n).foldl (fun (s : State) (ch : Nat) => objPutBits s k (base + g.validOff) (e.1 % g.units * n + ch) 1 (b2n (e.2.getD ch noSmp).ok)) s) s
  let s :=
    if g.envOff = 0 then s
    else ((c.frames.map (fun e => e.1 / 2 ^ b.nat 22)).eraseDups).foldl (fun (s : State) (be : Nat) =>
      objPut s k (base + g.envOff + be % g.envs * n * envBytes p d b) (envBlock p d b (blockUnits ts (b.nat 22) be)).le) s
  if g.pwrOff = 0 then s
  else ((c.frames.map (fun e => e.1 / 2 ^ b.nat 23)).eraseDups).foldl (fun (s : State) (be : Nat) =>
    objPut s k (base + g.pwrOff + be % g.pwrs * n * 8) (pwrBlock b (blockUnits ts (b.nat 23) be)).le) s

/-! ### Levels (R288) -/

/-- Follow one LEVEL entry over a unit: the new state and whether it fires. -/
def levelUnit (e : List Int) (st : Nat) (x : Smp) : Nat × Bool :=
  if !x.ok then (st, false)
  else
    let p := unitPow x
    let hi := ofSigned 64 (e.getD 1 0)
    let lo := ofSigned 64 (e.getD 2 0)
    let slope := (e.getD 3 0 + 2 ^ 63).toNat
    if hi ≤ p then (2, st == 1 && slope != 1) else if p < lo then (1, st == 2 && slope != 0) else (st, false)

/-- Follow every LEVEL entry of a capture over a tick. -/
def levelTick (s : State) (m d i : Nat) (b : Block) (c : ChTick) : State :=
  [false, true].foldl (fun (s : State) (stB : Bool) =>
    ((capEntries b stB).zipIdx.filter (fun e => e.1.headD 0 == 1)).foldl (fun (s : State) (e : List Int × Nat) =>
      let ix := e.2 + 4 * b2n stB
      c.frames.foldl (fun (s : State) (u : Nat × List Smp) =>
        let (st, fire) := levelUnit e.1 ((instrRun s d i).cap.levels.getD ix 0) (u.2.getD (e.1.getD 4 0).toNat noSmp)
        let s := onInstr s d i (fun r => { r with cap := { r.cap with levels := r.cap.levels.set ix st } })
        if fire then iCount (unitTrig s d i b 1 stB e.2 (u.1 : Int) m) d i .levelFires 1 else s) s) s) s

/-! ### Arrival and decision (R289, R290, R293) -/

def onCap (s : State) (d i : Nat) (f : CapRun → CapRun) : State := onInstr s d i (fun r => { r with cap := f r.cap })
def capRun (s : State) (d i : Nat) : CapRun := (instrRun s d i).cap

/-- The oldest trigger that has reached a capture is queued, or counted as late or lost (R289). -/
def trigArrive (s : State) (d i : Nat) (b : Block) : State :=
  match (capRun s d i).arriving with
  | [] => s
  | t :: rest =>
    let s := onCap s d i (fun r => { r with arriving := rest })
    let s := iCount s d i (.triggers (t.entry + 4 * b2n t.stageB)) 1
    let e := (capEntries b t.stageB).getD t.entry []
    let n := s.plan.unitTick d b t.pos
    let lam := Plan.capDelay.lamS 4 s.plan d i b e
    let r := capRun s d i
    if n + lam < t.reached then iCount s d i .lateTrig 1
    -- of a sample tick before the capture's first one, it is never eligible (R290)
    else if n < r.decided then s
    else if 64 ≤ (r.queue.filter (fun x => x.stageB == t.stageB)).length then iCount s d i .queueLost 1
    else onCap s d i (fun r => { r with queue := r.queue ++ [t] })

/-- Order of decision: position, fraction, stage A first, list order (R289). -/
def trigBefore (a b : Trig) : Bool :=
  if a.pos != b.pos then decide (a.pos < b.pos)
  else if a.frac != b.frac then decide (a.frac < b.frac)
  else if a.stageB != b.stageB then !a.stageB
  else decide (a.entry < b.entry)
/-- Insert in order; equal triggers keep their order of arrival. -/
def trigInsert (t : Trig) : List Trig → List Trig
  | [] => [t]
  | x :: r => if trigBefore t x then t :: x :: r else x :: trigInsert t r
def trigSort (l : List Trig) : List Trig := l.foldl (fun (a : List Trig) t => trigInsert t a) []

/-- Accept a trigger with the stage B position of its sequence, if any (R290, R293). -/
def capAccept (s : State) (d i : Nat) (b : Block) (a : Trig) (bt : Option Trig) : State :=
  let t := match bt with | some x => (if b.is 17 1 then x else a) | none => a
  let delta : Int := match bt with | some x => x.pos - a.pos | none => 0
  let s := onCap s d i (fun r => { r with acc := some (t, delta), cand := none,
                                          holdPos := if b.is 18 1 then t.pos + (b.nat 19 : Int) else r.holdPos, holdN := if b.is 18 2 then b.nat 19 else 0 })
  let s := iCount s d i .accepted 1
  let s := match b.nat? 26 with | some ch => publish s ch 3 (causeId 0x09 i) d | none => s
  timeTrig s s.time.tick64 7 (fun dd e => dd == d && e.getD 1 0 == (i : Int)) none t.time t.holdover

/-- One trigger at its decision. -/
def decideTrig (s : State) (d i : Nat) (b : Block) (t : Trig) : State :=
  let seq := b.is 15 1
  -- a candidate whose window has passed expires first (R290)
  let s := match (capRun s d i).cand with
    | some a => if a.pos + (b.nat 16 : Int) < t.pos then iCount (onCap s d i (fun r => { r with cand := none, resume := a.pos + (b.nat 16 : Int) + 1 })) d i .seqExpired 1 else s
    | none => s
  let r := capRun s d i
  if t.stageB then
    match r.cand with
    | some a => if a.pos < t.pos ∨ (a.pos = t.pos ∧ a.frac ≤ t.frac) then capAccept s d i b a (some t) else s
    | none => s
  else if seq && r.cand.isSome then iCount s d i .seqIgnored 1
  else if r.phase = .noSegment then iCount s d i .noSegment 1
  else if r.phase ≠ .filling ∨ r.acc.isSome ∨ t.pos < r.arm ∨ t.pos < r.resume then s
  else if b.is 18 1 ∧ t.pos < r.holdPos then iCount (onCap s d i (fun r => { r with holdSkipped := satAdd r.holdSkipped 1 (2 ^ 32 - 1) })) d i .holdoffSkipped 1
  else if b.is 18 2 ∧ 0 < r.holdN then iCount (onCap s d i (fun r => { r with holdN := r.holdN - 1, holdSkipped := satAdd r.holdSkipped 1 (2 ^ 32 - 1) })) d i .holdoffSkipped 1
  else if seq then onCap s d i (fun r => { r with cand := some t })
  else capAccept s d i b t none

/-- Is the decision of the next sample tick due: has device tick d(n) ended (R289)? -/
def decideDue (s : State) (d i : Nat) (b : Block) : Bool := decide ((capRun s d i).decided + s.plan.capDelay 4 d i b < s.time.tick64)

/-- Decide the triggers of the next sample tick. -/
def capDecide (s : State) (d i : Nat) (b : Block) : State :=
  let n := (capRun s d i).decided
  let stop := s.plan.firstUnit d b ((n : Int) + 1)
  let mine := trigSort ((capRun s d i).queue.filter (fun t => decide (t.pos < stop)))
  let s := onCap s d i (fun r => { r with queue := r.queue.filter (fun t => !decide (t.pos < stop)), decided := n + 1 })
  let s := mine.foldl (fun (s : State) (t : Trig) => decideTrig s d i b t) s
  match (capRun s d i).cand with
  | some a => if a.pos + (b.nat 16 : Int) < stop then iCount (onCap s d i (fun r => { r with cand := none, resume := a.pos + (b.nat 16 : Int) + 1 })) d i .seqExpired 1 else s
  | none => s

/-! ### Records (R285, R291, R300) -/

/-- The header of a record (Table 10-4). -/
def capHeader (p : Plan) (d i : Nat) (b : Block) (r : CapRun) (t : Trig) (delta first last : Int) (trunc : Bool) : Fields :=
  let g := capGeom p d i b
  let inSpan := fun (x : Nat) => decide (first ≤ (x : Int)) && decide ((x : Int) ≤ last)
  let ts := r.units.filter (fun c => c.frames.any (fun e => inSpan e.1))
  let valid := (ts.map (fun c => ((c.frames.filter (fun e => inSpan e.1)).map (fun (e : Nat × List Smp) => (e.2.filter (fun x => x.ok)).length)).foldl (· + ·) 0)).foldl (· + ·) 0
  let fl := r10Flags (ts.foldl (fun (a : Nat) c => a ||| c.flags) 0)
  let fl := if t.holdover && !fl.testBit 4 then fl + 16 else fl
  let short := decide (t.pos - (b.nat 9 : Int) < first)
  [(1, 9), (1, 1), (2, i), (1, (b.word? 3).getD 0), (1, t.typ), (2, fl % 64 + 64 * b2n short + 128 * b2n trunc + 256 * b2n t.fracValid),
   (8, ofSigned 64 t.pos), (4, t.frac), (12, ct96 t.time), (8, ofSigned 64 first), (8, ofSigned 64 last), (4, r.seq), (2, r.seg), (2, 1), (8, valid),
   (8, (last - first + 1).toNat * capNch b), (4, (ts.filter (fun c => c.flags.testBit 18)).length), (4, ofSigned 32 delta), (8, g.units), (4, capNch b), (1, b.nat 22), (1, b.nat 23), (2, 0),
   (8, g.tickOff), (8, g.rawOff), (8, g.validOff), (8, g.envOff), (8, g.pwrOff), (8, g.bytes), (4, r.holdSkipped), (12, 0)]

/-- Runs of consecutive slots of a span of units: first unit, slot, count. -/
def spanRuns (units : Nat) (first last : Int) : List (Nat × Nat × Nat) :=
  let n := (last - first + 1).toNat
  let f := first.toNat
  let s0 := f % units
  if s0 + n ≤ units then [(f, s0, n)] else [(f, s0, units - s0), (f + (units - s0), 0, n - (units - s0))]

/-- The UNIT field of a packet whose bytes start at byte `off` of a region of a record from unit `first` on (Table 11-2): the first unit, block or tick in them. -/
def capUnitAt (p : Plan) (d i : Nat) (b : Block) (region : Nat) (first : Int) (off : Nat) : Nat :=
  let g := capGeom p d i b
  let n := capNch b
  -- the first one at or after `lo` in a slot
  let at' := fun (lo slot cap : Nat) => lo + (slot + cap - lo % Nat.max 1 cap) % Nat.max 1 cap
  let x0 := first.toNat
  let bits := capBits p d b
  let slotOf := fun (perUnit bit : Nat) => if bit ≤ x0 % Nat.max 1 g.units * perUnit ∧ x0 % Nat.max 1 g.units * perUnit < bit + 8 then x0 else at' x0 (bit / Nat.max 1 perUnit) g.units
  match region with
  | 0 => x0
  | 1 => at' (p.unitTick d b first).toNat (off / 16) g.ticks
  | 2 => slotOf bits (8 * off)
  | 3 => if b.is 3 0 then slotOf bits (8 * off * 256) else slotOf n (8 * off)
  | 4 => at' (x0 / 2 ^ b.nat 22) (off / Nat.max 1 (n * envBytes p d b)) g.envs
  | _ => at' (x0 / 2 ^ b.nat 23) (off / Nat.max 1 (n * 8)) g.pwrs

/-- Pieces of a region that follow one another without a gap, as one: offset and bytes. -/
def joinPieces (l : List (Nat × List Byte)) : List (Nat × List Byte) :=
  l.foldl (fun (a : List (Nat × List Byte)) (x : Nat × List Byte) =>
    match a.getLast? with
    | some y => if y.1 + y.2.length = x.1 then a.dropLast ++ [(y.1, y.2 ++ x.2)] else a ++ [x]
    | none => [x]) []

/-- Fields of little-endian entries read back, each element in its own width, as a stream sends them. -/
def swapBytes (w : Nat) (l : List Byte) : List Byte := (List.range (ceilDiv l.length w)).flatMap (fun i => (sliceL l (i * w) w).reverse)

/-- Packets of a closed record in the order of R300: each region's bytes fill packets as far as they follow one another, for a packet names one region and one
offset (R311, R313). -/ -- DEDUCED, notes/assumptions/168.md
def capStream (s : State) (d i k : Nat) (b : Block) (r : CapRun) (hdr : Fields) (first last : Int) : State :=
  let p := s.plan
  let g := capGeom p d i b
  let base := r.seg * g.bytes
  let key := capKey d i
  let rd := fun (off n : Nat) => (objGet s key (base + off) n).map (fun x => x.1)
  let fl := (hdr.getD 5 (2, 0)).2 % 64
  let tick := (r.units.getLast?.map (fun c => c.tick)).getD s.time.tick64
  let n := capNch b
  let ticks := r.units.filter (fun c => c.frames.any (fun e => decide (first ≤ (e.1 : Int)) && decide ((e.1 : Int) ≤ last)))
  let runs := spanRuns g.units first last
  let bits := capBits p d b
  let bitP := fun (off bpu : Nat) => runs.map (fun (x : Nat × Nat × Nat) =>
    let lo := x.2.1 * bpu / 8
    let hi := ceilDiv ((x.2.1 + x.2.2) * bpu) 8
    (lo, rd (off + lo) (hi - lo)))
  let validP := if g.validOff = 0 then [] else if b.is 3 0 then runs.map (fun (x : Nat × Nat × Nat) =>
      let lo := x.2.1 * bits / 256 / 8
      let hi := ceilDiv (ceilDiv ((x.2.1 + x.2.2) * bits) 256) 8
      (lo, rd (g.validOff + lo) (hi - lo))) else bitP g.validOff n
  let blkP := fun (off cap kk sz w : Nat) => if off = 0 then [] else
    let b0 := first.toNat / 2 ^ kk
    let b1 := last.toNat / 2 ^ kk
    (List.range (b1 + 1 - b0)).map (fun (j : Nat) => let o := (b0 + j) % cap * n * sz; (o, swapBytes w (rd (off + o) (n * sz))))
  let regions : List (Nat × List (Nat × List Byte)) :=
    [(0, [(0, hdr.be ++ List.replicate (4096 - 160) 0)]), (1, ticks.map (fun c => (16 * (c.tick % g.ticks), (tickEntry c).be))), (2, bitP g.rawOff bits), (3, validP),
     (4, blkP g.envOff g.envs (b.nat 22) (envBytes p d b) (envElem p d b).2), (5, blkP g.pwrOff g.pwrs (b.nat 23) 8 4)]
  let all := regions.flatMap (fun e => (joinPieces e.2).map (fun x => (e.1, x)))
  all.zipIdx.foldl (fun (s : State) (e : (Nat × Nat × List Byte) × Nat) =>
    let region := e.1.1
    let off := e.1.2.1
    sendCapture s d k r.seq i r.seq region fl tick (fun j => capUnitAt p d i b region first (off + j)) off e.1.2.2 (if e.2 + 1 = all.length then some (.record i r.seq) else none)) s

/-- Close the open record at LAST_UNIT (R291, R301). -/
def capClose (s : State) (d i : Nat) (b : Block) (trunc : Bool) : State :=
  let r := capRun s d i
  match r.acc with
  | none => s
  | some (t, delta) =>
    let want := t.pos + (b.nat 10 : Int) - 1
    let last := if trunc then (if want < r.lastUnit then want else r.lastUnit) else want
    let first := if t.pos - (b.nat 9 : Int) < r.arm then r.arm else t.pos - (b.nat 9 : Int)
    let hdr := capHeader s.plan d i b r t delta first last trunc
    let g := capGeom s.plan d i b
    let s := objPut s (capKey d i) (r.seg * g.bytes) hdr.le
    let stream := b.is 24 1
    let s := if stream then capStream s d i (b.nat 25) b r hdr first last else s
    let s := onCap s d i (fun r => { r with acc := none, cand := none, phase := .closed, seq := (r.seq + 1) % 2 ^ 32, holdSkipped := 0, gapFrom := some (last + 1),
                                            recs := r.recs ++ [⟨r.seq, r.seg, if stream then .streaming else .held, first⟩] })
    let s := iCount (iCount s d i .records 1) d i .truncated (b2n trunc)
    raiseTile s (iTile s d i 0) 10 0x0D i (.dome d)

/-- Has LAST_UNIT of the accepted record been written (R291)? -/
def closeDue (s : State) (d i : Nat) (b : Block) : Bool :=
  let r := capRun s d i
  match r.acc with
  | some (t, _) => decide (t.pos + (b.nat 10 : Int) - 1 ≤ r.lastUnit)
  | none => false

/-- The writer takes the next segment: at once, over a record under OVERWRITE, or not at all under STOP (R292, R294). -/
def takeSegment (s : State) (d i : Nat) (b : Block) : State :=
  let r := capRun s d i
  let next := (r.seg + 1) % Nat.max 1 (b.nat 11)
  if r.recs.any (fun x => x.seg == next) then
    if b.is 21 1 then
      let s := onCap s d i (fun r => { r with seg := next, phase := .arming, recs := r.recs.filter (fun x => x.seg != next) })
      raiseTile (iCount s d i .overwritten 1) (iTile s d i 0) 10 0x0F i (.dome d)
    else raiseTile (onCap s d i (fun r => { r with phase := .noSegment })) (iTile s d i 0) 10 0x0E i (.dome d)
  else onCap s d i (fun r => { r with seg := next, phase := .arming })

/-- After a close the writer moves on, or waits under MANUAL (R292). -/
def capAdvance (s : State) (d i : Nat) (b : Block) : State :=
  if (capRun s d i).phase ≠ .closed then s
  else if b.is 20 1 then onCap s d i (fun r => { r with phase := .manual })
  else takeSegment s d i b

/-- A release may free the segment that a stopped writer waits for (R294). -/
def segFreed (s : State) (d i : Nat) (b : Block) : State :=
  let r := capRun s d i
  let next := (r.seg + 1) % Nat.max 1 (b.nat 11)
  if r.phase = .noSegment ∧ !(r.recs.any (fun x => x.seg == next)) then onCap s d i (fun r => { r with phase := .freed, freedAt := s.time.tick64 }) else s
/-- The freed segment is armed at the sample tick that the writer writes in the device tick after the release (R294). -/
def capRearm (s : State) (d i : Nat) (b : Block) : State :=
  if (capRun s d i).phase = .freed ∧ (capRun s d i).freedAt < s.time.tick64 then onCap s d i (fun r => { r with phase := .arming, seg := (r.seg + 1) % Nat.max 1 (b.nat 11) }) else s

/-- Everything that has fallen due before the units of a new device tick: arrivals, decisions, the close and the move to the next segment. -/
def capSettle (s : State) (d i : Nat) (b : Block) : State :=
  let s := ((capRun s d i).arriving).foldl (fun (s : State) _ => trigArrive s d i b) s
  let n := (capRun s d i).decided
  let s := (List.range (s.time.tick64 - n)).foldl (fun (s : State) _ => if decideDue s d i b then capDecide s d i b else s) s
  let s := if closeDue s d i b then capClose s d i b false else s
  capRearm (capAdvance s d i b) d i b

/-- A change that closes the open record early; the capture, as the plan now defines it, arms again from the running tick's sample tick on (R301). A writer that filled
goes on in its segment, one that had stopped takes the next if it may. -/
def capChange (s : State) (d i : Nat) (b : Block) : State :=
  let s := capClose s d i b true
  let nb := (s.plan.instr d i).getD b
  let s := onCap s d i (fun r => { r with arriving := [], queue := [], cand := none, levels := List.replicate 8 0, lateUnit := none,
                                          holdPos := if b.is 18 1 ∧ nb.is 18 1 then r.holdPos + (nb.nat 19 : Int) - (b.nat 19 : Int) else 0, holdN := if nb.is 18 2 then r.holdN else 0 })
  match (capRun s d i).phase with
  | .arming => s
  | .filling => onCap s d i (fun r => { r with phase := .arming, units := [] })
  | .freed => onCap s d i (fun r => { r with phase := .arming, seg := (r.seg + 1) % Nat.max 1 (nb.nat 11) })
  | .closed => takeSegment s d i nb
  | .manual => takeSegment s d i nb
  | .noSegment =>
    let next := ((capRun s d i).seg + 1) % Nat.max 1 (nb.nat 11)
    if nb.is 21 0 ∧ (capRun s d i).recs.any (fun x => x.seg == next) then s else takeSegment s d i nb

/-! ### The instrument in a device tick -/

/-- Does one of the parts `out` write channel offset `ch` of a unit? At INPUT part k of K holds the granules g with g mod K = k (R114, R281). -/
def capPartOf (s : State) (d i : Nat) (b : Block) (out : List Nat) (unit ch : Nat) : Bool :=
  if capChan b then chanShed s d i out (capNch b) ch
  else if b.is 3 0 then
    let bits := capBits s.plan d b
    let k := iParts s d i
    let lo := unit * bits / 256
    (List.range ((unit * bits + bits - 1) / 256 + 1 - lo)).any (fun g => out.contains ((lo + g) % k))
  else !out.isEmpty

/-- The tick as the capture writes it: units of shed and quarantined parts invalid, SHED and STALE set, PARTIAL where another part completed it; bit 18 marks a tick
that this capture shed (R298). -/
def capShed (s : State) (d i : Nat) (b : Block) (c : ChTick) : ChTick :=
  let shed := shedParts s d i
  let out := outParts s d i
  let own := unitFlags s d i
  if out.isEmpty then { c with flags := c.flags ||| (own &&& 131072) }
  else
    { c with flags := c.flags ||| (own &&& 133120) ||| (65536 * b2n (decide (out.length < iParts s d i))) ||| (262144 * b2n (!shed.isEmpty)),
             frames := c.frames.map (fun e => (e.1, e.2.mapIdx (fun (x : Nat) (y : Smp) => if capPartOf s d i b out e.1 x then { y with ok := false } else y))) }

/-- Bytes of consecutive fields of one width that start at bit `bit`. -/
def packBits (bit w : Nat) (vs : List Nat) : List Byte :=
  let n := vs.foldl (fun (a : Nat × Nat) v => (a.1 + v * 2 ^ a.2, a.2 + w)) (0, bit % 8)
  leBytes (ceilDiv n.2 8) n.1

/-- Continuous recording of one tick (R297). -/
def capCont (s : State) (d i k : Nat) (b : Block) (c : ChTick) (ts : List ChTick) : State :=
  let p := s.plan
  let fl := r10Flags c.flags
  let n := capNch b
  let bits := capBits p d b
  let u := (c.frames.head?.map (fun e => e.1)).getD 0
  let flat := c.frames.flatMap (fun (e : Nat × List Smp) => (List.range n).map (fun ch => e.2.getD ch noSmp))
  let send := fun (s : State) (region off : Nat) (unit : Nat → Nat) (bytes : List Byte) => sendCapture s d k c.tick i 0 region fl c.tick unit off bytes none
  let fromUnit := fun (per j : Nat) => Nat.max u (8 * j / Nat.max 1 per)
  let s := send s 1 (16 * c.tick) (fun _ => c.tick) (tickEntry c).be
  let raw := u * bits / 8
  let s := send s 2 raw (fun j => fromUnit bits (raw + j)) (packBits (u * bits) (bits / n) (flat.map (fun x => (capWord p d b x).2)))
  let s := match b.word? 3 with
    | some 0 =>
      let grans := (c.frames.map (fun e => e.1 * bits / 256)).eraseDups
      let ok := grans.map (fun g => b2n (c.frames.all (fun e => !(e.1 * bits / 256 == g) || (e.2.getD 0 noSmp).ok)))
      let at' := grans.headD 0 / 8
      send s 3 at' (fun j => fromUnit bits (256 * (at' + j))) (packBits (grans.headD 0) 1 ok)
    | some 4 => s
    | some 5 => s
    | _ => let at' := u * n / 8; send s 3 at' (fun j => fromUnit n (at' + j)) (packBits (u * n) 1 (flat.map (fun x => b2n x.ok)))
  let ends := fun (kk : Nat) => if kk = 0 then [] else (c.frames.filter (fun e => (e.1 + 1) % 2 ^ kk == 0)).map (fun (e : Nat × List Smp) => e.1 / 2 ^ kk)
  let blocks := fun (s : State) (region kk sz : Nat) (one : List (List Smp) → Fields) =>
    (joinPieces ((ends kk).map (fun be => (be * n * sz, (one (blockUnits ts kk be)).be)))).foldl (fun (s : State) (x : Nat × List Byte) =>
      send s region x.1 (fun j => (x.1 + j) / Nat.max 1 (n * sz)) x.2) s
  blocks (blocks s 4 (b.nat 22) (envBytes p d b) (envBlock p d b)) 5 (b.nat 23) 8 (pwrBlock b)

/-- One tick of a RECORDER. -/
def capTick (s : State) (m d i : Nat) (b : Block) (c0 : ChTick) : State :=
  let c := capShed s d i b c0
  let s := if c.flags.testBit 18 then iCount s d i .shedTicks 1 else s
  let first : Int := match c.frames.head? with | some e => e.1 | none => s.plan.firstUnit d b c.tick
  let last : Int := match c.frames.getLast? with | some e => e.1 | none => (capRun s d i).lastUnit
  if b.is 2 1 then
    let keep := (capRun s d i).units.filter (fun t => t.frames.any (fun e => decide (first ≤ (e.1 : Int) + 2 ^ 20)))
    let s := capCont s d i (b.nat 25) b c (keep ++ [c])
    onCap s d i (fun r => { r with units := keep ++ [c], lastUnit := last })
  else
    let s := levelTick s m d i b c
    let r := capRun s d i
    -- a segment starts to fill at its arm point (R292)
    let s :=
      if r.phase = .arming then
        let arm := match r.gapFrom with | some g => (if first < g then g else first) | none => first
        let gap := match r.gapFrom with | some g => (arm - g).toNat | none => 0
        let s := onCap s d i (fun r => { r with phase := .filling, arm := arm, units := [], gapFrom := none, acc := none })
        let s := objPut s (capKey d i) (r.seg * (capGeom s.plan d i b).bytes + 54) [0, 0]
        iCount s d i .gapUnits gap
      else s
    let r := capRun s d i
    let s :=
      if r.phase = .filling then
        let x := c.from r.arm
        let g := capGeom s.plan d i b
        let ts := (r.units ++ [x]).filter (fun t => t.frames.any (fun e => decide (last < (e.1 : Int) + g.units)))
        let s := onCap s d i (fun r => { r with units := ts })
        capWrite s d i r.seg b x ts
      else s
    -- what a part shed is written at the head of the next device tick (R298)
    if c.flags.testBit 18 then onCap s d i (fun r => { r with lateUnit := some last }) else onCap s d i (fun r => { r with lastUnit := last, lateUnit := none })

/-- A RECORDER at the end of device tick `m` (R280). -/
def capStep (s : State) (m d i : Nat) (b : Block) : State :=
  let s := if b.is 2 1 then s else capSettle s d i b
  let s := onCap s d i (fun r => match r.lateUnit with | some x => { r with lastUnit := x, lateUnit := none } | none => r)
  let cs := capInputs s m d i b
  let s := onInstr s d i (fun r => { r with inq := r.inq.filter (fun e => !decide (e.2.1 ≤ m)) })
  cs.foldl (fun (s : State) (c : ChTick) => capTick s m d i b c) s

/-! ### The commands -/

/-- A command on a TRIGGERED capture. -/
def onCapture (s : State) (dome instr : Nat) (f : Block → State → State) : Host.Outcome State Fault Refusal :=
  match s.plan.instr dome instr with
  | none => if 64 ≤ instr then .fault .noSuchUnit else .next s
  | some b => if iKind b = 8 ∧ b.is 2 0 then .next (f b s) else .next s

/-- TRIGGER_ARRIVE (R289). -/
def execTriggerArrive (dome instr : Nat) (s : State) : Host.Outcome State Fault Refusal :=
  onCapture s dome instr (fun b s => trigArrive s dome instr b)

/-- TRIGGER_DECIDE (R289): after every trigger that has reached the capture, the next sample tick is decided once its device tick d(n) has ended. -/
def execTriggerDecide (dome instr : Nat) (s : State) : Host.Outcome State Fault Refusal :=
  onCapture s dome instr (fun b s =>
    let s := ((capRun s dome instr).arriving).foldl (fun (s : State) _ => trigArrive s dome instr b) s
    if decideDue s dome instr b then capDecide s dome instr b else s)

/-- RECORD_CLOSE (R291). -/
def execRecordClose (dome instr : Nat) (s : State) : Host.Outcome State Fault Refusal :=
  onCapture s dome instr (fun b s => if closeDue s dome instr b then capClose s dome instr b false else s)

/-- SEGMENT_ADVANCE (R292). -/
def execSegmentAdvance (dome instr : Nat) (s : State) : Host.Outcome State Fault Refusal :=
  onCapture s dome instr (fun b s => capAdvance s dome instr b)

/-- SEGMENT_REARM (R294). -/
def execSegmentRearm (dome instr : Nat) (s : State) : Host.Outcome State Fault Refusal :=
  onCapture s dome instr (fun b s => capRearm s dome instr b)

/-- RECORD_STREAM_DONE (R300): records whose last packet has left are released. -/
def execRecordStreamDone (dome instr : Nat) (s : State) : Host.Outcome State Fault Refusal :=
  onCapture s dome instr (fun b s => segFreed (onCap s dome instr (fun r => { r with recs := r.recs.filter (fun x => x.stage != .sent) })) dome instr b)

end Sys2Proof.Machine
end

