-- ==== Sys2Proof/Machine/Stream.lean ====
section
/-! DEFINITION. Stream.lean: packets on the wire, RoCE acknowledgement, next-hop resolution and received Transit flows (R308, R317 to R333). -/
namespace Sys2Proof.Machine

/-! ### Frames (R308) -/

/-- One's complement of a 16-bit sum. -/
def not16 (x : Nat) : Nat := 65535 - x % 65536

/-- IP and UDP of one datagram of a stream; `id` is the IPv4 identification or the IPv6 flow label, which the spec leaves open. -/
def ipUdp (pb st : Block) (ecn id : Nat) (payload : List Byte) : List Byte :=
  let v6 := stV6 st
  let len := payload.length + 8
  let dst := ipBytes st 4
  let src := if v6 then ipBytes pb 7 else ipBytes pb 4
  let tos := st.nat 8 * 4 + ecn
  let udp0 := beBytes 2 (st.nat 6) ++ beBytes 2 (st.nat 7) ++ beBytes 2 len ++ [0, 0] ++ payload
  let pseudo := if v6 then src ++ dst ++ beBytes 4 len ++ [0, 0, 0, 17] else src.drop 12 ++ dst.drop 12 ++ [0, 17] ++ beBytes 2 len
  let ck := not16 (sum16 (pseudo ++ udp0))
  let udp := beBytes 2 (st.nat 6) ++ beBytes 2 (st.nat 7) ++ beBytes 2 len ++ beBytes 2 (if ck = 0 then 65535 else ck) ++ payload
  let ip :=
    if v6 then beBytes 4 (6 * 2 ^ 28 + tos * 2 ^ 20 + id % 2 ^ 20) ++ beBytes 2 len ++ [17, 64] ++ src ++ dst
    else
      let h := fun (c : Nat) => [0x45, BitVec.ofNat 8 tos] ++ beBytes 2 (len + 20) ++ beBytes 2 (id % 65536) ++ beBytes 2 0x4000 ++ [64, 17] ++ beBytes 2 c ++ src.drop 12 ++ dst.drop 12
      h (not16 (sum16 (h 0)))
  ip ++ udp

/-- The Ethernet frame of one UDP datagram of a stream. -/
def udpFrame (pb st : Block) (mac : Nat) (ecn id : Nat) (payload : List Byte) : List Byte :=
  let tag := match pb.nat? 10 with | some v => beBytes 2 0x8100 ++ beBytes 2 v | none => []
  let f := leBytes 6 mac ++ leBytes 6 (pb.nat 3) ++ tag ++ beBytes 2 (if stV6 st then 0x86DD else 0x0800) ++ ipUdp pb st ecn id payload
  let f := padTo 0 60 f
  f ++ leBytes 4 (crc32 f)

/-! ### RoCEv2 headers (R5, R321 to R323) -/

/-- Opcode of packet `j` of `np` of an RDMA WRITE on a reliable connection. -/ -- PRESUMED from RoCEv2, notes/assumptions/159.md
def roceOp (j np : Nat) (imm : Bool) : Nat :=
  if np ≤ 1 then (if imm then 0x0B else 0x0A) else if j = 0 then 0x06 else if j + 1 < np then 0x07 else if imm then 0x09 else 0x08
/-- BTH: opcode, no padding, partition key 0xFFFF, destination queue pair and PSN; the solicited-event, migration and acknowledge-request bits are those of `free`. -/
def roceBth (op qpn psn free : Nat) : List Byte :=
  beBytes 1 op ++ beBytes 1 (64 * (free % 4)) ++ beBytes 2 0xFFFF ++ [0] ++ beBytes 3 qpn ++ beBytes 1 (128 * (free / 4 % 2)) ++ beBytes 3 psn
/-- ICRC of a packet whose IP and UDP bytes and BTH are `l`, without the ICRC itself: 8 bytes of ones before it, and the fields that routers change as ones. -/
def roceIcrc (v6 : Bool) (l : List Byte) : Nat :=
  let ones := if v6 then [1, 2, 3, 7, 46, 47, 52] else [1, 8, 10, 11, 26, 27, 32]
  let l := l.mapIdx (fun (k : Nat) (x : Byte) => if ones.contains k then 255 else if v6 && k == 0 then x ||| 15 else x)
  crc32 (List.replicate 8 255 ++ l)
/-- The frame of packet `j` of a message: BTH, RETH in its first packet, the immediate in its last, its slice of the message, and the ICRC (R321, R323). -/
def writeFrame (pb st : Block) (mac : Nat) (id free : Nat) (m : RoceMsg) (j : Nat) : List Byte :=
  let pmtu := st.nat 24
  let last := decide (m.npkts ≤ j + 1)
  let immed := match m.imm with | some v => if last then beBytes 4 v else [] | none => []
  let body := roceBth (roceOp j m.npkts m.imm.isSome) (st.nat 19) ((m.psn + j) % 2 ^ 24) free ++
    (if j = 0 then beBytes 8 m.addr ++ beBytes 4 (st.nat 20) ++ beBytes 4 m.pkt.bytes.length else []) ++ immed ++ sliceL m.pkt.bytes (j * pmtu) pmtu
  let ecn := 2 * b2n (st.flag 30)
  let l := ipUdp pb st ecn id (body ++ [0, 0, 0, 0])
  let icrc := roceIcrc (stV6 st) (l.take (l.length - 4))
  udpFrame pb st mac ecn id (body ++ leBytes 4 icrc)

/-- Next-hop address of a stream. -/
def nextHop (st : Block) (r : StreamRun) : Nat := match st.nat? 3 with | some m => m | none => r.mac

/-! ### Transmission (R317, R319, R322, R324, R325) -/

/-- Fill a token bucket for a time at RATE, up to BURST (R317). -/
def fillTokens (st : Block) (elapsedFs : Nat) (r : StreamRun) : StreamRun :=
  { r with tokens := Nat.min (st.nat 12 * tokenByte) (r.tokens + st.nat 11 * elapsedFs) }

/-- Send a UDP or VDIF packet. -/
def sendUdp (s : State) (d k : Nat) (st : Block) (p : Pkt) : State :=
  match s.plan.port (st.nat 2) with
  | none => s
  | some pb =>
    let (id, s) := drawNat s
    let s := transmit s (st.nat 2) (.frame (udpFrame pb st (nextHop st (streamRun s d k)) 0 id p.bytes))
    packetGone (onStream (meterEgress s d p.wire) d k (fun r => { r with pkts := (r.pkts + 1) % 2 ^ 64, bytes := (r.bytes + p.wire) % 2 ^ 64 })) d p.ends false false

/-- Offset at which a message of `n` bytes goes, and the units it takes of the ring with what it skips (R322). -/
def roceSlot (st : Block) (r : StreamRun) (n : Nat) : Nat × Nat :=
  let len := ceilDiv n 64 * 64
  if st.nat 22 < r.wofs + n then (0, (len + (st.nat 22 - r.wofs)) / 64) else (r.wofs, len / 64)

/-- Send packets of a message. -/
def roceSend (s : State) (d k : Nat) (st : Block) (m : RoceMsg) (pkts : List Nat) : State :=
  match s.plan.port (st.nat 2) with
  | none => s
  | some pb => pkts.foldl (fun (s : State) (j : Nat) =>
      let (id, s) := drawNat s
      let (free, s) := drawNat s
      transmit s (st.nat 2) (.frame (writeFrame pb st (nextHop st (streamRun s d k)) id free m j))) s
/-- Wire bytes of packet `j` of a message: its slice and overhead, RETH in the first, the immediate in the last (R323). -/
def roceWire (p : Plan) (st : Block) (m : RoceMsg) (j : Nat) : Nat :=
  (sliceL m.pkt.bytes (j * st.nat 24) (st.nat 24)).length + (if stV6 st then 102 else 82) + stTag p st + (if j = 0 then 16 else 0) + (if m.npkts ≤ j + 1 then 4 * b2n m.imm.isSome else 0)

/-- Send a packet of a ROCE stream as a new message (R322). -/
def sendRoce (s : State) (d k : Nat) (st : Block) (p : Pkt) : State :=
  let r := streamRun s d k
  let n := p.bytes.length
  let (off, units) := roceSlot st r n
  let next := off + ceilDiv n 64 * 64
  let np := Nat.max 1 (ceilDiv n (st.nat 24))
  let imm := if p.imm then some (next / 64 % 2 ^ 32) else none
  let addr := (st.nat 21 + off) % 2 ^ 64
  let m : RoceMsg := { pkt := p, psn := r.psn, npkts := np, addr := addr, imm := imm, retries := List.replicate np 0, again := [] }
  let s := onStream (meterEgress s d p.wire) d k (fun r => { r with psn := (r.psn + np) % 2 ^ 24, wofs := next, filled := r.filled + units, unacked := r.unacked ++ [m], pkts := (r.pkts + 1) % 2 ^ 64, bytes := (r.bytes + p.wire) % 2 ^ 64 })
  packetGone (roceSend s d k st m (List.range np)) d p.ends false true

/-- Does the remote ring lack room for a packet under CREDIT = HOST (R325)? -/
def creditShort (st : Block) (r : StreamRun) (p : Pkt) : Bool := st.is 1 2 && st.is 29 1 && decide (st.nat 22 / 64 < r.filled + (roceSlot st r p.bytes.length).2)

/-- A packet leaves: as a message of a queue pair, or as a datagram. -/
def sendPkt (s : State) (d k : Nat) (st : Block) (p : Pkt) : State := if st.is 1 2 then sendRoce s d k st p else sendUdp s d k st p

/-- The head of the spill reads back poisoned: it is dropped and counted (R319). -/
def dropPoisoned (s : State) (d k : Nat) (p : Pkt) (rest : List Pkt) : State :=
  let s := onStream s d k (fun r => { r with spill := rest, spillPoison := r.spillPoison + 1 })
  match p.ends with
  | some (.read fn tag hs n) =>
    readMoved { s with capReads := s.capReads.map (fun c => if c.req.fn == fn && c.req.tag == tag then { c with bytes := c.bytes - n, failed := c.failed ++ hs.map (fun h => (h, 9)) } else c) } fn tag []
  | e => packetGone s d e false false

/-- The next packets of a stream, if they may leave: those of a message to be sent again, or one that RATE has room for, or the head of the spill; they take their wire bytes
from the bucket (R317, R319, R324, R325). -/
def sendNext (s : State) (d k : Nat) (st : Block) (poisoned : Bool) : State :=
  let r := streamRun s d k
  if r.error || !(portRun s (st.nat 2)).linkUp then s
  else
    match r.unacked.find? (fun m => !m.again.isEmpty) with
    | some m =>
      let w := (m.again.map (roceWire s.plan st m)).foldl (· + ·) 0
      if r.tokens < w * tokenByte then s
      else
        let s := onStream (meterEgress s d w) d k (fun r => { r with tokens := r.tokens - w * tokenByte, bytes := (r.bytes + w) % 2 ^ 64, unacked := r.unacked.map (fun x => if x.psn = m.psn then { x with again := [] } else x) })
        roceSend s d k st m m.again
    | none =>
      match r.go with
      | p :: rest =>
        if r.tokens < p.wire * tokenByte || creditShort st r p then s
        else sendPkt (onStream s d k (fun r => { r with go := rest, goOld := r.goOld - 1, tokens := r.tokens - p.wire * tokenByte })) d k st p
      | [] =>
        match r.spill with
        | [] => s
        | p :: rest =>
          if poisoned then dropPoisoned s d k p rest
          else if r.tokens < p.wire * tokenByte || creditShort st r p then s
          else sendPkt (onStream s d k (fun r => { r with spill := rest, tokens := r.tokens - p.wire * tokenByte })) d k st p

/-- PACKET_TRANSMIT (R317): the bucket fills for the time since its last command, and one packet leaves if it may. `poisoned` says that the head of
the spill reads back poisoned (R319). -/
def execPacketTransmit (dome stream elapsedFs : Nat) (poisoned : Bool) (s : State) : Host.Outcome State Fault Refusal :=
  match s.plan.stream dome stream with
  | none => if 64 ≤ stream then .fault .noSuchUnit else .next s
  -- a dome in reset sends nothing further (R320), and a suspended one no packet (R27)
  | some st => if suspended s dome || ((domeRun s dome).drain.bind (fun x => x.resetTick)).isSome then .next s else .next (sendNext (onStream s dome stream (fillTokens st elapsedFs)) dome stream st poisoned)

/-! ### Acknowledgement (R324) -/

/-- Does a 24-bit PSN lie at or before another? -/
def psnLe (a b : Nat) : Bool := decide ((b + 2 ^ 24 - a % 2 ^ 24) % 2 ^ 24 < 2 ^ 23)

/-- Remove the messages that an acknowledgement of `psn` covers. -/
def roceAcked (s : State) (d k psn : Nat) : State :=
  let r := streamRun s d k
  let done := r.unacked.takeWhile (fun m => psnLe (m.psn + m.npkts - 1) psn)
  let s := onStream s d k (fun r => { r with unacked := r.unacked.drop done.length })
  done.foldl (fun (s : State) (m : RoceMsg) => packetGone s d m.pkt.ends true true) s

/-- The queue pair enters ERROR: what is queued is dropped, the dome is told, and reads into the stream end, with the stacks failed whose bytes were not all
acknowledged (R324, R326). -/
def roceError (s : State) (d k : Nat) : State :=
  let r := streamRun s d k
  let s := onStream s d k (fun r => { r with error := true, inbox := [], go := [], goOld := 0, spill := [] })
  let s := (r.go ++ r.spill).foldl (fun (s : State) (p : Pkt) => dropPkt s d k p) s
  let s := (r.unacked.map (fun m => m.pkt.ends) ++ r.inbox.map (fun x => x.ends)).foldl (fun (s : State) e => packetLost s d e true) s
  let s := noticeDome s d 0x8005 8 (causeId 0x02 k) k
  (s.capReads.filter (fun c => c.dome == d && c.stream == k)).foldl (fun (s : State) (c : CapRead) => readDone s c) s

/-- Retransmit packets of the unacknowledged messages: those for which `again` holds, by message and packet. A packet that RETRY retransmissions have not
brought over puts the queue pair in ERROR (R324). -/
def roceAgain (s : State) (d k : Nat) (st : Block) (again : RoceMsg → Nat → Bool) : State :=
  let pick := fun (m : RoceMsg) => (List.range m.npkts).filter (again m)
  let l := (streamRun s d k).unacked
  if l.any (fun m => (pick m).any (fun j => decide (st.nat 26 ≤ m.retries.getD j 0))) then roceError s d k
  else
    let one := fun (m : RoceMsg) => ({ m with retries := m.retries.mapIdx (fun (j : Nat) (x : Nat) => x + b2n (again m j)), again := (List.range m.npkts).filter (fun j => again m j || m.again.contains j) } : RoceMsg)
    onStream s d k (fun r => { r with retx := r.retx + (l.map (fun m => (pick m).length)).foldl (· + ·) 0, unacked := r.unacked.map one })
/-- Is packet `j` of a message the one of a PSN, or one at or after it? -/
def isPsn (psn : Nat) (m : RoceMsg) (j : Nat) : Bool := (m.psn + j) % 2 ^ 24 == psn % 2 ^ 24
def fromPsn (psn : Nat) (m : RoceMsg) (j : Nat) : Bool := psnLe psn (m.psn + j)
/-- Does an unacknowledged message hold a PSN? -/
def holdsPsn (r : StreamRun) (psn : Nat) : Bool := r.unacked.any (fun m => (List.range m.npkts).any (isPsn psn m))

/-- A command on a ROCE stream. -/
def onRoce (s : State) (dome stream : Nat) (f : Block → State → State) : Host.Outcome State Fault Refusal :=
  match s.plan.stream dome stream with
  | none => if 64 ≤ stream then .fault .noSuchUnit else .next s
  | some st => if st.is 1 2 ∧ !(streamRun s dome stream).error then .next (f st s) else .next s

/-- ROCE_ACK_RX (R324). -/
def execRoceAckRx (dome stream psn : Nat) (s : State) : Host.Outcome State Fault Refusal := onRoce s dome stream (fun _ s => roceAcked s dome stream psn)

/-- ROCE_NAK_RX (R324): a sequence error sends again all from the PSN that it names on, RNR that PSN alone. -/
def execRoceNakRx (dome stream psn : Nat) (rnr : Bool) (s : State) : Host.Outcome State Fault Refusal :=
  onRoce s dome stream (fun st s =>
    if holdsPsn (streamRun s dome stream) psn then roceAgain s dome stream st (if rnr then isPsn psn else fromPsn psn) else s)

/-- ROCE_CNP_RX (R324). -/
def execRoceCnpRx (dome stream : Nat) (s : State) : Host.Outcome State Fault Refusal :=
  onRoce s dome stream (fun _ s => onStream s dome stream (fun r => { r with cnpRx := (r.cnpRx + 1) % 2 ^ 64 }))

/-- ROCE_RTO_EXPIRY (R324). -/
def execRoceRtoExpiry (dome stream psn : Nat) (s : State) : Host.Outcome State Fault Refusal :=
  onRoce s dome stream (fun st s =>
    if holdsPsn (streamRun s dome stream) psn then
      roceAgain (onStream s dome stream (fun r => { r with timeouts := (r.timeouts + 1) % 2 ^ 64 })) dome stream st (isPsn psn)
    else s)

/-- ARP_REFRESH (R308): the agent's refresh of a next-hop address; none where it failed. -/
def execArpRefresh (dome stream : Nat) (mac : Option (BitVec 48)) (s : State) : Host.Outcome State Fault Refusal :=
  match s.plan.stream dome stream with
  | none => if 64 ≤ stream then .fault .noSuchUnit else .next s
  | some st =>
    if (st.nat? 3).isSome then .next s
    else
      .next (onStream s dome stream (fun r => match mac with
        | some m => { r with mac := m.toNat, resolved := true }
        | none => { r with arpFail := (r.arpFail + 1) % 2 ^ 64 }))

/-! ### Received Transit flows (R330 to R333) -/

/-- Is the member that sends a flow excluded (R340), or a lead that is lost (R342)? Of an instrument that has gone it is the member at the link's other end. -/
def flowExcluded (s : State) (port : Nat) (sp : FlowSpec) : Bool :=
  let from' := match flowHome s sp with
    | some x => some x
    | none => (s.plan.find .apertureLink devDome port).map (fun b => (b.nat 0, b.nat 2))
  match from' with
  | none => false
  | some (a, x) =>
    let r := apOf s a
    r.members.any (fun m => m.serial == x && m.excluded) || (r.leadLost && (s.plan.aperture a).any (fun b => apLead b == x))

/-- TRANSIT_GRANULE_RX (R333): bytes of a flow-tick from an offset on, in whole granules. `spec` is the flow's entry of the schedule, where none is known yet. -/
def execTransitGranuleRx (port flow : Nat) (spec : FlowSpec) (sendTick offset : Nat) (bytes : List Byte) (invalid : Bool) (s : State) :
    Host.Outcome State Fault Refusal :=
  if 128 ≤ port ∨ 65536 ≤ flow then .fault .noSuchUnit else .next (takeGranules s port flow spec sendTick offset bytes invalid)

/-- A byte of a flow-tick, if its granule has arrived. -/
def flowByte (g : Tab Nat (List Byte)) (pos : Nat) : Option Byte := (tget g (pos / 32)).map (fun b => b.getD (pos % 32) 0)

/-- Sample `k` of a flow-tick's data (R328, R333). -/
def flowSample (sp : FlowSpec) (g : Tab Nat (List Byte)) (k : Nat) : Smp × Bool :=
  let at0 := 32 * sp.recs + k * sp.bps
  let bs := (List.range sp.bps).map (fun i => flowByte g (at0 + i))
  if bs.any (fun b => b.isNone) then ({ re := 0, im := 0, ok := false, fl := 0 }, true)
  else
    let l := bs.filterMap id
    if sp.bps = 1 then
      let x := (l.headD 0).toNat
      let bad := x % 16 == 8 || x / 16 == 8
      (if bad then { re := 0, im := 0, ok := false, fl := 0 } else { re := toSigned 4 x, im := toSigned 4 (x / 16), ok := true, fl := 0 }, false)
    else
      let f := (l.getD 8 0).toNat
      ({ re := toSigned 32 (ofLe (l.take 4)), im := toSigned 32 (ofLe (sliceL l 4 4)), ok := f.testBit 0, fl := 256 * b2n (f.testBit 1) }, false)
/-- Granules of a flow-tick: its tick records, and the data of as many feeds, padded (R328). -/
def flowGranules (sp : FlowSpec) : Nat := ceilDiv (32 * sp.recs + sp.frames * sp.nch * sp.bps * Nat.max 1 sp.recs) 32
/-- The inputs that a flow brings: as many as it has tick records, those that other members hold, from its first one on (log entry 47). -/
def flowInputs (s : State) (sp : FlowSpec) : List Nat :=
  let base := sp.pos / 4096 * 4096
  let far := match s.plan.instr sp.dome sp.instr with
    | some b => ((s.plan.inputSrcs sp.dome b).zipIdx.filter (fun (x : (Nat × Option Src) × Nat) => x.1.2.isNone && decide (sp.pos % 4096 ≤ x.2))).map (fun (x : (Nat × Option Src) × Nat) => base + x.2)
    | none => []
  let n := Nat.max 1 sp.recs
  if far.length < n ∨ far.head? ≠ some sp.pos then (List.range n).map (fun k => sp.pos + k) else far.take n
/-- What a flow-tick brings of its `j`-th feed: its tick record, and its samples, which stand side by side with those of the flow's other feeds (R328, R333). -/
def flowTickOf (sp : FlowSpec) (slot : Nat × Tab Nat (List Byte) × Bool) (j sampleTick frame0 gone : Nat) (stale : Bool) : ChTick :=
  let g := slot.2.1
  let noRec := (List.range sp.recs).any (fun k => (tget g k).isNone)
  let bad := noRec || slot.2.2
  let rec0 := (List.range 32).map (fun i => (flowByte g (32 * j + i)).getD 0)
  let n := Nat.max 1 sp.recs
  let smps := fun (fr : Nat) => (List.range sp.nch).map (fun ch => let x := (flowSample sp g ((fr * sp.nch + ch) * n + j)).1; if bad then { x with ok := false } else x)
  { tick := sampleTick, first := sp.first, frames := (List.range sp.frames).map (fun fr => (frame0 + fr, smps fr)),
    clip := if noRec then 0 else leField rec0 20 4, ovf := 0, rqClip := if noRec then 0 else leField rec0 12 4,
    flags := (if noRec then 0 else leField rec0 16 2) ||| (2048 * b2n slot.2.2) ||| (65536 * b2n (decide (0 < gone))) ||| (131072 * b2n stale) }

/-- Put a part's channels of a tick at an instrument's input, beside parts that arrived before it. -/
def putPart (s : State) (at0 d i pos : Nat) (rg : Nat × Nat) (c : ChTick) : State :=
  let wide : ChTick := { c with first := rg.1, frames := c.frames.map (fun e => (e.1, (List.range rg.2).map (fun x => if c.first ≤ rg.1 + x then e.2.getD (rg.1 + x - c.first) noSmp else noSmp))) }
  onInstr s d i (fun r =>
    if r.inq.any (fun e => e.1 == pos && e.2.2.tick == c.tick) then
      { r with inq := r.inq.map (fun e => if e.1 = pos ∧ e.2.2.tick = c.tick then
          (e.1, e.2.1, { e.2.2 with flags := e.2.2.flags ||| c.flags, clip := e.2.2.clip + c.clip, rqClip := e.2.2.rqClip + c.rqClip,
                                    frames := (e.2.2.frames.zip wide.frames).map (fun (x : (Nat × List Smp) × (Nat × List Smp)) =>
                                      (x.1.1, x.1.2.mapIdx (fun (j : Nat) (y : Smp) => if c.first ≤ rg.1 + j ∧ rg.1 + j < c.first + ((c.frames.head?.map (fun z => z.2.length)).getD 0) then x.2.2.getD j y else y))) }) else e) }
    else { r with inq := r.inq ++ [(pos, at0, wide)] })

/-- ABSENT on the tile that consumes a flow's first channel, at most once per device tick on a tile (R344). -/
def raiseAbsent (s : State) (k : Nat × Nat) (sp : FlowSpec) : State :=
  let rg := match s.plan.instr sp.dome sp.instr with | some b => iRange b | none => (0, 0)
  let counts := match s.plan.place? .instrDefine sp.dome sp.instr with | some x => (x.chosen.drop 4).map Int.toNat | none => []
  let ends := counts.mapIdx (fun (i : Nat) (_ : Nat) => rg.1 + (counts.take (i + 1)).foldl (· + ·) 0)
  let tile := iTile s sp.dome sp.instr ((ends.findIdx? (fun e => decide (sp.first < e))).getD 0)
  let now := s.time.tick64
  if s.flows.any (fun e => e.2.raised == some (tile, now)) then s
  else raiseTile { s with flows := s.flows.map (fun e => if e.1 == k then (e.1, { e.2 with raised := some (tile, now) }) else e) } tile 11 0x10 k.1 (.dome sp.dome)

/-- TRANSIT_DEADLINE (R333): the flow-tick sent in `sendTick` is handed to its consumer, with what has not arrived absent; all of it is, of a flow of an excluded member (R340).
`sampleTick` and `frame0` are the sample tick of its data and that tick's first frame. A flow of which no granule has come has its entry in the schedule all the same. -/
def execTransitDeadline (port flow sendTick sampleTick frame0 : Nat) (s : State) : Host.Outcome State Fault Refusal :=
  if 128 ≤ port ∨ 65536 ≤ flow then .fault .noSuchUnit
  else if (tget s.flows (port, flow)).isNone && (s.plan.find .apertureLink devDome port).isNone then .next s
  else
    let r := flowRun s (port, flow) (scheduled port flow)
    let sp := r.spec
    let none' : Nat × Tab Nat (List Byte) × Bool := (sendTick, [], false)
    let slot := if flowExcluded s port sp then none' else (r.slots.find? (fun x => x.1 == sendTick)).getD none'
    let gone := ((List.range (flowGranules sp)).filter (fun k => (tget slot.2.1 k).isNone)).length
    let stale := r.stale && (decide (0 < gone) || slot.2.2)
    let s := { s with flows := tset s.flows (port, flow) { r with slots := r.slots.filter (fun x => x.1 != sendTick), absent := (r.absent + gone) % 2 ^ 64, stale := stale } }
    match s.plan.instr sp.dome sp.instr with
    | none => .next s
    | some b =>
      let li := s.plan.lInst sp.dome sp.instr
      let s := (flowInputs s sp).zipIdx.foldl (fun (s : State) (x : Nat × Nat) =>
        putPart s (sendTick + li) sp.dome sp.instr x.1 (iRange b) (flowTickOf sp slot x.2 sampleTick frame0 gone stale)) s
      if gone = 0 then .next s
      else .next (raiseAbsent (iCount s sp.dome sp.instr .absentTicks 1) (port, flow) sp)

end Sys2Proof.Machine
end

