-- ==== Sys2Proof/Machine/Booking.lean ====
section
/-! DEFINITION. Booking.lean: what every object of a plan books of every resource, and the budgets (R42, R43, R393, R414, R415, R493). -/
namespace Sys2Proof.Machine

/-- One booking: resource code and unit of Table 13-5, the dome that books it (`devDome` for the shared front half), and its amount. `sub` tells
apart resources of one code: object places by kind, tile Transit port by direction (0 out, 1 in), Sextants by dome. -/
structure Bk where
  code : Nat
  unit : Nat
  dome : Nat
  amount : Nat
  sub : Nat := 0
  deriving DecidableEq, Repr

/-- Sum of a list. -/
def sumN (l : List Nat) : Nat := l.foldl (· + ·) 0
/-- A size rounded up to 32 bytes. -/
def up32 (n : Nat) : Nat := ceilDiv n 32 * 32
/-- `n` values of 4.5 bytes, rounded up to 32 bytes (R146, R163). -/
def hist45 (n : Nat) : Nat := ceilDiv (9 * n) 64 * 32

/-! ### Landing and the front half (R113, R114, R140, R146, R163) -/

/-- Bytes of one landing slot on each tile of a feed, validity bits included (R113, R114). -/
def landSlot (b : Block) (m : Nat) : Nat :=
  let bits := feedS b m * feedW b
  let gs := if bits % 256 = 0 then ceilDiv bits 256 else ceilDiv bits 256 + 1
  let per := ceilDiv gs (feedK b) * 32
  per + ceilDiv per 256
/-- Slots of a ring (R113). -/
def landSlots (b : Block) : Nat := feedH b - feedA b + 6
/-- Feeds conditioned on a logical tile, in ascending feed number. -/
def Plan.tileFeeds (p : Plan) (t : Nat) : List (Nat × Block) :=
  ((p.of .feedDefine devDome).filter (fun e => (feedTiles e.2).contains t)).mergeSort (fun a b => decide (a.1 ≤ b.1))
/-- LAND_KIB that the feeds of a tile give, if one gives a number. -/
def Plan.landGiven (p : Plan) (t : Nat) : Option Nat := (p.tileFeeds t).findSome? (fun e => e.2.nat? 21)
/-- Delay line of a feed in output samples, L_d (R140). -/
def delayLine (b c : Block) (m : Nat) : Nat := c.nat 10 + feedSo b c m + 16
/-- Conditioning state of a feed in bytes (R146). -/
def condState (b c : Block) (m : Nat) (inSram : Bool) : Nat :=
  hist45 ((if condD c = 1 then 0 else condD c * condT c) + (if inSram then delayLine b c m else 0))
/-- Landing rings of a tile: feed and whether its ring lies in SRAM; and the bytes that rings and staging take (R114). -/
def Plan.landRings (p : Plan) (t : Nat) : List (Nat × Bool) × Nat :=
  let cap := ((p.landGiven t).getD 4096) * 1024
  (p.tileFeeds t).foldl (fun (a : List (Nat × Bool) × Nat) (e : Nat × Block) =>
    let need := landSlots e.2 * landSlot e.2 p.m
    let sram := e.2.is 20 1 || (e.2.is 20 0 && decide (a.2 + need ≤ cap))
    (a.1 ++ [(e.1, sram)], a.2 + (if sram then need else 262144))) ([], 0)
/-- Delay lines of a tile: feed and whether its line lies in SRAM; and the bytes of landing with the staging of HBM lines (R140). A feed with
DELAY_EN = 0 passes no delay stage and has no line (Table 5-1, log entry 53). -/
def Plan.delayLines (p : Plan) (t : Nat) : List (Nat × Bool) × Nat :=
  let land := (p.landRings t).2
  let (l, used, _) := (p.tileFeeds t).foldl (fun (a : List (Nat × Bool) × Nat × Nat) (e : Nat × Block) =>
    let c := p.cond e.1
    if !c.flag 8 then (a.1, a.2.1, a.2.2 + condState e.2 c p.m false) else
    let st := condState e.2 c p.m true
    let landK := match p.landGiven t with | some k => k * 1024 | none => ceilDiv a.2.1 65536 * 65536
    let sram := c.is 11 1 || (c.is 11 0 && decide (landK + a.2.2 + st ≤ 6291456))
    (a.1 ++ [(e.1, sram)], a.2.1 + (if sram then 0 else 262144), a.2.2 + condState e.2 c p.m sram)) ([], land, 0)
  (l, used)
/-- LAND_KIB of a tile in force (R114). -/
def Plan.landKib (p : Plan) (t : Nat) : Nat := match p.landGiven t with | some k => k | none => ceilDiv (p.delayLines t).2 65536 * 64
/-- Does a feed's ring, or its delay line, lie in HBM? -/
def Plan.landHbm (p : Plan) (f : Nat) (b : Block) : Bool := (feedTiles b).any (fun t => (p.landRings t).1.contains (f, false))
def Plan.delayHbm (p : Plan) (f : Nat) (b : Block) : Bool := (feedTiles b).any (fun t => (p.delayLines t).1.contains (f, false))

/-- Stack of the sector on which firmware places an object; failed stacks are left out (log entry 20). -/
def Plan.stackFor (p : Plan) (failed : List Nat) (d sector : Nat) : Nat :=
  ((sectorStacks sector).find? (fun h => stackAllowed p d h && !failed.contains h)).getD (2 * sector)
/-- Stack of an object whose rule names no sector: one of the sector where the dome may use one, otherwise the first that it may use (R486, log entry 20). -/
def Plan.stackAny (p : Plan) (failed : List Nat) (d sector : Nat) : Nat :=
  ((sectorStacks sector ++ List.range 8).find? (fun h => stackAllowed p d h && !failed.contains h)).getD (2 * sector)
/-- Sector of a feed. -/
def feedSector (b : Block) : Nat := sectorOf ((feedTiles b).headD 0)

/-- Home runs of a channel range of a source: tile, offset in the range, channels (R201). -/
def Plan.homeRuns (p : Plan) (src : Src) (first count : Nat) : List (Nat × Nat × Nat) :=
  match src with
  | .window d w => [(((p.place? .zoomDefine d w).map (fun x => x.tiles.headD 0)).getD 0, 0, count)]
  | .feed f =>
    match p.feed f, p.coarse f with
    | some b, some c =>
      if feedK b = 1 then [((feedTiles b).headD 0, 0, count)]
      else (List.range (feedK b)).filterMap (fun k =>
        let lo := Nat.max first (k * coN c)
        let hi := Nat.min (first + count) ((k + 1) * coN c)
        if lo < hi then some ((feedTiles b).getD k 0, lo - first, hi - lo) else none)
    | _, _ => [(0, 0, count)]

/-- Bytes of an SK hold (R175). -/
def Plan.skHold (p : Plan) (src : Src) (b : Block) : Nat := ceilDiv (b.nat 4 * (p.lskOf src b + 1) * p.fmax src * 9) 2
/-- Does the placement of an SK definition put its hold into HBM, and on which stack (R175)? Its choice is 0 SRAM, 1 HBM. -/
def Plan.skHbm (p : Plan) (d idx : Nat) (b : Block) : Option Nat :=
  match p.place? .skDefine d idx with | some x => if b.is 8 0 && x.chosen.headD 0 == 1 then some (x.hstacks.headD 0) else none | none => none
/-- HBM traffic of an SK definition's hold, booked once for all of its tested channels (Table 6-5). -/
def Plan.skHbmBooks (p : Plan) (d owner idx : Nat) (b : Block) (src : Src) : List Bk :=
  match p.skHbm d idx b with | some h => [⟨0x0E, h, owner, 9 * b.nat 4 * p.fmax src, 0⟩] | none => []
/-- Bookings of an SK definition on the given runs of tiles (R163, R175). -/
def Plan.skBooks (p : Plan) (d owner idx : Nat) (b : Block) (src : Src) (runs : List (Nat × Nat × Nat)) : List Bk :=
  let f := p.fmax src
  let tested := runs.filterMap (fun r =>
    let lo := Nat.max (b.nat 3) r.2.1
    let hi := Nat.min (b.nat 3 + b.nat 4) (r.2.1 + r.2.2)
    if lo < hi then some (r.1, hi - lo) else none)
  let hbm := (p.skHbm d idx b).isSome
  tested.flatMap (fun r =>
    [⟨4, r.1, owner, r.2 * f, 0⟩, ⟨0x0B, r.1, owner, 32 * r.2 + (if b.is 8 0 then (if hbm then 262144 else ceilDiv (p.skHold src b * r.2) (Nat.max 1 (b.nat 4))) else 0), 0⟩])

/-- A stored coefficient set, which serves every definition on its tile that names it (R156): a generated coarse or zoom prototype, or a set that a dome loaded. -/
inductive CoefSet where
  | coarse (log2n taps os : Nat)
  | zoom (log2n taps : Nat)
  | custom (dome set : Nat)
  deriving DecidableEq, Repr

/-- The set of a coarse definition, and of a window of dome `d`. -/
def coarseSet (c : Block) : CoefSet := match c.at 4 with | .num k => .custom 0 k.toNat | _ => .coarse (c.nat 1) (c.nat 2) (coOs c)
def zoomSet (d : Nat) (z : Block) : CoefSet := match z.at 6 with | .num k => .custom d k.toNat | _ => .zoom (z.nat 4) (z.nat 5)
/-- Coarse coefficient sets on a tile, with their coefficients. -/
def Plan.coarseSets (p : Plan) (t : Nat) : List (CoefSet × Nat) :=
  ((p.tileFeeds t).filterMap (fun e => (p.coarse e.1).map (fun c => (coarseSet c, coN c * c.nat 2)))).eraseDups
/-- Tile SRAM of a set of `n` coefficients (Table 6-5). -/
def setBytes (n : Nat) : Nat := ceilDiv (n * 9) 256 * 32

/-- Bookings of the shared front half (R43). -/
def Plan.frontBooks (p : Plan) (failed : List Nat) : List Bk :=
  let dv := devDome
  let tiles := (((p.of .feedDefine dv).flatMap (fun (e : Nat × Block) => feedTiles e.2))).eraseDups
  tiles.flatMap (fun t =>
    let land := (p.delayLines t).2
    [(⟨0x0B, t, dv, Nat.max (p.landKib t * 1024) land, 0⟩ : Bk), ⟨0x0B, t, dv, land, 1⟩] ++
    (p.coarseSets t).map (fun k => (⟨0x0B, t, dv, setBytes k.2, 0⟩ : Bk))) ++
  (p.of .feedDefine dv).flatMap (fun (e : Nat × Block) =>
    let (f, b) := e
    let c := p.cond f
    let so := feedSo b c p.m
    let sc := feedSc b p.m
    let h := p.stackFor failed dv (feedSector b)
    (feedTiles b).flatMap (fun t =>
      [(⟨0x0D, t, dv, 1, 0⟩ : Bk), ⟨1, t, dv, if condD c ≠ 1 ∧ c.is 6 3 then 2 * sc else sc, 0⟩,
       ⟨0x0B, t, dv, condState b c p.m ((p.delayLines t).1.contains (f, true)), 0⟩] ++
      (if condD c = 1 then [] else [(⟨0x0C, t, dv, condD c * condT c, 0⟩ : Bk)]) ++
      (match p.coarse f with
       | some co => [⟨2, t, dv, so, 0⟩, ⟨0x0B, t, dv, hist45 (coN co * co.nat 2 + 2 * coN co), 0⟩]
       | none => [])) ++
    (if p.landHbm f b then [⟨0x0E, h, dv, 2 * feedK b * landSlot b p.m, 0⟩] else []) ++
    (if p.delayHbm f b then [⟨0x0E, h, dv, 9 * so * feedK b, 0⟩] else []) ++
    (match p.find .skDefine dv f with
     | some sb => p.skBooks dv dv f sb (.feed f) (match p.coarse f with | some co => (p.homeRuns (.feed f) 0 (coN co * feedK b)) | none => []) ++ p.skHbmBooks dv dv f sb (.feed f)
     | none => []) ++
    -- matches and multicast groups of a port (R106)
    (feedPorts b).map (fun q => (⟨0x15, 2, dv, 1, 64 + q⟩ : Bk))) ++
  (List.range 128).flatMap (fun q => let g := (portGroups p q).length; if g = 0 then [] else [(⟨0x15, 2, dv, g, 256 + q⟩ : Bk)]) ++
  (List.range 8).map (fun h => (⟨0x0E, h, dv, 64 * p.m, 0⟩ : Bk))

/-! ### Transit (R327 to R331) -/

/-- Edges of the route between two sectors (R329). -/
def sectorRoute (a b : Nat) : List (Nat × Nat) :=
  if a = b then []
  else match a, b with
    | 0, 3 => [(0, 1), (1, 3)] | 3, 0 => [(3, 1), (1, 0)] | 1, 2 => [(1, 0), (0, 2)] | 2, 1 => [(2, 0), (0, 1)]
    | _, _ => [(a, b)]
/-- Bookings of a flow of `n` bytes per tick between two tiles (R327); nothing on one tile. -/
def flowBooks (d a b n : Nat) : List Bk :=
  if a = b then []
  else [⟨0x12, a, d, n, 0⟩, ⟨0x12, b, d, n, 1⟩] ++ (sectorRoute (sectorOf a) (sectorOf b)).map (fun e => ⟨0x11, 16 * e.1 + e.2, d, n, 0⟩)

/-! ### Instruments, part by part -/

/-- A part of an instrument: tile, offset and number of its channels, home tile of the channels (R201). -/
structure PartAt where
  tile : Nat
  off : Nat
  n : Nat
  home : Nat
  deriving DecidableEq, Repr

/-- B_ch and v of a detection set (R202). -/
def detBch (b : Block) : Nat × Nat :=
  let x := b.nat 6
  if x.testBit 5 then (56, 4)
  else
    let a := b2n (x.testBit 0)
    let pk := b2n (x.testBit 1)
    let mn := b2n (x.testBit 2)
    let sm := b2n (x.testBit 3)
    let w := b2n (x.testBit 4)
    (8 + 12 * (if a + w = 0 then 0 else 1) + 8 * (pk + mn + sm), a + pk + mn + sm + w)
/-- Bytes of a detection result's data arrays (R196). -/
def detBytes (b : Block) : Nat :=
  let x := b.nat 6
  let n := (iRange b).2
  96 + n * (4 * (b2n (x.testBit 0) + b2n (x.testBit 1) + b2n (x.testBit 2) + b2n (x.testBit 3)) + 16 * b2n (x.testBit 4) + 16 * b2n (x.testBit 5) + 8 * b.nat 9)
/-- Bytes of a POWER result of `n` channels (R231). -/
def powerBytes (b : Block) (n : Nat) : Nat := 96 + n * (4 + 8 * b.nat 19)
/-- Products of a product set. -/
def nProducts (b : Block) : Nat := let n := iInputs b; n * (n + 1) / 2
/-- Bytes of a dump's part record (R215, R216). -/
def dumpBytes (b : Block) (nch : Nat) : Nat := 96 + 12 * nProducts b * nch
/-- Bytes of a capture part per tick, W, rounded up once (R302): raw bits and VALID bits per unit in 1/2048 byte, and the reductions. -/
def capBytes (p : Plan) (d : Nat) (b : Block) (nch : Nat) : Nat :=
  let u := capUmax p d b
  let bits := capBits p d b * nch / Nat.max 1 (capNch b)
  let ke := b.nat 22
  let kp := b.nat 23
  let v := match b.word? 3 with | some 0 => bits | some 4 => 0 | some 5 => 0 | _ => 256 * nch
  let e := if ke = 0 then 0 else 2048 * nch * envBytes p d b * 2 ^ kp
  let w := if kp = 0 then 0 else 2048 * 8 * nch * 2 ^ ke
  ceilDiv (u * ((256 * bits + v) * 2 ^ (ke + kp) + e + w)) (2048 * 2 ^ (ke + kp)) + 4112
/-- Does a capture enable a reduction or name a LEVEL source (R302)? -/
def capReduces (b : Block) : Bool := b.nat 22 != 0 || b.nat 23 != 0 || (capEntries b false ++ capEntries b true).any (fun e => e.headD 0 == 1)

/-- A definition over an aperture with the channels of this device: member k of m takes ceil((k + 1) COUNT / m) - ceil(k COUNT / m) of them, in ascending
order (R235); the whole range stands at `wholePos`. -/
def Plan.apShare (p : Plan) (b : Block) : Block :=
  let (k, m) := p.apIndex (iAperture b)
  let (i, j) := if iKind b = 6 then (6, 7) else (4, 5)
  if iShared b && decide (1 < m) then
    let lo := ceilDiv (k * b.nat j) m
    (((b.put wholePos.1 (.num (b.nat i : Nat))).put wholePos.2 (.num (b.nat j : Nat))).put i (.num (b.nat i + lo : Nat))).put j (.num (ceilDiv ((k + 1) * b.nat j) m - lo : Nat))
  else b
/-- Q4 that the devices of an aperture instrument send to one another: sender, receiver, its channels as offset and number, and how many inputs (R235, R328). -/
def Plan.apFlows (p : Plan) (d : Nat) (b : Block) : List (Nat × Nat × (Nat × Nat) × Nat) :=
  let ms := (p.apSharers b).2
  let homes := (p.inputSrcs d b).map (p.inputHome b)
  ms.flatMap (fun h =>
    let k := (homes.filter (fun x => x == h)).length
    if k = 0 then [] else (ms.mapIdx (fun j y => (h, y, partRange (iWhole b).2 ms.length j, k))).filter (fun e => e.2.1 != h))
/-- Whole-tick Transit latency of an aperture instrument's inputs from other devices: the largest of its flows (R330). -/
def Plan.apTransit (p : Plan) (d : Nat) (b : Block) : Nat :=
  let a := (p.apSharers b).1
  ((p.apFlows d b).map (fun e => p.apLt a e.1 (p.apPath a e.1 e.2.1))).foldl Nat.max 0

/-- Per-part bookings of a SPECTROMETER, ZOOM, RTSA, SWEEP, RFIMON or RECORDER (R202, R276, R302). -/
def Plan.partBooks (p : Plan) (d i : Nat) (b : Block) (q : PartAt) : List Bk :=
  let src := p.mainSrc d b
  let f := p.fmax src
  let sk := (iSources d b).flatMap (fun src => match p.skInstr d i src with
    | some (ix, sb) => p.skBooks d d ix sb src [(q.tile, (iRange b).1 + q.off, q.n)]
    | none => [])
  match iKind b with
  | 0 => det src f ++ sk
  | 1 => det src f ++ sk
  | 2 => flowBooks d q.home q.tile (9 * q.n * f) ++ (if b.is 5 0 then [] else [⟨7, q.tile, d, q.n * f, 0⟩, ⟨0x0B, q.tile, d, 2 * q.n, 0⟩]) ++ sk
  | 9 => flowBooks d q.home q.tile (9 * q.n * f) ++ sk
  | 7 => flowBooks d q.home q.tile (9 * q.n * f) ++ sk
  | 8 => [⟨0x0D, q.tile, d, 1, 5⟩] ++ sk ++
    (if capReduces b then
      let real := match capFeed p d b with | some (fb, _) => b.is 3 0 && !fb.flag 12 | none => false
      [(⟨6, q.tile, d, if real then ceilDiv (capUmax p d b * q.n) 2 else capUmax p d b * q.n, 0⟩ : Bk)] else [])
  | _ => []
where
  det (_ : Src) (f : Nat) : List Bk :=
    let pol := (b.nat 6).testBit 5
    let r := detBch b
    let two := if pol then 2 else 1
    [⟨6, q.tile, d, q.n * (two * f + r.2), 0⟩, ⟨0x0B, q.tile, d, up32 (2 * q.n * r.1), 0⟩] ++ flowBooks d q.home q.tile (9 * two * q.n * f)

/-- Runs of a source's channels on the tiles that hold them: tile, first channel, channels. -/
def Plan.srcRuns (p : Plan) (src : Src) (first count : Nat) : List (Nat × Nat × Nat) := (p.homeRuns src first count).map (fun r => (r.1, first + r.2.1, r.2.2))

/-- Requantiser bookings of an instrument's inputs, with those of the SK before it, on the tiles that hold their channels (R163, R172, R631). -/
def Plan.rqBooks (p : Plan) (d i : Nat) (b : Block) : List Bk :=
  let rg := iTaken b
  ((iSources d b).filter (fun src => !(iShared b && (p.feed (p.feedOf src)).isNone))).flatMap (fun src =>
    (p.homeRuns src rg.1 rg.2).flatMap (fun r => [⟨5, r.1, d, r.2.2 * p.fmax src, 0⟩, ⟨0x0B, r.1, d, 4 * r.2.2, 0⟩]) ++
    (match p.skInstr d i src with | some (ix, sb) => p.skBooks d d ix sb src (p.srcRuns src rg.1 rg.2) | none => []))

/-- Flows of the Q4 of this device's inputs into a part: producing tile and bytes per tick (R224, R234). -/
def Plan.q4Flows (p : Plan) (d : Nat) (b : Block) (q : PartAt) : List (Nat × Nat) :=
  let rg := iRange b
  ((p.inputSrcs d b).filterMap (fun x => x.2)).flatMap (fun s => (p.homeRuns s (rg.1 + q.off) q.n).map (fun r => (r.1, r.2.2 * p.fmax s)))

/-- Bookings of a CORRELATOR, FX or BEAMFORMER part (R224, R234). `batched`, `sub` and `g` are admission's choices. -/
def Plan.macBooks (p : Plan) (d i : Nat) (b : Block) (q : PartAt) (batched : Bool) (sub g stack : Nat) : List Bk :=
  let f := p.fmax (p.mainSrc d b)
  let n := iInputs b
  let flows := if iKind b = 6 ∧ shares then [] else (p.q4Flows d b q).flatMap (fun e => flowBooks d e.1 q.tile e.2)
  flows ++
  (if iKind b = 6 then
    let w := Nat.max 1 (b.nat 9)
    let off := (iRange b).1 - (iWhole b).1 + q.off
    let gt := if q.n = 0 then 0 else (off + q.n - 1) / w + 1 - off / w
    [⟨9, q.tile, d, ceilDiv (b.nat 8 * n * q.n * f) 1024, 0⟩, ⟨0x0B, q.tile, d, 4 * b.nat 8 * n * gt + (if b.is 11 1 then 40 * b.nat 8 * q.n else 0), 0⟩] ++
    (if b.is 11 1 && iDest b matches .hbm _ then [(⟨0x0E, stack, d, b.nat 8 * powerBytes b q.n, 0⟩ : Bk)] else [])
  else
    let np := nProducts b
    let gp := Nat.min g n
    let gs := ceilDiv n (Nat.max 1 g)
    let rx := if iDest b matches .hbm _ then dumpBytes b q.n else 0
    [⟨9, q.tile, d, ceilDiv (q.n * np * f) 4096, 0⟩] ++
    (if batched then
      [⟨0x0B, q.tile, d, 24 * gp * gp + 1024 * gp, 0⟩, ⟨0x0E, stack, d, n * q.n * f * (1 + gs) + ceilDiv (36 * np * q.n) sub + ceilDiv rx sub, 0⟩]
    else [⟨0x0B, q.tile, d, 24 * np * q.n, 0⟩, ⟨0x0E, stack, d, rx, 0⟩]))
where
  /-- Does a beamformer share a correlator's channel placement (R234)? -/
  shares : Bool := (p.of .instrDefine d).any (fun (e : Nat × Block) => iKind e.2 == 4 && iRange e.2 == iRange b && p.placed d e.1 &&
    (match p.place? .instrDefine d e.1, p.place? .instrDefine d i with | some x, some y => x.tiles == y.tiles | _, _ => false))

/-- Parts of a placed instrument (R201, R235, R281, R631). -/
def Plan.partsOf (p : Plan) (d i : Nat) (b : Block) : List PartAt :=
  match p.place? .instrDefine d i with
  | none => []
  | some x =>
    let rg := iRange b
    let counts := x.chosen.drop 4
    let runs := p.homeRuns (p.mainSrc d b) rg.1 rg.2
    (x.tiles.zip counts).foldl (fun (a : List PartAt × Nat) (e : Nat × Int) =>
      let home := ((runs.find? (fun r => decide (r.2.1 ≤ a.2) && decide (a.2 < r.2.1 + r.2.2))).map (fun r => r.1)).getD e.1
      (a.1 ++ [⟨e.1, a.2, e.2.toNat, home⟩], a.2 + e.2.toNat)) ([], 0) |>.1

/-- Runs of tiles on which an SK definition acts: the tiles of its channels in feed scope and before a requantiser, of its instrument's parts otherwise (R172). -/
def Plan.skRuns (p : Plan) (k : Nat × Nat) (b : Block) : List (Nat × Nat × Nat) :=
  if k.1 = devDome then
    match p.coarse k.2 with
    | some co => p.homeRuns (.feed k.2) 0 (coN co * (match p.feed k.2 with | some fb => feedK fb | none => 1))
    | none => []
  else match p.instr k.1 (b.nat 0) with
    | some ib =>
      if iRequantises ib then p.srcRuns (srcOf k.1 (b.at 2)) (iTaken ib).1 (iTaken ib).2
      else (p.partsOf k.1 (b.nat 0) ib).map (fun q => (q.tile, (iRange ib).1 + q.off, q.n))
    | none => []

/-- SK definitions whose block records an RFIMON receives: in feed scope those that test channels of its range, in instrument scope those that name it (R635). -/
def Plan.skDefs (p : Plan) (d i : Nat) (b : Block) : List Block :=
  let rg := iRange b
  (iSources d b).flatMap (fun src => match src with
    | .feed f => (p.find .skDefine devDome f).toList.filter (fun sb => decide (rg.1 < sb.nat 3 + sb.nat 4) && decide (sb.nat 3 < rg.1 + rg.2))
    | .window _ _ => []) ++
  ((p.of .skDefine d).filter (fun e => d != devDome && e.2.nat? 0 == some i)).map (fun e => e.2)

/-- Rings of an instrument in HBM: ring number, slot bytes and slots (R199, R218, R231, R257, R604, R635). -/
def Plan.ringsOf (p : Plan) (d i : Nat) (b : Block) : List (Nat × Nat × Nat) :=
  match iDest b with
  | .hbm slots =>
    let up64 := fun (n : Nat) => ceilDiv n 64 * 64
    match iKind b with
    | 0 => [(0, up64 (detBytes b), slots)]
    | 1 => [(0, up64 (detBytes b), slots)]
    | 2 => if b.is 5 0 then [] else [(0, up64 (32 + 2 * (iRange b).2), slots)]
    | 4 => (p.partsOf d i b).mapIdx (fun k q => (k, up64 (dumpBytes b q.n), slots))
    | 5 => (p.partsOf d i b).mapIdx (fun k q => (k, up64 (dumpBytes b q.n), slots))
    | 6 => if b.is 11 1 then [(0, up64 (powerBytes b (iRange b).2), slots)] else []
    | 7 => [(0, up64 (32 + 8 * ((p.skDefs d i b).map (fun sb => sb.nat 4)).foldl Nat.max 0), slots)]
    | 11 => [(0, up64 112, slots)]
    | _ => []
  | _ => []

/-- Stack of part `k` of an object's placement. -/
def Place.stack (x : Place) (k : Nat) : Nat := x.hstacks.getD k (x.hstacks.headD 0)

/-- Pages that a plan's objects hold: key, dome, stacks they alternate over, and number (R486). -/
def Plan.pageList (p : Plan) (failed : List Nat) : List (ObjKey × Nat × List Nat × Nat) :=
  ((p.objs .feedDefine).flatMap (fun e =>
    let (f, b) := e.2
    let h := p.stackFor failed devDome (feedSector b)
    let c := p.cond f
    (if p.landHbm f b then [((⟨.feedDefine, devDome, f, 0⟩ : ObjKey), devDome, [h], pagesFor (landSlots b * feedK b * landSlot b p.m))] else []) ++
    (if p.delayHbm f b then [((⟨.feedDefine, devDome, f, 1⟩ : ObjKey), devDome, [h], pagesFor (ceilDiv (9 * delayLine b c p.m * feedK b) 2))] else []))) ++
  ((p.objs .skDefine).filterMap (fun e =>
    let (d, ix, b) := e
    match p.place? .skDefine d ix with
    | some x => if x.chosen.headD 0 = 1 then some ((⟨.skDefine, d, ix, 0⟩ : ObjKey), d, [x.stack 0], pagesFor (p.skHold (srcOf d (b.at 2)) b)) else none
    | none => none)) ++
  ((p.objs .zoomDefine).filterMap (fun e =>
    let (d, w, b) := e
    match p.place? .zoomDefine d w with
    | some x => if x.placed ∧ x.chosen.headD 0 = 1 then some ((⟨.zoomDefine, d, w, 0⟩ : ObjKey), d, [x.stack 0], pagesFor (hist45 (zoW b * (zoN b * b.nat 5 + 2 * zoN b)))) else none
    | none => none)) ++
  ((p.objs .instrDefine).flatMap (fun e =>
    let (d, i, b) := e
    match p.place? .instrDefine d i with
    | none => []
    | some x =>
      if !x.placed then []
      else
        ((p.ringsOf d i b).map (fun r => ((⟨.instrDefine, d, i, r.1⟩ : ObjKey), d, [x.stack r.1], pagesFor (r.2.1 * r.2.2)))) ++
        (if iKind b = 8 ∧ b.is 2 0 then [((⟨.instrDefine, d, i, 0⟩ : ObjKey), d, x.hstacks, b.nat 11 * ((capGeom p d i b).bytes / 2 ^ 21))] else []) ++
        (if iKind b = 4 ∧ x.chosen.getD 1 0 = 1 then
          let sub := (x.chosen.getD 2 1).toNat
          let f := p.fmax (p.mainSrc d b)
          (p.partsOf d i b).mapIdx (fun k q => ((⟨.instrDefine, d, i, 1024 + k⟩ : ObjKey), d, [x.stack k],
            pagesFor (2 * iInputs b * q.n * sub * f) + pagesFor (24 * nProducts b * q.n))) else []))) ++
  ((p.objs .maskDefine).filterMap (fun e =>
    let (d, k, b) := e
    match p.place? .maskDefine d k, destAt b (if b.is 0 1 then 13 else 10) with
    | some x, .hbm n => some ((⟨.maskDefine, d, k, 0⟩ : ObjKey), d, [x.stack 0], pagesFor (64 * n))
    | _, _ => none)) ++
  ((p.objs .plateDefine).filterMap (fun e =>
    let (d, k, b) := e
    match p.place? .plateDefine d k, destAt b 16 with
    | some x, .hbm n => some ((⟨.plateDefine, d, k, 0⟩ : ObjKey), d, [x.stack 0], pagesFor (ceilDiv (96 + 4 * plateCells b) 64 * 64 * n))
    | _, _ => none)) ++
  ((p.objs .streamDefine).filterMap (fun e =>
    let (d, k, b) := e
    match p.place? .streamDefine d k with
    | some x => if b.nat 13 = 0 then none else some ((⟨.streamDefine, d, k, 0⟩ : ObjKey), d, [x.stack 0], pagesFor (b.nat 13))
    | none => none)) ++
  ((p.objs .sextantAttach).flatMap (fun e =>
    let (d, h, b) := e
    match p.place? .sextantAttach d h with
    | some x => (List.range 4).filterMap (fun j => if b.is (30 + j) 1 then some (sxRing d h j, d, [x.stack 0], pagesFor (ceilDiv (b.nat (46 + j) + 64) 64 * 64 * b.nat (34 + j))) else none)
    | none => [])) ++
  ((p.objs .eyepieceConfig).flatMap (fun e =>
    let b := e.2.2
    [((⟨.eyepieceConfig, devDome, 0, 0⟩ : ObjKey), 0, [0], pagesFor (b.nat 9 * (ceilDiv (b.nat 5 * b.nat 15) 512 * 64))), ((⟨.eyepieceConfig, devDome, 0, 1⟩ : ObjKey), 0, [0], 1)]))

/-! ### Latencies (R192, R213, R246, R281, R631) -/

/-- Input latency of an instrument: the device tick that processes its sample tick n, minus n (λ of R192, λ_x of R213, λ_r of R246, λ_c of R281, λ_q of R631). -/
def Plan.reported (p : Plan) (d i : Nat) (b : Block) : Nat :=
  match iKind b with
  | 3 => p.lamQ d i
  | 4 => p.lamX d i
  | 5 => p.lamX d i
  | 6 => p.lamX d i
  | 8 => p.lamC d i b
  | 10 => 0
  | 11 => 0
  | _ => p.lam d i

/-- Latency of R21, from a sample's tick to the tick in which its result is at the destination: RESULT of INSTR_DEFINE and INSTR_MODIFY (R198, R220, R221, R232,
R246, R631). -/
def Plan.latency (p : Plan) (d i : Nat) (b : Block) : Nat :=
  let l := p.reported d i b
  match iKind b with
  | 0 => l + 2
  | 1 => l + 2
  | 2 => l + 1
  | 4 =>
    match (p.place? .instrDefine d i).map (fun x => x.chosen) with
    | some c => if c.getD 1 0 = 1 then l + 2 * (c.getD 2 1).toNat + 1 else l + 2
    | none => l + 2
  | 5 => l + 2
  | 6 => if b.is 11 1 then l + 2 else l + 1
  | 9 => l + 1
  | _ => l

/-! ### Streams (R317, R318) -/

/-- E_s (R317): RATE in Mbit/s over a tick, in bytes. -/
def egressBytes (m rate : Nat) : Nat := ceilDiv (rate * 10 ^ 6 * m * 64) (8 * 10 ^ 10)
/-- Wire bytes of a record of `n` bytes on a stream (R313). -/
def recWire (p : Plan) (st : Block) (n : Nat) : Nat :=
  let chunk := st.nat 10 - 32
  let k := Nat.max 1 (ceilDiv n chunk)
  sumN ((List.range k).map (fun i => pktWire p st (32 + Nat.min chunk (n - i * chunk))))
where
  pktWire (p : Plan) (st : Block) (content : Nat) : Nat :=
    let n := up32 content
    if st.is 1 2 then wireRoce p st (32 + n) false else wireVorsy p st n
/-- Wire bytes of one tick of `fr` frames of `nch` channels as CHANNELS or BEAM packets (R312). -/
def tickWire (p : Plan) (st : Block) (nch sz fr : Nat) : Nat :=
  let w := Nat.max 1 (Nat.min nch ((st.nat 10 - 64) / sz))
  sumN ((List.range (ceilDiv nch w)).map (fun r =>
    let n := Nat.min w (nch - r * w)
    let per := Nat.max 1 ((st.nat 10 - 64) / (n * sz))
    let k := Nat.max 1 (ceilDiv fr per)
    sumN ((List.range k).map (fun i => recWire.pktWire p st (32 + (if i = 0 then 32 else 0) + n * sz * Nat.min per (fr - i * per))))))
/-- Period in ticks of the frame pattern of a source, and of every `u`-th frame. -/
def Plan.framePer (p : Plan) (src : Src) (u : Nat) : Nat :=
  let h := p.fh src * Nat.max 1 u
  h / Nat.gcd h (Nat.max 1 (p.so (p.feedOf src)))
/-- Groups of `u` frames, by absolute index, whose last frame lies in a tick. -/
def Plan.framesIn (p : Plan) (src : Src) (u n : Nat) : Nat :=
  let c := fun (x : Int) => x / (Nat.max 1 u : Nat)
  (c (p.firstFrame src (n + 1)) - c (p.firstFrame src n)).toNat

/-- What a producer puts on a stream: its period, and its wire bytes in a tick (R318). -/
abbrev Sched := Nat × (Nat → Nat)
/-- A schedule in device ticks, of one in sample ticks whose output is handed over `lat` ticks later. -/
def Sched.later (lat : Nat) (x : Sched) : Sched := let per := Nat.max 1 x.1; (per, fun n => x.2 (n + (per - lat % per)))

/-- The fixed schedules of the producers of a stream, in device ticks, each with the sector that it sends from (R306). Records whose number depends on the data count
at their limit per tick (R253, R262). Closed capture records and CAPTURE_READ use what room the stream has. -/
def Plan.producers (p : Plan) (d k : Nat) (st : Block) : List (Nat × Sched) :=
  let every := fun (l off n : Nat) => gridEnds (Nat.max 1 l) off n
  ((p.of .instrDefine d).flatMap (fun (e : Nat × Block) =>
    let (i, b) := e
    let src := p.mainSrc d b
    let rg := iRange b
    let parts := p.partsOf d i b
    let lat := p.latency d i b
    let home := sectorOf ((parts.head?.map (fun q => q.tile)).getD 0)
    let one := fun (x : Sched) => [(home, x.later lat)]
    -- a result on the grid of R190
    let grid := fun (l off bytes : Nat) => one (l, fun n => if every l off n then bytes else 0)
    if !p.placed d i then []
    else
      (if iKind b = 11 ∧ b.is 2 1 ∧ b.nat 8 = k then one (1, fun _ => tickWire p st 1 1 (b.nat 6)) else []) ++
      (if iDest b != .stream k then []
       else match iKind b with
        | 0 => grid (b.nat 7) (b.nat 8) (recWire p st (detBytes b))
        | 1 => grid (b.nat 7) (b.nat 8) (recWire p st (detBytes b))
        | 2 => one (p.framePer src (b.nat 6), fun n => p.framesIn src (b.nat 6) n * recWire p st (32 + 2 * rg.2))
        | 3 => (iSources d b).flatMap (fun s => (p.homeRuns s rg.1 rg.2).map (fun r => (sectorOf r.1, Sched.later lat
            (if st.is 1 1 then let u := st.nat 16 * 8 / 8; (p.framePer s u, fun n => p.framesIn s u n * r.2.2 * wireVdif p st (st.nat 16 + 32))
             else (p.framePer s 1, fun n => tickWire p st r.2.2 1 (p.framesIn s 1 n))))))
        | 4 => parts.map (fun q => (sectorOf q.tile, Sched.later lat (b.nat 6, fun n => if every (b.nat 6) (b.nat 7) n then recWire p st (dumpBytes b q.n) else 0)))
        | 5 => parts.map (fun q => (sectorOf q.tile, Sched.later lat (b.nat 6, fun n => if every (b.nat 6) (b.nat 7) n then recWire p st (dumpBytes b q.n) else 0)))
        | 6 =>
          if b.is 11 1 then grid (b.nat 13) (b.nat 14) (b.nat 8 * recWire p st (powerBytes b rg.2))
          else if st.is 1 1 then
            let u := st.nat 16 * 8 / 16
            parts.map (fun q => (sectorOf q.tile, Sched.later lat (p.framePer src u, fun n => b.nat 8 * p.framesIn src u n * q.n * wireVdif p st (st.nat 16 + 32))))
          else parts.map (fun q => (sectorOf q.tile, Sched.later lat (p.framePer src 1, fun n => b.nat 8 * tickWire p st q.n 2 (p.framesIn src 1 n))))
        | 7 => (p.skDefs d i b).flatMap (fun sb => one (p.framePer src (sb.nat 5), fun n => p.framesIn src (sb.nat 5) n * recWire p st (32 + 8 * sb.nat 4)))
        | 8 => if b.is 2 1 then one (1, fun _ =>
            let u := capUmax p d b
            let nch := capNch b
            let ends := fun (kk sz : Nat) => if kk = 0 then 0 else ceilDiv u (2 ^ kk) * recWire p st (nch * sz)
            recWire p st 16 + recWire p st (ceilDiv (u * capBits p d b) 8) +
            (match b.word? 3 with | some 0 => recWire p st (ceilDiv (u * capBits p d b) 2048) | some 4 => 0 | some 5 => 0 | _ => recWire p st (ceilDiv (u * nch) 8)) +
            ends (b.nat 22) (envBytes p d b) + ends (b.nat 23) 8) else []
        | 11 => grid (b.nat 9) 0 (recWire p st 112)
        | _ => []))) ++
  ((p.of .maskDefine d).filterMap (fun (e : Nat × Block) =>
    let b := e.2
    if destAt b (if b.is 0 1 then 13 else 10) != .stream k || !p.placed d (b.nat 2) then none
    else
      let per := if b.is 0 1 then ceilDiv (p.fmax (p.maskSrc d b)) (Nat.max 1 (b.nat 11)) + 1 else b.nat 8
      some (homeSector p d (b.nat 2), ((1, fun _ => per * recWire p st 64) : Sched)))) ++
  ((p.of .plateDefine d).filterMap (fun (e : Nat × Block) =>
    let b := e.2
    if destAt b 16 != .stream k || !p.placed d (b.nat 1) then none
    else some (homeSector p d (b.nat 1), Sched.later (p.lam d (b.nat 1) + 2) (b.nat 14, fun n => if every (b.nat 14) (b.nat 15) n then recWire p st (96 + 4 * plateCells b) else 0))))
where
  /-- Sector of an instrument's first part. -/
  homeSector (p : Plan) (d i : Nat) : Nat := match p.place? .instrDefine d i with | some x => sectorOf (x.tiles.headD 0) | none => 0

/-- Several schedules as one. -/
def Sched.sum (l : List Sched) : Sched := (l.foldl (fun (a : Nat) (x : Sched) => Nat.lcm a (Nat.max 1 x.1)) 1, fun n => sumN (l.map (fun x => x.2 n)))
/-- The schedule of a stream: its producers' messages and, of a ROCE stream, the immediate of every IMM_TICKS-th tick from its definition on that sends any (R322, R323). -/
def Plan.streamSched (p : Plan) (d k : Nat) (st : Block) : Sched :=
  let x := Sched.sum ((p.producers d k st).map (fun e => e.2))
  if st.is 1 2 then
    let imm := Nat.max 1 (st.nat 28)
    let e := ((p.place? .streamDefine d k).map (fun y => y.since)).getD 0
    (Nat.lcm x.1 imm, fun n => x.2 n + (if 0 < x.2 n ∧ (n + 1 + (imm - e % imm)) % imm = 0 then 4 else 0))
  else x
/-- A schedule over its period: the period, the sum, the largest tick, and the largest excess of any run over `e` per tick (R318). -/
def schedStats (x : Sched) (e : Nat) : Nat × Nat × Nat × Nat :=
  let (tot, top, _, best) := (List.range (2 * x.1)).foldl (fun (a : Nat × Nat × Nat × Nat) (n : Nat) =>
    let w := x.2 n
    let cur := a.2.2.1 + w - e
    (a.1 + w, Nat.max a.2.1 w, cur, Nat.max a.2.2.2 cur)) (0, 0, 0, 0)
  (x.1, tot / 2, top, best)
/-- B_max of a stream (R318). -/
def Plan.bMax (p : Plan) (d k : Nat) (st : Block) : Nat :=
  let e := egressBytes p.m (st.nat 11)
  (schedStats (p.streamSched d k st) e).2.2.2 + (if st.is 1 2 then e * ceilDiv (st.nat 27 * 10 ^ 9) (p.m * 6400000) else 0)
/-- Stream bytes on each UCIe edge: what the producers of another sector than the port's send over it, in the largest tick of the schedule of them all (R306, R329). -/
def Plan.edgeBooks (p : Plan) : List Bk :=
  let rows := (p.objs .streamDefine).flatMap (fun e => (p.producers e.1 e.2.1 e.2.2).map (fun x => (sectorRoute x.1 (e.2.2.nat 2 / 32), x.2)))
  ((rows.flatMap (fun x => x.1)).eraseDups).map (fun g =>
    (⟨0x11, 16 * g.1 + g.2, devDome, (schedStats (Sched.sum ((rows.filter (fun x => x.1.contains g)).map (fun x => x.2))) 0).2.2.1, 0⟩ : Bk))

/-! ### All bookings -/

/-- Bookings of a window (R163, R169, R170). -/
def Plan.zoomBooks (p : Plan) (d w : Nat) (b : Block) (tile : Nat) (hbm : Bool) (stack : Nat) : List Bk :=
  let f := b.nat 1
  let fx := p.fmax (.feed f)
  let hist := hist45 (zoW b * zoN b * b.nat 5 + 2 * zoN b)
  let set := setBytes (zoN b * b.nat 5)
  let home := (p.homeRuns (.feed f) (b.nat 2) 1).headD (tile, 0, 0)
  let shared := (p.coarseSets tile).any (fun k => k.1 == zoomSet d b) || (p.objs .zoomDefine).any (fun e => (decide (e.1 < d) || (e.1 == d && decide (e.2.1 < w))) &&
    zoomSet e.1 e.2.2 == zoomSet d b && (p.place? .zoomDefine e.1 e.2.1).any (fun x => x.placed && x.tiles == [tile]))
  [⟨3, tile, d, zoW b * fx, 0⟩, ⟨0x0D, tile, d, 1, 1⟩, ⟨0x0B, tile, d, (if hbm then 262144 else hist) + (if shared then 0 else set), 0⟩] ++
  (if sectorOf home.1 = sectorOf tile ∧ home.1 ≠ tile then flowBooks d home.1 tile (9 * zoW b * fx) else []) ++
  (if hbm then [⟨0x0E, stack, d, ceilDiv (9 * zoW b * fx * (b.nat 5 + 1)) 2, 0⟩] else [])

/-- Channels of a sweep mask that neither lie on its tile nor come to a part of its instrument there: home tile and number (R245, R258). -/
def sweepAway (b : Block) (first : Nat) (parts : List PartAt) (tile : Nat) : List (Nat × Nat) :=
  parts.filterMap (fun q =>
    let lo := Nat.max (b.nat 3) (first + q.off)
    let hi := Nat.min (b.nat 3 + b.nat 4) (first + q.off + q.n)
    if lo < hi ∧ q.tile ≠ tile ∧ q.home ≠ tile then some (q.home, hi - lo) else none)

/-- Bookings of a frequency mask over the parts of its instrument, of a sweep mask on its tile, to which its channels come by Transit (R258, R276). -/
def Plan.maskBooks (p : Plan) (d : Nat) (b : Block) (parts : List PartAt) (tile stack : Nat) : List Bk :=
  let f := p.fmax (p.maskSrc d b)
  let first := match p.instr d (b.nat 2) with | some ib => (iRange ib).1 | none => 0
  let hbm := destAt b (if b.is 0 1 then 13 else 10) matches .hbm _
  if b.is 0 1 then
    let c := b.nat 4
    let tr := b.nat 7
    [⟨7, tile, d, (c + ceilDiv (tr * c) 1024 + ceilDiv (tr * (b.rows 8).length) 16) * f, 0⟩, ⟨0x0D, tile, d, 1, 2⟩, ⟨0x0D, tile, d, 1, 3⟩,
     ⟨0x0B, tile, d, c * (p.dmMax d b + f + 1) + 24 * c + 256 * tr, 0⟩] ++
    (sweepAway b first parts tile).flatMap (fun e => flowBooks d e.1 tile (9 * e.2 * f)) ++
    (if hbm then [⟨0x0E, stack, d, 64 * (ceilDiv f (Nat.max 1 (b.nat 11)) + 1), 0⟩] else [])
  else
    parts.flatMap (fun q =>
      let lo := Nat.max (b.nat 3) (first + q.off)
      let hi := Nat.min (b.nat 3 + b.nat 4) (first + q.off + q.n)
      if lo < hi then [(⟨7, q.tile, d, (hi - lo) * f, 0⟩ : Bk), ⟨0x0D, q.tile, d, 1, 2⟩, ⟨0x0B, q.tile, d, 8 * (hi - lo), 0⟩] else []) ++
    (if hbm then [⟨0x0E, stack, d, 64 * b.nat 8, 0⟩] else [])

/-- Parts of a Plate: tile, channels and columns, the parts of its instrument, whose channels begin at `first`, cut to its range (R265, R276). -/
def plateCut (b : Block) (first : Nat) (parts : List PartAt) : List (Nat × Nat × Nat) :=
  parts.filterMap (fun q =>
    let lo := Nat.max (b.nat 2) (first + q.off)
    let hi := Nat.min (b.nat 2 + b.nat 3) (first + q.off + q.n)
    let cpc := Nat.max 1 (b.nat 4)
    if lo < hi then some (q.tile, hi - lo, (hi - 1 - b.nat 2) / cpc + 1 - (lo - b.nat 2) / cpc) else none)
/-- Parts of a placed Plate. -/
def Plan.plateParts (p : Plan) (d : Nat) (b : Block) : List (Nat × Nat × Nat) :=
  match p.instr d (b.nat 1) with
  | none => []
  | some ib => plateCut b (iRange ib).1 (p.partsOf d (b.nat 1) ib)
/-- What the parts of a Plate book on their tiles, with `f` frames a tick and a sub-sampling factor `u` (R269, R276). -/
def plateUnits (d f : Nat) (b : Block) (u : Nat) (parts : List (Nat × Nat × Nat)) : List Bk :=
  let dec := if b.is 9 0 then 0 else ceilDiv f (Nat.max 1 (b.nat 10))
  parts.flatMap (fun q =>
    let cells := q.2.2 * b.nat 6
    [(⟨8, q.1, d, q.2.1 * ceilDiv f (Nat.max 1 u) + (dec + 1) * ceilDiv cells 32, 0⟩ : Bk), ⟨0x0D, q.1, d, 1, 4⟩, ⟨0x0B, q.1, d, 4 * cells, 0⟩, ⟨0x14, 5, d, 4 * cells, 0⟩])
/-- Bookings of a Plate under a sub-sampling factor `u` (R269, R276). -/
def Plan.plateBooks (p : Plan) (d : Nat) (b : Block) (u stack : Nat) : List Bk :=
  plateUnits d (match p.instr d (b.nat 1) with | some ib => p.fmax (p.mainSrc d ib) | none => 0) b u (p.plateParts d b) ++
  (if destAt b 16 matches .hbm _ then [⟨0x0E, stack, d, 96 + 4 * plateCells b, 0⟩] else [])

/-- Tile-port bytes per tick of a Sextant's inputs and outputs, T_p (R374). -/
def Plan.sxPort (p : Plan) (d : Nat) (b : Block) : Nat :=
  sumN ((List.range 4).map (fun k =>
    let src := srcOf d (b.at (6 + k))
    match b.word? (2 + k) with
    | some 1 => (match p.instr d (b.nat (6 + k)) with
      | some ib => let n := (iSources d ib).length; 64 * ceilDiv n 64 * b.nat (14 + k) * p.fmax (p.mainSrc d ib)
      | none => 0)
    | some 2 => 8 * b.nat (14 + k) * p.fmax src + ceilDiv (b.nat (14 + k) * p.fmax src) 8
    | some 3 => 4096
    | _ => 0)) + sumN ((List.range 4).map (fun j => if b.is (30 + j) 0 then 0 else b.nat (46 + j)))
/-- Cycles of a scrub (R347). -/
def scrubCycles : Nat := 2568
/-- Copy and clear cycles of a swap to the image that a lease's placement keeps: CODE_CRC, CYCLES, PAIRED, CODE_BUNDLES, CLEAR_DATA (R372). -/
def Place.swapCycles (x : Place) : Nat := ceilDiv (x.chosen.getD 3 0).toNat 8 + (if x.chosen.getD 4 0 = 1 then 1920 else 0)
/-- C of a lease (R374). -/
def Plan.sxCycles (p : Plan) (d h : Nat) : Nat :=
  match p.place? .sextantLoad d h with
  | none => 0
  | some x =>
    let tp := match p.find .sextantAttach d h with | some a => p.sxPort d a | none => 0
    (x.chosen.getD 1 0).toNat + 64 + (if x.chosen.getD 2 0 = 1 then ceilDiv tp 64 else 0)
/-- Bookings of a Sextant (R371, R374). SEXTANT_LOAD records are HANDLE, CODE_CRC, CYCLES; PAIRED stands in the placement. -/
def Plan.sxBooks (p : Plan) (d h : Nat) (b : Block) : List Bk :=
  match p.place? .sextantLoad d h with
  | none => []
  | some x =>
    let t := x.tiles.headD 0
    let at' := p.find .sextantAttach d h
    let tp := match at' with | some a => p.sxPort d a | none => 0
    let paired := x.chosen.getD 2 0 == 1
    [⟨0x0A, h, d, b.nat 2 + 64 + (if paired then ceilDiv tp 64 else 0), d⟩, ⟨0x0A, h, d, ceilDiv tp 64, 65536 + d⟩, ⟨0x0B, t, d, 65600, 0⟩, ⟨0x14, 7, d, 1, 0⟩] ++
    (match at', p.place? .sextantAttach d h with
     | some a, some y =>
       ((List.range 4).flatMap (fun k =>
         let src := match a.word? (2 + k) with
           | some 1 => (match p.instr d (a.nat (6 + k)) with | some ib => iSources d ib | none => [])
           | some 2 => [srcOf d (a.at (6 + k))]
           | _ => []
         src.flatMap (fun s => (p.homeRuns s (a.nat (10 + k)) (a.nat (14 + k))).flatMap (fun r => flowBooks d r.1 t ((if a.is (2 + k) 1 then 1 else 9) * r.2.2 * p.fmax s))))) ++
       (List.range 4).flatMap (fun j => if a.is (30 + j) 1 then [(⟨0x0E, y.stack 0, d, a.nat (46 + j), 0⟩ : Bk)] else [])
     | _, _ => [])

/-- Sub of a stream's own limit, which stands in its high part and the stream in its low part (R318). -/
def streamSub (d k limit : Nat) : Nat := (limit + 1) * 16384 + 64 * d + k
/-- The limit in such a sub. -/
def subLimit (x : Nat) : Nat := x / 16384 - 1

/-- Bookings of a stream (R317, R318). -/
def Plan.streamBooks (p : Plan) (d k : Nat) (b : Block) : List Bk :=
  let e := egressBytes p.m (b.nat 11)
  let port := b.nat 2
  let stack := match p.place? .streamDefine d k with | some x => x.stack 0 | none => 0
  let st := schedStats (p.streamSched d k b) e
  [⟨0x10, port, d, e, 0⟩, ⟨0x15, 1, d, 1, 2⟩, ⟨0x15, 2, d, 1, 1024 + port⟩] ++
  (if b.nat 13 = 0 then [] else [(⟨0x0E, stack, d, st.2.2.1 + e, 0⟩ : Bk)]) ++
  -- below its producers' mean, or with a spill below B_max, the stream itself does not fit
  (if e * st.1 < st.2.1 then [(⟨0x10, port, d, ceilDiv st.2.1 st.1, streamSub d k e⟩ : Bk)] else []) ++
  (if b.nat 13 < p.bMax d k b then [(⟨0x17, port, d, p.bMax d k b, streamSub d k (b.nat 13)⟩ : Bk)] else [])

/-- Frame rate F_v and bytes per tick of the Eyepiece's scan-out (R549, R556). EYEPIECE_CONFIG blocks: ENABLE, LANES, RATE, BPC, PIXEL_KHZ, four
horizontal and four vertical timings, HPOL, VPOL, BPP, PAL_BASE, then ten slots per window. -/
def Plan.eyeBooks (p : Plan) (b : Block) : List Bk :=
  if !b.flag 0 then []
  else
    let ht := b.nat 5 + b.nat 6 + b.nat 7 + b.nat 8
    let vt := b.nat 9 + b.nat 10 + b.nat 11 + b.nat 12
    let stride := ceilDiv (b.nat 5 * b.nat 15) 512 * 64
    let per := fun (bytes : Nat) => ceilDiv (bytes * b.nat 4 * 1000 * p.m * 64) (Nat.max 1 (ht * vt) * 10 ^ 10)
    (⟨0x0E, 0, devDome, per (b.nat 9 * stride), 0⟩ : Bk) ::
    (List.range 4).flatMap (fun k =>
      let o := 17 + 10 * k
      match b.at o with
      | .num q => (match p.place? .plateDefine 0 q.toNat with
        | some x => (x.hstacks.eraseDups).map (fun h => (⟨0x0E, h, devDome, per (b.nat (o + 6) * b.nat (o + 8) * ceilDiv (b.nat (o + 4)) 16 * 64), 0⟩ : Bk))
        | none => [])
      | _ => [])

/-- What bytes in a tick take of a link's lanes: payload bytes of a Weltilink lane, wire bytes of packets of 8,192 payload bytes over Ethernet (R327, R332). -/
def Plan.linkBytes (p : Plan) (port n : Nat) : Nat :=
  if (p.port port).any portEth then n + ceilDiv n 8192 * (match p.find .apertureLink devDome port with | some b => if isV4 (ipBytes b 4) then 98 else 118 | none => 98) else n
/-- The devices before and after this one on a flow's path, if it lies on it (R329). -/
def pathAround (nodes : List Nat) : Option (Option Nat × Option Nat) :=
  (nodes.findIdx? (fun x => x == ownSerial)).map (fun k => (if k = 0 then none else nodes[k - 1]?, nodes[k + 1]?))
/-- What an aperture instrument's flows between devices book here: the lanes of the links, the UCIe edges to and from the links' sectors, and the Transit ports of
this device's own tiles (R327, R329). -/
def Plan.apBooks (p : Plan) (d : Nat) (b : Block) (parts : List PartAt) : List Bk :=
  let a := (p.apSharers b).1
  let f := p.fmax (p.mainSrc d b)
  let edges := fun (x y n : Nat) => (sectorRoute x y).map (fun e => (⟨0x11, 16 * e.1 + e.2, d, n, 0⟩ : Bk))
  (p.apFlows d b).flatMap (fun e =>
    let n := e.2.2.2 * e.2.2.1.2 * f
    match pathAround (e.1 :: p.apPath a e.1 e.2.1) with
    | none => []
    | some (before, after) =>
      let pin := before.bind (p.portTo a)
      let pout := after.bind (p.portTo a)
      (match pin with | some q => [(⟨0x13, q, d, p.linkBytes q n, 1⟩ : Bk)] | none => []) ++ (match pout with | some q => [(⟨0x13, q, d, p.linkBytes q n, 0⟩ : Bk)] | none => []) ++
      (match pin, pout with
       | some q, some r => edges (q / 32) (r / 32) n
       | none, some r => ((p.inputSrcs d b).filterMap (fun x => x.2)).flatMap (fun s => (p.homeRuns s ((iWhole b).1 + e.2.2.1.1) e.2.2.1.2).flatMap (fun h =>
           ⟨0x12, h.1, d, h.2.2 * p.fmax s, 0⟩ :: edges (sectorOf h.1) (r / 32) (h.2.2 * p.fmax s)))
       | some q, none => parts.flatMap (fun k => ⟨0x12, k.tile, d, e.2.2.2 * k.n * f, 1⟩ :: edges (q / 32) (sectorOf k.tile) (e.2.2.2 * k.n * f))
       | none, none => []))

/-- Bookings of one placed instrument. -/
def Plan.instrBooks (p : Plan) (d i : Nat) (b : Block) (x : Place) : List Bk :=
  let parts := p.partsOf d i b
  let batched := x.chosen.getD 1 0 == 1
  let sub := Nat.max 1 (x.chosen.getD 2 1).toNat
  let g := Nat.max 1 (x.chosen.getD 3 1).toNat
  (if iKind b = 4 ∨ iKind b = 5 ∨ iKind b = 6 then (parts.mapIdx (fun k q => p.macBooks d i b q batched sub g (x.stack k))).flatten ++
      (if iKind b = 6 && Plan.macBooks.shares p d i b then [] else p.apBooks d b parts)
   else parts.flatMap (fun q => p.partBooks d i b q)) ++
  (if iRequantises b then p.rqBooks d i b else []) ++
  (iSources d b).flatMap (fun src => match p.skInstr d i src with | some (ix, sb) => p.skHbmBooks d d ix sb src | none => []) ++
  (if iKind b = 6 then [(⟨0x16, 0, d, b.nat 8, 0⟩ : Bk), ⟨0x14, 9, d, b.nat 8, 0⟩] else []) ++
  (if (iKind b = 0 ∨ iKind b = 1) ∧ (iDest b matches .hbm _) then [(⟨0x0E, x.stack 0, d, detBytes b, 0⟩ : Bk)] else []) ++
  (if iKind b = 2 ∧ !b.is 5 0 ∧ (iDest b matches .hbm _) then
    [(⟨0x0E, x.stack 0, d, (32 + 2 * (iRange b).2) * ceilDiv (p.fmax (p.mainSrc d b)) (Nat.max 1 (b.nat 6)), 0⟩ : Bk)] else []) ++
  (if iKind b = 8 ∧ b.is 2 0 then (parts.flatMap (fun q => x.hstacks.map (fun h => (⟨0x0E, h, d, capBytes p d b q.n, 0⟩ : Bk)))) else []) ++
  (if iKind b = 11 ∧ b.is 2 0 then flowBooks d (b.nat 3) (b.nat 4) (b.nat 6) else [])

/-- A receive buffer of a flow (R331): the dome, the consuming tile, H_f and B_f. -/
structure RecvBuf where
  dome : Nat
  tile : Nat
  slots : Nat
  bytes : Nat
  deriving DecidableEq, Repr

/-- Receive buffers of a placed instrument (R331), one for each input and producing tile. In the device L_t is 1 and W is 2, on the producer's own tile L_t is 0 and W is 1;
for a flow from another device W comes from its last link. -/
def Plan.recvOf (p : Plan) (d i : Nat) (b : Block) (x : Place) (books : List Bk) : List RecvBuf :=
  let l := (x.chosen.headD 0).toNat
  let parts := p.partsOf d i b
  let f := p.fmax (p.mainSrc d b)
  if iKind b = 4 ∨ iKind b = 5 ∨ iKind b = 6 then
    if l = 0 ∨ (iKind b = 6 ∧ Plan.macBooks.shares p d i b) then []
    else
      let a := (p.apSharers b).1
      let far := (p.apFlows d b).filter (fun e => e.2.1 == ownSerial)
      parts.flatMap (fun q =>
        (p.q4Flows d b q).map (fun e => (⟨d, q.tile, l + 1, up32 (32 + e.2)⟩ : RecvBuf)) ++
        far.map (fun e =>
          let path := p.apPath a e.1 ownSerial
          let last := (p.apLinks a).find? (fun k => k.2.nat 2 == (e.1 :: path).getD (path.length - 1) 0)
          let per := Nat.max 1 p.m * 64
          let w := match last with | some k => ceilDiv (k.2.nat 8 * 10) per - k.2.nat 7 * 10 / per + 2 | none => 2
          ⟨d, q.tile, l - p.apLt a e.1 path + w, up32 (32 * e.2.2.2 + e.2.2.2 * q.n * f)⟩))
  else
    ((books.filter (fun k => k.code == 0x12 && k.sub == 1)).map (fun k => (⟨d, k.unit, l + 1, up32 (32 + k.amount)⟩ : RecvBuf))) ++
    (if l = 0 ∨ iKind b = 11 then []
     else (parts.filter (fun q => q.tile == q.home)).map (fun q => ⟨d, q.tile, l + 1, up32 (32 + 9 * (iSources d b).length * q.n * f)⟩))

/-- Amount booked of a resource. -/
def bookedOf (l : List Bk) (code unit sub : Nat) : Nat := sumN ((l.filter (fun k => k.code == code && k.unit == unit && k.sub == sub)).map (fun k => k.amount))

/-- Where receive buffers lie: in the SRAM of the consuming tile as far as it has room beside everything else, otherwise on a stack of its sector, with their bandwidth and
their whole pages (R331). The bookings, and the pages by dome and tile. -/
def Plan.recvPlace (p : Plan) (failed : List Nat) (l : List Bk) (bufs : List RecvBuf) : List Bk × List (ObjKey × Nat × List Nat × Nat) :=
  let tiles := (bufs.map (fun r => r.tile)).eraseDups
  let rows := tiles.flatMap (fun t =>
    ((bufs.filter (fun r => r.tile == t)).foldl (fun (a : Nat × List (RecvBuf × Bool)) r =>
      if a.1 + r.slots * r.bytes ≤ 6291456 then (a.1 + r.slots * r.bytes, a.2 ++ [(r, true)]) else (a.1, a.2 ++ [(r, false)])) (bookedOf l 0x0B t 0, [])).2)
  let stack := fun (r : RecvBuf) => p.stackAny failed r.dome (sectorOf r.tile)
  let hbm := (rows.filter (fun x => !x.2)).map (fun x => x.1)
  (rows.map (fun x => if x.2 then ⟨0x0B, x.1.tile, x.1.dome, x.1.slots * x.1.bytes, 2⟩ else ⟨0x0E, stack x.1, x.1.dome, ceilDiv (2 * x.1.bytes * 257) 256, 0⟩),
   ((hbm.map (fun r => (r.dome, r.tile))).eraseDups).map (fun k =>
     let mine := hbm.filter (fun r => r.dome == k.1 && r.tile == k.2)
     (⟨.apertureLink, k.1, k.2, 0⟩, k.1, (mine.take 1).map stack, sumN (mine.map (fun r => pagesFor (r.slots * r.bytes))))))

/-- The control flow of every aperture link, each way (R327, R336). -/
def Plan.controlBooks (p : Plan) : List Bk :=
  (p.objs .apertureLink).flatMap (fun e => [⟨0x13, e.2.1, devDome, p.linkBytes e.2.1 4064, 0⟩, ⟨0x13, e.2.1, devDome, p.linkBytes e.2.1 4064, 1⟩])

/-- Bookings of a plan's objects, and the receive buffers of their flows. -/
def Plan.objBooks (p : Plan) : List Bk × List RecvBuf :=
  let instrs := (p.objs .instrDefine).map (fun e => match p.place? .instrDefine e.1 e.2.1 with
    | some x => if x.placed then let l := p.instrBooks e.1 e.2.1 e.2.2 x; (l, p.recvOf e.1 e.2.1 e.2.2 x l) else ([], [])
    | none => ([], []))
  let objs := (p.objs .zoomDefine).flatMap (fun e => match p.place? .zoomDefine e.1 e.2.1 with
      | some x => (if x.placed then p.zoomBooks e.1 e.2.1 e.2.2 (x.tiles.headD 0) (x.chosen.headD 0 == 1) (x.stack 0) else []) ++
          [⟨0x14, 1, e.1, 1, 0⟩, ⟨0x15, 1, e.1, 1, 3⟩]
      | none => []) ++
    (p.objs .instrDefine).map (fun e => ⟨0x15, 1, e.1, 1, 1⟩) ++
    (p.objs .maskDefine).flatMap (fun e => match p.place? .maskDefine e.1 e.2.1, p.instr e.1 (e.2.2.nat 2) with
      | some x, some ib => if p.placed e.1 (e.2.2.nat 2) then p.maskBooks e.1 e.2.2 (p.partsOf e.1 (e.2.2.nat 2) ib) (x.tiles.headD 0) (x.stack 0) else []
      | _, _ => []) ++
    (p.objs .plateDefine).flatMap (fun e => match p.place? .plateDefine e.1 e.2.1 with
      | some x => if p.placed e.1 (e.2.2.nat 1) then p.plateBooks e.1 e.2.2 (x.chosen.headD 1).toNat (x.stack 0) else []
      | none => []) ++
    (p.objs .streamDefine).flatMap (fun e => p.streamBooks e.1 e.2.1 e.2.2) ++
    (p.objs .sextantLoad).flatMap (fun e => p.sxBooks e.1 e.2.1 e.2.2) ++
    (p.objs .eventRoute).flatMap (fun e => [⟨0x15, 1, e.1, 1, 4⟩, ⟨0x15, 0, e.1, 1, 8192 + e.1⟩]) ++
    (p.objs .eyepieceConfig).flatMap (fun e => p.eyeBooks e.2.2)
  (objs ++ instrs.flatMap (fun x => x.1),
   instrs.flatMap (fun x => x.2) ++ (objs.filter (fun k => k.code == 0x12 && k.sub == 1)).map (fun k => ⟨k.dome, k.unit, 2, up32 (32 + k.amount)⟩))

/-- Pages of everything that a plan holds, receive buffers among them (R331, R486). -/
def Plan.pagesAll (p : Plan) (failed : List Nat) : List (ObjKey × Nat × List Nat × Nat) :=
  let o := p.objBooks
  p.pageList failed ++ (p.recvPlace failed (p.frontBooks failed ++ o.1) o.2).2

/-- Every booking of a plan (R43). -/
def Plan.books (p : Plan) (failed : List Nat) : List Bk :=
  let o := p.objBooks
  let base := p.frontBooks failed ++ o.1
  let recv := p.recvPlace failed base o.2
  let pages := ((p.pageList failed ++ recv.2).flatMap (fun e =>
    let (_, d, hs, n) := e
    let k := Nat.max 1 hs.length
    hs.mapIdx (fun i h => (⟨0x0F, h, d, (n / k + (if i < n % k then 1 else 0)) * 2 ^ 21, 0⟩ : Bk))))
  base ++ p.edgeBooks ++ p.controlBooks ++ pages ++ recv.1

/-! ### Budgets (R42, R493, R414) -/

/-- Budget of a resource, if it has one that does not depend on a dome. `lostPages` counts pages lost on a stack. -/
def Plan.budget (p : Plan) (lostPages : Nat → Nat) (code unit sub : Nat) : Option Nat :=
  match code with
  | 8 => some (320 * p.m)
  | 9 => some (10 * p.m)
  | 0x0A => some (5 * p.m)
  | 0x0B => if sub = 1 then some (((p.landGiven unit).getD 4096) * 1024) else if sub = 2 then none else some 6291456
  | 0x0C => some 8192
  | 0x0D => some (match sub with | 0 => 16 | 1 => 16 | 2 => 32 | 3 => 4 | 4 => 16 | _ => 8)
  | 0x0E => some (786432 * p.m * 13 / 1600)
  | 0x0F => some ((17088 - lostPages unit) * 2 ^ 21)
  | 0x10 => if sub ≠ 0 then some (subLimit sub) else some (160 * p.m * (match p.port unit with | some b => b.nat 2 | none => 0))
  | 0x11 => some (10240 * p.m)
  | 0x12 => some (1280 * p.m)
  | 0x13 => some (match p.port unit with | some b => if portEth b then 160 * p.m * b.nat 2 else 635 * p.m * b.nat 2 / 4 | none => 0)
  | 0x15 => some (if unit = 1 then (match sub with | 1 => 2048 | 2 => 4096 | 3 => 1024 | 4 => 4096 | _ => if 8192 ≤ sub then 256 else 65536) else if 1024 ≤ sub then 256 else if 256 ≤ sub then 16 else 64)
  | 0x16 => some 1024
  | 0x17 => some (subLimit sub)
  | _ => if code ≤ 7 then some (160 * p.m) else none

/-- Units of a tile that the tile share counts, with their budgets (R415): lane units, Plate unit, MAC array, Transit port, SRAM. -/
def Plan.shareUnits (p : Plan) : List (Nat × Nat × Nat) :=
  (List.range 7).map (fun k => (k + 1, 0, 160 * p.m)) ++ [(8, 0, 320 * p.m), (9, 0, 10 * p.m), (0x12, 0, 1280 * p.m), (0x12, 1, 1280 * p.m), (0x0B, 0, 6291456)]
/-- Tile share of a dome summed over tiles (R415). -/
def Plan.tileShare (p : Plan) (l : List Bk) (d : Nat) : Nat :=
  let mine := l.filter (fun k => k.dome == d)
  sumN ((List.range 64).map (fun t => ((p.shareUnits).map (fun u => ceilDiv (1024 * (bookedOf mine u.1 t u.2.1 + (if u.1 = 0x0B then bookedOf mine 0x0B t 2 else 0))) u.2.2)).foldl Nat.max 0))
/-- Pages booked by a dome. -/
def pagesBooked (l : List Bk) (d : Nat) : Nat := sumN ((l.filter (fun k => k.dome == d && k.code == 0x0F)).map (fun k => k.amount)) / 2 ^ 21
/-- A dome's booking of a grant and its ceiling, where the grant is a count (R414). Grants without a record are 0. -/
def Plan.grantUse (p : Plan) (l : List Bk) (d g : Nat) : Nat × Nat :=
  let cap := (p.grant d g).map (fun b => b.nat 2)
  let use := match g with
    | 2 => p.tileShare l d
    | 3 => pagesBooked l d
    | 5 => bookedOf (l.filter (fun k => k.dome == d)) 0x14 5 0
    | 8 => 0
    | _ => bookedOf (l.filter (fun k => k.dome == d)) 0x14 g 0
  (use, cap.getD 0)
/-- EGRESS grant of a dome on a port in bytes per tick (R414); its block holds a list at position 2. -/
def Plan.egressGrant (p : Plan) (d port : Nat) : Option Nat :=
  match p.grant d 4 with
  | some b => ((b.rows 2).find? (fun r => r.headD 0 == (port : Int))).map (fun r => egressBytes p.m (r.getD 1 0).toNat)
  | none => none

/-- A resource that does not fit: code, unit, amount booked in all, limit; `sub` tells apart what shares a code and unit (the sub of `Bk`, or the dome
whose grant it is). -/
structure Short where
  code : Nat
  unit : Nat
  need : Nat
  have' : Nat
  sub : Nat := 0
  deriving DecidableEq, Repr

/-- Sextants that tick `e` of `len` grid periods cannot hold: a lease that starts or moves in it adds the scrub to C, a swap its copy and clear cycles
(R347, R374; log entry 172). -/
def Plan.leaseShorts (p : Plan) (swaps : List (Nat × Nat)) (e len : Nat) : List Short :=
  p.places.filterMap (fun x =>
    let more := (if x.since == e then scrubCycles else 0) + (if swaps.contains (x.dome, x.index) then x.swapCycles else 0)
    let need := p.sxCycles x.dome x.index + more
    if x.op == .sextantLoad && decide (0 < more) && decide (5 * len < need) then some ⟨0x0A, x.index, need, 5 * len, x.dome⟩ else none)

/-- Resources that a plan exceeds, in ascending code and unit (R43, R393, R414). -/
def Plan.shorts (p : Plan) (failed : List Nat) (lostPages : Nat → Nat) : List Short :=
  let l := p.books failed
  let keys := (l.map (fun k => (k.code, k.unit, k.sub))).eraseDups
  let dev := keys.filterMap (fun k =>
    match p.budget lostPages k.1 k.2.1 k.2.2 with
    | some lim => let u := bookedOf l k.1 k.2.1 k.2.2
                  -- SRAM receive buffers (sub 2) were given what the rest leaves (R331): they never make a tile fall short
                  if lim < u then some (⟨k.1, k.2.1, u, lim, k.2.2⟩ : Short) else none
    | none => none)
  let domes := ((l.map (fun k => k.dome)).filter (fun d => d != 0 && d != devDome)).eraseDups
  let gr := domes.flatMap (fun d =>
    ([1, 2, 5, 7, 9].filterMap (fun g => let u := p.grantUse l d g; if u.2 < u.1 then some (⟨0x14, g, u.1, u.2, d⟩ : Short) else none)) ++
    (let u := p.grantUse l d 3; if u.2 < u.1 then [(⟨0x14, 3, u.1, u.2, d⟩ : Short)] else []) ++
    ((l.filter (fun k => k.dome == d && k.code == 0x0F && !stackAllowed p d k.unit)).map (fun k => (⟨0x0F, k.unit, k.amount, 0, 65536 + d⟩ : Short))) ++
    (((l.filter (fun k => k.dome == d && k.code == 0x10 && k.sub == 0)).map (fun k => k.unit)).eraseDups.filterMap (fun port =>
      let u := bookedOf (l.filter (fun k => k.dome == d)) 0x10 port 0
      match p.egressGrant d port with
      | some cap => if cap < u then some (⟨0x14, 4, u, cap, 65536 * port + d⟩ : Short) else none
      | none => none)))
  (dev ++ gr).mergeSort (fun a b => decide (a.code < b.code) || (a.code == b.code && decide (a.unit ≤ b.unit)))

/-- Do bookings fit on tiles beside those already made? Only resources of a tile are looked at (R201). -/
def Plan.tileFits (p : Plan) (l add : List Bk) : Bool :=
  (add.filter (fun k => decide (k.code ≤ 9) || k.code == 0x0B || k.code == 0x0D || k.code == 0x12 || k.code == 0x11)).all (fun k =>
    match p.budget (fun _ => 0) k.code k.unit k.sub with
    | some lim => decide (bookedOf (l ++ add) k.code k.unit k.sub ≤ lim)
    | none => true)

/-! ### Placement (R169, R201, R221, R235, R245, R258, R269, R281, R346, R631) -/

/-- Logical tiles of a sector in ascending order from a tile, wrapping, without withdrawn ones (R201). -/
def tilesFrom (gone : List Nat) (t : Nat) : List Nat :=
  let s := sectorOf t
  ((List.range 16).map (fun k => 16 * s + (t % 16 + k) % 16)).filter (fun x => !gone.contains x)

/-- Place `k` parts of a home run: the first on the home tile, the others on the following tiles in ascending order, skipping a tile on which the next part does
not fit. -/
def placeRun (p : Plan) (gone : List Nat) (cost : PartAt → List Bk) (l : List Bk) (home off n k : Nat) : Option (List PartAt × List Bk) :=
  ((List.range k).foldl (fun (a : Option (List PartAt × List Bk × List Nat)) (j : Nat) =>
    match a with
    | none => none
    | some (ps, bs, rest) =>
      let lo := ceilDiv (j * n) k
      let cnt := ceilDiv ((j + 1) * n) k - lo
      match (if j = 0 then [home] else rest).dropWhile (fun t => !p.tileFits bs (cost ⟨t, off + lo, cnt, home⟩)) with
      | t :: r => let q : PartAt := ⟨t, off + lo, cnt, home⟩; some (ps ++ [q], bs ++ cost q, if j = 0 then rest else r)
      | [] => none) (some ([], l, (tilesFrom gone home).filter (fun t => t != home)))).map (fun x => (x.1, x.2.1))

/-- Parts of an instrument under R201: for each home tile the smallest number of parts that fits. Where none fits, one part on the home tile, which the
budget then refuses. -/
def placeParts (p : Plan) (gone : List Nat) (cost : PartAt → List Bk) (l : List Bk) (runs : List (Nat × Nat × Nat)) : List PartAt :=
  (runs.foldl (fun (a : List PartAt × List Bk) (r : Nat × Nat × Nat) =>
    let best := (List.range (tilesFrom gone r.1).length).findSome? (fun k => placeRun p gone cost a.2 r.1 r.2.1 r.2.2 (k + 1))
    match best with
    | some (ps, bs) => (a.1 ++ ps, bs)
    | none => let q : PartAt := ⟨r.1, r.2.1, r.2.2, r.1⟩; (a.1 ++ [q], a.2 ++ cost q)) ([], l)).1

/-- Parts under R235: `t` tiles out of the active ones. -/
def macParts (gone : List Nat) (n t : Nat) : List PartAt :=
  let act := (List.range 64).filter (fun x => !gone.contains x)
  (List.range t).map (fun k =>
    let r := partRange n t k
    let tile := act.getD (k * act.length / Nat.max 1 t) 0
    ⟨tile, r.1, r.2, tile⟩)
/-- T of R235. -/
def partsCount (gone : List Nat) (b : Block) : Nat :=
  match b.nat? (if iKind b = 6 then 5 else 15) with | some t => t | none => ((List.range 64).filter (fun x => !gone.contains x)).length

/-- Default SUB_TICKS (R221). -/
def subDefault (dump fmax : Nat) : Nat :=
  let lo := ceilDiv 4096 (Nat.max 1 fmax)
  let ds := (List.range (Nat.min dump 4096)).map (· + 1) |>.filter (fun x => dump % x == 0)
  (ds.find? (fun x => decide (lo ≤ x))).getD (ds.getLastD 1)

/-- Whole-tick Transit latency L_inst within a device: 1 when a flow leaves its tile (R330). -/
def lInstOf (remote : Bool) : Nat := b2n remote

/-- What decides whether a part of an instrument fits a tile: what it books and, of an RTSA, the work of its masks and Plates there, each Plate at its given or chosen
u, else the largest (R245, R269). An RTSA that has neither trace nor mask yet is placed for one mask over its channels, as the worked example does. -/
-- DEDUCED, notes/assumptions/171.md
def Plan.placeBooks (p : Plan) (d i : Nat) (b : Block) (q : PartAt) : List Bk :=
  let f := p.fmax (p.mainSrc d b)
  let masks := p.masksOf d i
  p.partBooks d i b q ++
  (if iKind b = 2 then
    (if b.is 5 0 && masks.isEmpty then [⟨7, q.tile, d, q.n * f, 0⟩] else masks.flatMap (fun e => (p.maskBooks d e.2 [q] 0 0).filter (fun k => k.code != 0x0E))) ++
    (p.platesOf d i).flatMap (fun e =>
      let u := match p.place? .plateDefine d e.1 with | some x => (x.chosen.headD 1).toNat | none => (e.2.nat? 13).getD 65536
      plateUnits d f e.2 u (plateCut e.2 (iRange b).1 [q]))
  else [])

/-- Placement of an instrument, on a plan that holds its parameters and no placement of it (R201, R219, R221, R235, R281, R284, R631). That of a POL instrument follows
SOURCE_X, wherever Y lies. -/ -- DESIGN CHOICE, notes/assumptions/175.md
def Plan.placeInstr (p : Plan) (failed gone : List Nat) (d i order : Nat) (b : Block) (e : Nat) : Place :=
  let l := p.books failed
  let rg := iRange b
  let src := p.mainSrc d b
  let runs := p.homeRuns src rg.1 rg.2
  let mk := fun (parts : List PartAt) (mode sub g remote : Nat) (hstacks : List Nat) =>
    ({ op := .instrDefine, dome := d, index := i, placed := true, order := order, tiles := parts.map (fun q => q.tile), hstacks := hstacks, latency := 0,
       chosen := [(remote : Int), mode, sub, g] ++ parts.map (fun q => (q.n : Int)), since := e } : Place)
  let stackOfPart := fun (q : PartAt) => p.stackAny failed d (sectorOf q.tile)
  match iKind b with
  | 3 =>
    let ps := ((iSources d b).flatMap (fun s => (p.homeRuns s rg.1 rg.2).map (fun r => (r.1, r.2.1, r.2.2)))).eraseDups
    let ps := ps.foldl (fun (a : List PartAt) r => if a.any (fun q => q.tile == r.1) then a else a ++ [⟨r.1, r.2.1, r.2.2, r.1⟩]) []
    mk ps 0 1 1 0 []
  | 8 =>
    let parts := match b.word? 3 with
      | some 4 => (p.homeRuns (p.capSrc d b) rg.1 rg.2).map (fun r => (⟨r.1, r.2.1, r.2.2, r.1⟩ : PartAt))
      -- the beamformer's parts that produce channels of the capture (R281)
      | some 5 => (match p.instr d (b.nat 4 % 2 ^ 16) with
        | some ib => (p.partsOf d (b.nat 4 % 2 ^ 16) ib).filterMap (fun q =>
            let lo := Nat.max rg.1 ((iRange ib).1 + q.off)
            let hi := Nat.min (rg.1 + rg.2) ((iRange ib).1 + q.off + q.n)
            if lo < hi then some (⟨q.tile, lo - rg.1, hi - lo, q.tile⟩ : PartAt) else none)
        | none => [])
      | some 0 => (match p.feed (b.nat 4 % 2 ^ 32) with | some fb => (feedTiles fb).mapIdx (fun k t => ⟨t, k, 1, t⟩) | none => [])
      | some 1 => (match p.feed (b.nat 4 % 2 ^ 32) with | some fb => [⟨(feedTiles fb).getD (b.nat 5) 0, 0, 1, (feedTiles fb).getD (b.nat 5) 0⟩] | none => [])
      | _ => (p.homeRuns (p.capSrc d b) rg.1 rg.2).map (fun r => (⟨r.1, r.2.1, r.2.2, r.1⟩ : PartAt))
    let sector := sectorOf ((parts.head?.map (fun q => q.tile)).getD 0)
    let sts := if (b.nats 12).isEmpty then sectorStacks sector else (b.nats 12).mergeSort (fun x y => decide (x ≤ y))
    mk parts 0 1 1 0 (sts.filter (fun h => !failed.contains h))
  | 10 => mk [] 0 1 1 0 []
  | 11 => mk (if b.is 2 0 then [⟨b.nat 3, 0, 1, b.nat 3⟩, ⟨b.nat 4, 1, 1, b.nat 4⟩] else [⟨((List.range 64).find? (fun x => !gone.contains x)).getD 0, 0, 1, 0⟩])
      0 1 1 0 [p.stackFor failed d (if b.is 2 2 then b.nat 5 / 32 else sectorOf (if b.is 2 0 then b.nat 4 else 0))]
  | k =>
    if k = 4 ∨ k = 5 ∨ k = 6 then
      let parts := macParts gone rg.2 (partsCount gone b)
      let remote := parts.any (fun q => (p.q4Flows d b q).any (fun e => e.1 != q.tile))
      let f := p.fmax src
      let n := iInputs b
      let np := nProducts b
      let fits := fun (q : PartAt) (bytes : Nat) => decide (bookedOf l 0x0B q.tile 0 + bytes ≤ 6291456)
      let direct := k ≠ 4 || b.is 8 1 || (b.is 8 0 && parts.all (fun q => fits q (24 * np * q.n)))
      let sub := match b.nat? 9 with | some x => x | none => subDefault (b.nat 6) f
      let g := if direct then 1 else ((([2048, 1024, 512, 256, 128, 64] : List Nat).find? (fun g => let gp := Nat.min g n; parts.all (fun q => fits q (24 * gp * gp + 1024 * gp)))).getD 64)
      mk parts (b2n (!direct)) (if direct then 1 else sub) g (Nat.max (lInstOf remote) (p.apTransit d b)) (parts.map stackOfPart)
    else
      let parts := placeParts p gone (fun q => p.placeBooks d i b q) l runs
      let away := (p.masksOf d i).any (fun e => match p.place? .maskDefine d e.1 with | some x => x.tiles.any (fun t => !(sweepAway e.2 rg.1 parts t).isEmpty) | none => false)
      mk parts 0 1 1 (lInstOf (away || parts.any (fun q => q.tile != q.home))) (parts.map stackOfPart)

end Sys2Proof.Machine
end

