-- ==== Sys2Proof/Machine/FeedPlan.lean ====
section
/-! DEFINITION. FeedPlan.lean: the owner's feed plan: what changes to it alter (R24), and the opcodes of ports, feeds, conditioning, coarse definitions
and SK (Table 13-10). -/
namespace Sys2Proof.Machine

/-! ### Pages of the committed configuration (R486) -/

/-- Allocate and free pages so that every object of the plan has its own (R486). Sextant output rings and the Eyepiece's pages among them. -/
def syncPages (s : State) : State :=
  let want := s.plan.pagesAll s.hbm.failed
  let s := onHbm s (fun b => { b with pages := b.pages.filter (fun p => match p.obj with | none => true | some k => pageIdle s p || want.any (fun w => w.1 == k)) })
  want.foldl (fun (s : State) (w : ObjKey × Nat × List Nat × Nat) => syncObj s w.1 w.2.1 w.2.2.1 w.2.2.2) s

/-! ### What a change alters (R24) -/

/-- Does a change of a port touch the feeds that it carries? A change of PTP alone does not (R24). -/
def portAlters (o n : Option Block) : Bool := o.map (fun b => b.put 12 (.num 0)) != n.map (fun b => b.put 12 (.num 0))
/-- Does a change of the landing side of a feed alter it, at a device tick? -/
def Plan.landAlters (o n : Plan) (f : Nat) : Bool :=
  match o.feed f with
  | none => false
  | some b => n.feed f != some b || (feedPorts b).any (fun q => portAlters (o.port q) (n.port q))
/-- Does a change of conditioning, coarse definition or SK alter every channel of a feed, from a sample tick on (R149)? -/
def Plan.chanAlters (o n : Plan) (f : Nat) : Bool :=
  [1, 3, 4, 5, 6, 7, 8, 10, 11].any (fun i => (o.cond f).at i != (n.cond f).at i) || o.lskFeed f != n.lskFeed f ||
  (match o.coarse f, n.coarse f with
   | some c, some c' => coarseClears c c'
   | some _, none => true
   | none, _ => false)

/-- What input `k` of a Sextant's attachment reads: a Q4 source, a source, or a sweep mask (R365). -/
def Plan.sxReads (p : Plan) (d : Nat) (a : Block) (k : Nat) : List (Src × Option (Nat × Nat)) :=
  let r := some (a.nat (10 + k), a.nat (14 + k))
  match a.word? (2 + k) with
  | some 1 => (match p.instr d (a.nat (6 + k)) with | some ib => (iSources d ib).map (fun s => (s, r)) | none => [])
  | some 2 => [(srcOf d (a.at (6 + k)), r)]
  | some 3 => (match p.mask d (a.nat (6 + k)) with | some mb => [(p.maskSrc d mb, none)] | none => [])
  | _ => []
/-- What the Sextants attached to an instrument read. -/
def Plan.attachReads (p : Plan) (d i : Nat) : List (Src × Option (Nat × Nat)) :=
  ((p.of .sextantAttach d).filter (fun (e : Nat × Block) => e.2.nat 1 == i)).flatMap (fun e => (List.range 4).flatMap (p.sxReads d e.2))

/-- Everything an instrument reads: sources with their channel ranges, none at the points before channelisation. -/
def Plan.reads (p : Plan) (d i : Nat) (b : Block) : List (Src × Option (Nat × Nat)) :=
  let rg := some (iTaken b)
  match iKind b with
  | 8 => match b.word? 3 with
    | some 0 => [(p.capSrc d b, none)]
    | some 1 => [(p.capSrc d b, none)]
    | some 5 => (match p.instr d (b.nat 4 % 2 ^ 16) with
      | some ib => (iSources d ib).map (fun s => (s, some (iTaken ib))) ++ (iQ4 ib).map (fun e => (p.q4Src d e, some (iRange ib)))
      | none => [])
    | some 4 => [(p.q4Src d (b.nat 4 % 2 ^ 16, b.nat 4 % 2 ^ 32 / 2 ^ 16), rg)]
    | _ => [(p.capSrc d b, rg)]
  | 9 => (iSources d b).map (fun s => (s, rg)) ++ p.attachReads d i
  | 10 => p.attachReads d i
  | _ => (iSources d b).map (fun s => (s, rg)) ++ (iQ4 b).map (fun e => (p.q4Src d e, rg))

/-- Does a new plan still keep the coarse channels of a read? -/
def Plan.keeps (o n : Plan) (r : Src × Option (Nat × Nat)) : Bool :=
  let kept := fun (f first count : Nat) => match n.coarse f with
    | some c => decide (coFirst c ≤ first) && decide (first + count ≤ coFirst c + coCount c)
    | none => false
  match r with
  | (_, none) => true
  | (.feed f, some rg) => (o.coarse f).isNone || kept f rg.1 rg.2
  | (.window d w, some _) => match o.zoom d w with | some z => kept (z.nat 1) (z.nat 2) (zoW z) | none => true

/-- How a change alters what a placed instrument reads: not at all, at its device tick, or from its sample tick on. -/
inductive Altered where
  | no | device | sample
  deriving DecidableEq, Repr

/-- A conditioning that differs from another one at most in FTW, LO_HZ and DELAY_EN: those move the sky frequency or the delay of channels and clear no history (R24, R145). -/
def chanOnly (o n : Block) : Bool := [3, 5, 6, 7, 10, 11].all (fun i => o.at i == n.at i)
/-- What a change alters for a RECORDER at POINT = INPUT: it reads landed samples and no channel, so the third item of R24 cannot touch it. -/
def Plan.inputAlters (o n : Plan) (f : Nat) : Bool :=
  !chanOnly (o.cond f) (n.cond f) || o.lskFeed f != n.lskFeed f ||
  (match o.coarse f, n.coarse f with
   | some c, some c' => coarseClears c c'
   | some _, none => true
   | none, _ => false)

/-- Does a change from one plan to another alter what an instrument reads (R24)? -/
def Plan.altered (o n : Plan) (d i : Nat) (b : Block) : Altered :=
  let rs := o.reads d i b
  let moved := fun (f : Nat) => if iKind b = 8 ∧ b.is 3 0 then o.inputAlters n f else o.chanAlters n f
  if rs.any (fun r => o.landAlters n (o.feedOf r.1)) then .device
  else if rs.any (fun r => moved (o.feedOf r.1) || !o.keeps n r) then .sample else .no

/-- Placed instruments that a change alters: dome, instrument, from when. One admitted by the same set, at tick `e`, was admitted against the new plan. -/
def Plan.affected (o n : Plan) (e : Nat) : List (Nat × Nat × Altered) :=
  (o.objs .instrDefine).filterMap (fun x =>
    let (d, i, b) := x
    let fresh := match n.place? .instrDefine d i with | some y => !y.placed || y.since == e | none => true
    if !o.placed d i || fresh then none
    else match o.altered n d i b with | .no => none | a => some (d, i, a))

/-- The list of affected instruments in a response buffer (R394). -/
def affectedList (l : List (Nat × Nat)) : List Byte := l.flatMap (fun x => leBytes 2 x.1 ++ leBytes 2 x.2 ++ leBytes 4 0)

/-- Unplace an instrument in a plan at once; or, with `since` above 0, from sample tick `since` on, the latency it keeps until then being `lam` (R24, R633). -/
def Plan.unplace (p : Plan) (d i since lam : Nat) : Plan :=
  match p.place? .instrDefine d i with
  | some x => p.setPlace { x with placed := false, since := since, latency := lam }
  | none => p
/-- Unplace every instrument that a change of plan `o` alters (R24). -/
def Plan.withdrawAltered (n o : Plan) (l : List (Nat × Nat × Altered)) (e : Nat) : Plan :=
  l.foldl (fun (p : Plan) x => if x.2.2 = .sample then p.unplace x.1 x.2.1 e (match o.instr x.1 x.2.1 with | some b => o.reported x.1 x.2.1 b | none => 0)
    else p.unplace x.1 x.2.1 0 0) n

/-- Pending instruments whose reads a set alters (R24, R391). -/
def lateAltered (l : List (Nat × Nat × Block × Plan × Plan)) : List (Nat × Nat × Block × Plan × Plan) :=
  l.filter (fun (x : Nat × Nat × Block × Plan × Plan) => x.2.2.2.1.altered x.2.2.2.2 x.1 x.2.1 x.2.2.1 != .no)

/-- R24 for one command that touches the feeds picked out: rejected with the list of affected instruments unless WITHDRAW is set. -/
def alterBad (c : Ctx) (o : Plan) (m : Cmd) (slot : Nat) (mine : Nat → Bool) : Option Reject :=
  let l := (o.affected c.plan c.e).filter (fun x => match o.instr x.1 x.2.1 with
    | some b => (o.reads x.1 x.2.1 b).any (fun r => mine (o.feedOf r.1))
    | none => false)
  -- a pending instrument counts as placed (R391)
  let late := (lateAltered c.late).filter (fun x => (x.2.2.2.1.reads x.1 x.2.1 x.2.2.1).any (fun r => mine (x.2.2.2.1.feedOf r.1)))
  let all := (l.map (fun x => (x.1, x.2.1)) ++ late.map (fun x => (x.1, x.2.1))).mergeSort (fun x y => decide (x.1 < y.1) || (x.1 == y.1 && decide (x.2 ≤ y.2)))
  if m.withdraw || all.isEmpty then none
  else some { status := .inconsistent, detail := slot, resp := affectedList all }

/-! ### Ports (R87, R89) -/

/-- Lanes of a configured port. -/
def portLanes (p : Nat) (b : Block) : List Nat := (List.range (b.nat 2)).map (fun k => p + k)
/-- Has a port an address of the family of `a`? -/
def portHas (b : Block) (v4 : Bool) : Bool := !ipNone (if v4 then ipBytes b 4 else ipBytes b 7)
/-- The port's own address of a family. -/
def portAddr (b : Block) (v4 : Bool) : List Byte := if v4 then ipBytes b 4 else ipBytes b 7
/-- Is an address one of the port's own? -/
def portOwns (b : Block) (a : List Byte) : Bool := !ipNone a && (a == ipBytes b 4 || a == ipBytes b 7)

/-- DST_ADDR = PORT (log entry 12). -/
def dstIsPort (b : Block) : Bool := b.nat 4 == 2 ^ 63 && b.nat 5 == 0

/-! ### Feeds (R106, R107) -/

/-- Real-equivalent rate times RATE_DEN (R107). -/
def realRate (b : Block) : Nat := b.nat 13 * (1 + b.nat 12)
/-- K that R14 gives a feed. -/
def feedKOf (b : Block) : Nat := if b.flag 12 then 1 else Nat.max 1 (ceilDiv (b.nat 13) (b.nat 14 * 50000000000))
/-- Tick alignment of S and ANCHOR_SAMPLE (R141). -/
def alignBad (b c : Block) (m : Nat) : Bool :=
  let unit := feedDiv b * condD c
  feedS b m % unit != 0 || b.nat 16 % unit != 0
/-- f P is no integer (R37). -/
def tickBad (b : Block) (m : Nat) : Bool := let r := feedSRat b m; r.1 % r.2 != 0

/-- Addresses that a feed's packets may go to at a port. -/
def dstAt (pb b : Block) : List (List Byte) := if dstIsPort b then [ipBytes pb 4, ipBytes pb 7].filter (fun a => !ipNone a) else [ipBytes b 4]
/-- Could one packet match both feeds on a shared port (R107)? -/
def Plan.feedsOverlap (p : Plan) (a b : Block) : Bool :=
  (feedPorts a).any (fun q => (feedPorts b).contains q &&
    (if a.is 1 2 || b.is 1 2 then a.is 1 2 && b.is 1 2 && a.nat 8 == b.nat 8
     else match p.port q with
       | none => false
       | some pb => (dstAt pb a).any (fun x => (dstAt pb b).contains x) && a.nat 3 == b.nat 3 &&
         (ipNone (ipBytes a 6) || ipNone (ipBytes b 6) || ipBytes a 6 == ipBytes b 6) &&
         (a.at 1 != b.at 1 || (if a.is 1 0 then a.nat 8 == b.nat 8 else a.nat 9 == b.nat 9 && a.nat 10 == b.nat 10))))

/-- Does a feed lack an address of a family it needs at a port (R89, R107)? DST_ADDR = PORT with any source needs an address of one family. -/
-- DESIGN CHOICE, notes/assumptions/151.md
def addrBad (pb b : Block) : Bool :=
  let src := ipBytes b 6
  (if dstIsPort b then (if ipNone src then !portHas pb true && !portHas pb false else !portHas pb (isV4 src))
   else if ipMulticast (ipBytes b 4) then !portHas pb (isV4 (ipBytes b 4)) else !portOwns pb (ipBytes b 4)) ||
  (!ipNone src && !dstIsPort b && isV4 src != isV4 (ipBytes b 4))

/-- First parameter of a feed definition that breaks a consistency rule in a plan (R14, R17, R37, R107, R128, R141). -/
def Plan.feedBad (p : Plan) (f : Nat) (b : Block) : Option Nat :=
  let ports := feedPorts b
  let tiles := feedTiles b
  let sector := (ports.headD 0) / 32
  let others := (p.of .feedDefine devDome).filter (fun (e : Nat × Block) => e.1 != f)
  let c := p.cond f
  let checks : List (Bool × Nat) :=
    [(ports.isEmpty || !ports.eraseDups.length == ports.length || ports.any (fun q => q / 32 != sector) ||
        ports.any (fun q => match p.port q with | some pb => portEth pb == b.is 1 2 | none => true), 2),
     (!b.is 1 2 && ports.any (fun q => match p.port q with | some pb => addrBad pb b | none => false), 4),
     (others.any (fun e => p.feedsOverlap b e.2), if b.is 1 2 then 8 else 3),
     (decide (200000000000 * b.nat 14 < realRate b) || tickBad b p.m || (b.is 1 1 && b.nat 13 % b.nat 14 != 0), 13),
     (alignBad b c p.m || b.nat 16 * feedW b % 8 != 0, 16),
     (decide (b.nat 18 < b.nat 17), 18),
     (tiles.length != feedKOf b || tiles.eraseDups.length != tiles.length || tiles.any (fun t => sectorOf t != sector) ||
        others.any (fun e => (decide (1 < tiles.length) || decide (1 < (feedTiles e.2).length)) && (feedTiles e.2).any (fun t => tiles.contains t)), 19),
     (match b.at 21 with
      | .num k => others.any (fun e => (feedTiles e.2).any (fun t => tiles.contains t) && (match e.2.at 21 with | .num j => j != k | _ => false))
      | _ => false, 21)]
  (checks.find? (fun x => x.1)).map (fun x => slotOf b x.2)

/-- First parameter of a feed's conditioning that breaks a consistency rule (R128, R141, Table 5-7). -/
def Plan.condBad (p : Plan) (f : Nat) : Option Nat :=
  match p.feed f with
  | none => none
  | some b =>
    let c := p.cond f
    if 1 < feedK b && (c.int 1 != 0) then some 1
    else if 1 < feedK b && !c.is 3 0 then some 3
    else if (1 < feedK b && condD c != 1) || alignBad b c p.m then some 5
    else if c.flag 9 && !c.flag 8 then some 9 else none

/-- A custom coefficient set that a definition of `n` channels and `t` taps cannot use (R156). -/
def coefSetBad (s : State) (d : Nat) (v : PV) (n t : Nat) : Bool :=
  match v with
  | .num k =>
    let set := tgetD s.coefSets (d, k.toNat) []
    let h := fun (m : Nat) => (set.getD (if m < n * t / 2 then m else n * t - 1 - m) 0).natAbs
    set.length != n * t / 2 || (List.range n).any (fun m => decide (163840 < ((List.range t).map (fun j => h (m + j * n))).foldl (· + ·) 0))
  | _ => false

/-- First parameter of a coarse definition that breaks a consistency rule (R150, R156, R161). -/
def Plan.coarseBad (s : State) (p : Plan) (f : Nat) : Option Nat :=
  match p.coarse f, p.feed f with
  | some c, some b =>
    let tot := coN c * feedK b
    if 1 < feedK b ∧ coOs c = 0 then some 3
    else if coefSetBad s 0 (c.at 4) (coN c) (c.nat 2) then some 4
    else if coN c ≤ c.nat 5 then some 5
    else if tot ≤ coFirst c then some 6
    else if coCount c = 0 ∨ tot < coFirst c + coCount c then some 7 else none
  | _, _ => none

/-- DST_ADDR and port rules of every feed on a port, after a change of the port. -/
def Plan.portFeedsBad (p : Plan) (q : Nat) : Bool :=
  (p.of .feedDefine devDome).any (fun e => (feedPorts e.2).contains q && (p.feedBad e.1 e.2).isSome)
/-- Streams and aperture links on a port. -/
def Plan.portStreams (p : Plan) (q : Nat) : List (Nat × Nat × Block) := (p.objs .streamDefine).filter (fun e => e.2.2.nat 2 == q)
def Plan.portLinks (p : Plan) (q : Nat) : List (Nat × Nat × Block) := (p.objs .apertureLink).filter (fun e => e.2.2.nat 1 == q)

/-- PORT_CONFIG (R87, R89). -/
def portConfigC : CSpec :=
  { names := fun c m => rejIf (m.block.is 1 2 && (c.plan.port (m.block.nat 0)).isNone) (rej .nosuch 0),
    edit := fun _ m p => if m.block.is 1 2 then p.del .portConfig devDome (m.block.nat 0) else p.put .portConfig devDome (m.block.nat 0) m.block,
    verify := fun c o m =>
      let q := m.block.nat 0
      let b := m.block
      let lanes := portLanes q b
      let used := (c.plan.of .portConfig devDome).any (fun e => e.1 != q && (portLanes e.1 e.2).any (fun l => lanes.contains l))
      let named := (c.plan.of .feedDefine devDome).any (fun e => (feedPorts e.2).contains q) || !(c.plan.portStreams q).isEmpty || !(c.plan.portLinks q).isEmpty
      let streamBad := (c.plan.portStreams q).any (fun e => !portEth b || !portHas b (isV4 (ipBytes e.2.2 4)))
      firstRej
        [if b.is 1 2 then rejIf named (rej .inconsistent 0)
         else rejIf (if b.is 1 0 then !([1, 2, 4, 8].contains (b.nat 2)) || q % b.nat 2 != 0 else b.nat 2 == 0 || decide (32 < b.nat 2)) (rej .inconsistent 2),
         rejIf (!b.is 1 2 && (decide (32 < q % 32 + b.nat 2) || used)) (rej .inconsistent 2),
         rejIf (!b.is 1 2 && (c.plan.portFeedsBad q || streamBad)) (rej .inconsistent 1),
         alterBad c o m 0 (fun f => match o.feed f with | some fb => (feedPorts fb).contains q | none => false)],
    -- the port retrains after a change of MODE or WIDTH and receives nothing until its link is up; one that is removed, or new, keeps its counters alone
    apply := fun old m s =>
      let q := m.block.nat 0
      let b := m.block
      match old.port q with
      | some ob =>
        if !b.is 1 2 && ob.at 1 == b.at 1 && ob.at 2 == b.at 2 then s
        else
          let up := (portRun s q).linkUp
          let s := if up && !b.is 1 2 then bump s q 0 .linkDown 1 else s
          let s := onPort s q (fun r => if b.is 1 2 then { PortRun.reset with cnt := r.cnt } else r.dropLink)
          if up then linkEvent s q else s
      | none => onPort s q (fun r => { PortRun.reset with cnt := r.cnt }) }

/-- Parameters of a feed whose change replaces its ring: all but the match fields other than PORTS (R116). -/
def ringChanges (o n : Block) : Bool := [1, 2, 11, 12, 13, 14, 15, 16, 17, 18, 19, 20, 21].any (fun i => o.at i != n.at i)

/-- The rings of a feed that is removed or replaced at the running tick close (R116). -/
def FeedRun.shut (e : Nat) (fr : FeedRun) : FeedRun :=
  let l := fr.rings.map (Ring.shut e)
  { fr with rings := l.map (·.1), missing := fr.missing + (l.map (·.2)).foldl (· + ·) 0 }

/-- A feed's new ring from its effective tick on (R116). The old ones release their slots on schedule, which are not processed. The pipeline starts with its history cleared, no delay record and its
coefficient regions empty; counters go on, for they count from reset (R121). A `fresh` definition, of a feed that the plan did not hold, starts with the settings of Table 5-7. -/
-- DESIGN CHOICE, notes/assumptions/150.md
def newRing (s : State) (f : Nat) (b : Block) (fresh : Bool) : State :=
  let e := s.time.tick64
  let first := e + 1 - feedA b
  let i0 := firstSample b s.plan.m e / feedDiv b
  let s := onFeed s f (fun fr =>
    let fr := fr.shut e
    { fr with
      rings := fr.rings ++ [openSlot e { block := b, m := s.plan.m, first := first, closed := false, slots := [] }],
      condNext := first, ncoFrom := i0, ncoPhase := 0, input := [], subs := fr.subs.map (fun c => { c with mixed := [], decim := [] }), firstTick := first,
      active := [], staged := [], regions := [], swap := none, delay := none, delayQ := [],
      cond := if fresh || fr.cond.isEmpty then [(0, condDefault f)] else fr.cond })
  { s with coarse := s.coarse.map (fun x => if x.1 = f then (x.1, { x.2 with hist := [], settings := if fresh then [] else x.2.settings }) else x),
           sks := if fresh then s.sks.map (fun x => if x.1 = (devDome, f) then (x.1, { x.2 with settings := x.2.settings ++ [(Nat.min first e, none)] }) else x) else s.sks }

/-- Remove a feed: its slots are released as they stand (R116). -/
def closeFeed (s : State) (f : Nat) : State := onFeed s f (FeedRun.shut s.time.tick64)

/-- UNSUPPORTED for a complex feed above 25 GS/s (R128). -/
def feedUnsupported (b : Block) : Bool := b.flag 12 && decide (25000000000 * b.nat 14 < b.nat 13)
/-- UNSUPPORTED for a VDIF option that ingest does not take (R104). -/
def vdifUnsupported (b : Block) : Bool := b.is 1 1 && !([4, 8, 12].contains (b.nat 11))

/-- FEED_DEFINE (R106, R107, R114, R116). -/
def feedDefineC : CSpec :=
  { names := fun c m => firstRej
      [rejIf (vdifUnsupported m.block) (rej .unsupported (slotOf m.block 11)),
       rejIf (feedUnsupported m.block) (rej .unsupported (slotOf m.block 13)),
       rejIf ((feedPorts m.block).any (fun q => (c.plan.port q).isNone)) (rej .nosuch (badSlot m.block 2 (fun e => (c.plan.port (e.headD 0).toNat).isNone))),
       rejIf ((feedTiles m.block).any (fun t => decide (64 ≤ t) || c.s.dev.goneTiles.contains t)) (rej .nosuch (badSlot m.block 19 (fun e => decide (64 ≤ e.headD 0) || c.s.dev.goneTiles.contains (e.headD 0).toNat)))],
    edit := fun _ m p => p.put .feedDefine devDome (m.block.nat 0) m.block,
    verify := fun c o m =>
      let f := m.block.nat 0
      let b := m.block
      firstRej
        [(c.plan.feedBad f b).bind (fun k => inconsistent k), (c.plan.condBad f).bind (fun _ => inconsistent (slotOf b 16)),
         (Plan.coarseBad c.s c.plan f).bind (fun _ => inconsistent (slotOf b 19)), alterBad c o m 0 (fun x => x == f)],
    apply := fun old m s =>
      let f := m.block.nat 0
      match old.feed f with
      | some ob => if ringChanges ob m.block then newRing s f m.block false
                   else onFeed s f (fun fr => { fr with rings := fr.rings.map (fun r => if r.closed then r else { r with block := m.block }) })
      | none => newRing s f m.block true }

/-- Windows of a feed that a change of its coarse definition invalidates: they hold no bookings and process nothing from sample tick `e` on, until ZOOM_DEFINE
places them again (R24, R166). -/ -- DEDUCED, notes/assumptions/152.md
def Plan.invalidateZooms (n o : Plan) (f e : Nat) : Plan :=
  (o.objs .zoomDefine).foldl (fun (p : Plan) (x : Nat × Nat × Block) =>
    let (d, w, z) := x
    let lost : Bool := match o.coarse f, n.coarse f with
      | some c, some c' => coarseClears c c' || decide (z.nat 2 < coFirst c') || decide (coFirst c' + coCount c' < z.nat 2 + zoW z)
      | some _, none => true
      | none, _ => false
    match p.place? .zoomDefine d w with
    | some y => if z.nat 1 = f ∧ lost ∧ y.placed then p.setPlace { y with placed := false, since := e } else p
    | none => p) n

/-- FEED_DELETE: the feed leaves the plan with its conditioning, coarse definition and SK. -/
def feedDeleteC : CSpec :=
  { names := fun c m => rejIf (c.plan.feed (m.block.nat 0)).isNone (rej .nosuch 0),
    edit := fun c m p => let f := m.block.nat 0
      ((((p.del .feedDefine devDome f).del .feedCondition devDome f).del .coarseDefine devDome f).del .skDefine devDome f).invalidateZooms p f c.e,
    verify := fun c o m => alterBad c o m 0 (fun x => x == m.block.nat 0),
    apply := fun _ m s => closeFeed s (m.block.nat 0) }

/-- FEED_CONDITION (R131, R134, R135, R145, R149): the settings act from sample tick `e` on; a change of D, PRESET or T allocates a staged region for that tick. -/
def feedConditionC : CSpec :=
  { names := fun c m => rejIf (c.plan.feed (m.block.nat 0)).isNone (rej .nosuch 0),
    busy := fun c m =>
      let f := m.block.nat 0
      rejIf ((feedRun c.s f).swap.isSome && regionsChange (c.plan.cond f) m.block) (rej .busy 0),
    edit := fun _ m p => p.put .feedCondition devDome (m.block.nat 0) m.block,
    verify := fun c o m =>
      let f := m.block.nat 0
      firstRej [(c.plan.condBad f).bind (fun k => inconsistent k), alterBad c o m 0 (fun x => x == f)],
    apply := fun old m s =>
      let f := m.block.nat 0
      let e := s.time.tick64
      onFeed s f (fun fr => { fr with
        cond := fr.cond.filter (fun x => x.1 != e) ++ [(e, m.block)],
        regions := if regionsChange (old.cond f) m.block then fr.regions.filter (fun x => x.1 != e) ++ [(e, [])] else fr.regions }) }

/-- A coarse definition with the defaults of SHIFT and CH_COUNT resolved (Table 6-1). -/
def coarseResolve (p : Plan) (b : Block) : Block :=
  let k := match p.feed (b.nat 0) with | some fb => feedK fb | none => 1
  let b := match b.at 5 with | .dflt => b.put 5 (.num (2 ^ b.nat 1 - 1 : Nat)) | _ => b
  match b.at 7 with | .dflt => b.put 7 (.num (2 ^ b.nat 1 * k - b.nat 6 : Nat)) | _ => b

/-- COARSE_DEFINE (R150, R156, R158, R161, R166). -/
def coarseDefineC : CSpec :=
  { names := fun c m => rejIf (c.plan.feed (m.block.nat 0)).isNone (rej .nosuch 0),
    edit := fun c m p => (p.put .coarseDefine devDome (m.block.nat 0) (coarseResolve p m.block)).invalidateZooms p (m.block.nat 0) c.e,
    verify := fun c o m =>
      let f := m.block.nat 0
      firstRej [(Plan.coarseBad c.s c.plan f).bind (fun k => inconsistent k), alterBad c o m 0 (fun x => x == f)],
    apply := fun _ m s =>
      let f := m.block.nat 0
      let b := (s.plan.coarse f).getD m.block
      { s with coarse := tmod s.coarse f CoarseRun.reset (fun r => { r with settings := r.settings.filter (fun e => e.1 != s.time.tick64) ++ [(s.time.tick64, b)] }) } }

/-- TICK_PERIOD with the checks of every feed under the new M (R38). -/
def tickPeriodPlanC : CSpec :=
  { tickPeriodC with
    verify := fun c _ _ => rejIf ((c.plan.of .feedDefine devDome).any (fun e => tickBad e.2 c.plan.m || alignBad e.2 (c.plan.cond e.1) c.plan.m)) (rej .inconsistent 0) }

/-! ### SK (R172 to R176) -/

/-- Dome and index of an SK definition from SCOPE, SOURCE and INSTRUMENT. -/
def skKey (c : Cmd) (scope : Nat) (src instr : PV) : Nat × Nat :=
  if scope = 0 then (devDome, match src with | .obj _ n => n | _ => 0)
  else (c.dome, skIndex (match instr with | .num i => i.toNat | _ => 0) src)

/-- NOSUCH and DENIED of SCOPE, SOURCE and INSTRUMENT (R172, R22). -/
def skNames (c : Ctx) (m : Cmd) (scope : Nat) (src instr : PV) (slotScope slotSrc slotInstr : Nat) : Option Reject :=
  firstRej
    [rejIf (scope = 0 && !m.byOwner) (rej .denied slotScope),
     match src with
     | .obj 0 f => rejIf ((c.plan.feed f).isNone || (m.dome != 0 && !c.plan.sees m.dome f)) (rej .nosuch slotSrc)
     | .obj _ w => rejIf (scope != 0 && (c.plan.zoom m.dome w).isNone) (rej .nosuch slotSrc)
     | _ => none,
     if scope = 0 then none else match instr with
       | .num i => rejIf (c.plan.instr m.dome i.toNat).isNone (rej .nosuch slotInstr)
       | _ => none]

/-- Does an SK change move the grid (R176)? -/
def skMoves (o n : Block) : Bool := [3, 4, 5, 8, 9].any (fun i => o.at i != n.at i)

/-- Channels of a source: first and count of those it keeps; none of a window that is invalidated (R166). -/
def Plan.srcRange (p : Plan) (src : Src) : Nat × Nat :=
  match src with
  | .feed f => match p.coarse f with | some c => (coFirst c, coCount c) | none => (0, 0)
  | .window d w => match p.zoom d w, p.place? .zoomDefine d w with
    | some z, some x => (match p.coarse (z.nat 1) with | some c => if x.placed then (0, zoW z * zoKeep z c) else (0, 0) | none => (0, 0))
    | _, _ => (0, 0)

/-- SRAM or HBM of an SK hold under HOLD (R175). -/
def Plan.skPlace (p : Plan) (failed : List Nat) (e : Nat) (k : Nat × Nat) (b : Block) : Plan :=
  -- beside the other bookings: its own, and those of the definition that it replaces, do not count
  let free := p.del .skDefine k.1 k.2
  let runs := p.skRuns k b
  let owner := k.1
  let sram := b.is 9 1 || (b.is 9 0 && p.tileFits (free.books failed) (free.skBooks k.1 owner k.2 b (srcOf k.1 (b.at 2)) runs))
  let tile := (runs.head?.map (fun r => r.1)).getD 0
  p.setPlace { op := .skDefine, dome := k.1, index := k.2, placed := true, order := 0, tiles := [tile], hstacks := [p.stackAny failed k.1 (sectorOf tile)],
               latency := 0, chosen := [if b.is 8 0 && !sram then 1 else 0], since := e }

/-- Settings of an SK definition change from tick `e` on; a change of the grid closes the block in progress at the first frame of `e` (R176). -/
def skChange (s : State) (k : Nat × Nat) (src : Src) (moves fresh : Bool) (old b : Option Block) : State :=
  let e := s.time.tick64
  let q := (s.plan.firstFrame src e).toNat
  onSk s k (fun r =>
    let r := { r with settings := if fresh then [(0, b)] else r.settings.filter (fun x => x.1 != e) ++ [(e, b)] }
    -- a unit that holds nothing starts on the grid of frame 0
    if fresh || (old.isNone && r.frames.isEmpty && r.held.isEmpty) then { r with f0 := 0, closeAt := none, at0 := match b with | some x => q / Nat.max 1 (x.nat 5) * x.nat 5 | none => 0 }
    else if moves then { r with closeAt := some q } else r)

/-! ### Queries and loads -/

/-- FEED_STATS: Table 4-9, Table 5-6 for each output, then GROUP_DELAY_FS, PRESET_CRC of
the decimator and of the coarse prototype, STITCH_CRC and LAND_KIB of each tile (R114, R122, R132, R142, R148, R156, R161). -/
def feedStatsAct : Act := fun c m =>
  let f := m.block.nat 0
  match c.s.plan.feed f with
  | none => .error (rej .nosuch 0)
  | some b =>
    if m.dome ≠ 0 ∧ !c.s.plan.sees m.dome f then .error (rej .nosuch 0)
    else
      let r := feedRun c.s f
      let p := c.s.plan
      let cc := p.cond f
      let q8 := fun (x : Nat) => leBytes 8 x
      let crc := match p.coarse f with
        | some co => Config.stitchCrc (feedK b) (co.nat 1) (co.nat 2) (coOs co)
        | none => 0
      .ok { s := c.s, body := some (
        ([r.pkts, r.valid, r.clip, r.missing, r.latePkts, r.earlyPkts, r.dupPkts, r.invalidPkts, r.landPoison, r.clipTicks].flatMap q8) ++
        q8 (ofSigned 64 r.arrMin) ++ q8 (ofSigned 64 r.arrMax) ++
        (List.range (feedK b)).flatMap (fun k =>
          let n := ((r.subs[k]?).getD CondRun.reset).cnt
          [n.validOut, n.dlyRange, n.dlyExtrap, n.dlyRecords, n.coefSwaps, n.condPoison].flatMap q8) ++
        q8 (ofSigned 64 (groupDelayFs b cc)) ++ q8 (match cc.word? 6 with | some 4 => 0 | some k => Config.presetCrc k (condD cc) | none => 0) ++
        q8 (match p.coarse f with | some co => (match co.at 4 with | .num _ => 0 | _ => Config.coarseCrc (co.nat 1) (co.nat 2) (coOs co)) | none => 0) ++
        q8 (if feedK b = 1 then 0 else crc) ++
        (let k := tgetD c.s.coarse f CoarseRun.reset; [k.frames, k.validCh, k.pfbOvf].flatMap q8) ++
        (match tget c.s.sks (devDome, f) with | some k => [k.blocks, k.high, k.low, k.untested, k.blanked].flatMap q8 | none => []) ++ (feedTiles b).flatMap (fun t => q8 (p.landKib t))) }

/-- Block of FEED_STATS and FEED_DELETE. -/
def feedOnlyBlock : List Param := [pN "FEED" 0 1023]
/-- Block of a load opcode: OBJECT, first entry, COUNT (R401). -/
def loadBlock (hi : Nat) : List Param := [pN "OBJECT" 0 hi, pN "FIRST" 0 (2 ^ 62), pN "COUNT" 0 (2 ^ 62)]
/-- Block of a swap opcode: OBJECT, SWAP_TICK. -/
def swapBlock (hi : Nat) : List Param := [pN "OBJECT" 0 hi, ⟨"SWAP_TICK", .any, .req, []⟩]

/-- Does a definition of a plan name a custom set of a dome? -/
def Plan.namesSet (p : Plan) (d k : Nat) : Bool :=
  (d == 0 && (p.objs .coarseDefine).any (fun e => e.2.2.at 4 == .num k)) || (p.of .zoomDefine d).any (fun e => e.2.at 6 == .num k)
/-- Does a pending set name it? -/
def State.pendingNamesSet (s : State) (d k : Nat) : Bool :=
  s.psets.any (fun q => q.dome == d && q.cmds.any (fun c => (c.op == .coarseDefine && c.block.at 4 == .num k) || (c.op == .zoomDefine && c.block.at 6 == .num k)))

/-- PFB_COEF_LOAD (R156): COUNT = 0 clears the set. -/
def pfbCoefLoadAct : Act := fun c m =>
  let k := m.block.nat 0
  let first := m.block.nat 1
  let count := m.block.nat 2
  let ws := loadWords m.data 4 count
  if m.data.length ≠ 4 * count ∨ 524288 < first + count then .error (rej .format 2)
  else if ws.any (fun x => decide (x < -131072) || decide (131071 < x)) then .error (rej .format 2)
  else if c.s.plan.namesSet m.dome k || c.s.pendingNamesSet m.dome k then .error (rej .busy 0)
  else
    let old := tgetD c.s.coefSets (m.dome, k) []
    .ok { s := { c.s with coefSets := tset c.s.coefSets (m.dome, k) (if count = 0 then [] else writeBank (padTo 0 first old) first ws) } }

end Sys2Proof.Machine
end

