-- ==== Sys2Proof/Machine/InstrPlan.lean ====
section
/-! DEFINITION. InstrPlan.lean: defining, changing and deleting zoom windows and instruments (R166, R187, R200, R208, R226, R235, R279, R603, R631 to R635). -/
namespace Sys2Proof.Machine

/-! ### Objects that a definition names -/

/-- A feed that a dome may name (R22). -/
def Plan.feedSeen (p : Plan) (d f : Nat) : Bool := (p.feed f).isSome && (d == 0 || p.sees d f)
/-- A channel source that a dome may name. -/
def Plan.srcSeen (p : Plan) (d : Nat) (src : Src) : Bool :=
  match src with
  | .feed f => p.feedSeen d f
  | .window x w => x == d && (p.zoom x w).isSome
/-- An event channel that a dome may publish, subscribe or route; otherwise DENIED. -/
def chanDenied (p : Plan) (d : Nat) (v : PV) (slot : Nat) : Option Reject :=
  match v with | .num ch => rejIf (!p.holdsChan d ch.toNat) (rej .denied slot) | _ => none
/-- Does a stream of a definition with DEST at position `i` not exist (R306)? -/
def streamMissing (p : Plan) (d : Nat) (b : Block) (i : Nat) : Option Reject :=
  match destAt b i with
  | .stream k => rejIf (p.stream d k).isNone (rej .nosuch (slotOf b (i + 1)))
  | _ => none

/-- Streams of an unplaced instrument that are no longer there (R307, R633). -/
def Plan.lostStreams (p : Plan) (d i : Nat) : List Nat :=
  match p.instr d i with
  | some b => if p.placed d i then [] else (iStreams b).filter (fun k => (p.stream d k).isNone)
  | none => []
/-- Does an aperture of a definition not exist? -/
def apertureMissing (p : Plan) (v : PV) (slot : Nat) : Option Reject :=
  match v with | .num a => rejIf (!p.has .apertureCreate devDome a.toNat) (rej .nosuch slot) | _ => none

/-- Does a TDC channel publish on an event channel that a dome may use (R64, R286)? -/
def Plan.tdcPublishes (p : Plan) (d ch : Nat) : Bool := p.holdsChan d ch && (p.objs .tdcConfig).any (fun e => e.2.2.at 5 == .num ch)
/-- NOSUCH of one trigger entry of a RECORDER (R286). -/
def trigNames (p : Plan) (d : Nat) (e : List Int) (slot : Nat) : Option Reject :=
  let k := (e.getD 1 0).toNat
  match (e.headD 0).toNat with
  | 2 => rejIf (!p.tdcPublishes d k) (rej .nosuch slot)
  | 3 => rejIf (match p.mask d k with | some mb => mb.is 0 1 | none => true) (rej .nosuch slot)
  | 4 => rejIf (match p.mask d k with | some mb => !mb.is 0 1 | none => true) (rej .nosuch slot)
  | 5 => (match entrySk d e with
    | some (dd, ix, src) => rejIf ((p.find .skDefine dd ix).isNone || (dd == devDome && !p.srcSeen d src)) (rej .nosuch slot)
    | none => none)
  | 6 => rejIf (!p.holdsChan d k) (rej .nosuch slot)
  | 7 => rejIf (match p.instr d k with | some lb => iKind lb != 8 || !lb.is 2 0 | none => true) (rej .nosuch slot)
  | _ => none

/-- NOSUCH and DENIED of an instrument's parameters; a stream that an unplaced instrument has lost is left to R633. -/
def instrNames (c : Ctx) (m : Cmd) : Option Reject :=
  let p := c.plan
  let lost := p.lostStreams m.dome (m.block.nat 1)
  let streamMissing := fun (p : Plan) (d : Nat) (b : Block) (i : Nat) => if (iStreams b).any lost.contains then none else streamMissing p d b i
  let d := m.dome
  let b := m.block
  let at' := slotOf b
  let anyBad := fun (pos : Nat) (bad : List Int → Bool) => rejIf ((b.rows pos).any bad) (rej .nosuch (badSlot b pos bad))
  let feeds := fun (pos : Nat) => anyBad pos (fun r => let f := (r.headD 0).toNat; !p.feedSeen d f && !(iShared b && (p.feed f).isNone))
  -- an entry names a FENGINE of the dome, and a feed of its mask (R208)
  let q4s := fun (pos : Nat) =>
    let out := fun (r : List Int) => let f := (r.getD 1 0).toNat; !p.feedSeen d f && !(iShared b && (p.feed f).isNone)
    firstRej [anyBad pos (fun r => (p.instr d (r.getD 0 0).toNat).isNone && !(iShared b && (p.feed (r.getD 1 0).toNat).isNone)), rejIf ((b.rows pos).any out) (rej .nosuch (badSlot b pos out + 1))]
  let trigs := fun (pos : Nat) => (b.rows pos).mapIdx (fun (k : Nat) e => trigNames p d e (entrySlot b pos k + 1))
  match iKind b with
  | 3 => firstRej [anyBad 2 (fun r => !p.srcSeen d (entrySrc d (r.headD 0))),
                   match iDest b with | .stream k => rejIf ((p.stream d k).isNone && !lost.contains k) (rej .nosuch (at' 7)) | _ => none]
  | 4 => firstRej [q4s 2, apertureMissing p (b.at 3) (at' 3), streamMissing p d b 11]
  | 5 => firstRej [feeds 2, apertureMissing p (b.at 3) (at' 3), streamMissing p d b 11]
  | 6 => firstRej [if b.is 2 0 then feeds 3 else q4s 3, apertureMissing p (b.at 4) (at' 4), streamMissing p d b 15]
  | 8 =>
    let n := b.nat 4 % 2 ^ 32
    -- the kind of the source stands in bits 39:32; at Q4 its feed must be visible too (R280)
    let bad := match b.nat 4 / 2 ^ 32 with
      | 0 => !p.feedSeen d n
      | 1 => (p.zoom d n).isNone
      | _ => (p.instr d (n % 2 ^ 16)).isNone || (b.is 3 4 && !p.feedSeen d (n / 2 ^ 16))
    firstRej ([rejIf bad (rej .nosuch (at' 4))] ++ trigs 13 ++ trigs 14 ++
      [rejIf ((b.is 24 1 || b.is 2 1) && (p.stream d (b.nat 25)).isNone && !lost.contains (b.nat 25)) (rej .nosuch (at' 25)), chanDenied p d (b.at 26) (at' 26)])
  | 10 => none
  | 11 =>
    let gone := fun (pos : Nat) => rejIf (b.is 2 0 && c.s.dev.goneTiles.contains (b.nat pos)) (rej .nosuch (at' pos))
    firstRej [gone 3, gone 4, rejIf (b.is 2 2 && !m.byOwner) (rej .denied (at' 5)), rejIf (b.is 2 2 && (p.port (b.nat 5)).isNone) (rej .nosuch (at' 5)),
              rejIf ((b.is 2 1 || b.is 10 0) && (p.stream d (b.nat 8)).isNone && !lost.contains (b.nat 8)) (rej .nosuch (at' 8))]
  | k => firstRej
      [rejIf ((iSources d b).head?.any (fun s => !p.srcSeen d s)) (rej .nosuch (at' 2)), rejIf (((iSources d b).drop 1).any (fun s => !p.srcSeen d s)) (rej .nosuch (at' 3)),
       match iDestPos b with
       | some i => if (k = 2 ∨ k = 9) ∧ b.is 5 0 then none else streamMissing p d b i
       | none => none]

/-! ### Consistency -/

/-- Frame grid and channel numbering of a source: rate, D, HOLD, LOG2N, TAPS, OS and COEF, and for a window FIRST, W, LOG2NF, TAPS and COEF (R187, R209). -/
def Plan.gridKey (p : Plan) (src : Src) : List Nat × List PV :=
  let f := p.feedOf src
  let b := (p.feed f).getD []
  let co := (p.coarse f).getD []
  let g := Nat.max 1 (Nat.gcd (b.nat 13) (b.nat 14))
  ([b.nat 13 / g, b.nat 14 / g, b.nat 12, condD (p.cond f), feedH b], [co.at 1, co.at 2, co.at 3, co.at 4] ++
    (match src with | .window d w => let z := (p.zoom d w).getD []; [z.at 2, z.at 3, z.at 4, z.at 5, z.at 6] | .feed _ => []))
/-- Do all sources share one grid and one latency? -/
def Plan.oneGrid (p : Plan) (d i : Nat) (l : List Src) : Bool :=
  match l with
  | [] => true
  | a :: r => r.all (fun s => p.gridKey s == p.gridKey a && p.lambda0 d i s == p.lambda0 d i a)
/-- Does a source keep a channel range? -/
def Plan.covers (p : Plan) (src : Src) (first count : Nat) : Bool := let rg := p.srcRange src; decide (rg.1 ≤ first) && decide (first + count ≤ rg.1 + rg.2)

/-- First bad thing of a Q4 input: its FENGINE requantises that source over the range (R208, R209, R631). -/
def Plan.q4InputBad (p : Plan) (d : Nat) (e : Nat × Nat) (first count : Nat) : Bool :=
  match p.instr d e.1 with
  | none => true
  | some fb => iKind fb != 3 || !(iSources d fb).any (fun s => match s with | .feed f => f == e.2 | .window _ w => w == e.2) ||
               !(decide ((iRange fb).1 ≤ first) && decide (first + count ≤ (iRange fb).1 + (iRange fb).2))

/-- Do Q4 inputs break R209: one twice, a window, one that its FENGINE lacks, another grid, or another L_sk? -/
def Plan.q4sBad (p : Plan) (d : Nat) (qs : List (Nat × Nat)) (first count : Nat) : Bool :=
  let key := fun (e : Nat × Nat) => let src := p.q4Src d e; (p.gridKey src, p.lambda0 d e.1 src)
  (qs.map (fun e => e.2)).eraseDups.length != qs.length || qs.any (fun e => p.q4InputBad d e first count) ||
  qs.any (fun e => match p.q4Src d e with | .window _ _ => true | .feed _ => false) ||
  (match qs with | a :: r => r.any (fun e => key e != key a) | [] => false)

/-- Does an instrument send to a VDIF stream what R315 does not allow: anything but one FENGINE feed or one VOLTAGE beam, a second producer, a rate that does not fit? -/
def Plan.vdifBad (p : Plan) (d : Nat) (b : Block) : Bool :=
  (iStreams b).any (fun k => match p.stream d k with
    | none => false
    | some st =>
      st.is 1 1 && (
        let bits := if iKind b = 3 then 4 else 8
        let n := st.nat 16 * 8 / (2 * bits)
        let rate := p.chanRate (p.rateSrc d b)
        decide (1 < ((p.of .instrDefine d).filter (fun e => (iStreams e.2).contains k)).length) || !((iKind b == 3 && iInputs b == 1) || (iKind b == 6 && b.nat 8 == 1 && b.is 11 0)) || rate.1 % rate.2 != 0 || rate.1 / rate.2 % Nat.max 1 n != 0))

/-- Sequence of LINK entries from a RECORDER: deeper than 4, or back to where it began (R286). -/
def Plan.linkBad (p : Plan) (d i : Nat) : Nat → Nat → Bool
  | 0, _ => true
  | fuel + 1, k => match p.instr d k with
    | none => false
    | some b => (capEntries b false ++ capEntries b true).any (fun e => e.headD 0 == 7 &&
        ((e.getD 1 0).toNat == i || Plan.linkBad p d i fuel (e.getD 1 0).toNat))

/-- First parameter of a RECORDER that breaks a consistency rule (R279 to R297). -/
def Plan.recorderBad (p : Plan) (d i : Nat) (b : Block) : Option Nat :=
  let n := b.nat 4 % 2 ^ 32
  let src := p.capSrc d b
  let feedB := p.feed (p.feedOf src)
  let k := match feedB with | some fb => feedK fb | none => 1
  let chan := capChan b
  let point := (b.word? 3).getD 0
  let inst := p.instr d (n % 2 ^ 16)
  let sector := match feedB with | some fb => feedSector fb | none => 0
  let entries := b.rows 13 ++ b.rows 14
  let contBad := b.is 2 1 && (!(b.rows 13).isEmpty || !(b.rows 14).isEmpty || b.nat 9 != 0 || (b.at 10 != .dflt && b.at 10 != .num 0) || b.nat 11 != 1 || !b.is 21 0)
  let checks : List (Bool × Nat) :=
    [(contBad, 2),
     (b.nat 4 / 2 ^ 32 != (match point with | 3 => 1 | 4 => 2 | 5 => 2 | _ => 0), 4),
     (point == 5 && (match inst with | some ib => iKind ib != 6 || !ib.is 11 0 | none => true), 4),
     (point == 4 && (match inst with
       | some ib => !([3, 5].contains (iKind ib) || (iKind ib == 6 && ib.is 2 0)) || !(iSources d ib).contains (.feed (n / 2 ^ 16))
       | none => true), 4),
     (decide (k ≤ b.nat 5) && b.nat 5 != 0 || (point != 1 && b.nat 5 != 0), 5),
     (b.nat 6 != 0 && (point != 5 || (match inst with | some ib => decide (ib.nat 8 ≤ b.nat 6) | none => true)), 6),
     (chan && point ≤ 3 && !p.covers src (b.nat 7) (b.nat 8), 7),
     (4 ≤ point && (match inst with
       | some ib => let r := if point = 4 then iTaken ib else iRange ib; !(decide (r.1 ≤ b.nat 7) && decide (b.nat 7 + b.nat 8 ≤ r.1 + r.2))
       | none => true), 7),
     ((b.nats 12).any (fun h => h / 2 != sector), 12),
     (entries.any (fun e => e.headD 0 == 1 && (decide ((e.getD 1 0) % 2 ^ 64 < (e.getD 2 0) % 2 ^ 64) || decide (capNch b ≤ (e.getD 4 0).toNat))), 13),
     (p.linkBad d i 5 i, 13),
     (b.is 18 2 && decide (65535 < b.nat 19), 19),
     (b.is 2 0 && decide (2 ^ 40 < capUnits p d i b), 9), (p.vdifBad d b, 25)]
  (checks.find? (fun x => x.1)).map (fun x => slotOf b x.2)

/-- First parameter of an instrument, as the plan holds it, that breaks a consistency rule. -/
def Plan.instrBad (p : Plan) (gone : List Nat) (d i : Nat) (b : Block) : Option Nat :=
  let rg := iRange b
  -- a requantiser covers the whole range, of which this device may have a share (R209, R235)
  let wh := iWhole b
  -- inputs that other devices of the aperture bring in are checked there (R225)
  let here := fun (f : Nat) => !iShared b || (p.feed f).isSome
  let srcs := (iSources d b).filter (fun s => here (p.feedOf s))
  let q4s := (iQ4 b).filter (fun e => here e.2)
  let check := fun (l : List (Bool × Nat)) => (l.find? (fun x => x.1)).map (fun x => slotOf b x.2)
  let holds := (srcs.map (fun s => p.hold (p.feedOf s))).eraseDups.length
  let active := (List.range 64).filter (fun t => !gone.contains t)
  let partsBad := fun (pos : Nat) => match b.nat? pos with | some t => decide (active.length < t) | none => false
  let offBad := fun (len off : Nat) => decide (b.nat len ≤ b.nat off)
  let coarseOnly := fun (first : Nat) => (!p.oneGrid d i srcs || decide (1 < holds), first)
  match iKind b with
  | 3 => check [(srcs.isEmpty || decide (1 < (srcs.map (fun s => match s with | .feed _ => 0 | .window _ _ => 1)).eraseDups.length) || decide (1 < holds), 2),
                (srcs.any (fun s => !p.covers s rg.1 rg.2), 3), (p.vdifBad d b, 7)]
  | 4 =>
    check [((iQ4 b).isEmpty || p.q4sBad d q4s wh.1 wh.2, 2),
           (decide (2 ^ 24 < b.nat 6 * p.fmax (p.mainSrc d b)), 6), (offBad 6 7, 7), (match b.nat? 9 with | some t => t == 0 || b.nat 6 % t != 0 | none => false, 9), (p.vdifBad d b, 12), (partsBad 15, 15)]
  | 5 => check [coarseOnly 2, ((iSources d b).isEmpty || srcs.eraseDups.length != srcs.length, 2), (srcs.any (fun s => !p.covers s (iTaken b).1 (iTaken b).2), 4),
                (decide (2 ^ 24 < b.nat 6 * p.fmax (p.mainSrc d b)), 6), (offBad 6 7, 7), (b.is 8 2, 8), (p.vdifBad d b, 12), (partsBad 15, 15)]
  | 6 =>
    check [(iInputs b == 0 || (if b.is 2 0 then srcs.eraseDups.length != srcs.length || !p.oneGrid d i srcs else p.q4sBad d q4s wh.1 wh.2), 3),
           (partsBad 5, 5), (srcs.any (fun s => !p.covers s (iTaken b).1 (iTaken b).2), 6), (decide (iInputs b < b.nat 10), 10),
           (b.is 11 1 && offBad 13 14, 14), (b.is 11 0 && (iDest b matches .hbm _), 15), (p.vdifBad d b, 16)]
  | 8 => p.recorderBad d i b
  | 10 => check [(decide (1 < (((p.attachReads d i).map (fun r => p.hold (p.feedOf r.1))).eraseDups).length), 0)]
  | 11 => check [(b.is 2 2 && ((p.of .feedDefine devDome).any (fun e => (feedPorts e.2).contains (b.nat 5)) || !(p.portStreams (b.nat 5)).isEmpty || !(p.portLinks (b.nat 5)).isEmpty), 5), (p.vdifBad d b, 8)]
  | k =>
    let det := decide (k ≤ 1)
    let pol := (b.nat 6).testBit 5
    check [(srcs.any (fun s => !p.covers s rg.1 rg.2), if det then 4 else 3),
           (det && (b.nat 6 % 64 == 0 || decide (64 ≤ b.nat 6) || (pol && b.nat 6 != 32)), 6),
           (det && (pol != (b.nat? 3).isSome), 3), (det && pol && !p.oneGrid d i srcs, 3),
           -- traces belong to RTSA instruments only (R244)
           (k == 9 && !b.is 5 0, 5),
           -- a SWEEP reads its attached Sextants' feeds too (R112)
           (k == 9 && decide (1 < (((p.reads d i b).map (fun r => p.hold (p.feedOf r.1))).eraseDups).length), 2),
           (det && offBad 7 8, 8), (p.vdifBad d b, match iDestPos b with | some x => x + 1 | none => 0)]

/-- Defaults that follow from the configuration alone (R221, R229), and this device's share of an aperture (R235). -/
def instrResolve (p : Plan) (d : Nat) (b0 : Block) : Block :=
  let b := p.apShare b0
  match iKind b with
  | 4 => (match b.at 9 with | .dflt => b.put 9 (.num (subDefault (b.nat 6) (p.fmax (p.mainSrc d b)) : Nat)) | _ => b)
  | 5 => (match b.at 9 with | .dflt => b.put 9 (.num (subDefault (b.nat 6) (p.fmax (p.mainSrc d b)) : Nat)) | _ => b)
  | 6 => (match b.at 10 with | .dflt => b.put 10 (.num (iInputs b : Nat)) | _ => b)
  | _ => b

/-! ### Readers of an instrument (R631) -/

/-- Readers of a FENGINE's or other requantiser's Q4 that the plan leaves without an input they use. -/
def Plan.q4ReadersBad (p : Plan) (d i : Nat) : List Nat :=
  ((p.of .instrDefine d).filter (fun (e : Nat × Block) =>
    let rg := iWhole e.2
    (iQ4 e.2).any (fun q => q.1 == i && p.q4InputBad d q rg.1 rg.2) ||
    (iKind e.2 == 8 && (e.2.is 3 4 || e.2.is 3 5) && e.2.nat 4 % 2 ^ 16 == i && (p.recorderBad d e.1 e.2).isSome) ||
    (iKind e.2 == 10 || iKind e.2 == 9) && (p.of .sextantAttach d).any (fun (a : Nat × Block) => a.2.nat 1 == e.1 && (List.range 4).any (fun k =>
      a.2.is (2 + k) 1 && a.2.nat (6 + k) == i && (match p.instr d i with
        | some fb => !(decide ((iTaken fb).1 ≤ a.2.nat (10 + k)) && decide (a.2.nat (10 + k) + a.2.nat (14 + k) ≤ (iTaken fb).1 + (iTaken fb).2))
        | none => true))))).map (fun e => e.1)
/-- Readers, unchanged from one plan to another, of what a requantiser gave before: a Sextant takes every input, the others the kind of input that they name (R631). -/
def Plan.q4ReadersLost (o p : Plan) (d i : Nat) : List Nat :=
  let srcs := fun (q : Plan) => match q.instr d i with | some b => iSources d b | none => []
  let isWin := fun (l : List Src) => match l with | .window _ _ :: _ => true | _ => false
  let kind := (p.instr d i).isSome && isWin (srcs o) != isWin (srcs p)
  let fewer := (srcs o).any (fun x => !(srcs p).contains x)
  let sx := fun (k : Nat) => (p.of .sextantAttach d).any (fun (a : Nat × Block) => a.2.nat 1 == k && o.find .sextantAttach d a.1 == some a.2 &&
    (List.range 4).any (fun j => a.2.is (2 + j) 1 && a.2.nat (6 + j) == i))
  ((p.of .instrDefine d).filter (fun (e : Nat × Block) => o.instr d e.1 == some e.2 &&
    ((kind && ((iQ4 e.2).any (fun q => q.1 == i) || (iKind e.2 == 8 && e.2.is 3 4 && e.2.nat 4 % 2 ^ 16 == i))) || ((kind || fewer) && sx e.1)))).map (fun e => e.1)
/-- INCONSISTENT with the list of readers (R394, R631). -/
def readersBad (c : Ctx) (o : Plan) (m : Cmd) (i slot : Nat) : Option Reject :=
  let l := (c.plan.q4ReadersBad m.dome i ++ o.q4ReadersLost c.plan m.dome i).eraseDups
  if l.isEmpty then none else some { status := .inconsistent, detail := slot, resp := affectedList (l.map (fun r => (m.dome, r))) }

/-! ### Placement in the plan -/

/-- Position after the last instrument of a dome in its admission order (R633). -/
def Plan.nextOrder (p : Plan) (d : Nat) : Nat := ((p.places.filter (fun x => x.op == .instrDefine && x.dome == d)).map (fun x => x.order + 1)).foldl Nat.max 0
/-- Parameters that decide an instrument's placement: a change of any other one keeps the placement. -/
def placeKey (d : Nat) (b : Block) : List PV × List Src × (Nat × Nat) :=
  (match iKind b with
   | 0 => [b.at 0, b.at 6, b.at 9] | 1 => [b.at 0, b.at 6, b.at 9] | 2 => [b.at 0, b.at 5] | 4 => [b.at 0, b.at 2, b.at 3, b.at 6, b.at 8, b.at 9, b.at 15]
   | 5 => [b.at 0, b.at 2, b.at 3, b.at 15] | 6 => [b.at 0, b.at 2, b.at 3, b.at 4, b.at 5, b.at 8, b.at 9, b.at 11]
   | 8 => [b.at 0, b.at 2, b.at 3, b.at 4, b.at 5, b.at 6, b.at 12] | 11 => [b.at 0, b.at 2, b.at 3, b.at 4, b.at 5]
   | _ => [b.at 0], iSources d b, iRange b)
/-- Put an instrument into the plan and place it. -/
def instrEdit (c : Ctx) (m : Cmd) (p : Plan) : Plan :=
  let i := m.block.nat 1
  let b := instrResolve p m.dome m.block
  let old := p.instr m.dome i
  let p := p.put .instrDefine m.dome i b
  match old, p.place? .instrDefine m.dome i with
  | some ob, some x =>
    if x.placed && placeKey m.dome ob == placeKey m.dome b then p.setPlace { x with since := c.e }
    else
      let free := p.noPlace .instrDefine m.dome i
      p.setPlace (free.placeInstr c.s.hbm.failed c.s.dev.goneTiles m.dome i (if x.placed then x.order else p.nextOrder m.dome) b c.e)
  | _, _ => p.setPlace (p.placeInstr c.s.hbm.failed c.s.dev.goneTiles m.dome i (p.nextOrder m.dome) b c.e)

/-! ### Run-time effects -/

/-- SUB_TICKS of an instrument that a plan holds placed in BATCHED mode. -/
def Plan.batchedSub (p : Plan) (d i : Nat) : Option Nat :=
  match p.instr d i, p.place? .instrDefine d i with
  | some b, some x => if iKind b = 4 ∧ x.placed ∧ x.chosen.getD 1 0 = 1 then some (Nat.max 1 (x.chosen.getD 2 1).toNat) else none
  | _, _ => none
/-- Gain entries of an instrument's own requantiser: N_rq x Q (R181). -/
def rqEntries (d : Nat) (b : Block) : Nat := if iRequantises b then (iTaken b).2 * (iSources d b).length else 0
/-- Weight entries B x G_w x N (R227). -/
def wgtEntries (b : Block) : Nat := if iKind b = 6 then b.nat 8 * ceilDiv (iWhole b).2 (Nat.max 1 (b.nat 9)) * iInputs b else 0

/-- Result rings that an instrument's plan calls for. -/
def ringRuns (p : Plan) (d i : Nat) (b : Block) : Tab Nat RingRun := (p.ringsOf d i b).map (fun r => (r.1, { slotBytes := r.2.1, slots := r.2.2, written := 0, held := [] }))

/-- A ring of an object changes its geometry or its place: the records not yet released go along, the oldest first, as many as the new ring holds
(R199, log entry 52). -/
def carryRing (s : State) (k : ObjKey) (old new : RingRun) : State × RingRun :=
  let n := Nat.min old.held.length new.slots
  let first := old.written - old.held.length
  let rows := (List.range n).map (fun (i : Nat) => (first + i, objGet s k ((first + i) % Nat.max 1 old.slots * old.slotBytes) old.slotBytes))
  let s := match (s.plan.pagesAll s.hbm.failed).find? (fun w => w.1 == k) with
    | some w => syncObj s k w.2.1 w.2.2.1 w.2.2.2
    | none => s
  let s := rows.foldl (fun (s : State) (r : Nat × List (Byte × Bool)) =>
    let at' := r.1 % Nat.max 1 new.slots * new.slotBytes
    let row := r.2.take new.slotBytes
    let s := objPut s k at' (row.map (fun x => x.1))
    (List.range (row.length / 32)).foldl (fun (s : State) (w : Nat) =>
      if (row.getD (32 * w) (0, false)).2 then (match objAddr s k (at' + 32 * w) with | some a => setPoison s a true | none => s) else s) s) s
  (s, { new with written := first + n, held := old.held.take n })

/-- The rings of an instrument under a changed definition; rings of Sextant outputs stay as they are. -/
def carryRings (s : State) (d i : Nat) (b : Block) : State :=
  let old := (instrRun s d i).rings
  let (s, l) := (ringRuns s.plan d i b).foldl (fun (a : State × Tab Nat RingRun) (e : Nat × RingRun) =>
    match tget old e.1 with
    | some o => let (s, r) := carryRing a.1 ⟨.instrDefine, d, i, e.1⟩ o e.2; (s, a.2 ++ [(e.1, r)])
    | none => (a.1, a.2 ++ [e])) (s, [])
  onInstr s d i (fun r => { r with rings := l ++ r.rings.filter (fun e => decide (1024 ≤ e.1)) })

/-- A new instrument's run-time state. -/
def instrFresh (s : State) (d i : Nat) (b : Block) (r : InstrRun) : InstrRun :=
  let e := s.time.tick64
  { r with gainA := List.replicate (rqEntries d b) 0x1000, gainB := List.replicate (rqEntries d b) 0x1000, wgtA := List.replicate (wgtEntries b) 0,
           wgtB := List.replicate (wgtEntries b) 0, gainSwap := none, wgtSwap := none, clipCh := List.replicate (rqEntries d b) 0, rings := ringRuns s.plan d i b,
           cap := { CapRun.reset with decided := e - s.plan.lamC d i b }, loop := { LoopRun.reset with from0 := e }, await := (s.plan.batchedSub d i).isSome }

/-- The bank in progress of an instrument ends early: a short result, or a lost BATCHED dump (R191, R222). -/
def endEarly (s : State) (d i : Nat) (b : Block) (lose : Bool) : State :=
  match iKind b with
  | 0 => closeBank s d i
  | 1 => closeBank s d i
  | 4 => if corrAcc.corrBatched s d i b then (if lose then onInstr (loseOpen s d i (corrNext s d i)) d i (fun r => { r with await := true }) else endBatched s d i)
         else closeBank s d i
  | 5 => closeBank s d i
  | 6 => if b.is 11 1 then closeBank s d i else s
  | 8 => if b.is 2 0 then capChange s d i b else s
  | _ => s

/-- A change that ends no integration goes on with the new definition in what is open; so does a change of PARTS alone, in which the open dump keeps its parts. -/
-- DESIGN CHOICE, notes/assumptions/176.md
def InstrRun.redefine (r : InstrRun) (b : Block) : InstrRun :=
  let next := fun (x : Bank) => { x with block := b }
  { r with bank := r.bank.map next, sub := r.sub.map next, subs := r.subs.map next, corr := r.corr.map (fun e => (e.1, next e.2)) }
/-- Parameters whose change ends an integration early: those of R191, and those that R235 calls a new configuration. -/
def intChanges (o n : Block) : Bool :=
  let l := match iKind n with
    | 0 => [2, 3, 4, 5, 6, 7, 8] | 1 => [2, 3, 4, 5, 6, 7, 8] | 4 => [2, 3, 4, 5, 6, 7, 8, 9] | 5 => [2, 3, 4, 5, 6, 7]
    | 6 => [2, 3, 4, 6, 7, 8, 11, 13, 14]
    | 8 => [3, 4, 5, 6, 7, 8, 9, 10, 11, 12, 13, 14, 15, 16, 17, 18, 19, 20, 21, 22, 23, 24, 25, 26] | _ => []
  l.any (fun i => o.at i != n.at i)
/-- Parameters of a RECORDER that set its ring's geometry (R301). -/
def capGeomChanges (o n : Block) : Bool := [2, 3, 4, 5, 6, 7, 8, 9, 10, 11, 12, 15, 16, 22, 23].any (fun i => o.at i != n.at i)
/-- Does a change give the requantiser other feeds, another order of them or another range (R181)? -/
def rqChanges (d : Nat) (o n : Block) : Bool := iSources d o != iSources d n || iTaken o != iTaken n
/-- Does a change give a beamformer's weights other meanings: other inputs or another order of them, another range, WGRAN or BEAMS (R181, R228)? -/
def wgtRedefines (d : Nat) (o n : Block) : Bool :=
  iKind o == 6 && (iSources d o != iSources d n || iQ4 o != iQ4 n || iWhole o != iWhole n || o.at 2 != n.at 2 || o.at 8 != n.at 8 || o.at 9 != n.at 9)
/-- Does a change redefine the requantiser: those, or RQ_SHIFT (R179, R181)? -/
def rqRedefines (d : Nat) (o n : Block) : Bool := iRequantises o && (rqChanges d o n || rqShift o != rqShift n)

/-! ### What the completion reports (R192, R213, R219, R221, R235, R246, R284) -/

/-- Numbers as 64-bit words. -/
def words8 (l : List Nat) : List Byte := l.flatMap (fun x => leBytes 8 x)
/-- RING_BASE of an instrument's first ring: its offset in the dome's BAR2 aperture (R284, R487). -/
def ringBase (s : State) (d i : Nat) : Nat := match pagesOf s ⟨.instrDefine, d, i, 0⟩ with | p :: _ => p.bar2 * 2 ^ 21 | [] => 0
/-- Channels and logical tiles of the parts of member `k` of `m` of an aperture, for a definition whose whole range is `rg`, of PARTS at position `pos`: its tiles are
evenly spread over its active ones (R235). -/
def memberParts (x : MemberRun) (rg : Nat × Nat) (parts : Option Nat) (k m : Nat) : List (Nat × Nat × Nat × Nat) :=
  let lo := ceilDiv (k * rg.2) m
  let n := ceilDiv ((k + 1) * rg.2) m - lo
  let t := Nat.max 1 (parts.getD x.tiles)
  (List.range t).map (fun j =>
    let r := partRange n t j
    let place := j * x.tiles / t
    (x.serial, if x.tiles = 64 then place else Config.memberTile x.serial place, rg.1 + lo + r.1, r.2))
/-- Every part of an instrument: device, logical tile, first channel and channels (R235). -/
def partReport (s : State) (p : Plan) (d i : Nat) (b : Block) : List (Nat × Nat × Nat × Nat) :=
  let own := (p.partsOf d i b).map (fun q => (ownSerial, q.tile, (iRange b).1 + q.off, q.n))
  match iAperture b, p.apIndex (iAperture b) with
  | .num a, (k, m) => (List.range m).flatMap (fun j =>
      if j = k then own
      else match (apOf s a.toNat).members[j]? with | some x => memberParts x (iWhole b) (b.nat? (if iKind b = 6 then 5 else 15)) j m | none => [])
  | _, _ => own
/-- What the completion of INSTR_DEFINE or INSTR_MODIFY reports beside RESULT: the input latency, L_inst, mode, SUB_TICKS and G, for a ring RECORDER RING_BASE, SEG_BYTES,
CAP_UNITS, its guard and its capture latency, then every part. -/ -- DESIGN CHOICE of the form, notes/assumptions/155.md
def instrReport (c : Ctx) (m : Cmd) : Option (List Byte) :=
  let p := c.plan
  let d := m.dome
  let i := m.block.nat 1
  match p.instr d i, p.place? .instrDefine d i with
  | some b, some x =>
    let g := capGeom p d i b
    let parts := partReport c.s p d i b
    some (words8 ([p.reported d i b, (x.chosen.getD 0 0).toNat, (x.chosen.getD 1 0).toNat, (x.chosen.getD 2 1).toNat, (x.chosen.getD 3 1).toNat] ++
      (if iKind b = 8 ∧ b.is 2 0 then [ringBase (syncPages { c.s with plan := p }) d i, g.bytes, g.units, p.capGuard d i b, p.lamC d i b] else []) ++
      [parts.length] ++ parts.flatMap (fun q => [q.1, q.2.1, q.2.2.1, q.2.2.2])))
  | _, _ => none

/-! ### Opcodes -/

/-- The first device tick from `e` on whose first sample tick, `lam` earlier, is a boundary of the grid of `sub` ticks with offset `off` (R190, R222). -/
def toBoundary (e lam off sub : Nat) : Nat := let n := e - lam; n + (sub - (n + sub - off % sub) % sub) % sub + lam
/-- Effective tick of a definition or change of a BATCHED correlator that starts or ends a dump: the first sub-integration boundary at or after its first sample
tick, of the configuration in force where that is BATCHED, else of the new one (R222). -/
def batchedDefer (c : Ctx) (m : Cmd) : Nat :=
  let d := m.dome
  let i := m.block.nat 1
  let n := instrEdit c m c.plan
  match n.instr d i, n.batchedSub d i, c.plan.instr d i, c.plan.batchedSub d i with
  | some b, _, some ob, some t => if intChanges ob b then toBoundary c.e (c.plan.lamX d i) (ob.nat 7) t else c.e
  | some b, some t, _, none => toBoundary c.e (n.lamX d i) (b.nat 7) t
  | _, _, _, _ => c.e

/-- INSTR_DEFINE (R200, R235, R236, R279, R603, R631, R632, R635). -/
def instrDefineC : CSpec :=
  { names := instrNames,
    defer := batchedDefer,
    edit := instrEdit,
    verify := fun c o m =>
      let i := m.block.nat 1
      firstRej [rejIf (o.has .instrDefine m.dome i) (rej .inconsistent 1),
                ((c.plan.instr m.dome i).bind (fun b => c.plan.instrBad c.s.dev.goneTiles m.dome i b)).bind (fun k => inconsistent k)],
    result := fun c m => match c.plan.instr m.dome (m.block.nat 1) with | some b => c.plan.latency m.dome (m.block.nat 1) b | none => 0,
    body := instrReport,
    apply := fun _ m s =>
      let i := m.block.nat 1
      match s.plan.instr m.dome i with
      | some b => refill (onInstr s m.dome i (fun _ => instrFresh s m.dome i b InstrRun.reset)) m.dome i b
      | none => s }

/-- An unplaced instrument whose stream is gone is placed again only with a destination that is there (R633). -/
def destLost (o n : Plan) (d i : Nat) : Option Reject :=
  match n.instr d i with
  | some b =>
    let none' := match iDest b with | .none => true | _ => false
    if (o.lostStreams d i).isEmpty then none
    else rejIf (none' || (iStreams b).any (fun k => (n.stream d k).isNone)) (rej .inconsistent (match iDestPos b with | some k => slotOf b k | none => 1))
  | none => none

/-- INSTR_MODIFY (R191, R200, R222, R301, R631, R633). -/
def instrModifyC : CSpec :=
  { names := fun c m => firstRej [rejIf ((c.plan.instr m.dome (m.block.nat 1)).isNone) (rej .nosuch 1), instrNames c m],
    busy := fun c m =>
      let i := m.block.nat 1
      match c.plan.instr m.dome i with
      | some ob =>
        let r := instrRun c.s m.dome i
        let n := instrResolve c.plan m.dome m.block
        rejIf ((rqRedefines m.dome ob n && r.gainSwap.isSome) || (wgtRedefines m.dome ob n && r.wgtSwap.isSome) || (iKind ob = 8 && capGeomChanges ob m.block && !r.cap.recs.isEmpty)) (rej .busy 1)
      | none => none,
    defer := batchedDefer,
    edit := instrEdit,
    verify := fun c o m =>
      let i := m.block.nat 1
      firstRej [rejIf ((o.instr m.dome i).any (fun ob => ob.at 0 != m.block.at 0)) (rej .inconsistent 0),
                destLost o c.plan m.dome i,
                ((c.plan.instr m.dome i).bind (fun b => c.plan.instrBad c.s.dev.goneTiles m.dome i b)).bind (fun k => inconsistent k),
                readersBad c o m i 1],
    result := fun c m => match c.plan.instr m.dome (m.block.nat 1) with | some b => c.plan.latency m.dome (m.block.nat 1) b | none => 0,
    body := instrReport,
    apply := fun old m s =>
      let i := m.block.nat 1
      let d := m.dome
      match old.instr d i, s.plan.instr d i with
      | some ob, some b =>
        -- the placement before the change says in which mode the open dump accumulates
        let s := if intChanges ob b then (if iKind ob = 4 then { endEarly { s with plan := old } d i ob false with plan := s.plan } else endEarly s d i ob false)
          else onInstr s d i (fun r => r.redefine b)
        let newPlan := s.plan
        let far := fun (p : Plan) => (p.place? .instrDefine d i).map (fun x => (x.placed, x.chosen.headD 0))
        let anew := rqChanges d ob b || iQ4 ob != iQ4 b || rqShift ob != rqShift b || far old != far newPlan
        let s := onInstr s d i (fun r =>
          let r := if rqChanges d ob b then { r with gainA := List.replicate (rqEntries d b) 0x1000, gainB := List.replicate (rqEntries d b) 0x1000,
                                                     gainSwap := none, clipCh := clipMap d ob b r.clipCh } else r
          let r := if intChanges ob b || !old.placed d i then { r with await := r.await || (newPlan.batchedSub d i).isSome } else r
          let r := if wgtRedefines d ob b then { r with wgtA := List.replicate (wgtEntries b) 0, wgtB := List.replicate (wgtEntries b) 0, wgtSwap := none } else r
          if iKind b = 8 ∧ (capGeomChanges ob b ∨ !old.placed d i) then { r with cap := { CapRun.reset with decided := s.time.tick64 - newPlan.lamC d i b, seq := r.cap.seq } } else r)
        let where' := fun (p : Plan) => (p.place? .instrDefine d i).map (fun x => (x.placed, x.hstacks))
        let s := if old.ringsOf d i ob != newPlan.ringsOf d i b || where' old != where' newPlan then carryRings s d i b else s
        if anew then refill s d i b else s
      | _, _ => s }

/-! ### SK (R172 to R176) -/

/-- Instruments whose latency a change of an SK in instrument scope may alter: its own, and the readers of its Q4. -/
def Plan.skDelays (p : Plan) (d i : Nat) : List (Nat × Block) := (p.of .instrDefine d).filter (fun (e : Nat × Block) => e.1 == i || (iQ4 e.2).any (fun q => q.1 == i))
/-- INCONSISTENT of an SK change in instrument scope that leaves an instrument's inputs with unequal latencies (R187, R209). -/
def skInstrBad (c : Ctx) (o : Plan) (d i slot : Nat) : Option Reject :=
  let bad := fun (p : Plan) (k : Nat) => (p.instr d k).any (fun b => (p.instrBad c.s.dev.goneTiles d k b).isSome)
  rejIf ((c.plan.skDelays d i).any (fun e => bad c.plan e.1 && !bad o e.1)) (rej .inconsistent slot)
/-- An SK change in instrument scope that alters L_sk is a new configuration of every instrument that it delays: what each has open ends early (R176, R191). The
samples on their way keep the hold of their own sample tick's definition. -/ -- DEDUCED, notes/assumptions/154.md
def delayed (old : Plan) (s : State) (k : Nat × Nat) : State :=
  if k.1 = devDome then s
  else (s.plan.skDelays k.1 (k.2 / 2 ^ 17)).foldl (fun (s : State) (e : Nat × Block) =>
    let same := match old.instr k.1 e.1 with | some ob => old.reported k.1 e.1 ob == s.plan.reported k.1 e.1 e.2 | none => true
    if same || !old.placed k.1 e.1 then s else endEarly s k.1 e.1 e.2 false) s

/-- The rings of the RFIMONs whose record slots an SK change resizes (R635). -/
def rfimonRings (old : Plan) (s : State) : State :=
  (s.plan.objs .instrDefine).foldl (fun (s : State) (e : Nat × Nat × Block) =>
    if iKind e.2.2 = 7 ∧ old.has .instrDefine e.1 e.2.1 ∧ old.ringsOf e.1 e.2.1 e.2.2 != s.plan.ringsOf e.1 e.2.1 e.2.2 then carryRings s e.1 e.2.1 e.2.2 else s) s

/-- SK_DEFINE (R172 to R176). Its block is INSTRUMENT, SCOPE, SOURCE and the rest of Table 6-8. -/
def skDefineC : CSpec :=
  { names := fun c m =>
      let b := m.block
      firstRej [skNames c m ((b.word? 1).getD 0) (b.at 2) (b.at 0) 1 2 0,
        match b.at 11 with
        | .num ch => rejIf (!c.plan.holdsChan m.dome ch.toNat) (rej .denied 11)
        | _ => none],
    edit := fun c m p =>
      let k := skKey m ((m.block.word? 1).getD 0) (m.block.at 2) (m.block.at 0)
      (p.put .skDefine k.1 k.2 m.block).skPlace c.s.hbm.failed c.e k m.block,
    verify := fun c o m =>
      let b := m.block
      let scope := (b.word? 1).getD 0
      let src := srcOf m.dome (b.at 2)
      let rg := c.plan.srcRange src
      firstRej
        [rejIf ((scope == 0) != (b.word? 0).isSome) (rej .inconsistent 0),
         rejIf (scope == 0 && (match b.at 2 with | .obj 1 _ => true | _ => false)) (rej .inconsistent 2),
         rejIf (scope == 1 && (match b.at 0 with
           | .num i => (match c.plan.instr m.dome i.toNat with | some ib => !(iSources m.dome ib).contains src | none => true)
           | _ => false)) (rej .inconsistent 2),
         rejIf (decide (b.nat 3 < rg.1) || decide (rg.1 + rg.2 ≤ b.nat 3)) (rej .inconsistent 3),
         rejIf (b.nat 4 == 0 || decide (rg.1 + rg.2 < b.nat 3 + b.nat 4)) (rej .inconsistent 4),
         rejIf (decide (b.nat 7 ≤ b.nat 6)) (rej .inconsistent 6),
         if scope = 0 then alterBad c o m 2 (fun f => src == .feed f) else skInstrBad c o m.dome (b.nat 0) 0],
    result := fun c m => c.plan.lskOf (srcOf m.dome (m.block.at 2)) m.block,
    apply := fun old m s =>
      let b := m.block
      let k := skKey m ((b.word? 1).getD 0) (b.at 2) (b.at 0)
      let src := srcOf m.dome (b.at 2)
      let s := rfimonRings old s
      match old.find .skDefine k.1 k.2 with
      | some ob => delayed old (skChange s k src (skMoves ob b) false (some ob) (some b)) k
      | none =>
        let fresh := k.1 != devDome && (match s.plan.place? .instrDefine k.1 (b.nat 0) with | some x => x.since == s.time.tick64 | none => false)
        let s := skChange s k src true (fresh || (tget s.sks k).isNone && k.1 != devDome) none (some b)
        if k.1 = devDome then s
        else match s.plan.instr k.1 (b.nat 0) with
          | some ib =>
            -- its instrument starts with sample tick e - λ, and λ holds L_sk (R192)
            let s := delayed old s k
            let s := if s.plan.placed k.1 (b.nat 0) then refill s k.1 (b.nat 0) ib else s
            onSk s k (fun r => match r.frames.head? with | some f => { r with at0 := Nat.min r.at0 (f.1 / Nat.max 1 (b.nat 5) * b.nat 5) } | none => r)
          | none => s }

/-- SK_DELETE (R176): SCOPE, SOURCE, INSTRUMENT. -/
def skDeleteC : CSpec :=
  { names := fun c m =>
      let b := m.block
      let k := skKey m ((b.word? 0).getD 0) (b.at 1) (b.at 2)
      firstRej [skNames c m ((b.word? 0).getD 0) (b.at 1) (b.at 2) 0 1 2, rejIf (c.plan.find .skDefine k.1 k.2).isNone (rej .nosuch 1)],
    edit := fun _ m p => let k := skKey m ((m.block.word? 0).getD 0) (m.block.at 1) (m.block.at 2); p.del .skDefine k.1 k.2,
    verify := fun c o m => if m.block.is 0 0 then alterBad c o m 1 (fun f => srcOf m.dome (m.block.at 1) == .feed f) else skInstrBad c o m.dome (m.block.nat 2) 2,
    apply := fun old m s =>
      let k := skKey m ((m.block.word? 0).getD 0) (m.block.at 1) (m.block.at 2)
      delayed old (skChange (rfimonRings old s) k (srcOf m.dome (m.block.at 1)) true false (some []) none) k }

/-! ### Deleting instruments, and windows -/

/-- Remove an instrument with what is defined inside it: masks, Plates, SK in instrument scope, attachments of Sextants. -/
def Plan.delInstr (p : Plan) (d i : Nat) : Plan :=
  let p := (p.masksOf d i).foldl (fun (p : Plan) e => p.del .maskDefine d e.1) p
  let p := (p.platesOf d i).foldl (fun (p : Plan) e => p.del .plateDefine d e.1) p
  let p := ((p.of .skDefine d).filter (fun e => e.1 / 2 ^ 17 == i)).foldl (fun (p : Plan) e => p.del .skDefine d e.1) p
  let p := ((p.of .sextantAttach d).filter (fun e => e.2.nat 1 == i)).foldl (fun (p : Plan) e => p.del .sextantAttach d e.1) p
  p.del .instrDefine d i

/-- Run-time state of an instrument and of what is defined inside it leaves. -/
def dropInstr (old : Plan) (d i : Nat) (s : State) : State :=
  { s with instrs := tdel s.instrs (d, i),
           masks := (old.masksOf d i).foldl (fun t e => tdel t (d, e.1)) s.masks,
           plates := (old.platesOf d i).foldl (fun t e => tdel t (d, e.1)) s.plates,
           sks := s.sks.filter (fun e => !(e.1.1 == d && e.1.2 / 2 ^ 17 == i)) }

/-- Block of INSTR_DELETE and of the commands that name one instrument. -/
def instrOnlyBlock : List Param := [pN "INSTRUMENT" 0 63]

/-- INSTR_DELETE (R631). -/
def instrDeleteC : CSpec :=
  { names := fun c m => rejIf (c.plan.instr m.dome (m.block.nat 0)).isNone (rej .nosuch 0),
    edit := fun _ m p => p.delInstr m.dome (m.block.nat 0),
    verify := fun c o m => readersBad c o m (m.block.nat 0) 0,
    apply := fun old m s => dropInstr old m.dome (m.block.nat 0) s }

/-- A zoom definition with the default of SHIFT resolved. -/
def zoomResolve (b : Block) : Block := match b.at 7 with | .dflt => b.put 7 (.num (2 ^ b.nat 4 - 1 : Nat)) | _ => b

/-- Placement of a window (R169, R170): the tile of its first channel, or the next one of the sector that holds it; SRAM or HBM by STATE. -/
def Plan.placeZoom (p : Plan) (failed gone : List Nat) (d w : Nat) (b : Block) (e : Nat) : Plan :=
  let l := p.books failed
  let home := match p.homeRuns (.feed (b.nat 1)) (b.nat 2) 1 with | r :: _ => r.1 | [] => 0
  let hbmFits := fun (t : Nat) (hbm : Bool) => p.tileFits l (p.zoomBooks d w b t hbm (p.stackFor failed d (sectorOf t)))
  let tile := ((tilesFrom gone home).find? (fun t => hbmFits t (b.is 8 2) || (b.is 8 0 && hbmFits t true))).getD home
  let hbm := b.is 8 2 || (b.is 8 0 && !hbmFits tile false)
  p.setPlace { op := .zoomDefine, dome := d, index := w, placed := true, order := 0, tiles := [tile], hstacks := [p.stackFor failed d (sectorOf tile)], latency := 0,
               chosen := [if hbm then 1 else 0], since := e }

/-- Instruments of a dome that read a window. -/
def Plan.windowReaders (p : Plan) (d w : Nat) : List Nat :=
  ((p.of .instrDefine d).filter (fun (e : Nat × Block) => (p.reads d e.1 e.2).any (fun r => r.1 == .window d w))).map (fun e => e.1)

/-- ZOOM_DEFINE (R166 to R170); RESULT is the logical tile. -/
def zoomDefineC : CSpec :=
  { names := fun c m => rejIf (!c.plan.feedSeen m.dome (m.block.nat 1)) (rej .nosuch 1),
    edit := fun c m p =>
      let b := zoomResolve m.block
      let w := b.nat 0
      let p := (p.put .zoomDefine m.dome w b).noPlace .zoomDefine m.dome w
      p.placeZoom c.s.hbm.failed c.s.dev.goneTiles m.dome w b c.e,
    verify := fun c _ m =>
      let w := m.block.nat 0
      let b := (c.plan.zoom m.dome w).getD m.block
      match c.plan.coarse (b.nat 1) with
      | none => inconsistent 1
      | some co => firstRej
          [rejIf (co.at 3 == .num 1) (rej .inconsistent 1),
           rejIf (decide (b.nat 2 < coFirst co)) (rej .inconsistent 2), rejIf (decide (coFirst co + coCount co < b.nat 2 + b.nat 3)) (rej .inconsistent 3),
           rejIf (coefSetBad c.s m.dome (b.at 6) (zoN b) (b.nat 5)) (rej .inconsistent 6), rejIf (decide (zoN b ≤ b.nat 7)) (rej .inconsistent 7),
           rejIf ((c.plan.windowReaders m.dome w).any (fun i => match c.plan.instr m.dome i with | some ib => (c.plan.instrBad c.s.dev.goneTiles m.dome i ib).isSome | none => false)) (rej .inconsistent 0)],
    result := fun c m => match c.plan.place? .zoomDefine m.dome (m.block.nat 0) with | some x => x.tiles.headD 0 | none => 0,
    apply := fun old m s =>
      let k := (m.dome, m.block.nat 0)
      match old.zoom k.1 k.2, s.plan.zoom k.1 k.2 with
      | some ob, some b => if ob.put 7 (.num 0) == b.put 7 (.num 0) ∧ (old.place? .zoomDefine k.1 k.2).any (fun x => x.placed) then s else { s with zooms := tmod s.zooms k ZoomRun.reset (fun r => { r with inq := [], hist := [] }) }
      | _, _ => { s with zooms := tset s.zooms k ZoomRun.reset } }

/-- ZOOM_DELETE. A window that an instrument reads stays: the command then completes with INCONSISTENT and lists the readers. -/
def zoomDeleteC : CSpec :=
  { names := fun c m => rejIf (c.plan.zoom m.dome (m.block.nat 0)).isNone (rej .nosuch 0),
    edit := fun _ m p => p.del .zoomDefine m.dome (m.block.nat 0),
    verify := fun c o m =>
      let l := (o.windowReaders m.dome (m.block.nat 0)).filter (fun i => match c.plan.instr m.dome i, o.instr m.dome i with
        | some b, some ob => c.plan.reads m.dome i b == c.plan.reads m.dome i ob
        | _, _ => false)
      if l.isEmpty then none else some { status := .inconsistent, detail := 0, resp := affectedList (l.map (fun i => (m.dome, i))) },
    apply := fun _ m s => { s with zooms := tdel s.zooms (m.dome, m.block.nat 0) } }

end Sys2Proof.Machine
end

