-- ==== Sys2Proof/Machine/Withdraw.lean ====
section
/-! DEFINITION. Withdraw.lean: which instruments go when capacity or a grant is withdrawn, and what their unplacement does (R24, R25, R416, R633). -/
namespace Sys2Proof.Machine

/-- Placement priority of a dome (R25, R417). -/
def Plan.priority (p : Plan) (d : Nat) : Nat := match p.find .domeCreate devDome d with | some b => b.nat 3 | none => 0

/-- Does dome `a` lose its instruments before dome `b`: D0 last, lower priority first, of equal priority the higher number first (R25, R44)? -/
def Plan.goesBefore (p : Plan) (a b : Nat) : Bool :=
  if a = 0 then false else if b = 0 then true
  else decide (p.priority a < p.priority b) || (p.priority a == p.priority b && decide (b ≤ a))

/-- Placed instruments of the domes picked out, in the order in which capacity is withdrawn: the last in admission order of its dome first (R25). -/
def Plan.goOrder (p : Plan) (mine : Nat → Bool) : List (Nat × Nat) :=
  let l := (p.places.filter (fun x => x.op == .instrDefine && x.placed && mine x.dome)).mergeSort (fun x y =>
    if x.dome = y.dome then decide (y.order ≤ x.order) else p.goesBefore x.dome y.dome)
  l.map (fun x => (x.dome, x.index))

/-- Unplace instruments one after another until a plan fits (R25). -/
def Plan.unplaceUntil (fits : Plan → Bool) (p : Plan) : List (Nat × Nat) → Plan
  | [] => p
  | x :: r => if fits p then p else Plan.unplaceUntil fits (p.unplace x.1 x.2 0 0) r

/-- Pages of a stack that are no longer there. -/
def lostPages (s : State) (h : Nat) : Nat := if s.hbm.failed.contains h then 17088 else (s.hbm.lost.filter (fun x => x.1 == h)).length

/-- What a plan exceeds of the device as it stands. -/
def Plan.shortsIn (p : Plan) (s : State) : List Short := p.shorts s.hbm.failed (lostPages s)

/-- A plan after the withdrawal of what no longer fits (R25). -/
def Plan.refit (p : Plan) (s : State) : Plan := Plan.unplaceUntil (fun q => (q.shortsIn s).isEmpty) p (p.goOrder (fun _ => true))

/-- One CAPACITY notice for an instrument to its dome, and a record to the owner (R24, R25). -/
def capacityNotice (s : State) (d i : Nat) : State :=
  let s := match s.plan.binding d with | some f => writeNotice s f 0x8001 10 Config.capacityCause (i % 65536 + 2 ^ 32) | none => s
  noticeOwner s 0x8001 10 Config.capacityCause i d

/-- The unplacement of one instrument takes effect: its open integration closes early and what waits at its inputs goes (R191, R301). -/
def endPlaced (s : State) (d i : Nat) : State :=
  match s.plan.instr d i with
  | some b => onInstr (endEarly s d i b true) d i (fun r => { r with inq := [] })
  | none => s

/-- Instruments placed in one plan and not in another. -/
def Plan.lostFrom (o n : Plan) : List (Nat × Nat) :=
  (o.places.filter (fun x => x.op == .instrDefine && x.placed && n.has .instrDefine x.dome x.index && !n.placed x.dome x.index)).map (fun x => (x.dome, x.index))

/-- The committed plan gives way to one in which instruments are unplaced: notices go out, and those unplaced at this tick end at once. -/
def takePlaces (s : State) (n : Plan) : State :=
  let o := s.plan
  let gone := o.lostFrom n
  let s := (gone.filter (fun x => ((n.place? .instrDefine x.1 x.2).map (fun y => y.since)) == some 0)).foldl (fun (s : State) x => endPlaced s x.1 x.2) s
  gone.foldl (fun (s : State) x => capacityNotice s x.1 x.2) { s with plan := n }

/-- Capacity is withdrawn: what no longer fits is unplaced (R25, R29). -/
def withdrawNow (s : State) : State := takePlaces s (s.plan.refit s)

end Sys2Proof.Machine
end

