-- ==== Sys2Proof/Machine/Meter.lean ====
section
/-! DEFINITION. Meter.lean: metering: intervals, segments, records and checkpoints (R431 to R436). -/
namespace Sys2Proof.Machine

/-- Time units in one minute. -/
def uMin : Nat := 60 * uSec

/-- INTERVAL_MIN and ALIGN_MIN in force (R432). -/
def Plan.meterGrid (p : Plan) : Nat × Nat := match p.find .meterConfig devDome 0 with | some b => (Nat.max 1 (b.nat 0), b.nat 1) | none => (60, 0)

/-- First boundary of the grid after a house time, in minutes (R432). -/
def Plan.nextMinute (p : Plan) (house : Nat) : Nat :=
  let g := p.meterGrid
  let now := house / uMin
  if now < g.2 then g.2 else g.2 + ((now - g.2) / g.1 + 1) * g.1

/-- Rate class of a dome; that of D0, which no record creates, stands in a record of its own (R434). -/
def Plan.rateClass (p : Plan) (d : Nat) : Nat :=
  if d = 0 then (match p.find .rateClass devDome 0 with | some b => b.nat 1 | none => 0)
  else match p.find .domeCreate devDome d with | some b => b.nat 4 | none => 0

/-- Domes that exist, D0 included. -/
def Plan.domeList (p : Plan) : List Nat := 0 :: (p.objs .domeCreate).map (fun e => e.2.1)

/-- A segment that starts now. -/
def newSegment (s : State) (d : Nat) : Seg := { fromTick := s.time.tick64, cls := s.plan.rateClass d, tile := 0, hbm := 0, egress := 0, plate := 0 }

/-- Open an interval for a dome that has none (R432). -/
def openInterval (s : State) (d : Nat) : State :=
  if (tget s.meter.opens d).isSome then s
  else
    let x : Interval := { dome := d, recSeq := tgetD s.meter.seqs d 0, term := 5, rflags := 4 * b2n s.time.unsynced, start := houseCt64 s, stop := 0,
                          startTick := s.time.tick64, stopTick := 0, segs := [newSegment s d] }
    { s with meter := { s.meter with opens := tset s.meter.opens d x } }

/-- Open an interval for every dome, and aim at the next boundary. -/
def openIntervals (s : State) : State :=
  let s := s.plan.domeList.foldl openInterval s
  { s with meter := { s.meter with running := true, nextMin := s.plan.nextMinute s.time.house } }

/-- Close a dome's interval at the present boundary. -/
def closeInterval (term : Nat) (s : State) (d : Nat) : State :=
  match tget s.meter.opens d with
  | none => s
  | some x =>
    let fl := x.rflags ||| b2n s.meter.powerFail ||| 2 * b2n s.meter.stepped ||| 4 * b2n s.time.unsynced
    let y : Interval := { x with term := term, rflags := fl, stop := houseCt64 s, stopTick := s.time.tick64 }
    raiseEv { s with meter := { s.meter with opens := tdel s.meter.opens d, closed := s.meter.closed ++ [y], seqs := tset s.meter.seqs d ((x.recSeq + 1) % 2 ^ 32) } } 1353 1344

/-- Close every open interval. -/
def closeIntervals (term : Nat) (s : State) : State :=
  let s := (s.meter.opens.map (fun e => e.1)).foldl (closeInterval term) s
  { s with meter := { s.meter with stepped := false } }

/-- Is an interval boundary due at the present tick boundary (R432)? -/
def closeIsDue (s : State) : Bool := s.meter.running && decide (s.meter.nextMin * uMin ≤ s.time.house)

/-- Meter the tick that ends, at its boundary, then open intervals where metering resumes (R431, R435). -/
def meterTick (s : State) : State :=
  let m := s.plan.m
  let l := s.plan.books s.hbm.failed
  let s := if !s.meter.running then s
    else (s.meter.opens.map (fun e => e.1)).foldl (fun (s : State) (d : Nat) =>
      let pages := (s.hbm.pages.filter (fun x => x.dome == d)).length
      let plate := bookedOf (l.filter (fun k => k.dome == d)) 0x14 5 0
      let s := if s.time.unsynced then { s with meter := { s.meter with opens := s.meter.opens.map (fun e => if e.1 = d then (e.1, { e.2 with rflags := e.2.rflags ||| 4 }) else e) } } else s
      onSegment s d (fun g => { g with tile := g.tile + s.plan.tileShare l d * m, hbm := g.hbm + pages * m, plate := g.plate + ceilDiv plate 1024 * m })) s
  s

/-- Metering starts or resumes at a boundary (R435). -/
def meterResume (s : State) : State := if s.meter.running || s.meter.powerFail then s else openIntervals s

/-- RFLAGS bit of every open interval: M changed. -/
def meterMChanged (s : State) : State :=
  { s with meter := { s.meter with opens := s.meter.opens.map (fun e => (e.1, { e.2 with rflags := e.2.rflags ||| 8 })) } }

/-- Bytes of a segment. -/
def Seg.bytes (g : Seg) : List Byte := leBytes 8 g.fromTick ++ leBytes 1 g.cls ++ leBytes 7 0 ++ leBytes 8 g.tile ++ leBytes 8 g.hbm ++ leBytes 8 g.egress ++ leBytes 8 g.plate

/-- The 448 bytes of an interval record (Table 14-11). -/
def Interval.bytes (x : Interval) : List Byte :=
  let head := leBytes 2 x.dome ++ leBytes 2 x.segs.length ++ leBytes 4 x.recSeq ++ leBytes 1 x.term ++ leBytes 1 x.rflags ++ leBytes 6 0 ++ leBytes 8 x.start ++
    leBytes 8 x.stop ++ leBytes 8 x.startTick ++ leBytes 8 x.stopTick ++ leBytes 12 0
  let tail := padTo 0 384 (x.segs.flatMap Seg.bytes)
  head ++ leBytes 4 (crc32c (head ++ tail)) ++ tail

/-- METER_INTERVAL_CLOSE (R432, R436): at the first tick boundary at or after the interval's boundary every interval closes and the next one opens. -/
def execMeterIntervalClose (s : State) : Host.Outcome State Fault Refusal :=
  if !closeIsDue s then .next s
  else
    let s := closeIntervals 0 s
    .next (if s.meter.powerFail then { s with meter := { s.meter with running := false } } else openIntervals s)

/-- Records in the flash ring (R433). -/
def meterRing : Nat := 32768

/-- METER_RECORD_WRITE: the oldest closed record goes to the flash ring (R433). -/
def execMeterRecordWrite (s : State) : Host.Outcome State Fault Refusal :=
  match s.meter.closed with
  | [] => .next s
  | x :: r =>
    let full := decide (meterRing ≤ s.meter.ring.length)
    .next { s with meter := { s.meter with closed := r, ring := (if full then s.meter.ring.drop 1 else s.meter.ring) ++ [x], ringLost := s.meter.ringLost + b2n full } }

/-- METER_CHECKPOINT: every open interval goes to the older of its dome's two slots, and house time to its own checkpoint (R53, R435). -/
def execMeterCheckpoint (s : State) : Host.Outcome State Fault Refusal :=
  let cps := s.meter.opens.foldl (fun (t : Tab Nat (List Interval)) (e : Nat × Interval) =>
    let x : Interval := { e.2 with stop := houseCt64 s, stopTick := s.time.tick64 }
    tset t e.1 (x :: (tgetD t e.1 []).take 1)) s.meter.checkpoints
  .next { s with meter := { s.meter with checkpoints := cps }, time := { s.time with houseCheckpoint := s.time.house } }

/-- POWERFAIL_METER_CLOSE: at the boundary of w + 1 every interval closes; one whose own boundary falls there ends with END and the POWERFAIL flag
(R435, R436). -/
def execPowerfailMeterClose (s : State) : Host.Outcome State Fault Refusal :=
  if !s.meter.powerFail || !s.meter.running then .next s
  else
    let s := closeIntervals (if closeIsDue s then 0 else 1) s
    .next { s with meter := { s.meter with running := false } }

/-- At boot a checkpoint without a closed record after it becomes an UNTERMINATED record (R435). -/
def meterBoot (s : State) : State :=
  let recs := s.meter.ring ++ s.meter.closed
  let late := s.meter.checkpoints.filterMap (fun e => match e.2 with
    | x :: _ => if recs.any (fun r => r.dome == e.1 && r.recSeq == x.recSeq) then none else some { x with term := 2 }
    | [] => none)
  { s with meter := { s.meter with running := false, opens := [], checkpoints := [], closed := s.meter.closed ++ late,
                                   seqs := late.foldl (fun (t : Tab Nat Nat) (x : Interval) => tset t x.dome ((x.recSeq + 1) % 2 ^ 32)) s.meter.seqs } }

/-- Block of METER_CONFIG. -/
def meterConfigBlock : List Param := [pD "INTERVAL_MIN" 1 1440 60, pD "ALIGN_MIN" 0 1439 0]
/-- METER_CONFIG (R432): open intervals close with TERM = CONFIG, and the new grid applies. -/
def meterConfigC : CSpec :=
  { edit := fun _ m p => p.put .meterConfig devDome 0 m.block,
    verify := fun c _ _ => rejIf (decide (c.plan.meterGrid.1 ≤ c.plan.meterGrid.2)) (rej .inconsistent 1),
    apply := fun _ m s =>
      let s := saveSetting s 1 (fun x => { x with meter := (m.block.nat 0, m.block.nat 1) })
      if s.meter.running then openIntervals (closeIntervals 4 s) else s }

/-- Block of RATE_CLASS. -/
def rateClassBlock : List Param := [pI "DOME" 255, pN "CLASS" 0 15]
/-- Segments that a dome's open interval will have used by tick `e`: none counts after a close that comes before (R434). -/
def segmentsBy (c : Ctx) (d : Nat) : Nat :=
  if c.s.meter.nextMin * uMin ≤ c.s.time.house + (c.e - c.s.time.tick64) * c.s.plan.period then 0
  else ((tget c.s.meter.opens d).map (fun x => x.segs.length)).getD 0 +
    sumN (c.s.psets.map (fun p => (p.cmds.filter (fun m => m.op == .rateClass && m.block.nat 0 == d)).length))
/-- RATE_CLASS (R434, R436): a new segment starts at `e`, unless `e` is a closing boundary or an interval has just opened there. -/
def rateClassC : CSpec :=
  { names := fun c m => rejIf (!c.plan.domeExists (m.block.nat 0)) (rej .nosuch 0),
    busy := fun c m => rejIf ((domeRun c.s (m.block.nat 0)).drain.isSome || decide (8 ≤ segmentsBy c (m.block.nat 0))) (rej .busy 0),
    edit := fun _ m p =>
      let d := m.block.nat 0
      if d = 0 then p.put .rateClass devDome 0 m.block
      else match p.find .domeCreate devDome d with | some b => p.put .domeCreate devDome d (b.put 4 (m.block.at 1)) | none => p,
    apply := fun _ m s =>
      let d := m.block.nat 0
      match tget s.meter.opens d with
      | none => s
      | some x =>
        if closeIsDue s || s.meter.powerFail then s
        else if (x.segs.getLast?.map (fun g => g.fromTick)) == some s.time.tick64 then onSegment s d (fun g => { g with cls := m.block.nat 1 })
        else { s with meter := { s.meter with opens := tset s.meter.opens d { x with segs := x.segs ++ [newSegment s d] } } } }

/-- Block of METER_READ. -/
def meterReadBlock : List Param := [(pI "DOME" 255).byRule, pW "SOURCE" ["OPEN", "FLASH"], pN "FROM_SEQ" 0 (2 ^ 32 - 1), pN "MAX" 1 4096]
/-- METER_READ (R433): the header's upper half holds the ring's LOST; RESULT counts the records. -/
def meterReadAct : Act := fun c m =>
  let d := domeSlot m 0
  match domeSlotBad c.s.plan m 0 with
  | some r => .error r
  | none =>
    let recs := if m.block.is 1 0 then (tget c.s.meter.opens d).toList.map (fun x => ({ x with stop := houseCt64 c.s, stopTick := c.s.time.tick64 } : Interval))
      else c.s.meter.ring.filter (fun x => x.dome == d && decide (m.block.nat 2 ≤ x.recSeq))
    let recs := recs.take (m.block.nat 3)
    .ok { s := c.s, result := recs.length, high := c.s.meter.ringLost % 2 ^ 32, body := some (recs.flatMap Interval.bytes) }

end Sys2Proof.Machine
end

