-- ==== Sys2Proof/Machine/ProductPlan.lean ====
section
/-! DEFINITION. ProductPlan.lean: gain and weight banks, result acknowledgement, masks, Plates and captures by command (R181 to R183, R199, R228,
R248 to R271, R292, R299 to R301, R401, R404). -/
namespace Sys2Proof.Machine

/-! ### Banks (R181, R401) -/

/-- Unsigned words of a load buffer. -/
def loadNats (data : List Byte) (w count : Nat) : List Nat := (List.range count).map (fun i => leField data (w * i) w)
/-- The checks of a load: PBUF_LEN and range (FORMAT), then a pending swap (BUSY). `entries` is the size of the bank. -/
def loadBad (m : Cmd) (w entries : Nat) (swap : Bool) : Option Reject :=
  let first := m.block.nat 1
  let count := m.block.nat 2
  firstRej [rejIf (m.data.length != w * count || decide (entries < first + count)) (rej .format 2), rejIf swap (rej .busy 0)]
/-- The checks of a swap: BUSY, then TIMEOUT once the device tick that processes SWAP_TICK has begun (R181). -/
def swapBad (s : State) (m : Cmd) (lat : Nat) (swap : Bool) : Option Reject :=
  firstRej [rejIf swap (rej .busy 0), rejIf (decide (m.block.nat 1 + lat ≤ s.time.tick64)) (rej .timeout 1)]
/-- A load or swap of an object of an instrument. -/
def bankAct (bad : Option Reject) (s : State) : Except Reject Done := match bad with | some r => .error r | none => .ok { s := s }

/-- RQ_GAIN_LOAD (R181). -/
def rqGainLoadAct : Act := fun c m =>
  let i := m.block.nat 0
  match c.s.plan.instr m.dome i with
  | none => .error (rej .nosuch 0)
  | some b =>
    let r := instrRun c.s m.dome i
    if rqEntries m.dome b = 0 then .error (rej .inconsistent 0)
    else bankAct (loadBad m 2 (rqEntries m.dome b) r.gainSwap.isSome)
      (onInstr c.s m.dome i (fun r => { r with gainB := writeBank r.gainB (m.block.nat 1) (loadNats m.data 2 (m.block.nat 2)) }))
/-- RQ_GAIN_SWAP (R181). -/
def rqGainSwapAct : Act := fun c m =>
  let i := m.block.nat 0
  match c.s.plan.instr m.dome i with
  | none => .error (rej .nosuch 0)
  | some b =>
    -- the input of the shortest latency processes SWAP_TICK first
    let lats := (iSources m.dome b).map (fun x => c.s.plan.lambda m.dome i x)
    let bad := swapBad c.s m (lats.foldl Nat.min (lats.headD 0)) (instrRun c.s m.dome i).gainSwap.isSome
    if rqEntries m.dome b = 0 then .error (rej .inconsistent 0)
    else bankAct bad (onInstr c.s m.dome i (fun r => { r with gainSwap := some (m.block.nat 1) }))
/-- BEAM_WEIGHT_LOAD (R228): no byte may be -128. -/
def beamWeightLoadAct : Act := fun c m =>
  let i := m.block.nat 0
  match c.s.plan.instr m.dome i with
  | none => .error (rej .nosuch 0)
  | some b =>
    let r := instrRun c.s m.dome i
    if iKind b ≠ 6 then .error (rej .inconsistent 0)
    else if m.data.any (fun x => x == 0x80) then .error (rej .format 2)
    else bankAct (loadBad m 2 (wgtEntries b) r.wgtSwap.isSome)
      (onInstr c.s m.dome i (fun r => { r with wgtB := writeBank r.wgtB (m.block.nat 1) (loadNats m.data 2 (m.block.nat 2)) }))
/-- BEAM_WEIGHT_SWAP (R228). -/
def beamWeightSwapAct : Act := fun c m =>
  let i := m.block.nat 0
  match c.s.plan.instr m.dome i with
  | none => .error (rej .nosuch 0)
  | some b =>
    if iKind b ≠ 6 then .error (rej .inconsistent 0)
    else bankAct (swapBad c.s m (c.s.plan.lamX m.dome i) (instrRun c.s m.dome i).wgtSwap.isSome) (onInstr c.s m.dome i (fun r => { r with wgtSwap := some (m.block.nat 1) }))

/-- A load of a mask's staged bank: words of frequency masks, gains of sweep masks. -/
def maskLoad (sweep : Bool) (w : Nat) : Act := fun c m =>
  let k := m.block.nat 0
  match c.s.plan.mask m.dome k with
  | none => .error (rej .nosuch 0)
  | some b =>
    if b.is 0 1 != sweep then .error (rej .inconsistent 0)
    else bankAct (loadBad m w (b.nat 4) (maskRun c.s m.dome k).swap.isSome)
      (onMask c.s m.dome k (fun r => { r with bankB := writeBank r.bankB (m.block.nat 1) (loadNats m.data w (m.block.nat 2)) }))
/-- A swap of a mask's banks. -/
def maskSwap (sweep : Bool) : Act := fun c m =>
  let k := m.block.nat 0
  match c.s.plan.mask m.dome k with
  | none => .error (rej .nosuch 0)
  | some b =>
    if b.is 0 1 != sweep then .error (rej .inconsistent 0)
    else bankAct (swapBad c.s m (c.s.plan.lam m.dome (b.nat 2)) (maskRun c.s m.dome k).swap.isSome) (onMask c.s m.dome k (fun r => { r with swap := some (m.block.nat 1) }))
/-- MASK_LOAD (R249, R250). -/
def maskLoadAct : Act := maskLoad false 4
/-- MASK_SWAP (R250). -/
def maskSwapAct : Act := maskSwap false
/-- SWEEP_GAIN_LOAD (R259). -/
def sweepGainLoadAct : Act := maskLoad true 8
/-- SWEEP_GAIN_SWAP (R259). -/
def sweepGainSwapAct : Act := maskSwap true

/-! ### Statistics (R183, R204, R238, R277, R303, R343; layout: log entry 26) -/

/-- Counters of SHED_TICKS that an RTSA or SWEEP keeps: its parts, then its sweep masks on tiles away from them (Table 9-11). -/
def Plan.shedCounters (p : Plan) (d i : Nat) : List ICtr :=
  let tiles := match p.place? .instrDefine d i with | some x => x.tiles | none => []
  (List.range tiles.length).map ICtr.partShed ++
  ((p.masksOf d i).filter (fun e => (p.place? .maskDefine d e.1).any (fun x => x.tiles.any (fun t => !tiles.contains t)))).map (fun e => .partShed (64 + e.1))
/-- Counters of an instrument in the order of its kind's table; `shed` are those of its parts (R277). -/
def kindCounters (b : Block) (shed : List ICtr) : List ICtr :=
  match iKind b with
  | 4 => corr
  | 5 => corr
  | 6 => [.shedUnits, .absentTicks, .beamSamples, .beamValid, .beamBlank, .beamClip, .results, .resultDrop]
  | 8 => (List.range 8).map ICtr.triggers ++ [.accepted, .records, .lateTrig, .queueLost, .seqExpired, .seqIgnored, .holdoffSkipped, .noSegment, .overwritten, .truncated,
          .gapUnits, .levelFires, .shedTicks, .genDiscard]
  | 11 => [.bytesSent, .bytesChecked, .bitErrors, .lostGranules]
  | 2 => [.traces, .resultDrop] ++ shed
  | 9 => shed
  | 7 => [.skRecords, .resultDrop, .clipSamples]
  | _ => [.results, .resultDrop, .shedTicks, .emptyCh, .valid, .nominal]
where corr : List ICtr := [.dumps, .dumpDrop, .dumpLost, .shedUnits, .valid, .nominal, .absentTicks]
/-- Counters of a mask (Table 9-11). -/
def maskCounters (b : Block) (r : MaskRun) : List Nat :=
  if b.is 0 1 then [r.triggers, r.drop, r.winLost, r.swClip] else [r.framesIn, r.framesOut, r.framesNone, r.triggers, r.limited, r.drop]
/-- Counters of a Plate (Table 9-11). -/
def plateCounters (r : PlateRun) : List Nat := [r.increments, r.plSkipped, r.invalid, r.sat, r.below, r.above, r.snapshots, r.snapDrop]
/-- Windows that an instrument reads. -/
def windowsRead (p : Plan) (d i : Nat) (b : Block) : List Nat :=
  ((p.reads d i b).filterMap (fun r => match r.1 with | .window _ w => some w | _ => none)).eraseDups

/-- Block of INSTR_STATS. -/
def instrStatsBlock : List Param := [(pI "DOME" 255).byRule, pN "INSTRUMENT" 0 63]

/-- INSTR_STATS: counters of the instrument, its masks, Plates, windows, SK definitions and flows; its placement; its admission figures. -/
def instrStatsAct : Act := fun c m =>
  let s := c.s
  let p := s.plan
  let d := domeSlot m 0
  let i := m.block.nat 1
  match domeSlotBad p m 0, p.instr d i with
  | some r, _ => .error r
  | none, none => .error (rej .nosuch 1)
  | none, some b =>
    let r := instrRun s d i
    let x := (p.place? .instrDefine d i).getD { op := .instrDefine, dome := d, index := i, placed := false, order := 0, tiles := [], hstacks := [], latency := 0, chosen := [], since := 0 }
    let g := capGeom p d i b
    let cap := iKind b == 8 && b.is 2 0
    let sweeps := (p.masksOf d i).filter (fun e => e.2.is 0 1)
    let kap := fun (e : Nat × Block) => p.kappa (p.maskSrc d e.2) (e.2.nat 3) (e.2.nat 4)
    .ok { s := s, body := some (words8 (
      (kindCounters b (p.shedCounters d i)).map (fun k => tgetD r.cnt k 0) ++
      (p.masksOf d i).flatMap (fun e => maskCounters e.2 (maskRun s d e.1)) ++
      (p.platesOf d i).flatMap (fun e => plateCounters (plateRun s d e.1)) ++
      (windowsRead p d i b).flatMap (fun w => let z := zoomRun s d w; [z.fineFrames, z.validFine, z.zoomOvf, z.zoomPoison]) ++
      ((p.of .skDefine d).filter (fun e => e.1 / 2 ^ 17 == i)).flatMap (fun e => let k := skRun s (d, e.1); [k.blocks, k.high, k.low, k.untested, k.blanked]) ++
      (s.flows.filter (fun e => e.2.spec.dome == d && e.2.spec.instr == i)).flatMap (fun e => [e.2.sent, e.2.late, e.2.absent]) ++
      [b2n x.placed, x.tiles.length] ++ x.tiles ++ (x.chosen.drop 4).map Int.toNat ++ [x.hstacks.length] ++ x.hstacks ++
      [p.reported d i b, (x.chosen.getD 0 0).toNat, (x.chosen.getD 1 0).toNat, (x.chosen.getD 2 1).toNat, (x.chosen.getD 3 1).toNat] ++
      (if cap then [ringBase s d i, g.bytes, g.units, p.capGuard d i b, p.lamC d i b] else []) ++
      sweeps.flatMap (fun e => kap e ++ [Config.kappaCrc (kap e)]))) }

/-- Block of RQ_STATS. -/
def rqStatsBlock : List Param := [(pI "DOME" 255).byRule, pN "INSTRUMENT" 0 63, pF "CLEAR" 0]
/-- RQ_STATS (R183): the sums of each feed, then RQ_CLIP_CH, which CLEAR = 1 clears. -/
def rqStatsAct : Act := fun c m =>
  let s := c.s
  let d := domeSlot m 0
  let i := m.block.nat 1
  match domeSlotBad s.plan m 0, s.plan.instr d i with
  | some r, _ => .error r
  | none, none => .error (rej .nosuch 1)
  | none, some b =>
    if rqEntries d b = 0 then .error (rej .inconsistent 1)
    else
      let r := instrRun s d i
      let q := ((iSources d b).map srcKey).flatMap (fun k => [ICtr.q4Samples k, .validQ4 k, .rqClip k, .rqBlank k].map (fun x => tgetD r.cnt x 0))
      .ok { s := if m.block.flag 2 then onInstr s d i (fun r => { r with clipCh := r.clipCh.map (fun _ => 0) }) else s,
            body := some (words8 q ++ r.clipCh.flatMap (fun x => leBytes 4 x)) }

/-! ### Acknowledgement (R199, R254, R263, R270, R404) -/

/-- Block of RESULT_ACK. -/
def resultAckBlock : List Param := [pN "INSTRUMENT" 0 63, pN "SUBID" 0 65535, pN "SEQ" 0 (2 ^ 32 - 1)]
/-- RESULT_ACK: it releases every ring of the instrument with that SUBID up to SEQ (log entry 27). -/
def resultAckAct : Act := fun c m =>
  let s := c.s
  let d := m.dome
  let i := m.block.nat 0
  let sub := m.block.nat 1
  let seq := m.block.nat 2
  match s.plan.instr d i with
  | none => .error (rej .nosuch 0)
  | some b =>
    let own := if iKind b = 10 then (s.plan.of .sextantAttach d).filterMap (fun e => if e.2.nat 1 == i && sub < 4 then some (1024 + 4 * e.1 + sub) else none)
      else
        -- over an aperture the parts' numbers count on from those of the members before this device (R215)
        let base := if iKind b = 4 ∨ iKind b = 5 then (apParts s b (iParts s d i)).1 else 0
        if base ≤ sub then [sub - base] else []
    let own := own.filter (fun k => (tget (instrRun s d i).rings k).isSome)
    let mask := (s.plan.masksOf d i).any (fun e => e.1 == sub) && (maskRun s d sub).ring.isSome
    let plate := (s.plan.platesOf d i).any (fun e => e.1 == sub) && (plateRun s d sub).ring.isSome
    if own.isEmpty && !mask && !plate then .error (rej .nosuch 1)
    else
      let s := onInstr s d i (fun r => { r with rings := r.rings.map (fun e => if own.contains e.1 then (e.1, e.2.ack seq) else e) })
      let s := if mask then onMask s d sub (fun r => { r with ring := r.ring.map (fun x => x.ack seq) }) else s
      .ok { s := if plate then onPlate s d sub (fun r => { r with ring := r.ring.map (fun x => x.ack seq) }) else s }

/-! ### Masks (R248 to R264) -/

/-- Position of DEST in a mask's block. -/
def maskDest (b : Block) : Nat := if b.is 0 1 then 13 else 10
/-- A new ring of a destination. -/
def newRingRun (slot : Nat) (dst : Dest) : Option RingRun := match dst with | .hbm n => some { slotBytes := slot, slots := n, written := 0, held := [] } | _ => none
/-- A VDIF stream takes no records (R315). -/
def vdifDest (p : Plan) (d : Nat) (b : Block) (i : Nat) : Bool := match destAt b i with | .stream k => (match p.stream d k with | some st => st.is 1 1 | none => false) | _ => false
/-- Readers of a mask: captures that a RETICLE or SWEEP entry binds to it, Sextants with a CAND input from it. -/
def Plan.maskReaders (p : Plan) (d k : Nat) : List Nat :=
  ((p.of .instrDefine d).filter (fun (e : Nat × Block) =>
    (iKind e.2 == 8 && (capEntries e.2 false ++ capEntries e.2 true).any (fun x => (x.headD 0 == 3 || x.headD 0 == 4) && x.getD 1 0 == (k : Int))) ||
    ((p.of .sextantAttach d).any (fun (a : Nat × Block) => a.2.nat 1 == e.1 && (List.range 4).any (fun j => a.2.is (2 + j) 3 && a.2.nat (6 + j) == k))))).map (fun e => e.1)

/-- Parameters of a mask whose change clears its run history or sweep history (R253, R264). -/
def maskRestarts (o n : Block) : Bool :=
  (if n.is 0 1 then [0, 2, 3, 4, 5, 6, 7, 8, 9, 10, 11] else [0, 2, 3, 4, 5, 6]).any (fun i => o.at i != n.at i)
/-- Parameters that give a mask's banks another meaning (R181). -/
def maskRebanks (o n : Block) : Bool := [0, 2, 3, 4].any (fun i => o.at i != n.at i)

/-- Is an instrument placed by the set that is decided, which defines it? -/
def Ctx.placesNow (c : Ctx) (d i : Nat) : Bool :=
  !c.s.plan.has .instrDefine d i && !c.s.psets.any (fun x => x.cmds.any (fun y => y.op == .instrDefine && y.dome == d && y.block.nat 1 == i))
/-- An RTSA that the running set defines is placed again with the masks and Plates that the set gives it (R245). -/
def Plan.replaceNow (p : Plan) (c : Ctx) (d i : Nat) : Plan :=
  match p.instr d i, p.place? .instrDefine d i with
  | some b, some x =>
    if c.placesNow d i && iKind b == 2 then p.setPlace ((p.noPlace .instrDefine d i).placeInstr c.s.hbm.failed c.s.dev.goneTiles d i x.order b c.e) else p
  | _, _ => p
/-- Tile and stack of a mask: a sweep mask takes the first tile of its instrument's sector, from the one that holds its lowest channel on, on which it fits. Where
channels then come to it by Transit, the latency of its instrument has that tick from there on (R245, R246, R258). -/ -- DESIGN CHOICE, notes/assumptions/169.md
def Plan.placeMask (p : Plan) (failed gone : List Nat) (d k : Nat) (b : Block) (e : Nat) : Plan :=
  let ib := (p.instr d (b.nat 2)).getD []
  let parts := p.partsOf d (b.nat 2) ib
  let first := (iRange ib).1
  let low := (parts.find? (fun q => decide (first + q.off ≤ b.nat 3) && decide (b.nat 3 < first + q.off + q.n))).orElse (fun _ => parts.head?)
  let home := (low.map (fun q => q.tile)).getD 0
  let l := p.books failed
  let h := p.stackAny failed d (sectorOf home)
  let tile := if b.is 0 1 then ((tilesFrom gone home).find? (fun t => p.tileFits l (p.maskBooks d b parts t h))).getD home else home
  let p := match p.place? .instrDefine d (b.nat 2) with
    | some x => if b.is 0 1 && !(sweepAway b first parts tile).isEmpty then p.setPlace { x with chosen := x.chosen.set 0 (Nat.max 1 (x.chosen.getD 0 0).toNat : Nat) } else p
    | none => p
  p.setPlace { op := .maskDefine, dome := d, index := k, placed := true, order := 0, tiles := if b.is 0 1 then [tile] else [], hstacks := [h], latency := 0, chosen := [], since := e }

/-- First breach of a mask's consistency (R248, R258, R260). -/
def Plan.maskBad (p : Plan) (d : Nat) (b : Block) : Option Nat :=
  match p.instr d (b.nat 2) with
  | none => some 2
  | some ib =>
    let rg := iRange ib
    let sl := slotOf b
    let ws := b.nats 8
    if iKind ib ≠ (if b.is 0 1 then 9 else 2) then some 2
    else if b.nat 3 < rg.1 ∨ rg.1 + rg.2 ≤ b.nat 3 then some 3
    else if rg.1 + rg.2 < b.nat 3 + b.nat 4 then some 4
    else if !b.is 0 1 then (if vdifDest p d b 10 then some (sl 11) else none)
    else if 2 ^ 32 ≤ trialDm b (b.nat 7 - 1) then some 7
    else if (b.rows 9).length ≠ ws.length then some (sl 9)
    else if (List.range (b.nat 4)).any (fun c => decide ((p.sky (p.maskSrc d b) (b.nat 3 + c)).1 ≤ 0)) then some 3
    else if 16383 < p.dmMax d b then some 5
    else if vdifDest p d b 13 then some (sl 14) else none

/-- A new mask's run-time state (R250, R253, R259, R264). -/
def maskFresh (s : State) (d : Nat) (b : Block) : MaskRun :=
  let q := (s.plan.firstFrame (s.plan.maskSrc d b) ((s.time.tick64 : Int) - s.plan.lam d (b.nat 2))).toNat
  let bank := List.replicate (b.nat 4) (if b.is 0 1 then 0 else maskOpen)
  { MaskRun.reset with bankA := bank, bankB := bank, window := q / Nat.max 1 (b.nat 11), ring := newRingRun 64 (destAt b (maskDest b)) }

/-- MASK_DEFINE (R248, R253, R258, R260, R264, R632). -/
def maskDefineC : CSpec :=
  { names := fun c m =>
      let b := m.block
      let dst := maskDest b
      firstRej [rejIf (c.plan.instr m.dome (b.nat 2)).isNone (rej .nosuch 2), chanDenied c.plan m.dome (b.at (dst - 1)) (slotOf b (dst - 1)), streamMissing c.plan m.dome b dst],
    busy := fun c m =>
      match c.plan.mask m.dome (m.block.nat 1) with
      | some o => rejIf (maskRebanks o m.block && (maskRun c.s m.dome (m.block.nat 1)).swap.isSome) (rej .busy 1)
      | none => none,
    edit := fun c m p =>
      let k := m.block.nat 1
      let same := match p.mask m.dome k, p.place? .maskDefine m.dome k with | some o, some _ => !maskRestarts o m.block | _, _ => false
      let p := p.put .maskDefine m.dome k m.block
      if same then p else ((p.noPlace .maskDefine m.dome k).replaceNow c m.dome (m.block.nat 2)).placeMask c.s.hbm.failed c.s.dev.goneTiles m.dome k m.block c.e,
    verify := fun c _ m => ((c.plan.mask m.dome (m.block.nat 1)).bind (fun b => c.plan.maskBad m.dome b)).bind (fun k => inconsistent k),
    apply := fun old m s =>
      let k := m.block.nat 1
      let b := m.block
      let fresh := maskFresh s m.dome b
      -- a mask whose channels come by Transit makes its instrument's latency longer (R246)
      let far := fun (p : Plan) => (p.place? .instrDefine m.dome (b.nat 2)).map (fun x => x.chosen.headD 0)
      let s := match s.plan.instr m.dome (b.nat 2) with
        | some ib => if old.placed m.dome (b.nat 2) && far old != far s.plan then refill s m.dome (b.nat 2) ib else s
        | none => s
      match old.mask m.dome k with
      | none => { s with masks := tset s.masks (m.dome, k) fresh }
      | some o =>
        if o.at 0 != b.at 0 then { s with masks := tset s.masks (m.dome, k) fresh }
        else
          let restart := maskRestarts o b
          let at' := fun (p : Plan) (x : Block) => (p.firstFrame (p.maskSrc m.dome x) ((s.time.tick64 : Int) - p.lam m.dome (x.nat 2))).toNat
          let q := at' s.plan b
          let qo := at' old o
          let oc := Nat.max 1 (o.nat 11)
          let lost := fun (r : MaskRun) => if b.is 0 1 && restart && decide (r.window * oc < qo) then ceilDiv qo oc - r.window else 0
          let keep := destAt o (maskDest o) == destAt b (maskDest b)
          let (s, ring) := match (maskRun s m.dome k).ring, fresh.ring with
            | some g, some n => if keep then (s, some g) else let (s, r) := carryRing s ⟨.maskDefine, m.dome, k, 0⟩ g n; (s, some r)
            | _, _ => (s, fresh.ring)
          onMask s m.dome k (fun r => { r with
            bankA := if maskRebanks o b then fresh.bankA else r.bankA, bankB := if maskRebanks o b then fresh.bankB else r.bankB,
            armed := r.armed || o.at 7 != b.at 7, state := if restart then 0 else r.state, runFirst := if restart then 0 else r.runFirst,
            runLen := if restart then 0 else r.runLen, runFlags := if restart then 0 else r.runFlags, prevState := if restart then 0 else r.prevState,
            prevLen := if restart then 0 else r.prevLen, hist := if restart then [] else r.hist, winLost := r.winLost + lost r,
            window := if b.is 0 1 && restart then ceilDiv q (Nat.max 1 (b.nat 11)) else r.window,
            ring := ring }) }

/-- Block of the commands that name one mask, one Plate. -/
def maskOnlyBlock : List Param := [pN "MASK" 0 7]
def plateOnlyBlock : List Param := [pN "PLATE" 0 15]

/-- MASK_ARM (R253). -/
def maskArmC : CSpec :=
  { names := fun c m => rejIf (c.plan.mask m.dome (m.block.nat 0)).isNone (rej .nosuch 0),
    apply := fun _ m s => onMask s m.dome (m.block.nat 0) (fun r => { r with armed := true }) }
/-- MASK_DELETE; a mask that a capture or a Sextant reads stays (log entry 28). -/
def maskDeleteC : CSpec :=
  { names := fun c m => rejIf (c.plan.mask m.dome (m.block.nat 0)).isNone (rej .nosuch 0),
    edit := fun _ m p => p.del .maskDefine m.dome (m.block.nat 0),
    verify := fun c _ m =>
      let l := c.plan.maskReaders m.dome (m.block.nat 0)
      if l.isEmpty then none else some { status := .inconsistent, detail := 0, resp := affectedList (l.map (fun i => (m.dome, i))) },
    apply := fun _ m s => { s with masks := tdel s.masks (m.dome, m.block.nat 0) } }

/-! ### Plates (R265 to R271) -/

/-- Parameters whose change makes a new Plate (R271). -/
def plateRestarts (o n : Block) : Bool := [1, 2, 3, 4, 5, 6, 7, 8, 13].any (fun i => o.at i != n.at i)
/-- Smallest u in `lo` to `hi` for which a test that stays true once true holds, by halving. -/
def leastU (f : Nat → Bool) : Nat → Nat → Nat → Nat
  | 0, _, hi => hi
  | k + 1, lo, hi => if hi ≤ lo then hi else let mid := (lo + hi) / 2; if f mid then leastU f k lo mid else leastU f k (mid + 1) hi
/-- Placement of a Plate: u, and the stack of its ring (R269). -/
def Plan.placePlate (p : Plan) (failed : List Nat) (d k : Nat) (b : Block) (e : Nat) : Plan :=
  let l := p.books failed
  let home := ((p.plateParts d b).head?.map (fun q => q.1)).getD 0
  let h := p.stackAny failed d (sectorOf home)
  let u := match b.nat? 13 with | some u => u | none => leastU (fun u => p.tileFits l (p.plateBooks d b u h)) 17 1 65536
  p.setPlace { op := .plateDefine, dome := d, index := k, placed := true, order := 0, tiles := [], hstacks := [h], latency := 0, chosen := [(u : Int)], since := e }
/-- u of a Plate in a plan. -/
def Plan.plateU (p : Plan) (d k : Nat) : Nat := match p.place? .plateDefine d k with | some x => (x.chosen.headD 1).toNat | none => 1
/-- A new Plate. -/
def plateFresh (s : State) (d k : Nat) (b : Block) : PlateRun :=
  { PlateRun.reset with u := s.plan.plateU d k, ring := newRingRun (ceilDiv (96 + 4 * plateCells b) 64 * 64) (destAt b 16) }

/-- PLATE_DEFINE (R265, R269, R271). -/
def plateDefineC : CSpec :=
  { names := fun c m => firstRej [rejIf (c.plan.instr m.dome (m.block.nat 1)).isNone (rej .nosuch 1), streamMissing c.plan m.dome m.block 16],
    edit := fun c m p =>
      let k := m.block.nat 0
      let same := match p.plate m.dome k, p.place? .plateDefine m.dome k with | some o, some _ => !plateRestarts o m.block | _, _ => false
      let p := p.put .plateDefine m.dome k m.block
      if same then p else ((p.noPlace .plateDefine m.dome k).replaceNow c m.dome (m.block.nat 1)).placePlate c.s.hbm.failed m.dome k m.block c.e,
    verify := fun c _ m =>
      let b := (c.plan.plate m.dome (m.block.nat 0)).getD m.block
      match c.plan.instr m.dome (b.nat 1) with
      | none => inconsistent 1
      | some ib =>
        let rg := iRange ib
        firstRej [rejIf (iKind ib != 2) (rej .inconsistent 1), rejIf (decide (b.nat 2 < rg.1) || decide (rg.1 + rg.2 ≤ b.nat 2)) (rej .inconsistent 2),
                  rejIf (decide (rg.1 + rg.2 < b.nat 2 + b.nat 3)) (rej .inconsistent 3), rejIf (decide (4096 < plateCols b)) (rej .inconsistent 4),
                  rejIf (decide (b.nat 14 ≤ b.nat 15)) (rej .inconsistent 15), rejIf (vdifDest c.plan m.dome b 16) (rej .inconsistent 17)],
    result := fun c m => c.plan.plateU m.dome (m.block.nat 0),
    -- what is due from the frames before is applied first, under the parameters of those frames (R271)
    apply := fun old m s =>
      let k := m.block.nat 0
      let b := m.block
      match old.plate m.dome k with
      | none => { s with plates := tset s.plates (m.dome, k) (plateFresh s m.dome k b) }
      | some o =>
        let s := plateSnap s m.dome k o
        if plateRestarts o b then { s with plates := tset s.plates (m.dome, k) (plateFresh s m.dome k b) }
        else
          let (s, ring) := match (plateRun s m.dome k).ring, (plateFresh s m.dome k b).ring with
            | some g, some n => if destAt o 16 == destAt b 16 then (s, some g) else let (s, r) := carryRing s ⟨.plateDefine, m.dome, k, 0⟩ g n; (s, some r)
            | _, n => (s, n)
          onPlate s m.dome k (fun r => { r with ring := ring }) }
/-- PLATE_CLEAR (R271): at sample tick e - lambda_r. -/
def plateClearC : CSpec :=
  { names := fun c m => rejIf (c.plan.plate m.dome (m.block.nat 0)).isNone (rej .nosuch 0),
    apply := fun _ m s =>
      let i := match s.plan.plate m.dome (m.block.nat 0) with | some b => b.nat 1 | none => 64
      onPlate s m.dome (m.block.nat 0) (fun r => { r with clear := some (s.time.tick64 - s.plan.lam m.dome i) }) }
/-- PLATE_DELETE. A Plate of D0 that an Eyepiece window shows stays (log entry 28). -/
def plateDeleteC : CSpec :=
  { names := fun c m => rejIf (c.plan.plate m.dome (m.block.nat 0)).isNone (rej .nosuch 0),
    edit := fun _ m p => p.del .plateDefine m.dome (m.block.nat 0),
    verify := fun c _ m => rejIf (m.dome == 0 && (c.plan.objs .eyepieceConfig).any (fun e => (List.range 4).any (fun k => e.2.2.at (17 + 10 * k) == .num (m.block.nat 0)))) (rej .inconsistent 0),
    apply := fun old m s =>
      let k := m.block.nat 0
      let s := match old.plate m.dome k with | some o => plateSnap s m.dome k o | none => s
      { s with plates := tdel s.plates (m.dome, k) } }

/-! ### Captures (R286, R292, R299, R300, R404) -/

/-- NOSUCH and INCONSISTENT of a command to a TRIGGERED RECORDER. -/
def recorderNames (c : Ctx) (m : Cmd) : Option Reject := rejIf (c.plan.instr m.dome (m.block.nat 0)).isNone (rej .nosuch 0)
def recorderKind (c : Ctx) (m : Cmd) : Option Reject :=
  match c.plan.instr m.dome (m.block.nat 0) with | some b => rejIf (iKind b != 8 || !b.is 2 0) (rej .inconsistent 0) | none => none
/-- CAPTURE_FORCE (R286): a trigger for each MANUAL entry at the first unit of sample tick e - lambda_c. -/
def captureForceC : CSpec :=
  { names := recorderNames, verify := fun c _ m => recorderKind c m,
    apply := fun _ m s =>
      let d := m.dome
      let i := m.block.nat 0
      match s.plan.instr d i with
      | none => s
      | some b =>
        if !s.plan.placed d i then s
        else
          let pos := s.plan.firstUnit d b ((s.time.tick64 : Int) - s.plan.lamC d i b)
          [false, true].foldl (fun (s : State) (st : Bool) =>
            ((capEntries b st).zipIdx.filter (fun e => e.1.headD 0 == 0)).foldl (fun (s : State) e => unitTrig s d i b 0 st e.2 pos s.time.tick64) s) s }
/-- CAPTURE_ARM (R292): the writer that waits takes the next segment from sample tick e - lambda_c on. -/
def captureArmC : CSpec :=
  { names := recorderNames, verify := fun c _ m => recorderKind c m,
    apply := fun _ m s =>
      let d := m.dome
      let i := m.block.nat 0
      match s.plan.instr d i with
      | none => s
      | some b =>
        let s := capAdvance s d i b
        if (capRun s d i).phase = .manual then takeSegment s d i b else s }

/-- Block of CAPTURE_READ. -/
def captureReadBlock : List Param :=
  [pN "INSTRUMENT" 0 63, pN "RECORD_SEQ" 0 (2 ^ 32 - 1), pN "REGION" 0 5, pN "OFFSET" 0 (2 ^ 62), pN "LENGTH" 0 (2 ^ 62), ⟨"TARGET", .nat 0 63 ["HOST"], .req, []⟩]
/-- A region of a segment: offset and size (Table 10-3). -/
def capRegion (p : Plan) (d i : Nat) (b : Block) (k : Nat) : Nat × Nat :=
  let g := capGeom p d i b
  let n := capNch b
  match k with
  | 0 => (0, 4096)
  | 1 => (g.tickOff, 16 * g.ticks)
  | 2 => (g.rawOff, ceilDiv (g.units * capBits p d b) 8)
  | 3 => (g.validOff, if g.validOff = 0 then 0 else match b.word? 3 with | some 0 => ceilDiv (g.units * capBits p d b) 2048 | some 1 => ceilDiv g.units 8 | _ => ceilDiv (g.units * n) 8)
  | 4 => (g.envOff, if g.envOff = 0 then 0 else g.envs * n * envBytes p d b)
  | _ => (g.pwrOff, if g.pwrOff = 0 then 0 else g.pwrs * n * 8)
/-- Field widths of a region, repeated over it: a stream carries each field big-endian. -/
def capFields (p : Plan) (d : Nat) (b : Block) (k : Nat) : List Nat :=
  match k with
  | 0 => [1, 1, 2, 1, 1, 2, 8, 4, 12, 8, 8, 4, 2, 2, 8, 8, 4, 4, 8, 4, 1, 1, 2, 8, 8, 8, 8, 8, 8, 4, 12] ++ List.replicate (4096 - 160) 1
  | 1 => [4, 2, 2, 8]
  | 4 => [(envElem p d b).2]
  | 5 => [4]
  | _ => [1]
/-- Where byte `x` of a region stands when each field of the given widths is reversed. -/
def mirrorByte (ws : List Nat) (x : Nat) : Nat :=
  let per := Nat.max 1 (ws.foldl (· + ·) 0)
  let rec go : List Nat → Nat → Nat → Nat
    | [], _, y => y
    | w :: r, base, y => if y < base + w then base + (w - 1 - (y - base)) else go r (base + w) y
  x / per * per + go ws 0 (x % per)

/-- Stack of a byte of a segment. -/
def capStack (s : State) (d i a : Nat) : Nat := match objAddr s (capKey d i) a with | some x => stackOf x | none => 0

/-- A CAPTURE_READ on this device (R299): checks, then the bytes of the range with their stacks and what failed. -/
structure ReadOut where
  /-- Source byte, stack, status code of a failure or 0. -/
  bytes : List (Byte × Nat × Nat)
  hstacks : List Nat
  failed : List (Nat × Nat)
def capReadOut (s : State) (d i : Nat) (b : Block) (seg region off len : Nat) (stream : Bool) : ReadOut :=
  let p := s.plan
  let g := capGeom p d i b
  let rg := capRegion p d i b region
  let ws := capFields p d b region
  let addr := fun (x : Nat) => seg * g.bytes + rg.1 + (if stream then mirrorByte ws (off + x) else off + x)
  let l := (List.range len).map (fun x =>
    let a := addr x
    let h := capStack s d i a
    match (objGet s (capKey d i) a 1).head? with
    | some (v, bad) => (v, h, if s.hbm.failed.contains h then 10 else if bad then 9 else 0)
    | none => (0, h, 0))
  let hs := ((l.map (fun e => e.2.1)).eraseDups).mergeSort (fun a b => decide (a ≤ b))
  { bytes := l, hstacks := hs, failed := hs.filterMap (fun h => ((l.find? (fun e => e.2.1 == h && e.2.2 != 0)).map (fun e => (h, e.2.2)))) }

/-- Queue the bytes of a read as CAPTURE packets (R299, R404): the read completes with its last packet. `fn` and `tag` name the read. -/
def capReadStream (s : State) (d i k : Nat) (b : Block) (rc : CapRec) (region off : Nat) (o : ReadOut) (req : Request) (ap : Option (Nat × Nat)) : State :=
  match s.plan.stream d k with
  | none => s
  | some st =>
    let chunk := Nat.max 1 (st.nat 10 - 32)
    let len := o.bytes.length
    let n := ceilDiv len chunk
    let ok := fun (h : Nat) => !(o.failed.any (fun f => f.1 == h))
    let moved := (o.bytes.filter (fun e => ok e.2.1)).length
    let c : CapRead := { req := req, dome := d, stream := k, left := n, hstacks := o.hstacks, moved := [], bytes := moved, failed := o.failed, ap := ap }
    let s := { s with capReads := s.capReads ++ [c] }
    if n = 0 then readDone s c
    else
      (List.range n).foldl (fun (s : State) (j : Nat) =>
        let part := sliceL o.bytes (j * chunk) chunk
        let hs := ((part.map (fun e => e.2.1)).eraseDups)
        sendCapture s d k rc.seq i rc.seq region 0 s.time.tick64 (fun x => capUnitAt s.plan d i b region rc.first (off + j * chunk + x)) (off + j * chunk) (part.map (fun e => if ok e.2.1 then e.1 else 0))
          (some (.read req.fn req.tag hs ((part.filter (fun e => ok e.2.1)).length)))) s

/-- The aperture and command of which a read is a part: at the lead the newest command, at a member the one that its DATA names, which the model keeps as the
function ⟨256 + aperture, CMD_ID⟩ (R396). -/
def readPartOf (s : State) (m : Cmd) : Option (Nat × Nat) :=
  if 256 ≤ m.fn.port then some (m.fn.port - 256, m.fn.vf) else if m.aperture then some (m.flags / 256, (apOf s (m.flags / 256)).cmdId) else none

/-- CAPTURE_READ (R299, R396, R404). -/
def captureReadAct : Act := fun c m =>
  let s := c.s
  let d := m.dome
  let i := m.block.nat 0
  let seq := m.block.nat 1
  let region := m.block.nat 2
  let off := m.block.nat 3
  let len := m.block.nat 4
  match s.plan.instr d i with
  | none => .error (rej .nosuch 0)
  | some b =>
    match (capRun s d i).recs.find? (fun x => x.seq == seq) with
    | none => .error (rej .nosuch 1)
    | some rc =>
      let target := m.block.nat? 5
      if (match target with | some k => (s.plan.stream d k).isNone | none => false) then .error (rej .nosuch 5)
      else if iKind b ≠ 8 ∨ !b.is 2 0 then .error (rej .inconsistent 0)
      else if (capRegion s.plan d i b region).2 < off + len then .error (rej .inconsistent 4)
      else if m.aperture && target.isNone then .error (rej .inconsistent 5)
      else
        match target with
        | some k =>
          (match c.q with
          | none => .ok { s := s, later := true }
          | some q =>
            let o := capReadOut s d i b rc.seg region off len true
            .ok { s := capReadStream s d i k b rc region off o q (readPartOf s m), later := true })
        | none =>
          let o := capReadOut s d i b rc.seg region off len false
          let codes := (o.failed.map (fun e => e.2)).eraseDups
          if o.failed.isEmpty then .ok { s := s, result := len, body := some (o.bytes.map (fun e => e.1)) }
          else if o.failed.length = o.hstacks.length ∧ codes.length = 1 then .error (rej (if codes.headD 9 = 9 then .poison else .capacity) 0)
          else
            let ok := o.hstacks.filter (fun h => !(o.failed.any (fun f => f.1 == h)))
            -- the bytes of a part that failed hold nothing the spec states
            let (x, s) := drawNat s
            let fill := leBytes len x
            .ok { s := s, status := .partialDone, detail := o.hstacks.length, result := (ok.map (fun h => 2 ^ h)).foldl (· + ·) 0,
                  body := some (o.failed.flatMap (fun e => leBytes 2 e.1 ++ leBytes 1 e.2 ++ leBytes 5 0) ++
                    (o.bytes.zip fill).map (fun e => if ok.contains e.1.2.1 then e.1.1 else e.2)) }

/-- Block of CAPTURE_RELEASE. -/
def captureReleaseBlock : List Param := [pN "INSTRUMENT" 0 63, pN "RECORD_SEQ" 0 (2 ^ 32 - 1)]
/-- CAPTURE_RELEASE (R300): the named record and every earlier one. -/
def captureReleaseAct : Act := fun c m =>
  let d := m.dome
  let i := m.block.nat 0
  let seq := m.block.nat 1
  match c.s.plan.instr d i with
  | none => .error (rej .nosuch 0)
  | some b =>
    if iKind b ≠ 8 ∨ !b.is 2 0 then .error (rej .inconsistent 0)
    else
      let go := fun (x : CapRec) => x.seq == seq || tsnEarlier x.seq seq
      let n := ((capRun c.s d i).recs.filter go).length
      .ok { s := segFreed (onCap c.s d i (fun r => { r with recs := r.recs.filter (fun x => !go x) })) d i b, result := n }

end Sys2Proof.Machine
end

