-- ==== Sys2Proof/Machine/StreamPlan.lean ====
section
/-! DEFINITION. StreamPlan.lean: egress streams by command (R305 to R308, R318, R324, R325, R343). -/
namespace Sys2Proof.Machine

/-- Producers of a stream as instruments of its dome, the unplaced ones among them (R307, R633): DEST of an instrument or of its masks and Plates. -/
def Plan.streamUsers (p : Plan) (d k : Nat) : List Nat :=
  ((p.of .instrDefine d).filter (fun (e : Nat × Block) =>
    (iStreams e.2).contains k || (p.masksOf d e.1).any (fun x => destAt x.2 (maskDest x.2) == .stream k) || (p.platesOf d e.1).any (fun x => destAt x.2 16 == .stream k))).map (fun e => e.1)
/-- INCONSISTENT with the producers listed (R307, R394). -/
def producersBad (p : Plan) (d k slot : Nat) : Option Reject :=
  let l := p.streamUsers d k
  if l.isEmpty then none else some { status := .inconsistent, detail := slot, resp := affectedList (l.map (fun i => (d, i))) }

/-- DENIED and NOSUCH of PORT; a port that carries Transit is INCONSISTENT instead (R305). -/
def streamNames (c : Ctx) (m : Cmd) : Option Reject :=
  let q := m.block.nat 2
  firstRej [rejIf (m.dome != 0 && (c.plan.egressGrant m.dome q).isNone) (rej .denied 2), rejIf (c.plan.port q).isNone (rej .nosuch 2),
            rejIf ((c.plan.port q).any (fun pb => !portEth pb) && (c.plan.portLinks q).isEmpty) (rej .denied 2)]

/-- First breach of a stream's consistency: port, address family, UDP port, MTU, VDIF (R305, R308, R315, R323). -/
def Plan.streamBad (p : Plan) (gone : List Nat) (d k : Nat) (b : Block) : Option Nat :=
  match p.port (b.nat 2) with
  | none => some 2
  | some pb =>
    let v6 := stV6 b
    let need := match b.word? 1 with
      | some 0 => b.nat 10 + (if v6 then 80 else 60)
      | some 2 => b.nat 24 + (if v6 then 84 else 64)
      | _ => b.nat 16 + (if v6 then 80 else 60)
    if !portEth pb || !(p.portLinks (b.nat 2)).isEmpty then some 2
    else if !portHas pb (!v6) then some 4
    else if b.is 1 2 ∧ b.nat 7 ≠ 4791 then some 7
    else if pb.nat 11 < need then some (if b.is 1 2 then 24 else if b.is 1 1 then 16 else 10)
    else if (p.streamUsers d k).any (fun i => match p.instr d i with | some ib => (iStreams ib).contains k && (p.instrBad gone d i ib).isSome | none => false) then some 0
    else none

/-- Stack of a stream's spill: one of the sector of its port (R318). -/
def Plan.placeStream (p : Plan) (failed : List Nat) (d k : Nat) (b : Block) (e : Nat) : Plan :=
  p.setPlace { op := .streamDefine, dome := d, index := k, placed := true, order := 0, tiles := [], hstacks := [p.stackFor failed d (b.nat 2 / 32)], latency := 0, chosen := [], since := e }
/-- The block kept of a STREAM_DEFINE or STREAM_MODIFY: RESET is no parameter of the stream. -/
def streamKept (b : Block) : Block := b.take 31
/-- Put a stream into the plan. -/
def streamEdit (c : Ctx) (m : Cmd) (p : Plan) : Plan :=
  let k := m.block.nat 0
  (p.put .streamDefine m.dome k (streamKept m.block)).placeStream c.s.hbm.failed m.dome k m.block c.e
/-- B_max of a stream of the plan. -/
def streamResult (c : Ctx) (m : Cmd) : Nat := c.plan.bMax m.dome (m.block.nat 0) (streamKept m.block)

/-- STREAM_DEFINE (R305, R308, R318, R632). A new stream's bucket is full (log entry 29). -/
def streamDefineC : CSpec :=
  { names := streamNames, edit := streamEdit, result := streamResult,
    verify := fun c o m =>
      firstRej [rejIf (o.has .streamDefine m.dome (m.block.nat 0)) (rej .inconsistent 0),
                (c.plan.streamBad c.s.dev.goneTiles m.dome (m.block.nat 0) m.block).bind (fun k => inconsistent k)],
    apply := fun _ m s =>
      let k := m.block.nat 0
      onStream s m.dome k (fun r => { StreamRun.reset with tokens := m.block.nat 12 * tokenByte, psn := m.block.nat 23, mac := r.mac, resolved := r.resolved }) }

/-- Is a CAPTURE_READ into a stream in progress? -/
def readsInto (s : State) (d k : Nat) : Bool := s.capReads.any (fun c => c.dome == d && c.stream == k)
/-- Parameters that a stream with producers keeps (R307): PORT, KIND, the family of DST_IP. -/
def streamMoves (o n : Block) : Bool := o.at 1 != n.at 1 || o.at 2 != n.at 2 || stV6 o != stV6 n

/-- STREAM_MODIFY (R305, R307, R324). RESET restarts a queue pair at PSN0 with an empty remote ring. -/
def streamModifyC : CSpec :=
  { names := fun c m => firstRej [rejIf (c.plan.stream m.dome (m.block.nat 0)).isNone (rej .nosuch 0), streamNames c m],
    busy := fun c m =>
      let k := m.block.nat 0
      match c.plan.stream m.dome k with | some o => rejIf (streamMoves o m.block && readsInto c.s m.dome k) (rej .busy 0) | none => none,
    edit := streamEdit, result := streamResult,
    verify := fun c o m =>
      let k := m.block.nat 0
      firstRej [match o.stream m.dome k with | some ob => if streamMoves ob m.block then producersBad c.plan m.dome k (if ob.at 1 != m.block.at 1 then 1 else if ob.at 2 != m.block.at 2 then 2 else 4) else none
                                             | none => none,
                (c.plan.streamBad c.s.dev.goneTiles m.dome k m.block).bind (fun k => inconsistent k)],
    apply := fun old m s =>
      let k := m.block.nat 0
      let b := m.block
      let s := onStream s m.dome k (fun r => { r with tokens := Nat.min r.tokens (b.nat 12 * tokenByte) })
      let s := if b.flag 31 ∧ b.is 1 2 then
          onStream s m.dome k (fun r => { r with psn := b.nat 23, wofs := 0, unacked := [], error := false, filled := 0, consumed := 0, immTicks := 0 })
        else s
      let s := match old.stream m.dome k with
        | some o => if o.at 1 != b.at 1 then onStream s m.dome k (fun r => { r with vdif := [] }) else s
        | none => s
      trimSpill s m.dome k (b.nat 13) }

/-- A stream leaves: its spill is discarded and counted; a packet that was to leave at once goes with it (R307, R320). -/
def dropStream (s : State) (d k : Nat) : State :=
  let r := streamRun s d k
  let s := onStream s d k (fun r => { r with inbox := [], go := [], spill := [], unacked := [] })
  let s := (r.inbox.map (fun x => x.ends) ++ r.go.map (fun p => p.ends)).foldl (fun (s : State) e => packetLost s d e false) s
  let s := r.spill.foldl (fun (s : State) (p : Pkt) => dropPkt s d k p) s
  { s with streams := tdel s.streams (d, k) }

/-- Block of STREAM_DELETE. -/
def streamOnlyBlock : List Param := [pN "STREAM" 0 63]
/-- STREAM_DELETE (R307). -/
def streamDeleteC : CSpec :=
  { names := fun c m => rejIf (c.plan.stream m.dome (m.block.nat 0)).isNone (rej .nosuch 0),
    busy := fun c m => rejIf (readsInto c.s m.dome (m.block.nat 0)) (rej .busy 0),
    edit := fun _ m p => p.del .streamDefine m.dome (m.block.nat 0),
    verify := fun c _ m => producersBad c.plan m.dome (m.block.nat 0) 0,
    apply := fun _ m s => dropStream s m.dome (m.block.nat 0) }

/-- Block of STREAM_STATS. -/
def streamStatsBlock : List Param := [(pI "DOME" 255).byRule, pN "STREAM" 0 63]
/-- STREAM_STATS (Table 11-6). -/
def streamStatsAct : Act := fun c m =>
  let d := domeSlot m 0
  let k := m.block.nat 1
  match domeSlotBad c.s.plan m 0, c.s.plan.stream d k with
  | some r, _ => .error r
  | none, none => .error (rej .nosuch 1)
  | none, some _ =>
    let r := streamRun c.s d k
    .ok { s := c.s, body := some (words8 [r.pkts, r.bytes, r.pktDrop, r.byteDrop, r.spillPoison, r.spillPeak, r.arpFail, r.retx, r.timeouts, r.cnpRx, r.roceUnsup]) }

/-- Block of STREAM_CREDIT. -/
def streamCreditBlock : List Param := [pN "STREAM" 0 63, pN "CONSUMED" 0 (2 ^ 32 - 1)]
/-- STREAM_CREDIT (R325): the storage server's read offset in the remote ring, in units of 64 bytes. -/ -- DEDUCED, notes/assumptions/167.md
def streamCreditAct : Act := fun c m =>
  let k := m.block.nat 0
  let x := m.block.nat 1
  match c.s.plan.stream m.dome k with
  | none => .error (rej .nosuch 0)
  | some st =>
    if !st.is 1 2 then .error (rej .inconsistent 0)
    else
      let ring := Nat.max 1 (st.nat 22 / 64)
      .ok { s := onStream c.s m.dome k (fun r => { r with filled := r.filled - (x % ring + ring - r.consumed) % ring, consumed := x % ring }) }

/-- Does a command of a set need a next-hop address that is not resolved (R308)? -/
def needsMac (s : State) (m : Cmd) : Bool :=
  (m.op == .streamDefine || m.op == .streamModify) && (m.block.nat? 3).isNone &&
  (match s.plan.stream m.dome (m.block.nat 0) with
   | some o => o.at 2 != m.block.at 2 || o.at 4 != m.block.at 4 || o.at 5 != m.block.at 5 || !(streamRun s m.dome (m.block.nat 0)).resolved
   | none => !(streamRun s m.dome (m.block.nat 0)).resolved)

end Sys2Proof.Machine
end

