-- ==== Sys2Proof/Machine/Domes.lean ====
section
/-! DEFINITION. Domes.lean: domes, grants, generations, function reset and dome reset (R409 to R427). -/
namespace Sys2Proof.Machine

/-! ### Generations (R392, R427) -/

/-- The generation after one: 65,535 is followed by 1 (R427). -/
def nextGen (g : Nat) : Nat := if 65535 ≤ g then 1 else g + 1

/-- Complete a dome's requests in flight with STALE_GEN, all but the one that bumps the generation (R392). -/
def staleOthers (s : State) (d : Nat) (keep : Option Request) : State :=
  let mine := s.inflight.filter (fun x => s.plan.domeOf x.req.fn == some d && some x.req != keep)
  let s := mine.foldl (fun (s : State) (x : InFlight) => finishRej s x.opcode x.req (rej .staleGen 0)) s
  let other := fun (e : Op × Request) => s.plan.domeOf e.2.fn != some d || some e.2 == keep
  let s := match s.plan.binding d with
    | some f => { s with regs := { s.regs with commits := s.regs.commits.map (fun (e : Fn × CommitWin) => if e.1 = f ∧ e.2.busy then (e.1, { e.2 with busy := false, status := 7, detail := genOf s d }) else e),
                                               taken := if d = 0 then [] else s.regs.taken } }
    | none => s
  { s with held := s.held.filter other, resolving := s.resolving.filter other, capReads := s.capReads.filter (fun c => c.dome != d) }

/-- Bump a dome's generation: its requests complete with STALE_GEN, its staged set and pending sets go (R392). -/
def bumpGen (s : State) (d : Nat) (keep : Option Request) : State :=
  let s := onDome s d (fun r => { r with gen := nextGen r.gen, staged := [] })
  staleOthers { s with psets := s.psets.filter (fun p => p.dome != d) } d keep

/-! ### Function reset (R411, R422, R439) -/

/-- The running DMA channels of a function are to halt at their next descriptor boundary (R422, R424). -/
def stopDma (s : State) (f : Fn) : State := { s with dma := s.dma.map (fun e => if e.1.1 == f ∧ e.2.busy then (e.1, { e.2 with stop := true }) else e) }

/-- The registers of a function return to their reset values, but for MBX_GEN and a DMA channel that still runs (R439). -/
def resetRegs (s : State) (f : Fn) : State :=
  { s with mbx := tset s.mbx f Mbx.reset, router := { s.router with regs := tset s.router.regs f EvtRegs.reset, msixMask := s.router.msixMask.filter (fun e => e.1 != f), msixPend := s.router.msixPend.filter (fun e => e.1 != f), msixTable := s.router.msixTable.filter (fun e => e.1.1 != f) },
           dma := s.dma.map (fun e => if e.1.1 == f ∧ !e.2.busy then (e.1, DmaCh.reset) else e),
           regs := { s.regs with commits := tdel s.regs.commits f, latches := tdel s.regs.latches f } }

/-- A function reset: the generation of its dome, its mailbox, DMA channels and event registers (R422). -/
def functionReset (s : State) (f : Fn) : State :=
  let s := match s.plan.domeOf f with
    | some d =>
      let s := bumpGen s d none
      logAdd s { cls := 3, typ := Config.logType 1, fn := some f, dome := d, gen := genOf s d }
    | none => { s with inflight := s.inflight.filter (fun x => x.req.fn != f), held := s.held.filter (fun e => e.2.fn != f) }
  resetRegs (stopDma s f) f

/-- Functions of a host port that have something to reset: PF0 and the bound ones. -/
def portFns (s : State) (h : Nat) : List Fn := ⟨h, 0⟩ :: ((s.plan.objs .domeCreate).filter (fun e => e.2.2.nat 1 == h)).map (fun e => ⟨h, e.2.2.nat 2 + 1⟩)

/-- Raise event `k` of a host port (Table 16-9). -/
def hostEvent (s : State) (h k : Nat) : State := raiseEv s (1136 + 8 * h + k) 1136
/-- Change a host port. -/
def onHost (s : State) (h : Nat) (f : HostPort → HostPort) : State := { s with hostPorts := s.hostPorts.modify h f }
/-- A host port's state. -/
def hostOf (s : State) (h : Nat) : HostPort := s.hostPorts.getD h { linkUp := false, perst := true, vfEnable := false }

/-- VF_ENABLE_WRITE (R411): clearing VF Enable resets every bound VF of the port; a change is a security entry. -/
def execVfEnableWrite (port : Nat) (enable : Bool) (s : State) : Host.Outcome State Fault Refusal :=
  if 4 ≤ port then .fault .noSuchUnit
  else if (hostOf s port).vfEnable == enable then .next s
  else
    let s := onHost s port (fun h => { h with vfEnable := enable })
    let s := logAdd s { cls := 0, typ := Config.logType 2, fn := some ⟨port, 0⟩, security := true, detail := b2n (!enable) }
    let s := hostEvent s port 5
    .next (if enable then s else ((portFns s port).drop 1).foldl functionReset s)

/-- FUNCTION_LEVEL_RESET (R422). -/
def execFunctionLevelReset (fn : Fn) (s : State) : Host.Outcome State Fault Refusal :=
  if 4 ≤ fn.port ∨ 65 ≤ fn.vf then .fault .noSuchUnit else .next (hostEvent (functionReset s fn) fn.port 4)

/-- HOST_LINK_DOWN (R422): a function reset of every function of the port. -/
def execHostLinkDown (port : Nat) (s : State) : Host.Outcome State Fault Refusal :=
  if 4 ≤ port then .fault .noSuchUnit
  else
    let s := onHost s port (fun h => { h with linkUp := false })
    .next (hostEvent ((portFns s port).foldl functionReset s) port 0)

/-- PERST_ASSERT (R609): a hot reset of the host port. -/
def execPerstAssert (port : Nat) (s : State) : Host.Outcome State Fault Refusal :=
  if 4 ≤ port then .fault .noSuchUnit
  else
    let s := onHost s port (fun _ => { linkUp := false, perst := true, vfEnable := false })
    .next (hostEvent ((portFns s port).foldl functionReset s) port 6)

/-- PERST_RELEASE (R609): the port may train its link. -/
def execPerstRelease (port : Nat) (s : State) : Host.Outcome State Fault Refusal :=
  if 4 ≤ port then .fault .noSuchUnit else .next (onHost s port (fun h => { h with perst := false }))

/-- HOST_LINK_UP (R609): training needs a released PEn_PERST_N and a device past COLD. -/
def execHostLinkUp (port : Nat) (s : State) : Host.Outcome State Fault Refusal :=
  if 4 ≤ port then .fault .noSuchUnit
  else if (hostOf s port).perst || s.dev.st == .cold then .next s
  else .next (hostEvent (onHost s port (fun h => { h with linkUp := true })) port 1)

/-! ### Creating and changing domes (R412 to R417) -/

/-- Block of DOME_CREATE. -/
def domeCreateBlock : List Param := [⟨"DOME", .ident 1 255 ["AUTO"], .req, []⟩, pI "HOST_PORT" 3, pN "VF" 0 63, pD "PRIORITY" 0 255 0, pD "RATE_CLASS" 0 15 0]
/-- Block of the commands that name one dome but D0. -/
def domeOnlyBlock : List Param := [⟨"DOME", .ident 1 255 [], .req, []⟩]
/-- Block of DOME_PRIORITY. -/
def domePriorityBlock : List Param := domeOnlyBlock ++ [pN "PRIORITY" 0 255]
/-- Block of DOME_GRANT by its GRANT slot (Table 14-3). -/
def domeGrantTable (sl : List Slot) : List Param :=
  let head := domeOnlyBlock ++ [pN "GRANT" 0 10]
  head ++ (match (sl.getD 1 0).toNat with
    | 0 => List.replicate 16 ⟨"FEEDS", .any, .req, []⟩
    | 1 => [pN "COUNT" 0 64] | 2 => [pN "UNITS" 0 65536]
    | 3 => [pN "PAGES" 0 32768, pN "STACK_MASK" 0 255]
    | 4 => [pIL "PORTS" 16 127 127 [(1, 1600000)]]
    | 5 => [pN "BYTES" 0 268435456]
    | 6 => List.replicate 4 ⟨"EVENTS", .any, .req, []⟩
    | 7 => [pN "COUNT" 0 64] | 8 => [pN "COUNT" 0 8] | 9 => [pN "COUNT" 0 1024] | 10 => [pN "MASK" 0 255]
    | _ => [])

/-- Is a dome number draining a reset or a deletion? -/
def draining (s : State) (d : Nat) : Bool := (domeRun s d).drain.isSome

/-- Lowest free dome number. -/
def freeDome (c : Ctx) : Option Nat := (List.range 256).find? (fun d => d != 0 && !c.plan.domeExists d && !draining c.s d)

/-- DOME_CREATE (R412, R413, R632). -/
def domeCreateC : CSpec :=
  { names := fun c m => if m.block.is 0 0 && (freeDome c).isNone then some (noBudget c.e 0x15 1 1 0) else none,
    busy := fun c m => rejIf (draining c.s (m.block.nat 0)) (rej .busy 0),
    resolve := fun c m => if m.block.is 0 0 then { m with block := m.block.put 0 (.num ((freeDome c).getD 0)) } else m,
    edit := fun _ m p => p.put .domeCreate devDome (m.block.nat 0) m.block,
    verify := fun c o m => firstRej
      [rejIf (o.domeExists (m.block.nat 0)) (rej .inconsistent 0),
       rejIf (((c.plan.objs .domeCreate).takeWhile (fun e => e.2.1 != m.block.nat 0)).any (fun e => e.2.2.at 1 == m.block.at 1 && e.2.2.at 2 == m.block.at 2)) (rej .inconsistent 2)],
    result := fun _ m => m.block.nat 0,
    apply := fun _ m s => if s.meter.running then openInterval s (m.block.nat 0) else s }

/-- Checks that a command of the owner names an existing dome that does not drain. -/
def ownDomeNames (c : Ctx) (m : Cmd) : Option Reject := rejIf (!c.plan.domeExists (m.block.nat 0)) (rej .nosuch 0)
def ownDomeBusy (c : Ctx) (m : Cmd) : Option Reject := rejIf (draining c.s (m.block.nat 0)) (rej .busy 0)

/-- Feeds and channels that a dome's instrument names, and the ports of its streams: does it name something that its grants do not hold? -/
def Plan.grantBreaks (p : Plan) (d i : Nat) (b : Block) : Bool :=
  (p.reads d i b).any (fun r => match p.feedOf r.1 with | f => !p.sees d f) ||
  (match iKind b with | 8 => (match b.at 26 with | .num c => !p.holdsChan d c.toNat | _ => false) | _ => false) ||
  ((p.masksOf d i).any (fun e => match e.2.at (if e.2.is 0 1 then 12 else 9) with | .num c => !p.holdsChan d c.toNat | _ => false)) ||
  ((capEntries b false ++ capEntries b true).any (fun e => iKind b == 8 && (e.headD 0 == 6 || e.headD 0 == 2) && !p.holdsChan d ((e.getD 1 0).toNat))) ||
  (iStreams b).any (fun k => match p.stream d k with | some st => (p.egressGrant d (st.nat 2)).isNone | none => true)

/-- Objects of a dome other than instruments that name what its grants no longer hold: routes, Sextant channels, MSI-X maps, streams and windows. -/
def Plan.dropUngranted (p : Plan) (d : Nat) : Plan :=
  let gone := fun (r : Rec) => r.dome == d &&
    (match r.op with
     | .eventRoute => !p.holdsChan d (r.block.nat 2)
     | .eventMsix => !p.holdsChan d (r.block.nat 0)
     | .streamDefine => (p.egressGrant d (r.block.nat 2)).isNone
     | _ => false)
  let held := fun (b : Block) (i : Nat) => b.put i (.list ((b.rows i).filter (fun x => p.holdsChan d ((x.headD 0).toNat))))
  let p := (p.recs.filter gone).foldl (fun (q : Plan) r => q.del r.op r.dome r.index) p
  { p with recs := p.recs.map (fun r => if r.op == .sextantEvents && r.dome == d then { r with block := held (held r.block 1) 2 } else r) }

/-- Does a dome fit its grants and the device? Only shortages of the dome count. -/
def Plan.domeFits (p : Plan) (s : State) (d : Nat) : Bool :=
  !(p.shortsIn s).any (fun x => (x.code == 0x14 && x.sub % 65536 == d) || (x.code == 0x0F && (x.sub == d && x.unit == 0xFFFF || x.sub == 65536 + d)))

/-- A plan in which a dome's grants have been lowered: what names something withdrawn goes, then instruments from the last backward (R416). -/
def Plan.lowerGrants (p : Plan) (s : State) (d : Nat) : Plan :=
  let bad := ((p.of .instrDefine d).filter (fun (e : Nat × Block) => p.placed d e.1 && p.grantBreaks d e.1 e.2)).map (fun e => e.1)
  let p := bad.foldl (fun (q : Plan) i => q.unplace d i 0 0) p
  Plan.unplaceUntil (fun q => q.domeFits s d) (p.dropUngranted d) (p.goOrder (fun x => x == d))

/-- DOME_GRANT (R414, R416). -/
def domeGrantC : CSpec :=
  { names := ownDomeNames, busy := ownDomeBusy,
    edit := fun c m p =>
      let q := p.put .domeGrant (m.block.nat 0) (m.block.nat 1) m.block
      if m.withdraw then q.lowerGrants c.s (m.block.nat 0) else q,
    verify := fun c o m =>
      let d := m.block.nat 0
      let n := if m.withdraw then c.plan else c.plan.lowerGrants c.s d
      let lost := if m.withdraw then [] else c.plan.lostFrom n
      let left := n.dropUngranted d != n || !n.domeFits c.s d
      if m.withdraw then rejIf (left && o.domeFits c.s d) (rej .inconsistent 2)
      else if lost.isEmpty && !left && n.recs == c.plan.recs then none
      else some { status := .inconsistent, detail := 2, resp := affectedList lost },
    apply := fun old m s =>
      -- streams on a port that is no longer granted end here (R307)
      let d := m.block.nat 0
      let s := ((old.of .streamDefine d).filter (fun e => !s.plan.has .streamDefine d e.1)).foldl (fun (s : State) e => dropStream s d e.1) s
      -- a DAC that leaves the grant is flushed and drives 0 (R546)
      ((List.range 8).filter (fun n => old.dacDome n == some d && s.plan.dacDome n != some d)).foldl dacFlush s }

/-- DOME_PRIORITY (R417). -/
def domePriorityC : CSpec :=
  { names := ownDomeNames, busy := ownDomeBusy,
    edit := fun _ m p => match p.find .domeCreate devDome (m.block.nat 0) with
      | some b => p.put .domeCreate devDome (m.block.nat 0) (b.put 3 (m.block.at 1)) | none => p }

/-! ### Dome reset (R423 to R427) -/

/-- Start a dome reset in the running tick (R423). -/
def startReset (s : State) (d : Nat) (scrub delete : Bool) (q : Option Request) : State :=
  let old := genOf s d
  let reqs := (s.inflight.filter (fun x => s.plan.domeOf x.req.fn == some d && some x.req != q)).length
  let s := bumpGen s d q
  let s := onDome s d (fun r => { r with drain := some { scrub := scrub, delete := delete, fence := decide (65535 ≤ old), resetTick := none, decided := s.time.tick64,
                                                         oldGen := old, req := q, requests := reqs, items := 0, descriptors := 0, records := 0, packets := 0, writes := 0 } })
  let s := match s.plan.binding d with | some f => writeNotice s f 0x800B 7 (genOf s d) (2 ^ 32) | none => s
  let s := logAdd s { cls := 3, typ := Op.domeReset.info.code, fn := q.map (fun x => x.fn), dome := d, gen := genOf s d }
  if old < 65535 then s else logAdd s { cls := 3, typ := Config.logType 3, dome := d, gen := genOf s d }

/-- Block of DOME_RESET. -/
def domeResetBlock : List Param := [(pI "DOME" 255).byRule, pF "SCRUB" 1]
/-- DOME_RESET (R423): it completes at the return tick. -/
def domeResetAct : Act := fun c m =>
  let d := domeSlot m 0
  match domeSlotBad c.s.plan m 0 with
  | some r => .error r
  | none => if draining c.s d then .error (rej .busy 0) else .ok { s := startReset c.s d (m.block.flag 1) false c.q, later := true }

/-- DOME_DELETE (R413): the dome is reset with SCRUB = 1 and its open interval closes; grants and binding go at the return tick. -/
def domeDeleteC : CSpec :=
  { names := ownDomeNames, busy := ownDomeBusy,
    apply := fun _ m s => startReset (closeInterval 3 s (m.block.nat 0)) (m.block.nat 0) true true none }

/-- Change the drain of a dome. -/
def onDrain (s : State) (d : Nat) (f : Drain → Drain) : State := onDome s d (fun r => { r with drain := r.drain.map f })

/-- Discard what an instrument has in progress at the reset tick (R203, R237, R301): closed banks are counted in GEN_DISCARD (R425). -/
def discardOpen (r : InstrRun) : InstrRun :=
  let r := r.count .genDiscard r.closed.length
  { r with inq := [], bank := none, sub := none, closed := [], subs := [], corr := none, group := [], cands := [],
           cap := { r.cap with phase := .noSegment, arriving := [], queue := [], cand := none, acc := none, units := [] } }

/-- DOME_RESET_TICK (R424): at the first tick boundary after the decision. -/
def execDomeResetTick (dome : Nat) (s : State) : Host.Outcome State Fault Refusal :=
  match (domeRun s dome).drain with
  | none => if 256 ≤ dome then .fault .noSuchUnit else .next s
  | some x =>
    if x.resetTick.isSome || s.time.tick64 ≤ x.decided then .next s
    else
      let recs := sumN ((s.instrs.filter (fun e => e.1.1 == dome)).map (fun e => e.2.closed.length)) + (s.made.filter (fun x => x.dome == dome)).length
      let s := { s with instrs := s.instrs.map (fun e => if e.1.1 == dome then (e.1, discardOpen (e.2.count .genDiscard (s.made.filter (fun x => x.dome == dome && x.instr == e.1.2)).length)) else e),
                        made := s.made.filter (fun x => x.dome != dome), handoff := s.handoff.filter (fun (x : Nat × Handoff) => x.2.dome? != some dome),
                        zooms := s.zooms.map (fun e => if e.1.1 == dome then (e.1, { e.2 with inq := [] }) else e),
                        sextants := s.sextants.map (fun e => if (e.2.lease.map (fun l => l.1)) == some dome then
                            (e.1, { e.2 with run := .idle, item := none, due := [], done := [], aborted := [] }) else e) }
      let s := match s.plan.binding dome with | some f => stopDma s f | none => s
      let s := ((List.range 8).filter (fun n => s.plan.dacDome n == some dome)).foldl dacFlush s
      .next (onDrain s dome (fun x => { x with resetTick := some s.time.tick64, records := recs }))

/-- Remove every object that a dome has built from a plan; binding, priority, class and grants stay (R423). -/
def Plan.clearDome (p : Plan) (d : Nat) : Plan :=
  { p with recs := p.recs.filter (fun r => r.dome != d || r.op == .domeGrant), places := p.places.filter (fun x => x.dome != d) }

/-- Is the drain over: the reset tick is past, no DMA channel of the dome runs, and a fence leaves nothing of an old generation in the router (R426, R427)? -/
def drainOver (s : State) (d : Nat) (x : Drain) : Bool :=
  (match x.resetTick with | some r => decide (r < s.time.tick64) | none => false) &&
  !(s.dma.any (fun e => some e.1.1 == s.plan.binding d && e.2.busy)) &&
  !(x.fence && s.router.queue.any (fun v => v.dome == d && v.gen != genOf s d))

/-- Pages of a dome return, zeroed, or stay with the dome as free writable pages (R426). -/
def returnPages (s : State) (d : Nat) (scrub : Bool) : State :=
  if scrub then
    let mine := s.hbm.pages.filter (fun x => x.dome == d)
    onHbm s (fun b => { b with pages := b.pages.filter (fun x => x.dome != d), mem := mine.foldl (fun (mm : Memory) x => memClear mm (pageAddr x.stack x.page 0) (pageAddr x.stack (x.page + 1) 0)) b.mem,
                               poison := b.poison.filter (fun w => !mine.any (fun x => pageOf (32 * w) == (x.stack, x.page))) })
  else onHbm s (fun b => { b with pages := b.pages.map (fun x => if x.dome = d then { x with obj := none } else x) })

/-- Everything of a dome but the dome itself leaves the state (R426). -/
def clearDome (s : State) (d : Nat) (scrub : Bool) : State :=
  let mine := (s.plan.of .streamDefine d).map (fun e => e.1)
  let s := mine.foldl (fun (s : State) k => dropStream s d k) s
  let s := (s.sextants.filter (fun e => (e.2.lease.map (fun l => l.1)) == some d)).foldl (fun (s : State) e => runScrub (changeLease s e.1 none []) e.1) s
  let keepSet := fun (e : (Nat × Nat) × List Int) => e.1.1 != d || (d == 0 && (s.plan.objs .coarseDefine).any (fun x => x.2.2.at 4 == .num (e.1.2 : Nat)))
  returnPages { s with plan := s.plan.clearDome d, instrs := s.instrs.filter (fun e => e.1.1 != d), masks := s.masks.filter (fun e => e.1.1 != d),
                       plates := s.plates.filter (fun e => e.1.1 != d), zooms := s.zooms.filter (fun e => e.1.1 != d), sks := s.sks.filter (fun e => e.1.1 != d),
                       streams := s.streams.filter (fun e => e.1.1 != d), coefSets := s.coefSets.filter keepSet, capReads := s.capReads.filter (fun c => c.dome != d) } d scrub

/-- Body of a DOME_RESET response (Table 14-6). -/
def drainBody (s : State) (x : Drain) : List Byte :=
  words8 [x.requests, x.items, x.descriptors, x.records, x.packets, x.writes, s.time.tick64 - 1, s.time.tick64]

/-- DOME_RESET_RETURN (R426): at the first tick after the drain everything returns and the request completes. How many work items, descriptors and writes
the drain met depends on the units' schedules and on the host's chain, which the spec leaves open: free values. -/
def execDomeResetReturn (dome : Nat) (s : State) : Host.Outcome State Fault Refusal :=
  match (domeRun s dome).drain with
  | none => if 256 ≤ dome then .fault .noSuchUnit else .next s
  | some x =>
    if !drainOver s dome x then .next s
    else
      let packets := sumN ((s.streams.filter (fun e => e.1.1 == dome)).map (fun e => e.2.go.length + e.2.spill.length))
      let (items, s) := drawNat s
      let (descs, s) := drawNat s
      let (writes, s) := drawNat s
      let x := { x with items := items, descriptors := descs, writes := writes, packets := packets }
      let s := clearDome s dome x.scrub
      let s := onDome s dome (fun r => { r with drain := none })
      let s := if x.delete then
          { s with plan := { s.plan with recs := s.plan.recs.filter (fun r => !(r.op == .domeCreate && r.index == dome) && !(r.op == .domeGrant && r.dome == dome)) } }
        else s
      match x.req with
      | some q => .next (finish s Op.domeReset.info.code q 0 (genOf s dome) (tsnOf x.decided) (x.requests + items + descs + x.records + packets) 0 (some (drainBody s x)))
      | none => .next s

/-! ### Queries -/

/-- Block of DOME_QUERY. -/
def domeQueryBlock : List Param := [(pI "DOME" 255).byRule]
/-- Ceiling and booking of each grant, 8 bytes each (R412): masks as they stand, a list as its sum over ports. -/
def grantWords (p : Plan) (s : State) (l : List Bk) (d g : Nat) : List Nat :=
  match g with
  | 0 => [sumN ((List.range 16).map (fun k => match p.grant d 0 with | some b => popCount (b.nat (2 + k)) | none => 0)), (((p.of .instrDefine d).flatMap (fun (e : Nat × Block) => (p.reads d e.1 e.2).map (fun r => p.feedOf r.1))).eraseDups).length]
  | 4 => [sumN ((List.range 128).map (fun q => (p.egressGrant d q).getD 0)), bookedOfDome l d 0x10]
  | 6 => [sumN ((List.range 4).map (fun k => match p.grant d 6 with | some b => popCount (b.nat (2 + k)) | none => 0)), ((p.of .eventRoute d).map (fun (e : Nat × Block) => e.2.nat 2)).eraseDups.length]
  | 8 => [((p.grant d 8).map (fun b => b.nat 2)).getD 0, (s.dma.filter (fun e => some e.1.1 == p.binding d && e.2.busy)).length]
  | 10 => [((p.grant d 10).map (fun b => b.nat 2)).getD 0, ((p.grant d 10).map (fun b => b.nat 2)).getD 0]
  | _ => let u := p.grantUse l d g; [u.2, u.1]
where
  popCount (x : Nat) : Nat := ((List.range 64).filter (fun k => x.testBit k)).length
  bookedOfDome (l : List Bk) (d code : Nat) : Nat := sumN ((l.filter (fun k => k.dome == d && k.code == code && k.sub == 0)).map (fun k => k.amount))

/-- DOME_QUERY (R412): host port and VF, DOME_GEN, PRIORITY, RATE_CLASS, then ceiling and booking of each grant, 8 bytes each (log entry 26). -/
def domeQueryAct : Act := fun c m =>
  let d := domeSlot m 0
  match domeSlotBad c.s.plan m 0 with
  | some r => .error r
  | none =>
    let p := c.s.plan
    let f := (p.binding d).getD ownerFn
    let l := p.books c.s.hbm.failed
    .ok { s := c.s, body := some (words8 ([f.port, f.vf, genOf c.s d, p.priority d, p.rateClass d] ++ (List.range 11).flatMap (grantWords p c.s l d))) }

/-! ### The Logbook (R429, R430) -/

/-- Block of LOGBOOK_READ (Table 14-9). -/
def logbookReadBlock : List Param :=
  [pWd "SOURCE" ["RAM", "FLASH"] 0, ⟨"FROM_SEQ", .nat 0 (2 ^ 63 - 1) [], .val (.num 0), []⟩, pD "MAX" 1 65536 4096, pD "CLASS_MASK" 0 0x7F 0x7F,
   ⟨"DOME", .ident 0 255 ["ANY"], .val (.named 0), []⟩]
/-- LOGBOOK_READ (R430): an operator receives only the entries of its own port. -/
def logbookReadAct : Act := fun c m =>
  let g := c.s.log
  let flash := m.block.is 0 1
  let all := if flash then g.flash else g.ram
  let mine := all.filter (fun e => decide (m.block.nat 1 ≤ e.seq) && (m.block.nat 3).testBit e.cls && (m.block.is 4 0 || e.dome == m.block.nat 4) &&
    (!Fn.isOperator m.fn || e.hostPort == m.fn.port))
  let out := mine.take (m.block.nat 2)
  let oldest := (all.head?.map (fun e => e.seq)).getD g.seq
  .ok { s := c.s, result := out.length, body := some (words8 [oldest, g.seq, if flash then g.flashLost else g.ramLost] ++ out.flatMap LogEntry.bytes) }

/-- LOGBOOK_FLASH_WRITE (R429): the oldest SECURITY entry that is not in the flash ring goes there, and is marked CHECKPOINTED. -/
def execLogbookFlashWrite (s : State) : Host.Outcome State Fault Refusal :=
  match s.log.ram.find? (fun e => e.eflags.testBit 0 && !e.eflags.testBit 1) with
  | none => .next s
  | some e =>
    let full := decide (flashRing ≤ s.log.flash.length)
    let ram := rechain s.log.ramPrev (s.log.ram.map (fun x => if x.seq = e.seq then { x with eflags := x.eflags ||| 2 } else x))
    let s := { s with log := { s.log with ram := ram, flash := (if full then s.log.flash.drop 1 else s.log.flash) ++ [e], flashLost := s.log.flashLost + b2n full } }
    .next (raiseEv (if full then raiseEv s 1350 1344 else s) 1349 1344)

end Sys2Proof.Machine
end

