-- ==== Sys2Proof/Machine/HbmBus.lean ====
section
/-! DEFINITION. HbmBus.lean: HBM as the host sees it, its errors, its retirement, and the controller's own events (R484 to R505). -/
namespace Sys2Proof.Machine

/-! ### Settings -/

/-- HBM_CONFIG record of a stack. -/
def Plan.hbmCfg (p : Plan) (h : Nat) : Block := (p.find .hbmConfig devDome h).getD (hbmConfigBlock0 h)
/-- CE_THRESH of a stack (R501). -/
def Plan.ceThresh (p : Plan) (h : Nat) : Nat := (p.hbmCfg h).nat 10
/-- Masks in force, as the last boot took them from the boot flash (R489). -/
def Plan.hbmMasksOf (p : Plan) (h : Nat) : List Nat := (List.range 9).map (fun i => (p.hbmCfg h).nat (12 + i))

/-- What the controller's decoder finds in one ECC word: a correctable error, or an uncorrectable one (R497). -/
inductive EccErr where
  | correctable
  | uncorrectable
  deriving DecidableEq, Repr

/-- Errors by BAR2 offset / 32 of the words that have one: true means uncorrectable. -/
abbrev EccErrs := List (Nat × Bool)
/-- The error of the word at a BAR2 offset. -/
def errAt (l : EccErrs) (off : Nat) : Option EccErr :=
  (l.find? (fun e => e.1 == off / 32)).map (fun e => if e.2 then EccErr.uncorrectable else EccErr.correctable)

/-! ### Errors and retirement (R496 to R503) -/

/-- A page falls due for retirement, unless it already waits or is being copied (R501). -/
def dueRetire (s : State) (h p : Nat) : State :=
  if s.hbm.due.contains (h, p) || s.hbm.copying.any (fun c => c.1 == h && c.2.1 == p) then s
  else onHbm s (fun b => { b with due := b.due ++ [(h, p)] })

/-- A correctable error of the word at `a`: counted on its stack and its page, and the page retires at CE_THRESH (R497, R500, R501). -/
def ceError (s : State) (a : Nat) : State :=
  let (h, p) := pageOf a
  let s := hbmEvent (hbmCount s .ce h 1) h 0
  let n := tgetD s.hbm.ceCount (h, p) 0 + 1
  let s := onHbm s (fun b => { b with ceCount := tset b.ceCount (h, p) n })
  if s.plan.ceThresh h ≤ n then dueRetire s h p else s

/-- An uncorrectable error of the word at `a`: the poison pattern is written, logged and counted, and the page retires (R497, R498, R501). -/
def ueError (s : State) (a cls who : Nat) : State :=
  let (h, p) := pageOf a
  let s := hbmCount (hbmCount (setPoison s a true) .ue h 1) .poisonWr h 1
  dueRetire (hbmEvent (hbmLog s a cls who) h 1) h p

/-- Read of bytes within the ECC word at `a` (R498): the state, the bytes and whether they are poisoned. -/
def hbmReadWord (s : State) (a n cls who : Nat) (err : Option EccErr) : State × List Byte × Bool :=
  let l := memList s.hbm.mem a n
  if poisonedAt s a then (hbmCount s .poisonRd (stackOf a) 1, l, true)
  else match err with
    | none => (s, l, false)
    | some .correctable => (ceError s a, l, false)
    | some .uncorrectable => (ueError s a cls who, l, true)

/-- Write of bytes within the ECC word at `a` (R497): the state and whether the write completes with poisoned status. -/
def hbmWriteWord (s : State) (a : Nat) (l : List Byte) (cls who : Nat) (err : Option EccErr) : State × Bool :=
  let h := stackOf a
  if a % 32 = 0 ∧ l.length = 32 then (hbmStore s a l, false)
  else
    let t := onHbm s (fun b => { b with mem := memPutList b.mem a l })
    if poisonedAt s a then (hbmEvent (hbmLog (hbmCount t .poisonWr h 1) a cls who) h 1, true)
    else match err with
      | none => (hbmCount t .rmw h 1, false)
      | some .correctable => (ceError (hbmCount t .rmw h 1) a, false)
      | some .uncorrectable => (ueError t a cls who, true)

/-! ### BAR2 (R418, R419, R487) -/

/-- The page at a BAR2 offset of a dome's aperture. -/
def bar2Page (s : State) (d off : Nat) : Option Page := s.hbm.pages.find? (fun p => p.dome == d && p.bar2 == off / 2 ^ 21)
/-- May the dome write the page? The device writes every object's pages but the Eyepiece's surface (R419, R549, R555). -/
def Page.writable (p : Page) : Bool :=
  match p.obj with | none => true | some k => k.op == .eyepieceConfig && k.part == 0
/-- Memory address of a BAR2 offset. -/
def bar2Addr (s : State) (d off : Nat) : Option Nat := (bar2Page s d off).map (fun p => pageAddr p.stack p.page (off % 2 ^ 21))

/-- Pieces of a range that lie within one ECC word each: offset and length. -/
def wordPieces (off len : Nat) : List (Nat × Nat) :=
  if len = 0 then []
  else (List.range ((off + len - 1) / 32 - off / 32 + 1)).map (fun i =>
    let lo := Nat.max off ((off / 32 + i) * 32)
    let hi := Nat.min (off + len) ((off / 32 + i + 1) * 32)
    (lo, hi - lo))

/-- Does a range lie on pages of the dome, all of them writable where `wr`? -/
def bar2Ok (s : State) (d off len : Nat) (wr : Bool) : Bool :=
  len == 0 || (List.range ((off + len - 1) / 2 ^ 21 - off / 2 ^ 21 + 1)).all (fun i =>
    match bar2Page s d ((off / 2 ^ 21 + i) * 2 ^ 21) with | some p => !wr || p.writable | none => false)

/-- Class NRT in the order of Table 17-2. -/
def clsNrt : Nat := 4
/-- A function as writer or reader in an error log. -/
def fnWho (f : Fn) : Nat := 65 * f.port + f.vf

/-- Read a range of a dome's aperture, word by word: bytes and whether any word is poisoned. -/
def devRead (s : State) (d off len who : Nat) (errs : EccErrs) : State × List Byte × Bool :=
  (wordPieces off len).foldl (fun (a : State × List Byte × Bool) (w : Nat × Nat) =>
    match bar2Addr a.1 d w.1 with
    | none => (a.1, a.2.1 ++ List.replicate w.2 0, a.2.2)
    | some x => let r := hbmReadWord a.1 x w.2 clsNrt who (errAt errs w.1)
                (r.1, a.2.1 ++ r.2.1, a.2.2 || r.2.2)) (s, [], false)

/-- Does a range meet the Eyepiece's surface? Its frame then shows old and new content (R553). -/
def surfaceTouch (s : State) (d off len : Nat) : State :=
  if d = 0 && (wordPieces off len).any (fun w => match bar2Page s d w.1 with | some p => (match p.obj with | some k => k.op == .eyepieceConfig | none => false) | none => false) then
    { s with eye := { s.eye with dirty := true } }
  else s

/-- Write a range of a dome's aperture, word by word: was any part of it completed with poisoned status? -/
def devWrite (s : State) (d off : Nat) (l : List Byte) (who : Nat) (errs : EccErrs) : State × Bool :=
  (wordPieces off l.length).foldl (fun (a : State × Bool) (w : Nat × Nat) =>
    match bar2Addr a.1 d w.1 with
    | none => a
    | some x => let r := hbmWriteWord a.1 x (sliceL l (w.1 - off) w.2) clsNrt who (errAt errs w.1)
                (r.1, a.2 || r.2)) (surfaceTouch s d off l.length, false)

/-- Write the poison pattern into every word of a range (Table 16-2). -/
def devPoison (s : State) (d off len : Nat) : State :=
  (wordPieces off len).foldl (fun (s : State) (w : Nat × Nat) =>
    match bar2Addr s d w.1 with | none => s | some x => hbmCount (setPoison s x true) .poisonWr (stackOf x) 1) (surfaceTouch s d off len)

/-- Record what a function's read receives. -/
def answer (s : State) (f : Fn) (bar off : Nat) (r : ReadAns) : State := { s with out := { s.out with reads := s.out.reads ++ [(f, bar, off, r)] } }

/-- BAR2_READ (R419, R420, R487, R498). PF0 of HP1 to HP3 has no dome and no BAR2 pages: 0x06. -/
def execBar2Read (fn : Fn) (off len : Nat) (errs : List (Nat × Bool)) (s : State) : Host.Outcome State Fault Refusal :=
  if 4 ≤ fn.port ∨ 65 ≤ fn.vf then .fault .noSuchUnit
  else match s.plan.domeOf fn with
    | none => .next (answer (violation s (if fn.vf = 0 then 6 else 5) fn off) fn 2 off .unsupportedRequest)
    | some d =>
      if !bar2Ok s d off len false then .next (answer (violation s 6 fn off) fn 2 off .unsupportedRequest)
      else
        let r := devRead s d off len (fnWho fn) errs
        .next (answer r.1 fn 2 off (.data r.2.1 r.2.2))

/-- BAR2_WRITE (R419, R420, R487, R497): a violating write is discarded whole. -/
def execBar2Write (fn : Fn) (off : Nat) (bytes : List Byte) (errs : List (Nat × Bool)) (s : State) : Host.Outcome State Fault Refusal :=
  if 4 ≤ fn.port ∨ 65 ≤ fn.vf then .fault .noSuchUnit
  else match s.plan.domeOf fn with
    | none => .next (violation s (if fn.vf = 0 then 6 else 5) fn off)
    | some d =>
      if !bar2Ok s d off bytes.length false then .next (violation s 6 fn off)
      else if !bar2Ok s d off bytes.length true then .next (violation s 3 fn off)
      else .next (devWrite s d off bytes (fnWho fn) errs).1

/-! ### Capacity (R25, R29, R503) -/

/-- Capacity has gone: event 1314, the withdrawal of what no longer fits, and DEGRADED (R25, R29). A loss in CALIBRATE or MAINTENANCE changes no
state, and in HALTED it changes the state to which RESUME returns. -/
def capacityGone (s : State) : State :=
  let s := raiseEv { s with dev := { s.dev with withdrawn := true } } 1314 1312
  let s := syncPages (withdrawNow s)
  match s.dev.st with
  | .service => enterState s .degraded
  | .halted => if s.dev.left = .service then { s with dev := { s.dev with left := .degraded } } else s
  | _ => s

/-! ### Retirement (R501, R503) -/

/-- Lowest spare page of a stack that no retired page uses and no copy fills (R501). -/
def freeSpare (s : State) (h : Nat) : Option Nat :=
  ((List.range 14).map (fun i => 17152 + i)).find? (fun p =>
    !(s.hbm.retired.any (fun r => r.1 == h && r.2.2 == p)) && !(s.hbm.copying.any (fun c => c.1 == h && c.2.2 == p)))
/-- Highest free allocatable page of a stack (R503). -/
def highFreePage (s : State) (h : Nat) : Option Nat :=
  (((List.range 17088).map (fun i => 17151 - i)).find? (fun p => pageFree s h p)).or
    ((s.hbm.pages.find? (fun p => p.stack == h && pageIdle s p)).map (fun p => p.page))

/-- Start the copy of a page to a target. -/
def startCopy (s : State) (h p t : Nat) : State :=
  onHbm s (fun b => { b with due := b.due.erase (h, p), copying := b.copying ++ [(h, p, t)], lost := if t < 17152 then b.lost ++ [(h, t)] else b.lost, pages := b.pages.filter (fun x => !(x.stack == h && x.page == t)) })

/-- PAGE_RETIRE: the oldest retirement due on a stack starts its copy; without a spare or a free page capacity is withdrawn first, and the page
stays in service meanwhile (R501, R503). -/
def execPageRetire (stack : Nat) (s : State) : Host.Outcome State Fault Refusal :=
  if 8 ≤ stack then .fault .noSuchUnit
  else match s.hbm.due.find? (fun e => e.1 == stack) with
    | none => .next s
    | some (h, p) =>
      if s.hbm.copying.any (fun c => c.1 == h) then .next s
      else match freeSpare s h with
        | some t => .next (startCopy s h p t)
        | none => match highFreePage s h with
          | some t => .next (startCopy s h p t)
          | none =>
            -- capacity for one page more is withdrawn on the stack
            let t := capacityGone (onHbm s (fun b => { b with lost := b.lost ++ [(h, 2 ^ 21)] }))
            let t := onHbm t (fun b => { b with lost := b.lost.erase (h, 2 ^ 21) })
            match highFreePage t h with
            | some x => .next (startCopy t h p x)
            | none => .next t

/-- RETIRE_COPY_END: the page's address maps to its new page; contents and poison go with it, so nothing moves under the addresses of the model
(R501). -/
def execRetireCopyEnd (stack : Nat) (s : State) : Host.Outcome State Fault Refusal :=
  if 8 ≤ stack then .fault .noSuchUnit
  else match s.hbm.copying.find? (fun c => c.1 == stack) with
    | none => .next s
    | some (h, p, t) =>
      let s := onHbm s (fun b => { b with copying := b.copying.erase (h, p, t), retired := b.retired ++ [(h, p, t)], ceCount := tdel b.ceCount (h, p) })
      .next (hbmEvent (hbmCount (ephWrite s 0x09 h (leBytes 4 p ++ leBytes 4 t)) .retired h 1) h 4)

/-- HBM_STACK_FAIL: every page of the stack is withdrawn (R503). -/
def execHbmStackFail (stack : Nat) (s : State) : Host.Outcome State Fault Refusal :=
  if 8 ≤ stack then .fault .noSuchUnit
  else if s.hbm.failed.contains stack then .next s
  else
    let s := onHbm s (fun b => { b with failed := b.failed ++ [stack], due := b.due.filter (fun e => e.1 != stack), copying := b.copying.filter (fun e => e.1 != stack),
                                        asleep := b.asleep.filter (fun h => h != stack), panic := b.panic.filter (fun e => e.1 != stack) })
    .next (capacityGone s)

/-! ### Real-time ports (R490 to R492) -/

/-- RT_PORT_PANIC: a real-time port's level, in sixteenths, has come to PANIC_HI or to PANIC_LO (R490, R491). -/
def execRtPortPanic (stack port level : Nat) (s : State) : Host.Outcome State Fault Refusal :=
  if 8 ≤ stack ∨ 4 ≤ port ∨ 16 < level then .fault .noSuchUnit
  else
    let b := s.plan.hbmCfg stack
    if s.hbm.panic.contains (stack, port) then
      .next (if level ≤ b.nat (3 + 2 * port) then onHbm s (fun x => { x with panic := x.panic.erase (stack, port) }) else s)
    else if b.nat (2 + 2 * port) ≤ level then
      let s := onHbm s (fun x => { x with panic := x.panic ++ [(stack, port)] })
      .next (hbmEvent (hbmCount s (.panicEntries port) stack 1) stack 2)
    else .next s

/-- A word whose write found its buffer full: on the poison list, or with the rest of its page poisoned when the list is full (R492). -/
def listWord (stack : Nat) (s : State) (w : Nat) : State :=
  let a := stack * 2 ^ 31 + w % 2 ^ 31
  let used := (s.hbm.listed.filter (fun x => x / 2 ^ 31 == stack && s.hbm.poison.contains x)).length
  if used < 4096 then
    let s := setPoison s (32 * a) true
    onHbm s (fun b => { b with listed := a :: b.listed.filter (fun x => x != a && b.poison.contains x) })
  else (List.range (65536 - a % 65536)).foldl (fun (s : State) (i : Nat) => setPoison s (32 * (a + i)) true) s

/-- The newest snapshot of a Plate is dropped whole (R492, R270). -/
def dropSnapshot (s : State) (d k : Nat) : State :=
  onPlate s d k (fun r =>
    let ring := r.ring.map (fun (g : RingRun) => if g.held.isEmpty then g else { g with written := g.written - 1, held := g.held.dropLast })
    { r with ring := ring, snapDrop := r.snapDrop + 1 })

/-- RT_PORT_OVERFLOW (R492): INGEST and CAPTURE name the words not stored, PLATE the dome and Plate. -/
def execRtPortOverflow (stack port : Nat) (words : List Nat) (dome plate : Nat) (s : State) : Host.Outcome State Fault Refusal :=
  if 8 ≤ stack ∨ 4 ≤ port then .fault .noSuchUnit
  else
    let s := hbmCount s (.rtOvf port) stack 1
    match port with
    | 0 => .next (words.foldl (listWord stack) s)
    | 1 => .next (words.foldl (listWord stack) s)
    | 2 => .next (if s.plan.has .plateDefine dome plate then dropSnapshot s dome plate else s)
    | _ => .next { s with eye := { s.eye with underrun := s.eye.underrun + 1, dirty := true } }

/-! ### Refresh, self-refresh, scrub (R494, R495, R500) -/

/-- HBM_REFRESH: one bank is due; the refresh is postponed, at most four intervals and only while a real-time port is in panic (R494). -/
def execHbmRefresh (stack bank : Nat) (postpone : Bool) (s : State) : Host.Outcome State Fault Refusal :=
  if 8 ≤ stack ∨ 512 ≤ bank then .fault .noSuchUnit
  else
    let n := tgetD s.hbm.postponed (stack, bank) 0
    if postpone && decide (n < 4) && s.hbm.panic.any (fun e => e.1 == stack) then
      .next (onHbm s (fun b => { b with postponed := tset b.postponed (stack, bank) (n + 1) }))
    else .next (onHbm s (fun b => { b with postponed := tdel b.postponed (stack, bank) }))

/-- Does a booking of classes PANIC to SPILL stand on a stack? The control processor's own 64 * M bytes stand on every stack always (R485, R495). -/
def stackBooked (s : State) (h : Nat) : Bool := decide (64 * s.plan.m < bookedOf (s.plan.books s.hbm.failed) 0x0E h 0)

/-- SELF_REFRESH_ENTRY: no request has reached the stack for SR_IDLE_US (R495). -/
def execSelfRefreshEntry (stack : Nat) (s : State) : Host.Outcome State Fault Refusal :=
  if 8 ≤ stack then .fault .noSuchUnit
  else if s.hbm.asleep.contains stack || s.hbm.failed.contains stack || (s.plan.hbmCfg stack).nat 1 == 0 || stackBooked s stack || s.hbm.copying.any (fun c => c.1 == stack) then .next s
  else
    let s := onHbm s (fun b => { b with asleep := b.asleep ++ [stack] })
    .next (hbmEvent (hbmCount s .srEntries stack 1) stack 5)

/-- SELF_REFRESH_EXIT after `us` microseconds (R495). -/
def execSelfRefreshExit (stack us : Nat) (s : State) : Host.Outcome State Fault Refusal :=
  if 8 ≤ stack then .fault .noSuchUnit
  else if !s.hbm.asleep.contains stack then .next s
  else
    let s := onHbm s (fun b => { b with asleep := b.asleep.erase stack })
    .next (hbmEvent (hbmCount s .srTimeUs stack us) stack 5)

/-- 32-byte words that a patrol pass reads: pages 0 to 17,165 (R484, R500). -/
def scrubWords : Nat := 17166 * 65536

/-- PATROL_SCRUB_READ: one word in the patrol order; `err` is true for an uncorrectable error. A pass ends its scrub period (R500). -/
def execPatrolScrubRead (stack : Nat) (err : Option Bool) (s : State) : Host.Outcome State Fault Refusal :=
  if 8 ≤ stack then .fault .noSuchUnit
  else if s.hbm.failed.contains stack then .next s
  else
    let w := tgetD s.hbm.scrubAt stack 0
    let e : Option EccErr := err.map (fun u => if u then .uncorrectable else .correctable)
    let s := (hbmReadWord s (stack * 2 ^ 36 + 32 * w) 32 clsNrt (2 ^ 16) e).1
    if w + 1 < scrubWords then .next (onHbm s (fun b => { b with scrubAt := tset b.scrubAt stack (w + 1) }))
    else .next (hbmCount (onHbm s (fun b => { b with scrubAt := tset b.scrubAt stack 0, ceCount := b.ceCount.filter (fun c => c.1.1 != stack) })) .scrubPasses stack 1)

/-- HBM_TEMPERATURE_LIMIT: a stack has reached 95 °C (R615). -/
def execHbmTemperatureLimit (stack : Nat) (s : State) : Host.Outcome State Fault Refusal :=
  if 8 ≤ stack then .fault .noSuchUnit else .next (hbmEvent s stack 6)

/-! ### HBM_CONFIG and HBM_STATS (R504, R505) -/

/-- Block of HBM_CONFIG (Table 17-5): PANIC_HI and PANIC_LO of each port in turn. -/
def hbmConfigBlock : List Param :=
  [⟨"STACK", .ident 0 7 ["ALL"], .val (.named 0), []⟩, pD "SR_IDLE_US" 0 65535 1000] ++
  [pD "PANIC_HI" 1 16 8, pD "PANIC_LO" 0 15 4, pD "PANIC_HI" 1 16 8, pD "PANIC_LO" 0 15 4, pD "PANIC_HI" 1 16 10, pD "PANIC_LO" 0 15 4, pD "PANIC_HI" 1 16 12, pD "PANIC_LO" 0 15 6] ++
  [pD "CE_THRESH" 1 255 8, pD "SCRUB_HOURS" 1 168 24] ++ hbmMasks.map (fun m => pD "MASK" 0 (2 ^ 36 - 1) m)

/-- First mask that breaks R488: each holds its own home bit, no other home bit, and no bit below 6. -/
def maskBreak (b : Block) : Option Nat :=
  (List.range 9).find? (fun i =>
    let m := b.nat (12 + i)
    !m.testBit (8 + i) || (List.range 9).any (fun j => j != i && m.testBit (8 + j)) || m % 64 != 0)

/-- Stacks that an HBM_CONFIG names. -/
def hbmTargets (b : Block) : List Nat := match b.at 0 with | .num h => [h.toNat] | _ => List.range 8

/-- HBM_CONFIG (R488, R489, R504): masks are staged for the next boot, and the record keeps those in force. -/
def hbmConfigC : CSpec :=
  { edit := fun _ m p => (hbmTargets m.block).foldl (fun (p : Plan) (h : Nat) =>
      p.put .hbmConfig devDome h (PV.num (h : Int) :: (m.block.drop 1).take 11 ++ (p.hbmCfg h).drop 12)) p,
    verify := fun _ _ m => firstRej
      [((List.range 4).find? (fun k => decide (m.block.nat (2 + 2 * k) ≤ m.block.nat (3 + 2 * k)))).bind (fun k => inconsistent (3 + 2 * k)),
       (maskBreak m.block).bind (fun i => inconsistent (12 + i))],
    apply := fun _ m s =>
      let put := fun (t : Tab Nat (List Nat)) => (hbmTargets m.block).foldl (fun (t : Tab Nat (List Nat)) (h : Nat) => tset t h ((List.range 9).map (fun i => m.block.nat (12 + i)))) t
      saveSetting (onHbm s (fun b => { b with staged := put b.staged })) 0 (fun x => { x with masks := put x.masks }) }

/-- Counters of a stack in the order of Table 17-6; bytes per class and on-die corrections are free values. -/
def hbmCounters (s : State) (h : Nat) : State × List Nat :=
  let free := (List.range 6).foldl (fun (a : State × List Nat) _ => let r := drawNat a.1; (r.2, a.2 ++ [r.1])) (s, [])
  let c := fun (k : HbmCtr) => tgetD s.hbm.cnt (k, h) 0
  (free.1, free.2.take 5 ++ (List.range 4).map (fun p => c (.panicEntries p)) ++ (List.range 4).map (fun p => c (.rtOvf p)) ++
    [c .ce, free.2.getD 5 0, c .ue, c .rmw, c .poisonWr, c .poisonRd, c .scrubPasses, c .retired, c .pprDone, c .srEntries, c .srTimeUs])

/-- Bookings of a stack by class: INGEST, CAPTURE, PLATE, EYEPIECE, BOOKED, SPILL (Table 17-4). -/
def hbmByClass (s : State) (h : Nat) : List Nat :=
  let p := s.plan
  let at0 := fun (l : List Bk) => bookedOf l 0x0E h 0
  let front := p.frontBooks s.hbm.failed
  let feedScope := at0 (front.filter (fun k => k.dome == devDome)) - 64 * p.m
  let zoom := at0 ((p.objs .zoomDefine).flatMap (fun e => match p.place? .zoomDefine e.1 e.2.1 with
    | some x => if x.placed then p.zoomBooks e.1 e.2.1 e.2.2 (x.tiles.headD 0) (x.chosen.headD 0 == 1) (x.stack 0) else []
    | none => []))
  let capture := at0 ((p.objs .instrDefine).flatMap (fun e => match p.place? .instrDefine e.1 e.2.1 with
    | some x => if x.placed && iKind e.2.2 == 8 then p.instrBooks e.1 e.2.1 e.2.2 x else []
    | none => []))
  let plate := at0 ((p.objs .plateDefine).flatMap (fun e => match p.place? .plateDefine e.1 e.2.1 with
    | some x => if p.placed e.1 (e.2.2.nat 1) then p.plateBooks e.1 e.2.2 (x.chosen.headD 1).toNat (x.stack 0) else []
    | none => []))
  let eye := at0 ((p.objs .eyepieceConfig).flatMap (fun e => p.eyeBooks e.2.2))
  let spill := at0 ((p.objs .streamDefine).flatMap (fun e => p.streamBooks e.1 e.2.1 e.2.2))
  let all := at0 (p.books s.hbm.failed)
  [feedScope + zoom, capture, plate, eye, all - (feedScope + zoom + capture + plate + eye + spill), spill]

/-- HBM_STATS (R505): per stack the counters, the masks in force and staged, the page counts, and the bookings. -/
def hbmStatsAct : Act := fun c _ =>
  let r := (List.range 8).foldl (fun (a : State × List Nat) (h : Nat) =>
    let k := hbmCounters a.1 h
    let s := k.1
    let masks := s.plan.hbmMasksOf h
    let alloc := 17088 - lostPages s h
    let used := (s.hbm.pages.filter (fun p => p.stack == h)).length
    let retired := (s.hbm.retired.filter (fun p => p.1 == h)).length
    let spare := ((List.range 14).filter (fun i => !(s.hbm.retired.any (fun r => r.1 == h && r.2.2 == 17152 + i)) && !(s.hbm.copying.any (fun c => c.1 == h && c.2.2 == 17152 + i)))).length
    (s, a.2 ++ k.2 ++ masks ++ tgetD s.hbm.staged h masks ++ [alloc, alloc - used, retired, spare] ++ hbmByClass s h)) (c.s, [])
  .ok { s := r.1, body := some (r.2.flatMap (leBytes 8)) }

end Sys2Proof.Machine
end

