-- ==== Sys2Proof/Machine/Analog.lean ====
section
/-! DEFINITION. Analog.lean: the housekeeping ADC and the control DACs (R532 to R547). -/
namespace Sys2Proof.Machine

/-! ### Housekeeping ADC (R532 to R539) -/

/-- Change the ADC. -/
def onAdc (s : State) (f : AdcSt → AdcSt) : State := { s with adc := f s.adc }
/-- Result of an ADC channel; none has been written at first. -/
def adcRes (s : State) (c : Nat) : AdcRes :=
  tgetD s.adc.results c { ovr := false, ovrIn := false, hi := false, lo := false, stale := false, some := false, avg := 0, result := 0, tsn := 0, time := 0 }
/-- Change the result of a channel. -/
def onRes (s : State) (c : Nat) (f : AdcRes → AdcRes) : State := let r := f (adcRes s c); onAdc s (fun a => { a with results := tset a.results c r })

/-- Block of ADC_CONFIG (Table 19-2). -/
def adcConfigBlock : List Param :=
  [pIL "LIST" 48 41 47 [], pD "AVG" 1 256 1, pD "SHIFT" 0 8 0, pWd "TRIGGER" ["TICK", "EVENT", "CONTINUOUS"] 0, pD "PERIOD" 1 65536 1,
   (pN "CHANNEL" 0 255).when 3 [.named 1], pF "APD" 1, (pIL "LIMITS" 48 41 47 [(0, 2 ^ 32 - 1), (0, 2 ^ 32 - 1)]).or (.list [])]

/-- Worst-case duration of a sequence in tenths of a nanosecond (R536). -/
def adcWorst (b : Block) : Nat := 20000 + 15000 * b.nat 1 * (b.rows 0).length

/-- A self-calibration begins: triggers are missed and every result is STALE until its channel's next one (R535). -/
def adcCalBegin (s : State) : State :=
  onAdc s (fun a => { a with cal := 1, calDue := false, results := a.results.map (fun (e : Nat × AdcRes) => (e.1, { e.2 with stale := true })) })
/-- A self-calibration falls due: at once, or when the running sequence ends (R535). -/
def adcCalStart (s : State) : State := if s.adc.seq.isSome then onAdc s (fun a => { a with calDue := true }) else adcCalBegin s
/-- Is a self-calibration running or due? -/
def adcCalibrating (s : State) : Bool := s.adc.cal == 1 || s.adc.calDue

/-- ADC_CONFIG (R532, R536): the running sequence keeps its own configuration to its end. -/
def adcConfigC : CSpec :=
  { edit := fun _ m p => p.put .adcConfig devDome 0 m.block,
    verify := fun c _ m =>
      let b := m.block
      firstRej [rejIf ((b.rows 0).isEmpty) (rej .format 0), rejIf ((b.rows 7).any (fun r => decide (r.getD 2 0 < r.getD 1 0))) (rej .inconsistent (slotOf b 7)),
                rejIf (b.is 3 0 && decide (b.nat 4 * c.plan.m * 64 < adcWorst b)) (noBudget c.e 0x15 0 (adcWorst b / 10) (b.nat 4 * c.plan.m * 64 / 10))],
    apply := fun _ m s => onAdc s (fun a => { a with cfg := some m.block }) }

/-- ADC_CALIBRATE (R535). -/
def adcCalibrateC : CSpec :=
  { busy := fun c _ => rejIf (adcCalibrating c.s) (rej .busy 0), apply := fun _ _ s => adcCalStart s }

/-- ADC_SEQUENCE_START (R536, R537): one trigger. A TICK trigger comes with the ticks that PERIOD divides; an EVENT or TICK trigger during a sequence or
a calibration is counted and ignored, and a CONTINUOUS sequence waits for the one before it. -/
def execAdcSequenceStart (s : State) : Host.Outcome State Fault Refusal :=
  match s.adc.cfg with
  | none => .next s
  | some b =>
    if !ticking s || (b.is 3 0 && s.time.tick64 % Nat.max 1 (b.nat 4) != 0) then .next s
    else if s.adc.seq.isSome || s.adc.cal == 1 then
      .next (if b.is 3 2 && s.adc.seq.isSome then s else onAdc s (fun a => { a with missed := (a.missed + 1) % 2 ^ 64 }))
    else .next (onAdc s (fun a => { a with down := false, seq := some { cfg := b, entry := 0, conv := 0, sum := 0, past := false } }))

/-- The corrected code of a raw value, before the clamp (R533). -/
def adcCode (gain : Nat) (offset raw : Int) : Int := rneShift (rneShift ((raw - offset) * gain) 15) 4

/-- Limit flags of a result over the LIMITS entries of its channel (R538). -/
def adcLimits (b : Block) (c v : Nat) (old : Bool × Bool) : Bool × Bool :=
  (b.rows 7).foldl (fun (a : Bool × Bool) (r : List Int) => if r.headD 0 = (c : Int) then (decide (r.getD 2 0 < (v : Int)), decide ((v : Int) < r.getD 1 0)) else a) old

/-- Write an entry's result (R538). -/
def adcWrite (s : State) (q : AdcSeq) (c : Nat) : State :=
  let v := (rneShift q.sum (q.cfg.nat 2)).toNat % 2 ^ 32
  let r := adcRes s c
  let lim := adcLimits q.cfg c v (r.hi, r.lo)
  let s := onRes s c (fun r => { r with ovrIn := q.past, hi := lim.1, lo := lim.2, stale := false, some := true, avg := q.cfg.nat 1, result := v,
                                        tsn := tsnOf s.time.tick64, time := houseCt64 s })
  if !(r.hi || r.lo) && (lim.1 || lim.2) then raise s 1291 (causeId 0x3F c) else s

/-- Take one conversion of the running sequence (R533 to R538). -/
def adcConvert (s : State) (q : AdcSeq) (raw : Int) : State :=
  let c := (q.cfg.nats 0).getD q.entry 0
  let code := adcCode s.adc.gain s.adc.offset raw
  let past := decide (code < 0) || decide (4095 < code)
  let cl := (clampInt 0 4095 code).toNat
  let s := if past then raise (onRes s c (fun r => { r with ovr := true })) 1289 (causeId 0x3F c) else s
  let q := { q with sum := q.sum + cl, past := q.past || past, conv := q.conv + 1 }
  if q.conv < q.cfg.nat 1 then onAdc s (fun a => { a with seq := some q })
  else
    let s := adcWrite s q c
    if q.entry + 1 < (q.cfg.rows 0).length then onAdc s (fun a => { a with seq := some { q with entry := q.entry + 1, conv := 0, sum := 0, past := false } })
    else
      let down := q.cfg.flag 6 && !(match s.adc.cfg with | some b => b.is 3 2 | none => false)
      let s := raiseEv (onAdc s (fun a => { a with seq := none, sequences := (a.sequences + 1) % 2 ^ 64, down := down })) 1290 1288
      if s.adc.calDue then adcCalBegin s else s

/-- ADC_CONVERSION_DONE: a conversion of the running sequence yields a raw value, a signed 17-bit number (R533). -/
def execAdcConversionDone (raw : Int) (s : State) : Host.Outcome State Fault Refusal :=
  if raw < -65536 ∨ 65535 < raw then .fault .noSuchUnit
  else match s.adc.seq with
    | none => .next s
    | some q => .next (adcConvert s q raw)

/-- ADC_CAL_DONE: the measured factors are admitted or refused (R535). -/
def execAdcCalDone (gain : Nat) (offset : Int) (s : State) : Host.Outcome State Fault Refusal :=
  if 65536 ≤ gain ∨ offset < -32768 ∨ 32767 < offset then .fault .noSuchUnit
  else if s.adc.cal != 1 then .next s
  else if 9 * 2 ^ 15 ≤ 10 * gain ∧ 10 * gain ≤ 11 * 2 ^ 15 ∧ offset.natAbs ≤ 2048 then
    let s := onAdc s (fun a => { a with gain := gain, offset := offset, cal := 0 })
    .next (raiseEv (ephWrite s 0x06 0 (leBytes 2 gain ++ leBytes 2 (ofSigned 16 offset))) 1288 1288)
  else
    let s := onAdc s (fun a => { a with cal := 2 })
    let old := (tget s.care.figs (5, 0)).getD { value := 0, stale := true, out := false, tsn := 0 }
    let s := onCare s (fun c => { c with figs := tset c.figs (5, 0) { old with out := true } })
    .next (raiseEv (if old.out then s else careEvent s 1325 0) 1288 1288)

/-- Slots of ADC_READ (R539). -/
def adcReadBlock : List Param := [pI "FIRST" 47, pN "COUNT" 1 48, pN "CLEAR" 0 1]
/-- One entry of ADC_READ (Table 19-3). -/
def adcEntry (s : State) (c : Nat) : List Byte :=
  let r := adcRes s c
  leBytes 1 c ++ leBytes 1 (b2n r.ovr + 2 * b2n r.ovrIn + 4 * b2n r.hi + 8 * b2n r.lo + 16 * b2n r.stale + 32 * b2n (!r.some)) ++ leBytes 2 r.avg ++
  leBytes 4 r.result ++ leBytes 4 r.tsn ++ leBytes 8 r.time ++ leBytes 4 0
/-- ADC_READ (R534, R539). -/
def adcReadAct : Act := fun c m =>
  let s := c.s
  let a := m.block.nat 0
  let n := m.block.nat 1
  if 48 < a + n then .error (rej .inconsistent 1)
  else
    let l := (List.range n).map (fun i => a + i)
    let body := leBytes 2 s.adc.gain ++ leBytes 2 (ofSigned 16 s.adc.offset) ++ leBytes 1 s.adc.cal ++ leBytes 3 0 ++ leBytes 8 s.adc.sequences ++ leBytes 8 s.adc.missed ++
      l.flatMap (adcEntry s)
    let s' := if m.block.nat 2 = 1 then onAdc s (fun x => { x with results := x.results.map (fun (e : Nat × AdcRes) => if l.contains e.1 then (e.1, { e.2 with ovr := false }) else e) }) else s
    .ok { s := s', body := some body }

/-! ### Control DACs (R540 to R547) -/

/-- Block of DAC_CONFIG (Table 19-4). -/
def dacConfigBlock : List Param :=
  [pI "DAC" 7, pF "ENABLE" 0, pWd "GAIN" ["X1", "X2"] 0, pD "PACE_N" 1 6400 1, pD "PACE_T" 1 65535 1, pWd "MODE" ["ONESHOT", "LOOP"] 0, pF "CLEAR_SC" 0]
/-- DAC_CONFIG record of a DAC. -/
def Plan.dac (p : Plan) (n : Nat) : Option Block := p.find .dacConfig devDome n
/-- First parameter that breaks the pacer rules under a tick multiple (R541). -/
def dacPaceBad (b : Block) (m : Nat) : Option Nat :=
  let n := b.nat 3
  if 1 < n ∧ 1 < b.nat 4 then some 4
  else if 10 * m % Nat.max 1 n ≠ 0 then some 3
  else if n ≠ 1 ∧ 10 * m / Nat.max 1 n < 1563 then some 3 else none
/-- Is a DAC under calibration (R525, R546)? -/
def dacCal (s : State) (n : Nat) : Bool := s.care.cals.contains (3, n)
/-- The Sextant output to which a DAC is bound (R544). -/
def Plan.dacBound (p : Plan) (n : Nat) : Bool := (p.objs .sextantAttach).any (fun e => (List.range 4).any (fun j => e.2.2.is (30 + j) 2 && e.2.2.is (34 + j) n))
/-- A DAC_CONFIG takes effect (R545, R546). -/
def dacApply (old : Option Block) (b : Block) (s : State) : State :=
  let n := b.nat 0
  let s := onDac s n (fun r => if b.flag 6 && !r.scNow then { r with sc := false } else r)
  if !b.flag 1 then dacFlush s n
  else onDac s n (fun r =>
    let was := match old with | some o => o.is 5 1 | none => false
    if b.is 5 1 then (if was then { r with ending := false } else { r with pos := 0, ending := false })
    else if was && !r.queue.isEmpty then { r with ending := true } else r)

/-- Status of a DAC after its header (Table 19-5). -/
def dacStatus (s : State) (n : Nat) : List Byte :=
  let r := dacRun s n
  let b := (s.plan.dac n).getD []
  leBytes 1 n ++ leBytes 1 (b2n (b.flag 1) + 2 * b2n r.playing + 4 * b2n (b.is 5 1) + 8 * b2n r.sc + 16 * b2n r.scNow + 32 * b2n r.stale + 64 * b2n (s.plan.dacBound n)) ++
  leBytes 2 r.code ++ leBytes 2 r.queue.length ++ leBytes 2 0 ++ leBytes 4 r.qDrop ++ leBytes 4 r.played ++ leBytes 8 r.emptyTime

/-- DAC_CONFIG (R541, R546, R547). -/
def dacConfigC : CSpec :=
  { edit := fun _ m p => p.put .dacConfig devDome (m.block.nat 0) (m.block.put 6 (.num 0)),
    verify := fun c _ m => (dacPaceBad m.block c.plan.m).bind inconsistent,
    body := fun c m => some (dacStatus c.s (m.block.nat 0)),
    apply := fun old m s => dacApply (old.dac (m.block.nat 0)) m.block s }

/-- Slots of DAC_QUEUE: DAC and START (R543). -/
def dacQueueBlock : List Param := [pI "DAC" 7, pNW "START" 0 (2 ^ 32 - 1) ["NOW"]]

/-- DAC_QUEUE (R543, R544). Entries go behind those that play, or wait for START. -/
def dacQueueAct : Act := fun c m =>
  let s := c.s
  let n := m.block.nat 0
  let entries := (wordsOf m.data).map (fun (w : Nat) => (w % 65536, w / 65536 % 65536))
  let r := dacRun s n
  let start : Option Int := match m.block.at 1 with | .num t => some (tickOfTsn s.time.tick64 t.toNat) | _ => none
  let mine := match s.plan.dacDome n with | some d => m.dome == d | none => m.byOwner
  let used := r.queue.length + (r.waiting.map (fun (w : DacReq) => w.entries.length)).foldl (· + ·) 0
  let loop := match s.plan.dac n with | some b => b.is 5 1 | none => false
  if m.data.length % 4 ≠ 0 then .error (rej .format 2)
  else if entries.any (fun e => e.2 == 0) then .error (rej .format 2)
  else if !mine then .error (rej .denied 0)
  else if s.plan.dacBound n then .error (rej .busy 0)
  else if 256 < used + entries.length then .error (rej .busy 0)
  else if (match start with | some t => decide (t < s.time.tick64) | none => false) then .error (rej .timeout 1)
  else
    let s := if !loop && !r.queue.isEmpty then onDac s n (fun r => { r with queue := r.queue ++ entries })
             else onDac s n (fun r => { r with waiting := r.waiting ++ [{ start := start.map Int.toNat, loop := loop, entries := entries }] })
    .ok { s := s, result := entries.length }

/-- Requests whose START has come join the queue, or replace the loop (R543). -/
def dacTake (tick : Nat) (loop : Bool) (r : DacRun) : DacRun :=
  r.waiting.foldl (fun (r : DacRun) (w : DacReq) =>
    if (match w.start with | some t => decide (tick < t) | none => false) then r
    else if loop && w.loop then { r with queue := w.entries, pos := 0, left := 0, waiting := r.waiting.erase w }
    else { r with queue := r.queue ++ w.entries, waiting := r.waiting.erase w }) r

/-- The entry at the queue's position becomes the output (R542). -/
def dacLoad (r : DacRun) : DacRun :=
  match r.queue[r.pos]? with
  | some (code, dwell) => { r with code := code, left := dwell, playing := true }
  | none => { r with playing := false, left := 0 }

/-- One step boundary of a DAC (R542): the queue advances; true when it has run empty. -/
def dacStep (loop : Bool) (house : Nat) (r : DacRun) : DacRun × Bool :=
  if r.queue.isEmpty then ({ r with playing := false, left := 0 }, false)
  else if r.left = 0 then (dacLoad r, false)
  else if 1 < r.left then ({ r with left := r.left - 1 }, false)
  else
    let r := { r with played := (r.played + 1) % 2 ^ 32 }
    let last := decide (r.queue.length ≤ r.pos + 1)
    let past := if loop then false else if r.ending then last else decide (r.queue.length ≤ 1)
    if past then ({ r with queue := [], pos := 0, left := 0, playing := false, ending := false, emptyTime := house }, true)
    else if loop || r.ending then (dacLoad { r with pos := if last then 0 else r.pos + 1 }, false)
    else (dacLoad { r with queue := r.queue.drop 1 }, false)

/-- DAC_PACER_STEP: a step boundary of an enabled DAC. With PACE_T above 1 only the ticks that PACE_T divides hold one (R541). A DAC under calibration
holds its code (R546). -/
def execDacPacerStep (dac : Nat) (s : State) : Host.Outcome State Fault Refusal :=
  if 8 ≤ dac then .fault .noSuchUnit
  else match s.plan.dac dac with
    | none => .next s
    | some b =>
      if !ticking s || !b.flag 1 || dacCal s dac || s.time.tick64 % Nat.max 1 (b.nat 4) != 0 then .next s
      else
        let r := dacTake s.time.tick64 (b.is 5 1) (dacRun s dac)
        let e := dacStep (b.is 5 1) (houseCt64 s) r
        let s := onDac s dac (fun _ => { e.1 with stale := if e.1.playing then false else e.1.stale })
        .next (if e.2 then raiseEv s (1272 + dac) 1272 else s)

/-- DAC_SHORT_DETECT: the current limit has held for 1 µs, or has ended (R545). -/
def execDacShortDetect (dac : Nat) (on : Bool) (s : State) : Host.Outcome State Fault Refusal :=
  if 8 ≤ dac then .fault .noSuchUnit
  else if !on then .next (onDac s dac (fun r => { r with scNow := false }))
  else
    let was := (dacRun s dac).sc
    let s := onDac s dac (fun r => { r with scNow := true, sc := true })
    .next (if was then s else raiseEv s (1280 + dac) 1272)

end Sys2Proof.Machine
end

