-- ==== Sys2Proof/Machine/Eyepiece.lean ====
section
/-! DEFINITION. Eyepiece.lean: the Eyepiece display (R548 to R557). -/
namespace Sys2Proof.Machine

/-- Change the Eyepiece. -/
def onEye (s : State) (f : EyeSt → EyeSt) : State := { s with eye := f s.eye }
/-- Block of EYEPIECE_CONFIG (Table 19-6). -/
def eyepieceBlock : List Param :=
  let win : List Param :=
    let w := fun (i : Nat) (p : Param) => p.when i ((List.range 16).map (fun (n : Nat) => PV.num (n : Int)))
    (List.range 4).flatMap (fun k =>
      let i := 17 + 10 * k
      [pNWd "PLATE" 0 15 ["NONE"] 0, w i (pN "X" 0 3839), w i (pN "Y" 0 2159), w i (pN "COL0" 0 65535), w i (pN "NCOL" 1 65536), w i (pN "LVL0" 0 65535), w i (pN "NLVL" 1 65536),
       w i (pN "XS" 1 16), w i (pN "YS" 1 16), w i (pN "TABLE" 0 3)])
  [pF "ENABLE" 0, ⟨"LANES", .set [1, 2, 4] [], .val (.num 4), []⟩, pWd "RATE" ["RBR", "HBR", "HBR2", "HBR3"] 3, ⟨"BPC", .set [8, 10] [], .val (.num 10), []⟩,
   pN "PIXEL_KHZ" 25000 600000, pN "H_ACTIVE" 640 3840, pN "H_FRONT" 1 4095, pN "H_SYNC" 1 4095, pN "H_BACK" 1 4095, pN "V_ACTIVE" 480 2160, pN "V_FRONT" 1 1023,
   pN "V_SYNC" 1 1023, pN "V_BACK" 1 1023, pWd "HPOL" ["POS", "NEG"] 0, pWd "VPOL" ["POS", "NEG"] 0, ⟨"BPP", .set [1, 2, 4, 8] [], .val (.num 8), []⟩, pD "PAL_BASE" 0 255 0] ++ win

/-- The configuration of the Eyepiece. -/
def Plan.eyepiece (p : Plan) : Option Block := p.find .eyepieceConfig devDome 0
/-- Link rate of a lane in kbit/s (R548). -/
def eyeRate (b : Block) : Nat := match b.word? 2 with | some 0 => 1620000 | some 1 => 2700000 | some 2 => 5400000 | _ => 8100000
/-- Bytes of a surface line (R549). -/
def eyeStride (b : Block) : Nat := ceilDiv (b.nat 5 * b.nat 15) 512 * 64
/-- Windows of a configuration: number, Plate, and the position of its parameters. -/
def eyeWindows (b : Block) : List (Nat × Nat × Nat) :=
  (List.range 4).filterMap (fun k => match b.at (17 + 10 * k) with | .num q => some (k, q.toNat, 17 + 10 * k) | _ => none)
/-- Surface pages and the status page (R549). -/
def eyeSurface : ObjKey := ⟨.eyepieceConfig, devDome, 0, 0⟩
def eyeStatus : ObjKey := ⟨.eyepieceConfig, devDome, 0, 1⟩
/-- Do two configurations differ in geometry or BPP, so that the surface is a new one (R549)? -/
def eyeGeometry (o n : Block) : Bool := [5, 9, 15].any (fun i => o.at i != n.at i)
/-- Do two configurations differ so that video stops and the link trains again (R553)? -/
def eyeRestart (o n : Block) : Bool := (List.range 16).any (fun i => o.at i != n.at i)

/-- First parameter that breaks R548, R549 or R551. -/
def Plan.eyeBad (p : Plan) (b : Block) : Option Nat :=
  if 8 * b.nat 1 * eyeRate b < 10 * (b.nat 4 * 3 * b.nat 3) then some 4
  else if b.nat 16 % 2 ^ b.nat 15 ≠ 0 then some 16
  else (eyeWindows b).findSome? (fun w =>
    let i := w.2.2
    match p.plate 0 w.2.1 with
    | none => some i
    | some pb =>
      if !(destAt pb 16 matches .hbm _) then some i
      else if b.nat 5 < b.nat (i + 1) + b.nat (i + 4) * b.nat (i + 7) then some (i + 1)
      else if b.nat 9 < b.nat (i + 2) + b.nat (i + 6) * b.nat (i + 8) then some (i + 2)
      else if plateCols pb < b.nat (i + 3) + b.nat (i + 4) then some (i + 3)
      else if pb.nat 6 < b.nat (i + 5) + b.nat (i + 6) then some (i + 5) else none)

/-- BAR2 offsets of the first surface page and of the status page. -/
def eyeOffsets (s : State) : List Byte :=
  let off := fun (k : ObjKey) => (((pagesOf s k).head?.map (fun p => p.bar2)).getD 0) * 2 ^ 21
  leBytes 8 (off eyeSurface) ++ leBytes 8 (off eyeStatus)
/-- A change of geometry or BPP gives up the old pages, so that zeroed ones are allocated (R549). -/
def eyeDropPages (s : State) (o : Option Block) (n : Block) : State :=
  match o with
  | some b => if eyeGeometry b n then freePages (freePages s eyeSurface) eyeStatus else s
  | none => s

/-- An EYEPIECE_CONFIG takes effect (R549, R553). -/
def eyeApply (o : Option Block) (n : Block) (s : State) : State :=
  let s := eyeDropPages s o n
  let restart := match o with | some b => eyeRestart b n | none => true
  if restart then onEye s (fun e => { e with video := false, trained := false, training := n.flag 0 && e.hpd, dirty := true,
                                             frames := if n.flag 0 && !(match o with | some b => b.flag 0 | none => false) then 0 else e.frames })
  else onEye s (fun e => { e with dirty := true })

/-- EYEPIECE_CONFIG (R548, R549, R551, R553). Its response names the pages that the configuration gives the Eyepiece. -/
def eyepieceC : CSpec :=
  { names := fun c m => ((eyeWindows m.block).find? (fun w => (c.plan.plate 0 w.2.1).isNone)).bind (fun w => noSuch w.2.2),
    edit := fun _ m p => p.put .eyepieceConfig devDome 0 m.block,
    verify := fun c _ m => (c.plan.eyeBad m.block).bind inconsistent,
    body := fun c m => some (eyeOffsets (syncPages { eyeDropPages c.s c.s.plan.eyepiece m.block with plan := c.plan })),
    apply := fun old m s => eyeApply old.eyepiece m.block s }

/-! ### Palette and tables (R401, R550, R551) -/

/-- Entries of a raw 4-byte load, or FORMAT: OBJECT in slot 0, the first entry in slot 1, COUNT in slot 2. -/
def eyeEntries (m : Cmd) (lo hi : Nat) : Except Reject (List Nat) :=
  let a := m.block.nat 1
  let n := m.block.nat 2
  if a < lo then .error (rej .format 1)
  else if m.data.length ≠ 4 * n ∨ hi < a + n then .error (rej .format 2)
  else .ok (wordsOf m.data)
/-- Block of PALETTE_LOAD and TRANSFER_LOAD. -/
def paletteBlock : List Param := loadBlock 0
def transferBlock : List Param := loadBlock 3
/-- Put entries into a table from a position on. -/
def overlay (l : List Nat) (a : Nat) (v : List Nat) : List Nat := l.take a ++ v ++ l.drop (a + v.length)
/-- PALETTE_LOAD (R550, R553). -/
def paletteLoadAct : Act := fun c m =>
  match eyeEntries m 0 256 with
  | .error r => .error r
  | .ok l => .ok { s := onEye c.s (fun e => { e with palette := overlay e.palette (m.block.nat 1) (l.map (· % 2 ^ 30)), dirty := true }) }
/-- TRANSFER_LOAD: entries are numbered 1 to 255 (R551, R553). -/
def transferLoadAct : Act := fun c m =>
  match eyeEntries m 1 256 with
  | .error r => .error r
  | .ok l => .ok { s := onEye c.s (fun e => { e with tables := e.tables.modify (m.block.nat 0) (fun t => overlay t (m.block.nat 1 - 1) l), dirty := true }) }

/-! ### Rectangles (R554) -/

/-- Block of RECT_CONFIG. -/
def rectBlock : List Param :=
  [pN "RECT" 0 7, pF "ENABLE" 0, pN "X" 0 3839, pN "Y" 0 2159, pN "W" 1 3840, pN "H" 1 2160, pN "EXPECTED" 0 (2 ^ 32 - 1)]
/-- RECT_CONFIG. -/
def rectC : CSpec :=
  { edit := fun _ m p => p.put .rectConfig devDome (m.block.nat 0) m.block,
    verify := fun c _ m =>
      let b := m.block
      match c.plan.eyepiece with
      | none => inconsistent 2
      | some e => firstRej [rejIf (decide (e.nat 5 < b.nat 2 + b.nat 4)) (rej .inconsistent 2), rejIf (decide (e.nat 9 < b.nat 3 + b.nat 5)) (rej .inconsistent 3)],
    apply := fun old m s =>
      let b := m.block
      match old.find .rectConfig devDome (b.nat 0) with
      | some o => if [1, 2, 3, 4, 5].any (fun i => o.at i != b.at i) then onEye s (fun e => { e with dirty := true }) else s
      | none => onEye s (fun e => { e with dirty := true }) }

/-! ### Pixels (R550 to R552) -/

/-- Count of a cell that a window shows: 0 where it latched no snapshot (R552). -/
def eyeCell (s : State) (b : Block) (k col lvl : Nat) : Nat :=
  let q := b.nat (17 + 10 * k)
  match (s.eye.latched.getD k none), s.plan.plate 0 q, (plateRun s 0 q).ring with
  | some x, some pb, some g => ofLe ((objGet s ⟨.plateDefine, 0, q, 0⟩ (x.1 * g.slotBytes + 96 + 4 * (lvl * plateCols pb + col)) 4).map (fun e => e.1))
  | _, _, _ => 0
/-- Entries of a transfer table that are at most a count. -/
def shade (t : List Nat) (c : Nat) : Nat := (t.filter (fun x => decide (x ≤ c))).length
/-- The window that shows at a pixel: the highest-numbered one that covers it. -/
def eyeWindowAt (b : Block) (x y : Nat) : Option (Nat × Nat) :=
  ((eyeWindows b).reverse.find? (fun w =>
    let i := w.2.2
    decide (b.nat (i + 1) ≤ x) && decide (x < b.nat (i + 1) + b.nat (i + 4) * b.nat (i + 7)) &&
    decide (b.nat (i + 2) ≤ y) && decide (y < b.nat (i + 2) + b.nat (i + 6) * b.nat (i + 8)))).map (fun w => (w.1, w.2.2))
/-- Palette index of a pixel. -/
def eyeIndex (s : State) (b : Block) (x y : Nat) : Nat :=
  match eyeWindowAt b x y with
  | some (k, i) =>
    let col := b.nat (i + 3) + (x - b.nat (i + 1)) / Nat.max 1 (b.nat (i + 7))
    let lvl := b.nat (i + 5) + b.nat (i + 6) - 1 - (y - b.nat (i + 2)) / Nat.max 1 (b.nat (i + 8))
    shade (s.eye.tables.getD (b.nat (i + 9)) []) (eyeCell s b k col lvl)
  | none =>
    let bpp := b.nat 15
    let byte := match objAddr s eyeSurface (y * eyeStride b + x * bpp / 8) with | some a => (memGet s.hbm.mem a).toNat | none => 0
    (byte / 2 ^ (x * bpp % 8) % 2 ^ bpp + b.nat 16) % 256
/-- CRC of a rectangle's pixels in raster order (R554). -/
def rectCrc (s : State) (b r : Block) : Nat :=
  crc32 ((List.range (r.nat 5)).flatMap (fun j => (List.range (r.nat 4)).flatMap (fun i => leBytes 4 (s.eye.palette.getD (eyeIndex s b (r.nat 2 + i) (r.nat 3 + j)) 0))))

/-! ### Frames (R552 to R555) -/

/-- Bytes 0 to 127 of the status page (Table 19-7). -/
def eyeStatusBytes (s : State) : List Byte :=
  let b := (s.plan.eyepiece).getD []
  leBytes 8 s.eye.frames ++ leBytes 1 (b2n s.eye.hpd) ++ leBytes 1 (b2n s.eye.trained) ++ leBytes 1 (b.nat 1) ++ leBytes 1 ((b.word? 2).getD 0) ++ leBytes 4 s.eye.underrun ++
  leBytes 4 s.eye.trainFail ++ leBytes 12 0 ++ s.eye.rects.flatMap (fun r => leBytes 4 r.1 ++ leBytes 4 r.2) ++ leBytes 32 0

/-- FRAME_START: the first active line of a frame. Video resumes here after training, and each window latches the newest written snapshot (R552, R557). -/
def execFrameStart (s : State) : Host.Outcome State Fault Refusal :=
  match s.plan.eyepiece with
  | none => .next s
  | some b =>
    if !b.flag 0 || !s.eye.trained then .next s
    else
      let latch := (List.range 4).map (fun k =>
        match b.at (17 + 10 * k) with
        | .num q => (match s.plan.plate 0 q.toNat, (plateRun s 0 q.toNat).ring with
          | some _, some g => if g.written = 0 then none else some ((g.written - 1) % Nat.max 1 g.slots, (plateRun s 0 q.toNat).snapSeq)
          | _, _ => none)
        | _ => none)
      .next (raiseEv (onEye s (fun e => { e with video := true, latched := latch, dirty := false })) 1304 1304)

/-- Compare one rectangle at a frame's end (R554). The CRC of a frame whose content changed while it was scanned is open (R553). -/
def rectEnd (b : Block) (s : State) (k : Nat) : State :=
  match s.plan.find .rectConfig devDome k with
  | none => s
  | some r =>
    if !r.flag 1 then s
    else
      let (crc, s) := if s.eye.dirty then (let d := drawNat s; (d.1 % 2 ^ 32, d.2)) else (rectCrc s b r, s)
      let old := (s.eye.rects.getD k (0, 0)).2
      if crc = r.nat 6 then onEye s (fun e => { e with rects := e.rects.set k (crc, old) })
      else raise (onEye s (fun e => { e with rects := e.rects.set k (crc, (old + 1) % 2 ^ 32) })) 1307 (causeId 0x3F k)

/-- FRAME_END (R554, R555). -/
def execFrameEnd (s : State) : Host.Outcome State Fault Refusal :=
  match s.plan.eyepiece with
  | none => .next s
  | some b =>
    if !s.eye.video then .next s
    else
      let s := (List.range 8).foldl (rectEnd b) s
      let s := onEye s (fun e => { e with frames := (e.frames + 1) % 2 ^ 64 })
      .next (objPut s eyeStatus 0 (eyeStatusBytes s))

/-! ### The link (R557) -/

/-- Is video to be sent? -/
def eyeEnabled (s : State) : Bool := match s.plan.eyepiece with | some b => b.flag 0 | none => false

/-- DP_HPD_CHANGE: the level of DP_HPD and, on an assertion, the EDID read from the sink. -/
def execDpHpdChange (level : Bool) (edid : List Byte) (s : State) : Host.Outcome State Fault Refusal :=
  if 512 < edid.length then .fault .noSuchUnit
  else if s.eye.hpd == level then .next s
  else
    let s := raiseEv s 1305 1304
    if level then
      let on := eyeEnabled s
      let s := onEye s (fun e => { e with hpd := true, edid := edid, training := on })
      .next (objPut s eyeStatus 128 (padTo 0 512 edid))
    else .next (onEye s (fun e => { e with hpd := false, trained := false, training := false, video := false }))

/-- IRQ_HPD: the link status is checked, and a lost link is trained again. -/
def execIrqHpd (lost : Bool) (s : State) : Host.Outcome State Fault Refusal :=
  if !s.eye.hpd || !lost then .next s
  else
    let on := eyeEnabled s
    .next (onEye s (fun e => { e with trained := false, video := false, training := on }))

/-- DP_TRAIN_DONE: a training in progress ends. -/
def execDpTrainDone (ok : Bool) (s : State) : Host.Outcome State Fault Refusal :=
  if !s.eye.training then .next s
  else if ok then .next (onEye s (fun e => { e with training := false, trained := true }))
  else .next (raiseEv (onEye s (fun e => { e with training := false, trained := false, trainFail := (e.trainFail + 1) % 2 ^ 32 })) 1306 1304)

/-- DP_TRAIN_RETRY: a failed training is tried again while DP_HPD stays high. -/
def execDpTrainRetry (s : State) : Host.Outcome State Fault Refusal :=
  if s.eye.hpd && eyeEnabled s && !s.eye.trained && !s.eye.training then .next (onEye s (fun e => { e with training := true })) else .next s

end Sys2Proof.Machine
end

