-- ==== Sys2Proof/Machine/Crypto.lean ====
section
/-! DEFINITION. Crypto.lean: SHA-384 and ECDSA P-384 verification, which R567 and R571 take from FIPS 180-4 and FIPS 186-5
(PRESUMED: their constants and steps stand in those standards and not in the spec; log entry 40). -/
namespace Sys2Proof.Machine

/-! ### SHA-384 -/

/-- Is a number prime? -/
def isPrime (n : Nat) : Bool := decide (2 ≤ n) && (List.range n).all (fun d => decide (d < 2) || n % d != 0)
/-- The first eighty primes. -/
def primes80 : List Nat := ((List.range 410).filter isPrime).take 80
/-- Integer cube root by bits. -/
def icbrtAux : Nat → Nat → Nat → Nat
  | 0, _, r => r
  | k + 1, n, r => let c := r + 2 ^ k
                   if c * c * c ≤ n then icbrtAux k n c else icbrtAux k n r
/-- Round constants: 64 fractional bits of the cube roots of the first eighty primes. -/
def shaK : List (BitVec 64) := primes80.map (fun p => BitVec.ofNat 64 (icbrtAux 68 (p * 2 ^ 192) 0))
/-- Initial hash value of SHA-384: 64 fractional bits of the square roots of the ninth to sixteenth primes. -/
def shaH : List (BitVec 64) := ((primes80.drop 8).take 8).map (fun p => BitVec.ofNat 64 (isqrt (p * 2 ^ 128)))

/-- Message schedule: the words so far, newest first, extended by `n` words. -/
def shaSchedule : Nat → List (BitVec 64) → List (BitVec 64)
  | 0, w => w
  | n + 1, w =>
    let a := w.getD 1 0
    let b := w.getD 14 0
    let s1 := a.rotateRight 19 ^^^ a.rotateRight 61 ^^^ (a >>> 6)
    let s0 := b.rotateRight 1 ^^^ b.rotateRight 8 ^^^ (b >>> 7)
    shaSchedule n ((s1 + w.getD 6 0 + s0 + w.getD 15 0) :: w)

/-- One round on the eight working variables. -/
def shaRound (v : List (BitVec 64)) (kw : BitVec 64 × BitVec 64) : List (BitVec 64) :=
  let a := v.getD 0 0
  let b := v.getD 1 0
  let c := v.getD 2 0
  let e := v.getD 4 0
  let t1 := v.getD 7 0 + (e.rotateRight 14 ^^^ e.rotateRight 18 ^^^ e.rotateRight 41) + ((e &&& v.getD 5 0) ^^^ (~~~e &&& v.getD 6 0)) + kw.1 + kw.2
  let t2 := (a.rotateRight 28 ^^^ a.rotateRight 34 ^^^ a.rotateRight 39) + ((a &&& b) ^^^ (a &&& c) ^^^ (b &&& c))
  [t1 + t2, a, b, c, v.getD 3 0 + t1, e, v.getD 5 0, v.getD 6 0]

/-- The 64-bit big-endian words of a byte list. -/
def beWords : Nat → List Byte → List (BitVec 64)
  | 0, _ => []
  | n + 1, l => BitVec.ofNat 64 (ofBe (l.take 8)) :: beWords n (l.drop 8)

/-- Hash one block of 128 bytes. -/
def shaBlock (h : List (BitVec 64)) (blk : List Byte) : List (BitVec 64) :=
  let w := (shaSchedule 64 (beWords 16 blk).reverse).reverse
  let v := (shaK.zip w).foldl shaRound h
  List.zipWith (· + ·) h v

/-- Hash `n` blocks. -/
def shaBlocks : Nat → List (BitVec 64) → List Byte → List (BitVec 64)
  | 0, h, _ => h
  | n + 1, h, l => shaBlocks n (shaBlock h (l.take 128)) (l.drop 128)

/-- SHA-384 of a byte list, as 48 bytes. -/
def sha384 (m : List Byte) : List Byte :=
  let n := m.length
  let zeros := (239 - n % 128) % 128
  let p := m ++ [BitVec.ofNat 8 0x80] ++ List.replicate zeros 0 ++ beBytes 16 (8 * n)
  ((shaBlocks (p.length / 128) shaH p).take 6).flatMap (fun w => beBytes 8 w.toNat)

/-! ### ECDSA over P-384 -/

/-- Field prime, curve coefficient b, order and base point of P-384. -/
def ecP : Nat := 2 ^ 384 - 2 ^ 128 - 2 ^ 96 + 2 ^ 32 - 1
def ecB : Nat := 0xb3312fa7e23ee7e4988e056be3f82d19181d9c6efe8141120314088f5013875ac656398d8a2ed19d2a85c8edd3ec2aef
def ecN : Nat := 0xffffffffffffffffffffffffffffffffffffffffffffffffc7634d81f4372ddf581a0db248b0a77aecec196accc52973
def ecG : Nat × Nat :=
  (0xaa87ca22be8b05378eb1c71ef320ad746e1d3b628ba79b9859f741e082542a385502f25dbf55296c3a545e3872760ab7,
   0x3617de4a96262c6f5d9e98bf9292dc29f8f41dbd289a147ce9da3113b5f0b8c00a60b1ce1d7e819d7a431d7c90ea0e5f)

/-- Power modulo `m` by the low `k` bits of an exponent. -/
def powMod : Nat → Nat → Nat → Nat → Nat
  | 0, _, _, m => 1 % m
  | k + 1, b, e, m => let r := powMod k (b * b % m) (e / 2) m
                      if e % 2 = 1 then b * r % m else r
/-- Inverse modulo a prime. -/
def invMod (a m : Nat) : Nat := powMod 384 (a % m) (m - 2) m

/-- Sum of two points; `none` is the point at infinity. -/
def ecAdd : Option (Nat × Nat) → Option (Nat × Nat) → Option (Nat × Nat)
  | none, q => q
  | p, none => p
  | some (x, y), some (u, v) =>
    if x = u ∧ (y + v) % ecP = 0 then none
    else
      let l := if x = u then (3 * x * x + (ecP - 3)) * invMod (2 * y) ecP % ecP else (v + (ecP - y)) * invMod (u + (ecP - x)) ecP % ecP
      let z := (l * l + 2 * ecP - x - u) % ecP
      some (z, (l * (x + (ecP - z)) + (ecP - y)) % ecP)

/-- Multiple of a point by the low `k` bits of a number. -/
def ecMul : Nat → Nat → Option (Nat × Nat) → Option (Nat × Nat)
  | 0, _, _ => none
  | k + 1, n, p => let r := ecMul k (n / 2) (ecAdd p p)
                   if n % 2 = 1 then ecAdd p r else r

/-- Does an uncompressed SEC1 point of 97 bytes lie on the curve? -/
def ecPoint (l : List Byte) : Option (Nat × Nat) :=
  let x := ofBe (sliceL l 1 48)
  let y := ofBe (sliceL l 49 48)
  if l.length = 97 ∧ l.head? = some 4 ∧ x < ecP ∧ y < ecP ∧ y * y % ecP = (x * x * x + (ecP - 3) * x + ecB) % ecP then some (x, y) else none

/-- Does a signature, r and s of 48 big-endian bytes each, verify for a message under a public key (FIPS 186-5 with SHA-384)? -/
def ecdsaOk (key msg sig : List Byte) : Bool :=
  let r := ofBe (sliceL sig 0 48)
  let t := ofBe (sliceL sig 48 48)
  match ecPoint key with
  | none => false
  | some q =>
    if r = 0 ∨ ecN ≤ r ∨ t = 0 ∨ ecN ≤ t then false
    else
      let w := invMod t ecN
      let e := ofBe (sha384 msg)
      match ecAdd (ecMul 384 (e * w % ecN) (some ecG)) (ecMul 384 (r * w % ecN) (some q)) with
      | none => false
      | some (x, _) => x % ecN == r

end Sys2Proof.Machine
end

