-- ==== Sys2Proof/Machine/Image.lean ====
section
/-! DEFINITION. Image.lean: image slots, the Almanac, verification, boot control records and RECOVERY (R558 to R571). -/
namespace Sys2Proof.Machine

/-! ### The boot flash (R558, R559) -/

/-- Did the flash pass identification, with 512 Mbit at least? -/
def flashOk (s : State) : Bool := decide (512 ≤ s.boot.flash)
/-- Slot size S in bytes. -/
def slotBytes (s : State) : Nat := if !flashOk s then 0 else if s.boot.flash < 1024 then 16777216 else 50331648
/-- The image slot of a number. -/
def slotImg (s : State) (k : Nat) : SlotImg := s.boot.slots.getD k { factory := false, folios := [] }
/-- State of an image slot. -/
def slotSt (s : State) (k : Nat) : SlotSt := match s.boot.ctl with | some r => r.states.getD k .empty | none => .empty

/-- Bytes of a sector; an erased one reads as ones. -/
def sectorBytes (g : SlotImg) (f : Nat) : List Byte := tgetD g.folios f (List.replicate 65536 (BitVec.ofNat 8 0xFF))
/-- Bytes of an image slot from an offset on. -/
def imgBytes (g : SlotImg) (off len : Nat) : List Byte :=
  sliceL ((List.range (len / 65536 + 2)).flatMap (fun i => sectorBytes g (off / 65536 + i))) (off % 65536) len

/-! ### The Almanac (R569, R570) -/

/-- A part entry (Table 20-7). -/
structure PartEntry where
  typ : Nat
  index : Nat
  off : Nat
  len : Nat
  digest : List Byte
  blank : Bool
  deriving DecidableEq, Repr

/-- A manifest (Table 20-6). -/
structure Almanac where
  head : List Byte
  parts : List PartEntry
  deriving DecidableEq, Repr

/-- Are all bytes of a field 0? -/
def zeroField (l : List Byte) (start len : Nat) : Bool := (sliceL l start len).all (fun b => b == 0)
/-- Part entry k of a manifest's bytes. -/
def partEntry (l : List Byte) (k : Nat) : PartEntry :=
  let o := 192 + 80 * k
  { typ := leField l o 2, index := leField l (o + 2) 2, off := leField l (o + 8) 8, len := leField l (o + 16) 8, digest := sliceL l (o + 24) 48,
    blank := zeroField l (o + 4) 4 && zeroField l (o + 76) 4 }
/-- The manifest at the start of a slot. -/
def almanac (g : SlotImg) : Almanac :=
  let l := imgBytes g 0 4096
  let n := Nat.min 32 (leField l 6 2)
  { head := l, parts := (List.range n).map (partEntry l) }

def Almanac.release (a : Almanac) : Nat := leField a.head 12 4
def Almanac.svn (a : Almanac) : Nat := leField a.head 24 2
def Almanac.svnFloor (a : Almanac) : Nat := leField a.head 26 2
def Almanac.setFormat (a : Almanac) : Nat := leField a.head 28 4
def Almanac.setFrom (a : Almanac) : Nat := leField a.head 32 4
def Almanac.handoverOk (a : Almanac) : Bool := (leField a.head 36 4).testBit 0
def Almanac.imageBytes (a : Almanac) : Nat := leField a.head 40 8
def Almanac.keyIndex (a : Almanac) : Nat := leField a.head 48 1
def Almanac.revoke (a : Almanac) : Nat := leField a.head 49 1 % 16

/-- Digest of the part of a type other than 2. -/
def partDigest (g : SlotImg) (typ : Nat) : List Byte :=
  if g.factory then Config.factoryDigest typ else (((almanac g).parts.find? (fun p => p.typ == typ)).map (fun p => p.digest)).getD []
/-- Digests of the SEXTANT_LIB parts (R571). -/
def libDigests (g : SlotImg) : List (List Byte) :=
  if g.factory then Config.factoryLibs else ((almanac g).parts.filter (fun p => p.typ == 2)).map (fun p => p.digest)
/-- Release, settings format, oldest format converted from and HANDOVER_OK of a slot's image; release 1.2 writes format 2. -/
def imgRelease (g : SlotImg) : Nat := if g.factory then 0x00010200 else (almanac g).release
def imgFormat (g : SlotImg) : Nat := if g.factory then 2 else (almanac g).setFormat
def imgFrom (g : SlotImg) : Nat := if g.factory then Config.factoryFrom else (almanac g).setFrom
def imgHandover (g : SlotImg) : Bool := if g.factory then Config.factoryHandover else (almanac g).handoverOk
def imgSvn (g : SlotImg) : Nat := if g.factory then Config.factorySvn else (almanac g).svn

/-! ### Verification (R567, R568) -/

/-- Structure: MAGIC, VERSION, PARTS, reserved fields and IMAGE_BYTES (check 1). -/
def Almanac.formOk (a : Almanac) (size : Nat) : Bool :=
  let h := a.head
  leField h 0 4 == 0x414C4D31 && leField h 4 2 == 1 && decide (1 ≤ leField h 6 2) && decide (leField h 6 2 ≤ 32) &&
  leField h 36 4 / 2 == 0 && leField h 49 1 / 16 == 0 && zeroField h 50 14 && zeroField h 161 31 && decide (4096 ≤ a.imageBytes) && decide (a.imageBytes ≤ size)
/-- Parts as R570 requires (check 7). -/
def Almanac.layoutOk (a : Almanac) : Bool :=
  let ps := a.parts
  let libs := (ps.filter (fun p => p.typ == 2)).map (fun p => p.index)
  ([1, 3, 4, 5] : List Nat).all (fun t => (ps.filter (fun p => p.typ == t)).length == 1) && decide (libs.length ≤ 28) && libs.eraseDups.length == libs.length &&
  ps.all (fun p => decide (1 ≤ p.typ) && decide (p.typ ≤ 5) && (p.typ == 2 || p.index == 0) && p.blank && p.off % 4096 == 0 && decide (4096 ≤ p.off) &&
    decide (1 ≤ p.len) && decide (p.off + p.len ≤ a.imageBytes)) &&
  ps.zipIdx.all (fun (e : PartEntry × Nat) => ps.zipIdx.all (fun (x : PartEntry × Nat) => e.2 == x.2 || decide (e.1.off + e.1.len ≤ x.1.off) || decide (x.1.off + x.1.len ≤ e.1.off)))

/-- The structure and binding checks 1 to 3 of Table 20-5: the cause of the first that fails. -/
def bindCause (s : State) (g : SlotImg) : Option Nat :=
  if g.factory then none
  else
    let a := almanac g
    if !a.formOk (slotBytes s) then some 1
    else if leField a.head 8 4 ≠ 0x00642801 then some 2
    else if leField a.head 16 8 ≠ 0 ∧ leField a.head 16 8 ≠ Config.serial.toNat then some 3
    else none

/-- Verification of a slot: the first check of Table 20-5 that fails, with the part for cause 8. Slots in `bad` give a flash read error. -/
def slotCause (s : State) (k : Nat) (bad : List Nat) : Option (Nat × Nat) :=
  let g := slotImg s k
  let read := if bad.contains k then some (9, 0) else none
  if g.factory then (if imgSvn g < s.boot.floor then some (6, 0) else read)
  else match bindCause s g with
    | some c => some (c, 0)
    | none =>
      let a := almanac g
      let n := 192 + 80 * a.parts.length
      let key := sliceL a.head 64 97
      if 4 ≤ a.keyIndex ∨ sha384 key ≠ Config.rootKeyHash a.keyIndex ∨ s.boot.revoked.testBit a.keyIndex then some (4, 0)
      else if !ecdsaOk key (a.head.take n) (sliceL a.head n 96) then some (5, 0)
      else if a.svn < s.boot.floor then some (6, 0)
      else if !a.layoutOk then some (7, 0)
      else match a.parts.zipIdx.find? (fun (e : PartEntry × Nat) => sha384 (imgBytes g e.1.off e.1.len) != e.1.digest) with
        | some e => some (8, e.2)
        | none => read
/-- Does a slot verify? -/
def verifies (s : State) (k : Nat) (bad : List Nat) : Bool := (slotCause s k bad).isNone

/-! ### Boot control (R561, R565) -/

/-- The record that a device without a valid one starts from. -/
def blankRec : BootRec :=
  { seq := 0, active := 0, states := [.empty, .empty], tries := 0, releases := [0, 0], confirmBy := 0, cause := 0, defaults := false, cfails := 0 }
/-- The record in force. -/
def ctlOf (s : State) : BootRec := s.boot.ctl.getD blankRec
/-- Write a boot control record: SEQ rises by 1, and a record that changes ACTIVE writes CFAILS = 0. -/
def writeCtl (s : State) (f : BootRec → BootRec) : State :=
  if !flashOk s then s
  else
    let r := ctlOf s
    let n := f r
    onBoot s (fun b => { b with ctl := some { n with seq := r.seq + 1, cfails := if n.active = r.active then n.cfails else 0 } })
/-- A record with another state of one slot. -/
def BootRec.slotTo (r : BootRec) (k : Nat) (st : SlotSt) : BootRec := { r with states := r.states.set k st }

/-- SECURITY entry of an update step: TYPE is the cause ID of its source (R589). -/
def updateLog (s : State) (k detail : Nat) : State := logAdd s { cls := 5, typ := causeId 0x3F k, detail := detail }
/-- SECURITY entry of a verification; DETAIL is its cause, 0 when it passed. -/
def verifyLog (s : State) (k : Nat) (c : Option (Nat × Nat)) : State := logAdd s { cls := 5, typ := Config.logType 4, addr := k, detail := (c.map (fun x => x.1)).getD 0 }
/-- An update source, 1360 to 1365. -/
def updateEv (s : State) (k : Nat) : State := raiseEv s (1360 + k) 1360
/-- An UPDATE notice to the owner (R589). -/
def updateNotice (s : State) (k : Nat) : State := noticeOwnerNow s 0x800C 0 (causeId 0x3F k) (k + 2 ^ 32)

/-- The release that runs, as ID_RELEASE and an aperture's lead see it; in RECOVERY that of the slot in ACTIVE. -/
def runRelease (s : State) : Nat := imgRelease (slotImg s (s.boot.running.getD (ctlOf s).active))

/-! ### RECOVERY (R566) -/

/-- Enter RECOVERY: an unconfirmed image is written FAILED, and ACTIVE names the other slot if that slot verifies. -/
def enterRecovery (s : State) (bad : List Nat) : State :=
  let s := match ([0, 1] : List Nat).find? (fun k => slotSt s k == .unconfirmed) with
    | none => s
    | some k =>
      let ok := verifies s (1 - k) bad
      let s := writeCtl s (fun r => { r.slotTo k .failed with cause := 13, confirmBy := 0, active := if ok then 1 - k else r.active })
      updateLog (onBoot s (fun b => { b with fallDue := ok })) 4 13
  enterState (onBoot s (fun b => { b with running := none, hand := none, deadline := false })) .recovery

end Sys2Proof.Machine
end

