-- ==== Sys2Proof/Machine/Health.lean ====
section
/-! DEFINITION. Health.lean: tile health, reserve swaps, withdrawal, SRAM repair and control processors (R506 to R521, R530, R531). -/
namespace Sys2Proof.Machine

/-! ### Tiles -/

/-- Health of a physical tile. -/
def tileOf (s : State) (t : Nat) : TileHealth := s.care.tiles.getD t (tileHealth0 t)
/-- Change the health of a tile. -/
def onTile (s : State) (t : Nat) (f : TileHealth → TileHealth) : State := onCare s (fun c => { c with tiles := c.tiles.modify t f })
/-- Move a tile to a health state. -/
def setTileSt (s : State) (t : Nat) (st : TileSt) : State :=
  let now := s.time.tick64
  onTile s t (fun h => if h.st = st then h else { h with st := st, changed := now })
/-- The logical tile that a physical tile holds. -/
def logicalOf (s : State) (t : Nat) : Option Nat := (List.range 64).find? (fun l => s.dev.tileMap.getD l 68 == t && !s.dev.goneTiles.contains l)
/-- Results of a logical tile's running tick carry STALE (R512, R518). -/
def staleTile (s : State) (l : Nat) : State := { s with dev := { s.dev with stale := if s.dev.stale.contains l then s.dev.stale else s.dev.stale ++ [l] } }
/-- State of a sector's reserve tile. -/
def reserveSt (s : State) (k : Nat) : TileSt := (tileOf s (reserveTile k)).st

/-- SECURITY entry of a swap or a withdrawal (R531). -/
def careLog (s : State) (kind t : Nat) : State := logAdd s { cls := 2, typ := Config.logType kind, security := true, detail := t }

/-! ### Decisions (R510, R513, R527) -/

/-- A conditioned tick some of whose samples are lost with the work of a tile (R513). -/
def OutTick.lose (bad : Nat → Bool) (o : OutTick) : OutTick :=
  let l := o.samples.mapIdx (fun (i : Nat) (x : Smp) => if bad i then { x with ok := false, fl := x.fl ||| 2048 } else x)
  { o with validOut := (l.filter (fun (x : Smp) => x.ok)).length, flags := if (List.range l.length).any bad then o.flags ||| 2048 else o.flags, samples := l }

/-- Which output samples of a conditioned tick of a split feed rest on what the feed's tile `q` computed of it: the splitter's runs r mod K of every sub-band, through the
delay filter where it is in use (R129, R136). -/
def onRuns (b c : Block) (r : Option DelayRec) (q : Nat) (o : OutTick) (i : Nat) : Bool :=
  let run := fun (p : Int) => decide (0 ≤ p) && (o.first + p) / 256 % (feedK b : Int) == (q : Int)
  if !c.flag 8 then run i
  else
    let ti := (delaySplit c r (o.first + (i / 64 * 64 : Nat)) (Nat.min 64 (o.samples.length - i / 64 * 64))).2.1
    (List.range 16).any (fun m => run ((i : Int) - ti - m))

/-- A feed's pipeline when one of its tiles fails in the tick that conditioned its newest data: that tile's sub-band and the runs it computed for the others are lost, as are
those runs in the delay lines (R129, R513). -/
def FeedRun.loseTile (b : Block) (now q : Nat) (fr : FeedRun) : FeedRun :=
  let new := fun (o : OutTick) => decide (o.avail = now + 1) && decide (1 < feedK b)
  let outs := fr.outs.map (fun (o : OutTick) => if o.sub = q then o.lose (fun _ => true)
    else if new o then o.lose (onRuns b (settingAt fr.cond o.tick (condDefault (b.nat 0))) fr.delay q o) else o)
  let lost := fun (k : Nat) => ((fr.outs.zip outs).filter (fun x => x.1.sub == k)).foldl (fun a x => a + (x.1.validOut - x.2.validOut)) 0
  { fr with outs := outs, subs := fr.subs.mapIdx (fun k sr => { sr with
      cnt := { sr.cnt with validOut := (sr.cnt.validOut + 2 ^ 64 - lost k % 2 ^ 64) % 2 ^ 64 },
      decim := match fr.outs.find? (fun (o : OutTick) => o.sub == k && new o) with
        | some o => sr.decim.mapIdx (fun (i : Nat) (x : Smp) =>
            let p : Int := (o.samples.length : Int) - sr.decim.length + i
            if decide (0 ≤ p) && (o.first + p) / 256 % (feedK b : Int) == (q : Int) then { x with ok := false, fl := x.fl ||| 2048 } else x)
        | none => sr.decim }) }

/-- Work of a failed tile is shed from now on, and what it had handed on is lost (R513). -/
def spoilTile (s : State) (l : Nat) : State :=
  { s with care := { s.care with dead := if s.care.dead.contains l then s.care.dead else s.care.dead ++ [l] },
           feeds := s.feeds.map (fun (e : Nat × FeedRun) => (e.1, match s.plan.feed e.1 with
             | some b => (match (feedTiles b).findIdx? (fun t => t == l) with | some q => e.2.loseTile b s.time.tick64 q | none => e.2)
             | none => e.2)) }

/-- A swap decided during a PFB self-test of the reserve abandons the test (R527). -/
def abandonTest (s : State) (k : Nat) : State :=
  onCare s (fun c => { c with pfbTest := c.pfbTest.filter (fun x => x != k), cals := c.cals.filter (fun x => x != (5, k)) })

/-- The work of a physical tile is to move (R510): a swap begins, waits for the sector's running one, or gives way to TILE_WITHDRAW. -/
def decideSwap (s : State) (t : Nat) (cold : Bool) : State :=
  match logicalOf s t with
  | none => s
  | some l =>
    let k := t / 17
    let s := if cold then spoilTile s l else s
    match tget s.care.swaps k with
    | some w =>
      if w.old = t then onCare s (fun c => { c with swaps := tset c.swaps k { w with cold := w.cold || cold } })
      else onCare s (fun c => { c with waits := if c.waits.any (fun x => x.1 == t) then c.waits else c.waits ++ [(t, cold)] })
    | none =>
      if reserveSt s k = .reserve then
        let s := abandonTest s k
        let now := s.time.tick64
        careLog (onCare s (fun c => { c with swaps := tset c.swaps k { old := t, logical := l, cold := cold, d := now, q := 0, stage := .decided, rewrites := 0 } })) 1 t
      else s

/-- A swap is given up: its reserve is retired and its old tile awaits withdrawal (R512). -/
def abandonSwap (s : State) (k : Nat) (w : Swap) (st : TileSt) : State :=
  onCare (setTileSt s (reserveTile k) st) (fun c => { c with swaps := tdel c.swaps k, waits := c.waits ++ [(w.old, w.cold)] })

/-- A tile is worn (R507, R510). -/
def wearTile (s : State) (t : Nat) : State :=
  match (tileOf s t).st with
  | .active => decideSwap (setTileSt s t .worn) t false
  | .warn => decideSwap (setTileSt s t .worn) t false
  | _ => s

/-- A tile fails (R507, R510). -/
def failTile (s : State) (t : Nat) : State :=
  match (tileOf s t).st with
  | .failed => s
  | .retired => s
  | _ =>
    let k := t / 17
    let s := abandonTest (setTileSt s t .failed) k
    if t = reserveTile k ∧ (logicalOf s t).isNone then
      match tget s.care.swaps k with
      | some w => abandonSwap s k w .failed
      | none => s
    else decideSwap s t true

/-- TILE_STATUS_MISSING: no tick-end status in 2 consecutive ticks (R507). -/
def execTileStatusMissing (tile : Nat) (s : State) : Host.Outcome State Fault Refusal :=
  if 68 ≤ tile then .fault .noSuchUnit else .next (failTile s tile)
/-- TILE_CONTROL_FAULT: a fault reported in the tile's control logic (R507). -/
def execTileControlFault (tile : Nat) (s : State) : Host.Outcome State Fault Refusal :=
  if 68 ≤ tile then .fault .noSuchUnit else .next (failTile s tile)

/-! ### Wear (R508) -/

/-- D of two measured frequencies and r0, a binary32 (R508). -/
def degradation (r0 fa fr : Nat) : Option Int :=
  let v := f32Val r0
  if v.1 ≤ 0 ∨ fr = 0 ∨ r0 / 2 ^ 23 % 256 = 255 then none
  else
    let up := 2 ^ v.2.toNat
    let dn := 2 ^ (-v.2).toNat
    let den := fr * v.1.toNat * up
    some (rne (10000 * ((den : Int) - (fa * dn : Nat))) den)
/-- Median of five values. -/
def median5 (l : List Int) : Int := (l.mergeSort (fun a b => decide (a ≤ b))).getD 2 0
/-- The tile's state follows the median of its last five values (R508). -/
def followWear (s : State) (t : Nat) : State :=
  let h := tileOf s t
  if h.degr.length < 5 then s
  else
    let m := median5 h.degr
    if 450 ≤ m ∧ (h.st = .active ∨ h.st = .warn) then careEvent (wearTile s t) 1312 t
    else if 300 ≤ m ∧ h.st = .active then careEvent (setTileSt s t .warn) 1312 t
    else s

/-- RO_MEASUREMENT: both oscillators of a tile have been measured (R508). Without RO_BASE the wear is unknown; a reading from which no D follows gives
an open one. -/
def execRoMeasurement (tile fa fr : Nat) (s : State) : Host.Outcome State Fault Refusal :=
  if 68 ≤ tile then .fault .noSuchUnit
  else match ephFind s 0x05 tile with
    | none => .next s
    | some p =>
      let (d, s) := match degradation (leField p 0 4) fa fr with | some d => (d, s) | none => drawInt s
      let s := onTile s tile (fun h => { h with degr := (d :: h.degr).take 5 })
      .next (followWear (setFig s 7 tile d (figOut 7 d)) tile)

/-! ### Temperatures and supplies (R509) -/

/-- Tj,max in 1/16 °C (Table 0-1). -/
def tjMax : Int := if Config.orderX0 then 16 * 105 else 16 * 95

/-- The temperature term that the Ephemeris holds for the die moves the frozen control word of a core in holdover; its payload is not laid out, so what it adds is a free value (R75). -/
-- DESIGN CHOICE, notes/assumptions/134.md
def tempTerm (s : State) : State :=
  if s.time.holdover && !s.clk.quartz && (List.range 4).any (fun k => (ephFind s 0x04 k).isSome) then
    let (v, s) := drawNat s
    { s with clk := { s.clk with coreWord := BitVec.ofNat 32 (s.clk.coreWord.toNat / 2 ^ 24 * 2 ^ 24 + v % 2 ^ 24) } }
  else s

/-- HEALTH_SAMPLE: temperatures of the 68 tiles in 1/16 °C and supply-monitor flags of the four sectors, every 1 ms (R509); THERM_N
is low from Tj,max + 5 °C until the die falls below Tj,max (R615). -/
def execHealthSample (temps : List Int) (supplies : List Nat) (s : State) : Host.Outcome State Fault Refusal :=
  if temps.length ≠ 68 ∨ supplies.length ≠ 4 then .fault .noSuchUnit
  else
    let s := onCare s (fun c => { c with supply := supplies, tiles := (c.tiles.zip temps).map (fun (e : TileHealth × Int) => { e.1 with temp := e.2 }) })
    let s := temps.zipIdx.foldl (fun (s : State) (e : Int × Nat) =>
      if tjMax + 80 ≤ e.1 then careEvent (careEvent s 1319 e.2) 1320 e.2 else if tjMax - 80 ≤ e.1 then careEvent s 1319 e.2 else s) s
    let s := tempTerm s
    let hot := temps.foldl max (temps.headD 0)
    let s := onCare s (fun c => { c with therm := if tjMax + 80 ≤ hot then true else if hot < tjMax then false else c.therm })
    .next (supplies.zipIdx.foldl (fun (s : State) (e : Nat × Nat) => if e.1 = 0 then s else careEvent s 1321 e.2) s)

/-- RESERVE_SELFTEST: the daily test of a sector's reserve has ended (R506). -/
def execReserveSelftest (sector : Nat) (pass : Bool) (s : State) : Host.Outcome State Fault Refusal :=
  if 4 ≤ sector then .fault .noSuchUnit
  else if pass || reserveSt s sector != .reserve then .next s
  else .next (careEvent (setTileSt (abandonTest s sector) (reserveTile sector) .retired) 1312 (reserveTile sector))

/-! ### What a lost tile leaves (R513) -/

/-- Accumulators of an instrument that lie on a tile start anew: `idx` tells the channel offset of an accumulator. -/
def loseAcc (s : State) (d i : Nat) (b : Block) (l : Nat) (bk : Bank) : Bank :=
  let n := (iRange b).2
  let mine := fun (c : Nat) => (List.range (iParts s d i)).any (fun k => iTile s d i k == l && (let r := iPart s d i n k; decide (r.1 ≤ c) && decide (c < r.1 + r.2)))
  let np := nProducts b
  let whole := iKind b != 4 && iKind b != 5
  let lost := fun (k : Nat) => bk.tile s d i k == l
  let span := bk.last + 1 - bk.first
  { bk with shed := if whole then span else bk.shed, flags := if whole then bk.flags ||| 2048 ||| 65536 * b2n (decide (1 < iParts s d i)) else bk.flags,
            partShed := bk.partShed.mapIdx (fun (k : Nat) (x : Nat) => if lost k then Nat.max x span else x),
            acc := bk.acc.mapIdx (fun (x : Nat) (a : Acc) =>
              let c := match iKind b with | 4 => x / np | 5 => x / np | 6 => x % Nat.max 1 n | _ => x
              if mine c then Acc.reset else a) }

/-- Does an instrument have a part on a logical tile? -/
def partOn (s : State) (d i l : Nat) : Bool := (List.range (iParts s d i)).any (fun k => iTile s d i k == l) && s.plan.placed d i

/-- What an instrument held on a tile starts empty (R513). -/
def loseInstr (l : Nat) (s : State) (d i : Nat) (b : Block) : State :=
  if !partOn s d i l then s
  else
    let s := onInstr s d i (fun r => { r with bank := r.bank.map (loseAcc s d i b l), sub := r.sub.map (loseAcc s d i b l), corr := r.corr.map (fun (e : Nat × Bank) => (e.1, loseAcc s d i b l e.2)),
                                              group := [], cap := { r.cap with phase := if r.cap.phase = .filling then .arming else r.cap.phase, acc := none, cand := none, units := [], arriving := [], queue := [] } })
    let s := (s.plan.masksOf d i).foldl (fun (s : State) (e : Nat × Block) =>
      match s.plan.place? .maskDefine d e.1 with
      | some x => if x.tiles.headD 64 = l then { s with masks := tmod s.masks (d, e.1) MaskRun.reset (fun r => { r with hist := [], state := 0, runLen := 0, prevState := 0, prevLen := 0 }) } else s
      | none => s) s
    (s.plan.platesOf d i).foldl (fun (s : State) (e : Nat × Block) =>
      let pb := e.2
      let cols := plateCols pb
      let cpc := Nat.max 1 (pb.nat 4)
      let gone := fun (x : Nat) => chanTile s d i b (pb.nat 2 + x * cpc) == l
      { s with plates := tmod s.plates (d, e.1) PlateRun.reset (fun r =>
          { r with counts := r.counts.mapIdx (fun (j : Nat) (c : Nat) => if gone (j % Nat.max 1 cols) then 0 else c), shed := r.shed + (r.last + 1 - (r.first.getD r.last)), flags := r.flags ||| 2048 }) }) s

/-- What a feed held on a tile starts empty (R145, R158, R513). -/
def loseFeed (s : State) (f l : Nat) : State :=
  match s.plan.feed f with
  | none => s
  | some b =>
    if !(feedTiles b).contains l then s
    else
      let subs := (List.range (feedK b)).filter (fun k => (feedTiles b).getD k 64 == l)
      let keepRing := s.plan.landHbm f b
      let s := onFeed s f (fun fr =>
        { fr with input := [], rings := if keepRing then fr.rings else fr.rings.map (fun (r : Ring) => { r with slots := r.slots.map (fun (x : LSlot) => { x with grans := [] }) }),
                  subs := fr.subs.mapIdx (fun (k : Nat) (x : CondRun) => if subs.contains k then { x with mixed := [], decim := [] } else x) })
      let s := { s with coarse := tmod s.coarse f CoarseRun.reset (fun r => { r with hist := r.hist.mapIdx (fun (k : Nat) (x : List Smp) => if subs.contains k then [] else x) }) }
      if (tget s.sks (devDome, f)).isSome then
        { s with sks := tmod s.sks (devDome, f) SkRun.reset (fun r => { r with frames := [], held := [] }) }
      else s

/-- A tile's state is lost: every unit that lay on it starts with its history cleared (R513). -/
def loseTile (s : State) (l : Nat) : State :=
  let s := (s.plan.objs .feedDefine).foldl (fun (s : State) (e : Nat × Nat × Block) => loseFeed s e.2.1 l) s
  let s := (s.plan.objs .zoomDefine).foldl (fun (s : State) (e : Nat × Nat × Block) =>
    match s.plan.place? .zoomDefine e.1 e.2.1 with
    | some x => if x.tiles.contains l then { s with zooms := tmod s.zooms (e.1, e.2.1) ZoomRun.reset (fun r => { r with inq := [], hist := [] }) } else s
    | none => s) s
  let s := { s with sks := s.sks.map (fun (e : (Nat × Nat) × SkRun) =>
    let here := match s.plan.find .skDefine e.1.1 e.1.2 with | some b => (s.plan.skRuns e.1 b).any (fun r => r.1 == l) | none => false
    if e.1.1 != devDome && here then (e.1, { e.2 with frames := [], held := [] }) else e) }
  forObjs s .instrDefine (loseInstr l)

/-! ### Swaps (R511, R512) -/

/-- Ticks of the copy (R511). -/
def swapTicks (m : Nat) : Nat := ceilDiv 6291456 (640 * m)
/-- Switch tick of a swap whose records have matched. -/
def switchTick (m : Nat) (w : Swap) : Nat := w.q + 1 + (if w.cold then 0 else swapTicks m)

/-- SWAP_RECORDS_WRITE: from d + 1 on, the reserve's clocks start, the records are written, and it is quarantined. -/
def execSwapRecordsWrite (sector : Nat) (s : State) : Host.Outcome State Fault Refusal :=
  if 4 ≤ sector then .fault .noSuchUnit
  else match tget s.care.swaps sector with
    | none => .next s
    | some w =>
      if w.stage ≠ .decided ∨ s.time.tick64 ≤ w.d then .next s
      else
        let s := setTileSt s (reserveTile sector) .quarantined
        .next (careEvent (onCare s (fun c => { c with swaps := tset c.swaps sector { w with stage := .records } })) 1315 (reserveTile sector))

/-- SWAP_CRC_MATCH: at a tick's end the reserve's records are compared; they match, or are rewritten, at most 3 times (R511, R512). -/
def execSwapCrcMatch (sector : Nat) (ok : Bool) (s : State) : Host.Outcome State Fault Refusal :=
  if 4 ≤ sector then .fault .noSuchUnit
  else match tget s.care.swaps sector with
    | none => .next s
    | some w =>
      if w.stage ≠ .records then .next s
      else if ok then
        let now := s.time.tick64
        .next (onCare s (fun c => { c with swaps := tset c.swaps sector { w with stage := .matched, q := now } }))
      else if w.rewrites < 3 then .next (onCare s (fun c => { c with swaps := tset c.swaps sector { w with rewrites := w.rewrites + 1 } }))
      else .next (abandonSwap s sector w .retired)

/-- The reserve takes over at the switch tick (R511 to R513). -/
def switchSwap (s : State) (k : Nat) (w : Swap) : State :=
  let r := reserveTile k
  let s := if w.cold then loseTile s w.logical else s
  let s := moveLease s w.old r
  let s := { s with dev := { s.dev with tileMap := s.dev.tileMap.set w.logical r } }
  let s := setTileSt (setTileSt s w.old .retired) r .active
  let s := onCare s (fun c => { c with swaps := tdel c.swaps k, dead := c.dead.filter (fun x => x != w.logical) })
  careEvent (careEvent (staleTile s w.logical) 1313 r) 1316 r

/-- SWAP_SWITCH: nothing before the switch tick s. -/
def execSwapSwitch (sector : Nat) (s : State) : Host.Outcome State Fault Refusal :=
  if 4 ≤ sector then .fault .noSuchUnit
  else match tget s.care.swaps sector with
    | none => .next s
    | some w => if w.stage ≠ .matched ∨ s.time.tick64 < switchTick s.plan.m w then .next s else .next (switchSwap s sector w)

/-! ### Withdrawal (R516) -/

/-- Is a withdrawal of a physical tile due? It holds a logical tile, no swap runs in its sector, and it was told to go or has no reserve. -/
def withdrawDue (s : State) (t : Nat) : Bool :=
  (logicalOf s t).isSome && (tget s.care.swaps (t / 17)).isNone &&
  (s.care.waits.any (fun x => x.1 == t) || (((tileOf s t).st == .worn || (tileOf s t).st == .failed) && reserveSt s (t / 17) != .reserve))

/-- A tile of the same sector whose front-half units carry no feed (R516). -/
def feedRefuge (p : Plan) (gone : List Nat) (l : Nat) : Option Nat := ((tilesFrom gone l).filter (fun t => t != l)).find? (fun t => (p.tileFeeds t).isEmpty)

/-- Move a tile's feeds away, or withdraw those that find no tile; the second list names the feeds withdrawn. -/
def moveFeeds (p : Plan) (gone : List Nat) (l : Nat) : Plan × List Nat :=
  ((p.of .feedDefine devDome).filter (fun e => (feedTiles e.2).contains l)).foldl (fun (a : Plan × List Nat) (e : Nat × Block) =>
    match feedRefuge a.1 gone l with
    | some t => (a.1.put .feedDefine devDome e.1 (e.2.put 19 (.list ((feedTiles e.2).map (fun x => [((if x = l then t else x : Nat) : Int)])))), a.2)
    | none => ((((a.1.del .feedDefine devDome e.1).del .feedCondition devDome e.1).del .coarseDefine devDome e.1).del .skDefine devDome e.1, a.2 ++ [e.1])) (p, [])

/-- A placement with the parts of one tile on another, with L_inst as its flows then need it. -/
def movedPlace (p : Plan) (d i : Nat) (b : Block) (x : Place) (l t : Nat) : Place :=
  let y := { x with placed := true, tiles := x.tiles.map (fun z => if z = l then t else z) }
  let q := p.setPlace y
  let parts := q.partsOf d i b
  let far := if iKind b = 4 ∨ iKind b = 5 ∨ iKind b = 6 then parts.any (fun k => (q.q4Flows d b k).any (fun e => e.1 != k.tile)) else parts.any (fun k => k.tile != k.home)
  { y with chosen := (if far then (1 : Int) else 0) :: y.chosen.drop 1 }

/-- Re-admit one instrument on its sector's other tiles: first where its latency stays, then anywhere it fits (R516). -/
def readmit (s : State) (gone : List Nat) (l : Nat) (p : Plan) (x : Place) : Option Plan :=
  match p.instr x.dome x.index with
  | none => some p
  | some b =>
    let cands := ((tilesFrom gone l).filter (fun t => t != l)).map (fun t => movedPlace p x.dome x.index b x l t)
    let fits := fun (y : Place) => ((p.setPlace y).shortsIn s).isEmpty
    match (cands.find? (fun y => y.chosen.headD 0 == x.chosen.headD 0 && fits y)).orElse (fun _ => cands.find? fits) with
    | some y => some (p.setPlace (if y.chosen.headD 0 == x.chosen.headD 0 then y else { y with since := s.time.tick64 }))
    | none => none

/-- Re-admit the work of a withdrawn tile, and where not all of it fits unplace the device's instruments one after another in the order of R25
until the rest does (R516). -/
def readmitUntil (s : State) (gone : List Nat) (l : Nat) (p : Plan) (here : List Place) : List (Nat × Nat) → Plan
  | [] => here.foldl (fun (q : Plan) (x : Place) => q.unplace x.dome x.index 0 0) p
  | v :: r =>
    match here.foldl (fun (q : Option Plan) (x : Place) => q.bind (fun q => readmit s gone l q x)) (some p) with
    | some q => q
    | none => readmitUntil s gone l (p.unplace v.1 v.2 0 0) (here.filter (fun x => !(x.dome == v.1 && x.index == v.2))) r

/-- Windows and masks of a tile move to the sector's first tile on which they fit. -/
def moveSmall (s : State) (gone : List Nat) (l : Nat) (p : Plan) : Plan :=
  (p.places.filter (fun x => (x.op == .zoomDefine || x.op == .maskDefine) && x.tiles.contains l)).foldl (fun (p : Plan) (x : Place) =>
    let dest := fun (t : Nat) => { x with tiles := x.tiles.map (fun z => if z = l then t else z) }
    let cands := (tilesFrom gone l).filter (fun t => t != l)
    match (cands.find? (fun t => ((p.setPlace (dest t)).shortsIn s).isEmpty)).orElse (fun _ => cands.head?) with
    | some t => p.setPlace (dest t)
    | none => p) p

/-- Leases of a tile move to a tile of the sector without one; a lease that finds none ends, and its instrument is unplaced. -/
def moveLeases (s : State) (gone : List Nat) (l : Nat) (p : Plan) : Plan × List (Nat × Nat) :=
  (p.places.filter (fun x => x.op == .sextantLoad && x.tiles.contains l)).foldl (fun (a : Plan × List (Nat × Nat)) (x : Place) =>
    let p := a.1
    let free := ((tilesFrom gone l).filter (fun t => t != l)).find? (fun t => !p.places.any (fun y => y.op == .sextantLoad && y.tiles.contains t))
    match free with
    | some t => (p.setPlace { x with tiles := [t] }, a.2 ++ [(physTile s l, physTile s t)])
    | none =>
      let p := match p.find .sextantAttach x.dome x.index with | some b => p.unplace x.dome (b.nat 1) 0 0 | none => p
      (((p.del .sextantLoad x.dome x.index).del .sextantAttach x.dome x.index).del .sextantEvents x.dome x.index, a.2)) (p, [])

/-- The plan of a device that has withdrawn logical tile `l`, the feeds withdrawn and the leases that move. -/
def withdrawPlan (s : State) (gone : List Nat) (l : Nat) : Plan × List Nat × List (Nat × Nat) :=
  let o := s.plan
  let f := moveFeeds o gone l
  -- instruments that read a feed withdrawn go under R24
  let p := if f.2.isEmpty then f.1 else f.1.withdrawAltered o (o.affected f.1 s.time.tick64) s.time.tick64
  let order := o.goOrder (fun _ => true)
  let here := order.reverse.filterMap (fun x => match p.place? .instrDefine x.1 x.2 with | some y => if y.placed && y.tiles.contains l then some y else none | none => none)
  let bare := here.foldl (fun (p : Plan) (x : Place) => p.setPlace { x with placed := false }) p
  let q := readmitUntil s gone l bare here (order.filter (fun x => p.placed x.1 x.2))
  let r := moveLeases s gone l (moveSmall s gone l q)
  (r.1, f.2, r.2)

/-- Withdraw a physical tile that holds logical tile `l` (R516). -/
def withdrawTile (s : State) (t l : Nat) : State :=
  let failed := s.care.dead.contains l
  let s := if failed then loseTile s l else s
  let gone := s.dev.goneTiles ++ [l]
  let w := withdrawPlan s gone l
  let s := w.2.1.foldl closeFeed s
  let s := w.2.2.foldl (fun (s : State) (e : Nat × Nat) => moveLease s e.1 e.2) s
  let moved := ((w.1.places.filter (fun x => !s.plan.places.contains x)).flatMap (fun x => x.tiles)).eraseDups
  let s := takePlaces s w.1
  let s := { s with dev := { s.dev with goneTiles := gone } }
  let s := (moved.filter (fun x => !gone.contains x)).foldl staleTile s
  let s := capacityGone s
  let s := setTileSt s t .retired
  careLog (onCare s (fun c => { c with waits := c.waits.filter (fun x => x.1 != t), dead := c.dead.filter (fun x => x != l) })) 2 t

/-- TILE_WITHDRAW at the boundary of the running tick: nothing where no withdrawal of the tile is due. -/
def execTileWithdraw (tile : Nat) (s : State) : Host.Outcome State Fault Refusal :=
  if 68 ≤ tile then .fault .noSuchUnit
  else match logicalOf s tile with
    | some l => if withdrawDue s tile then .next (withdrawTile s tile l) else .next s
    | none => .next s

/-! ### Tile SRAM (R514, R515) -/

/-- A house time 24 h later, as CT64. -/
def day64 (t : Nat) : Nat := ct64Add t 86400
/-- What an uncorrectable word does, by what it held (R515). -/
def sramLoss (s : State) (use : SramUse) : State :=
  let bad := fun (a n : Nat) (l : List Smp) => l.mapIdx (fun (i : Nat) (x : Smp) => if a ≤ i ∧ i < a + n then { x with re := 0, im := 0, ok := false, fl := x.fl ||| 16 } else x)
  match use with
  | .other => s
  | .landing f n g => onFeed s f (fun fr => { fr with rings := fr.rings.map (fun (r : Ring) => { r with slots := r.slots.map (fun (x : LSlot) =>
      if x.tick = n ∧ !x.bad.contains g then { x with bad := x.bad ++ [g] } else x) }) })
  | .line f k a n => onFeed s f (fun fr => { fr with subs := fr.subs.modify k (fun (x : CondRun) => { x with decim := bad a n x.decim }) })
  | .pfb f k a n => { s with coarse := tmod s.coarse f CoarseRun.reset (fun r => { r with hist := r.hist.modify k (bad a n) }) }
  | .zoom d w q c => { s with zooms := tmod s.zooms (d, w) ZoomRun.reset (fun r => { r with hist := r.hist.map (fun (e : Nat × List Smp) => if e.1 = q then (e.1, bad c 1 e.2) else e) }) }
  | .skHold d ix n c => { s with sks := tmod s.sks (d, ix) SkRun.reset (fun r => { r with held := r.held.map (fun (x : Nat × ChTick) =>
      if x.2.tick = n then (x.1, { x.2 with frames := x.2.frames.map (fun (e : Nat × List Smp) => (e.1, bad c 1 e.2)) }) else x) }) }
  | .coef f => onCare s (fun c => { c with coefBad := if c.coefBad.contains f then c.coefBad else c.coefBad ++ [f] })
  | .skAcc d ix c => { s with sks := tmod s.sks (d, ix) SkRun.reset (fun r => { r with frames := r.frames.map (fun (e : Nat × Nat × List Smp) => (e.1, e.2.1, bad c 1 e.2.2)) }) }
  | .work d i l x =>
    let s := { s with sheds := if s.sheds.contains (d, .own, i, l) then s.sheds else s.sheds ++ [(d, .own, i, l)] }
    onInstr s d i (fun r => { r with bank := r.bank.map (fun (b : Bank) =>
      let corr := iKind b.block == 4 || iKind b.block == 5
      { b with flags := if corr then b.flags else b.flags ||| 2048, partFlags := b.partFlags.mapIdx (fun (k : Nat) (y : Nat) => if b.tile s d i k = l then y ||| 2048 else y), acc := b.acc.modify x (fun _ => Acc.reset) }) })

/-- A row is due for repair, once. -/
def dueRow (s : State) (t m r : Nat) : State := onTile s t (fun h => if h.dueRows.contains (m, r) then h else { h with dueRows := h.dueRows ++ [(m, r)] })

/-- SRAM_PATROL_READ: a read of a word finds no error, a correctable one, or an uncorrectable one (`err` true) (R514, R515). -/
def execSramPatrolRead (tile sram row : Nat) (err : Option Bool) (use : SramUse) (s : State) : Host.Outcome State Fault Refusal :=
  if 68 ≤ tile ∨ 96 ≤ sram ∨ 256 ≤ row then .fault .noSuchUnit
  else match err with
    | none => .next s
    | some false =>
      let now := houseCt64 s
      let l := now :: (tgetD (tileOf s tile).rowCe (sram, row) []).filter (fun t => ct64Earlier now (day64 t))
      let s := onTile s tile (fun h => { h with rowCe := tset h.rowCe (sram, row) l })
      .next (if 4 ≤ l.length then dueRow s tile sram row else s)
    | some true => .next (sramLoss (dueRow (onTile s tile (fun h => { h with ue := (h.ue + 1) % 2 ^ 32 })) tile sram row) use)

/-- SRAM_ROW_REPAIR: the copy of a row that is due has ended; a sub-array without a spare row makes its tile WORN (R514). -/
def execSramRowRepair (tile sram row : Nat) (s : State) : Host.Outcome State Fault Refusal :=
  if 68 ≤ tile ∨ 96 ≤ sram ∨ 256 ≤ row then .fault .noSuchUnit
  else
    let h := tileOf s tile
    if !h.dueRows.contains (sram, row) then .next s
    else
      let n := tgetD h.spares sram 0
      let s := onTile s tile (fun h => { h with dueRows := h.dueRows.erase (sram, row), rowCe := tdel h.rowCe (sram, row) })
      if 4 ≤ n then .next (wearTile s tile)
      else
        let s := onTile s tile (fun h => { h with spares := tset h.spares sram (n + 1) })
        .next (careEvent (ephWrite s 0x08 tile (leBytes 4 sram ++ leBytes 4 row ++ leBytes 4 n)) 1324 tile)

/-! ### Control processors (R519 to R521) -/

/-- Sector of the control processor in a role, if there is one. -/
def cpIn (s : State) (r : CpRole) : Option Nat := s.care.cps.findIdx? (fun x => x == r)
/-- The active control processor is lost: the standby takes over at the next boundary, or the device enters RECOVERY (R520, R521). -/
def cpLost (s : State) : State :=
  if (cpIn s .standby).isSome then onCare s (fun c => { c with takeover := true })
  else match s.dev.st with
    | .cold => s
    | .recovery => s
    | .halted => s
    | _ => enterRecovery s []

/-- CP_HEARTBEAT (R519). -/
def execCpHeartbeat (s : State) : Host.Outcome State Fault Refusal := let t := houseCt64 s; .next (onCare s (fun c => { c with beat := t }))
/-- HEARTBEAT_TIMEOUT: 100 µs without a heartbeat (R520). -/
def execHeartbeatTimeout (s : State) : Host.Outcome State Fault Refusal := .next (cpLost s)
/-- CP_FAULT_REPORT (R520). -/
def execCpFaultReport (s : State) : Host.Outcome State Fault Refusal := .next (cpLost (careEvent s 1323 ((cpIn s .active).getD 0)))

/-- The standby is in service; `boots` starts the next dormant processor as its standby (R520). -/
def takeOver (s : State) (boots : Bool) : State :=
  match cpIn s .active, cpIn s .standby with
  | some a, some b =>
    let c := (s.care.cps.set a .failed).set b .active
    let next := if boots then ([1, 3] : List Nat).find? (fun k => c.getD k .failed == .dormant) else none
    let s := onCare s (fun x => { x with cps := (match next with | some k => c.set k .quarantined | none => c), takeover := false, took := true })
    let s := { s with regs := { s.regs with copies := [] } }
    let s := careEvent s 1322 b
    match next with | some k => careEvent s 1315 k | none => s
  | _, _ => s

/-- STANDBY_TAKEOVER at a tick boundary (R520). Every decision of the model is complete when it is taken, so the journal holds no open one. -/
def execStandbyTakeover (s : State) : Host.Outcome State Fault Refusal := if s.care.takeover then .next (takeOver s true) else .next s

/-- STANDBY_BOOT_DONE: a processor that boots as standby leaves quarantine once its journal and committed copy match (R518, R520). -/
def execStandbyBootDone (s : State) : Host.Outcome State Fault Refusal :=
  match cpIn s .quarantined with
  | none => .next s
  | some k => .next (if s.boot.hand.isSome then s else careEvent (onCare s (fun c => { c with cps := c.cps.set k .standby })) 1316 k)

/-! ### RESERVE_SWAP and HEALTH_READ (R530, R531) -/

/-- Block of RESERVE_SWAP. -/
def reserveSwapBlock : List Param := [⟨"TARGET", .ident 0 67 ["S0", "S1", "S2", "S3"], .req, []⟩, pW "ACTION" ["SWAP", "WITHDRAW"]]
/-- RESERVE_SWAP. -/
def reserveSwapC : CSpec :=
  { verify := fun c _ m =>
      let s := c.s
      match m.block.at 0 with
      | .num t =>
        let t := t.toNat
        if m.block.is 1 0 then firstRej [rejIf ((logicalOf s t).isNone) (rej .inconsistent 0), rejIf (reserveSt s (t / 17) != .reserve) (rej .capacity 0)]
        else rejIf (!((tileOf s t).st == .active || (tileOf s t).st == .warn)) (rej .inconsistent 0)
      | v => if m.block.is 1 0 && (match cpIn s .active with | some a => v == .named a | none => false) then rejIf ((cpIn s .standby).isNone) (rej .capacity 0) else inconsistent 0,
    apply := fun _ m s =>
      match m.block.at 0 with
      | .num t => if m.block.is 1 0 then decideSwap s t.toNat false else onCare s (fun c => { c with waits := if c.waits.any (fun x => x.1 == t.toNat) then c.waits else c.waits ++ [(t.toNat, false)] })
      | _ => cpLost s }

/-- Code of a health state (Table 18-8). -/
def TileSt.code : TileSt → Nat
  | .active => 0 | .warn => 1 | .reserve => 2 | .quarantined => 3 | .worn => 4 | .failed => 5 | .retired => 6
/-- Code of a role (R530). -/
def CpRole.code : CpRole → Nat
  | .active => 0 | .standby => 1 | .dormant => 2 | .quarantined => 3 | .failed => 4

/-- State that HEALTH_READ shows: a tile without RO_BASE is reported as WARN (Table 18-5). -/
def shownSt (s : State) (t : Nat) : TileSt := let h := tileOf s t; if h.st = .active ∧ (ephFind s 0x05 t).isNone then .warn else h.st
/-- A tile's entry (Table 18-8). -/
def tileEntry (s : State) (t : Nat) : List Byte :=
  let h := tileOf s t
  let now := houseCt64 s
  let used := (h.spares.map (fun e => e.2)).foldl (· + ·) 0
  let ce := (h.rowCe.map (fun e => (e.2.filter (fun x => ct64Earlier now (day64 x))).length)).foldl (· + ·) 0
  let med := (h.degr.mergeSort (fun a b => decide (a ≤ b))).getD (h.degr.length / 2) 0
  leBytes 1 t ++ leBytes 1 (shownSt s t).code ++ leBytes 1 ((logicalOf s t).getD 0xFF) ++ leBytes 1 (t / 17) ++ leBytes 2 (ofSigned 16 med) ++ leBytes 2 (ofSigned 16 h.temp) ++
  leBytes 2 (384 - used) ++ leBytes 2 used ++ leBytes 4 ce ++ leBytes 4 h.ue ++ leBytes 4 0 ++ leBytes 8 h.changed
/-- A sector's entry (R530). -/
def sectorEntry (s : State) (k : Nat) : List Byte :=
  let mine := (List.range 17).map (fun i => 17 * k + i)
  let temps := mine.map (fun t => (tileOf s t).temp)
  leBytes 1 k ++ leBytes 1 (s.care.cps.getD k .failed).code ++ leBytes 1 (reserveSt s k).code ++ leBytes 1 (mine.filter (fun t => (logicalOf s t).isSome)).length ++
  leBytes 2 (ofSigned 16 (temps.foldl max (temps.headD 0))) ++ leBytes 2 (s.care.supply.getD k 0 ||| 32768 * b2n (s.care.vfault.getD k false)) ++ leBytes 8 0
/-- Block of HEALTH_READ. -/
def healthReadBlock : List Param := [pW "SCOPE" ["TILES", "SECTORS", "ALL"]]
/-- HEALTH_READ (R530). -/
def healthReadAct : Act := fun c m =>
  let tiles := (List.range 68).flatMap (tileEntry c.s)
  let sectors := (List.range 4).flatMap (sectorEntry c.s)
  .ok { s := c.s, body := some (match m.block.word? 0 with | some 0 => tiles | some 1 => sectors | _ => tiles ++ sectors) }

end Sys2Proof.Machine
end

