-- ==== Sys2Proof/Machine/Calib.lean ====
section
/-! DEFINITION. Calib.lean: calibration and quality figures (R525 to R529). -/
namespace Sys2Proof.Machine

/-! ### CALIBRATE (R525 to R527) -/

/-- Block of CALIBRATE (Table 18-6). -/
def calibrateBlock : List Param := [pW "SCOPE" ["DEVICE", "TDC", "ADC", "DAC", "SERDES", "PFB"], pNWd "UNIT" 0 (2 ^ 62) ["ALL"] 0]
/-- UNIT number of a scope: 0 for DEVICE, 127 for every TDC channel. -/
def calUnit (b : Block) : Nat := if b.is 0 0 then 0 else match b.at 1 with | .num u => u.toNat | _ => 127
/-- Scope number, in the order of Table 18-6. -/
def calScope (b : Block) : Nat := (b.word? 0).getD 0
/-- Is a unit under calibration, in whole or in part? -/
def calBusy (s : State) (scope unit : Nat) : Bool :=
  s.care.cals.any (fun c => c.1 == 0 || scope == 0 || (c.1 == scope && (c.2 == unit || (scope == 1 && (c.2 == 127 || unit == 127))))) ||
  (scope == 2 && adcCalibrating s)
/-- Is a feed of a port read by a placed instrument? -/
def Plan.portRead (p : Plan) (q : Nat) : Bool :=
  (p.of .feedDefine devDome).any (fun e => (feedPorts e.2).contains q &&
    (p.objs .instrDefine).any (fun x => p.placed x.1 x.2.1 && (p.reads x.1 x.2.1 x.2.2).any (fun r => p.feedOf r.1 == e.1)))
/-- Does a CALIBRATE break its admission condition (Table 18-6)? The slot at fault. -/
def calBad (s : State) (p : Plan) (b : Block) : Option Nat :=
  let u := calUnit b
  match calScope b with
  | 0 => if s.dev.eff = .service ∨ s.dev.eff = .degraded then none else some 0
  | 1 => if 16 ≤ u ∧ u ≠ 127 then some 1 else if s.dev.eff.runs then none else some 0
  | 2 => if u ≠ 0 then some 1 else if s.dev.eff.runs then none else some 0
  | 3 => if 8 ≤ u then some 1 else if !s.dev.eff.runs then some 0 else if (dacRun s u).queue.isEmpty && (dacRun s u).waiting.isEmpty then none else some 1
  | 4 => if b.is 1 0 || (p.port u).isNone then some 1 else if p.portRead u || !(p.portStreams u).isEmpty || !(p.portLinks u).isEmpty then some 1 else none
  | _ => if 4 ≤ u then some 1 else if reserveSt s u = .reserve ∧ (tget s.care.swaps u).isNone then none else some 1

/-- A calibration begins: what it holds is marked STALE (R525, R526). -/
def calBegin (s : State) (scope unit : Nat) : State :=
  let s := onCare s (fun c => { c with cals := c.cals ++ [(scope, unit)] })
  let s := match scope with
    | 0 => onCare (enterState s .calibrate) (fun c => { c with figs := c.figs.map (fun (e : (Nat × Nat) × Fig) => (e.1, { e.2 with stale := true })) })
    | 1 => (List.range 16).foldl (fun (s : State) (ch : Nat) => if unit = 127 ∨ unit = ch then staleFig s 3 ch else s) s
    | 2 => staleFig (adcCalStart s) 5 0
    | 3 => staleFig (onDac s unit (fun r => { r with stale := true })) 4 unit
    | 4 =>
      let s := linkEvent (onPort s unit (fun p => { p with linkUp := false, lanes := p.lanes.map laneDown })) unit
      let w := match s.plan.port unit with | some b => b.nat 2 | none => 0
      (List.range w).foldl (fun (s : State) (k : Nat) => staleFig (staleFig s 1 (unit + k)) 2 (unit + k)) s
    | _ => staleFig (onCare s (fun c => { c with pfbTest := c.pfbTest ++ [unit] })) 6 (reserveTile unit)
  careEvent s 1317 (128 * scope + unit)

/-- CALIBRATE. -/
def calibrateC : CSpec :=
  { names := fun _ m =>
      -- the closed ranges of Table 0-4: TDC channels, DACs, ports, sectors (R4)
      match calScope m.block, m.block.at 1 with
      | 1, .num u => rejIf (decide (24 ≤ u)) (rej .nosuch 1)
      | 3, .num u => rejIf (decide (8 ≤ u)) (rej .nosuch 1)
      | 4, .num u => rejIf (decide (128 ≤ u)) (rej .nosuch 1)
      | 5, .num u => rejIf (decide (4 ≤ u)) (rej .nosuch 1)
      | _, _ => none,
    busy := fun c m => rejIf (calBusy c.s (calScope m.block) (calUnit m.block)) (rej .busy 0),
    verify := fun c _ m => (calBad c.s c.plan m.block).bind inconsistent,
    apply := fun _ m s => calBegin s (calScope m.block) (calUnit m.block) }

/-- A field result takes effect with its record: a skew trim (R64). -/
def calRecord (s : State) (e : Nat × Nat × List Byte) : State :=
  let s := ephWrite s e.1 e.2.1 e.2.2
  if e.1 = 0x01 then { s with time := { s.time with trims := tset s.time.trims e.2.1 (toSigned 32 (leField e.2.2 0 4)) } } else s

/-- Does a result of a calibration count? A tile that has worn out or failed meanwhile writes none (R527). -/
def calKeeps (s : State) (fig unit : Nat) : Bool := fig != 6 || !((tileOf s unit).st == .worn || (tileOf s unit).st == .failed)

/-- CALIBRATION_END: the measured figures (figure, unit, value) and the field records (TYPE, UNIT, payload) are stored, and what was held is released.
A DEVICE calibration leaves CALIBRATE, also the first one after boot (R28, R525). -/
def execCalibrationEnd (scope unit : Nat) (figs : List (Nat × Nat × Int)) (recs : List (Nat × Nat × List Byte)) (s : State) : Host.Outcome State Fault Refusal :=
  if 6 ≤ scope ∨ 128 ≤ unit then .fault .noSuchUnit
  else if !s.care.cals.contains (scope, unit) then .next s
  else
    let s := onCare s (fun c => { c with cals := c.cals.erase (scope, unit), pfbTest := if scope = 5 then c.pfbTest.filter (fun k => k != unit) else c.pfbTest })
    let s := (figs.filter (fun f => calKeeps s f.1 f.2.1)).foldl (fun (s : State) (f : Nat × Nat × Int) => setFig s f.1 f.2.1 f.2.2 (figOut f.1 f.2.2)) s
    let s := (recs.filter (fun r => calKeeps s (if r.1 = 0x0B then 6 else 0) r.2.1)).foldl calRecord s
    let s := careEvent s 1318 (128 * scope + unit)
    if scope ≠ 0 then .next s
    else
      let dest : DevState := if s.dev.withdrawn then .degraded else .service
      match s.dev.st with
      | .calibrate => .next (enterState s dest)
      | .halted => .next (if s.dev.left = .calibrate then { s with dev := { s.dev with left := dest } } else s)
      | _ => .next s

/-- PFB_SELFTEST_END: the ripple of a sector's reserve in 0.001 dB is recorded, and the reserve, scrubbed, is in RESERVE again (R528). -/
def execPfbSelftestEnd (sector : Nat) (ripple : Int) (s : State) : Host.Outcome State Fault Refusal :=
  if 4 ≤ sector then .fault .noSuchUnit
  else if !s.care.pfbTest.contains sector then .next s
  else
    let t := reserveTile sector
    let s := setFig s 6 t ripple (figOut 6 ripple)
    .next (onCare (ephWrite s 0x0B t (leBytes 4 (ofSigned 32 ripple))) (fun c => { c with pfbTest := c.pfbTest.filter (fun k => k != sector) }))

/-! ### Quality figures (R529) -/

/-- EYE_MONITOR: width in mUI and height in mV of a lane's eyes, every 10 s. -/
def execEyeMonitor (lane : Nat) (width height : Int) (s : State) : Host.Outcome State Fault Refusal :=
  if 128 ≤ lane then .fault .noSuchUnit
  else .next (setFig (setFig s 1 lane width (figOut 1 width)) 2 lane height (figOut 2 height))

/-- Figures and units in the order of Table 18-7. -/
def allFigs : List (Nat × Nat) :=
  let of := fun (f n : Nat) => (List.range n).map (fun u => (f, u))
  of 1 128 ++ of 2 128 ++ of 3 16 ++ of 4 8 ++ of 5 1 ++ of 6 68 ++ of 7 68
/-- Is a default of Table 18-5 in use for a figure's unit (R523)? -/
def figDefault (s : State) (f u : Nat) : Bool :=
  let typ := match f with | 1 => 0x0A | 2 => 0x0A | 3 => 0x01 | 4 => 0x07 | 5 => 0x06 | 6 => 0x0B | _ => 0x05
  (ephFind s typ u).isNone
/-- A figure's entry; one that has not been measured is STALE with value 0. -/
def figEntry (s : State) (e : Nat × Nat) : List Byte :=
  let f := (tget s.care.figs e).getD { value := 0, stale := true, out := false, tsn := 0 }
  leBytes 1 e.1 ++ leBytes 1 (b2n f.stale + 2 * b2n (figDefault s e.1 e.2) + 4 * b2n f.out) ++ leBytes 2 e.2 ++ leBytes 4 (ofSigned 32 f.value) ++ leBytes 4 (figLimit e.1) ++ leBytes 4 f.tsn
/-- QUALITY_READ (R529). -/
def qualityReadAct : Act := fun c _ => .ok { s := c.s, body := some (allFigs.flatMap (figEntry c.s)) }

end Sys2Proof.Machine
end

