-- ==== Sys2Proof/Machine/Boot.lean ====
section
/-! DEFINITION. Boot.lean: resets, boot, supplies, thermal trip and core voltage (R28, R53, R558 to R568, R581, R582, R606 to R618). -/
namespace Sys2Proof.Machine

/-! ### Reset (R28, R564, R565) -/

/-- The owner's state that a boot out of RECOVERY keeps: its mailbox is served throughout (R579). -/
def keepOwner (s t : State) : State :=
  { t with mbx := s.mbx.filter (fun e => e.1 == ownerFn), inflight := s.inflight.filter (fun x => x.req.fn == ownerFn), hostPorts := s.hostPorts,
           held := s.held.filter (fun e => e.2.fn == ownerFn) }

/-- The block after a reset: the state after power-on but for what flash, fuses and pins hold, and for the model's own fields. What the aged silicon has
lost stays lost: worn, failed and retired tiles, with the reserves in their places (R508, R514). -/
def resetState (s : State) (cause : ResetCause) : State :=
  let z := State.reset
  let c := s.care
  let tile := fun (h : TileHealth) =>
    { st := (if h.st = .quarantined then TileSt.reserve else h.st), degr := [], temp := h.temp, spares := h.spares, rowCe := [], dueRows := [], ue := 0, changed := 0 : TileHealth }
  { z with
    dev := { z.dev with withdrawn := !s.dev.goneTiles.isEmpty, goneTiles := s.dev.goneTiles, tileMap := s.dev.tileMap },
    time := { z.time with house := s.time.houseCheckpoint, houseCheckpoint := s.time.houseCheckpoint, ageingStored := s.time.ageingStored },
    eye := { z.eye with hpd := s.eye.hpd, edid := s.eye.edid },
    hbm := { z.hbm with retired := s.hbm.retired, lost := s.hbm.lost },
    hostPorts := s.hostPorts.map (fun (h : HostPort) => { linkUp := false, perst := h.perst, vfEnable := false : HostPort }),
    log := { seq := s.log.seq, ram := [], ramPrev := (s.log.ram.getLast?.map (fun e => e.chain)).getD s.log.ramPrev, ramLost := 0, flash := s.log.flash, flashLost := s.log.flashLost },
    meter := { z.meter with seqs := s.meter.seqs, ring := s.meter.ring, ringLost := s.meter.ringLost, checkpoints := s.meter.checkpoints },
    out := s.out, free := s.free, pending := s.pending,
    care := { z.care with tiles := c.tiles.map tile, halves := c.halves, half := c.half, ephSeq := c.ephSeq, ephBad := c.ephBad, tripped := c.tripped, vcore := c.vcore },
    boot := { s.boot with running := none, fellBack := false, verFail := false, lastReset := cause, opening := none, hand := none, folioQ := [], dup := 0, crcErr := 0, notMirrored := 0,
                          mode := 0, defaulted := false, warned := false, deadline := false, swReset := false, flush := false, heldReset := none },
    dbg := { z.dbg with tap := s.dbg.tap, pins := s.dbg.pins, trst := s.dbg.trst, boundary := s.dbg.boundary, acks := s.dbg.acks } }

/-! ### Choosing a slot (R563) -/

/-- May a slot be booted by a fall-back? -/
def SlotSt.bootable (st : SlotSt) : Bool := st == .unconfirmed || st == .confirmed || st == .previous

/-- Fall back from slot `x` with a cause: the other slot runs if it may and verifies, else the device enters RECOVERY (R563). -/
def fallBack (s : State) (bad : List Nat) (x : Nat) (c : Nat × Nat) : State :=
  let s := onBoot s (fun b => { b with causePart := if c.1 = 8 then c.2 else b.causePart, verFail := b.verFail || decide (c.1 ≤ 9) })
  let y := 1 - x
  if (slotSt s y).bootable && verifies s y bad then
    let s := updateLog (writeCtl s (fun r => { r.slotTo x .failed with active := y, cause := c.1, confirmBy := 0 })) 4 c.1
    onBoot s (fun b => { b with running := some y, fellBack := true })
  else enterRecovery (updateLog (writeCtl s (fun r => { r.slotTo x .failed with cause := c.1 })) 4 c.1) bad

/-- Boot slot `p` if it verifies. A slot that is FAILED is never booted again (Table 20-3). -/
def tryBoot (s : State) (bad : List Nat) (p : Nat) : State :=
  if slotSt s p = .failed then fallBack s bad p ((ctlOf s).cause, s.boot.causePart)
  else
    let v := slotCause s p bad
    let s := verifyLog s p v
    match v with
    | none => onBoot s (fun b => { b with running := some p })
    | some c => fallBack s bad p c

/-- The ROM of S0 chooses the slot (R563, R565). -/
def romChoose (s : State) (bad : List Nat) : State :=
  let s := onBoot s (fun b => { b with fellBack := b.fallDue, fallDue := false })
  match s.boot.ctl with
  | none =>
    match ([0, 1] : List Nat).find? (fun k => verifies s k bad) with
    | none => enterRecovery s bad
    | some p => onBoot (writeCtl s (fun r => { r.slotTo p .confirmed with active := p, releases := r.releases.set p (imgRelease (slotImg s p)) })) (fun b => { b with running := some p })
  | some r =>
    let p := r.active
    let st := r.states.getD p .empty
    if st = .trial ∨ st = .unconfirmed then
      if 3 ≤ r.tries then fallBack s bad p (10, 0) else tryBoot (writeCtl s (fun r => { r with tries := r.tries + 1 })) bad p
    else if s.boot.lastReset = .bootFault then
      if 2 ≤ r.cfails then fallBack s bad p (10, 0) else tryBoot (writeCtl s (fun r => { r with cfails := r.cfails + 1 })) bad p
    else tryBoot s bad p

/-! ### Settings (R584, R585) -/

/-- Settings at their defaults. -/
def settings0 (fmt : Nat) : Settings := { format := fmt, seq := 1, masks := [], meter := (60, 0) }

/-- Bring slot `p`'s settings half into its image's format: its own half, the other half converted, or defaults. -/
def loadSettings (s : State) (p : Nat) (first dflt : Bool) : State :=
  let g := slotImg s p
  let own := s.boot.sets.getD p none
  let other := s.boot.sets.getD (1 - p) none
  let conv : Option Settings := match other with
    | some o => if imgFrom g ≤ o.format ∧ o.format ≤ imgFormat g then some { o with format := imgFormat g } else none
    | none => none
  let set := fun (x : Settings) (d : Bool) => onBoot s (fun b => { b with sets := b.sets.set p (some x), defaulted := d })
  match (if first then none else own), conv, own with
  | some _, _, _ => s
  | none, some x, _ => set x false
  | none, none, some o => if dflt then set (settings0 (imgFormat g)) true else set o false
  | none, none, none => set (settings0 (imgFormat g)) true

/-- The settings take effect: HBM masks and the metering grid (R489, R585). -/
def applySettings (s : State) : State :=
  match s.boot.running.bind (fun k => s.boot.sets.getD k none) with
  | none => s
  | some x =>
    let p := x.masks.foldl (fun (p : Plan) (e : Nat × List Nat) =>
      match p.find .hbmConfig devDome e.1 with
      | some b => p.put .hbmConfig devDome e.1 (b.take 12 ++ e.2.map (fun (n : Nat) => PV.num (n : Int)))
      | none => p) s.plan
    let p := p.put .meterConfig devDome 0 [.num x.meter.1, .num x.meter.2]
    { s with plan := p, hbm := { s.hbm with staged := x.masks } }

/-- The Ephemeris is applied: TDC trims, quartz ageing, ADC factors (R523). -/
def applyEphemeris (s : State) : State :=
  let trims := (List.range 24).filterMap (fun u => (ephFind s 0x01 u).map (fun l => (u, toSigned 32 (leField l 0 4))))
  let age := match ephFind s 0x03 0 with | some l => toSigned 32 (leField l 0 4) | none => 0
  let s := { s with time := { s.time with trims := trims, ageing := age, ageingStored := age } }
  match ephFind s 0x06 0 with
  | some l => { s with adc := { s.adc with gain := leField l 0 2, offset := toSigned 16 (leField l 2 2) } }
  | none => s

/-- Fuses that a confirmation burns: the SVN floor and revoked keys (R568, R581). -/
def burnFuses (s : State) (k : Nat) : State :=
  let g := slotImg s k
  if g.factory then s else onBoot s (fun b => { b with floor := Nat.max b.floor (Nat.min 64 (almanac g).svnFloor), revoked := b.revoked ||| (almanac g).revoke })

/-! ### The folio table (R572 to R574) -/

/-- FOLIOS of a transfer. -/
def Transfer.folios (x : Transfer) : Nat := ceilDiv x.bytes 65536
/-- Folios received. -/
def Transfer.received (x : Transfer) : Nat := ((List.range x.folios).filter (fun f => match tget x.entries f with | some e => e.2 | none => false)).length
/-- Is a transfer open: its header valid and its target RECEIVING (R574)? -/
def openXfer (s : State) : Option Transfer := match s.boot.xfer with | some x => if slotSt s x.target = .receiving then some x else none | none => none

/-- The last folio has been received: the target is READY (R573). -/
def makeReady (s : State) (x : Transfer) : State :=
  let s := writeCtl s (fun r => { r.slotTo x.target .ready with releases := r.releases.set x.target (imgRelease (slotImg s x.target)) })
  updateNotice (updateEv s 1) 1

/-! ### Boot (R564) -/

/-- Steps 4 and 5 on the slot that runs: settings, Ephemeris, open transfer, and fuses whose burning was cut short. -/
def startImage (s : State) : State :=
  match s.boot.running with
  | none => s
  | some p =>
    let s := loadSettings s p (slotSt s p == .trial) (ctlOf s).defaults
    let s := applyEphemeris (applySettings s)
    let s := if slotSt s p = .confirmed then burnFuses s p else s
    match openXfer s with
    | some x => if x.received = x.folios then makeReady s x else s
    | none => s

/-- Any reset locks the SDP with a new random CHALLENGE (R597). -/
def newChallenge (s : State) : State :=
  let (a, s) := drawNat s
  let (b, s) := drawNat s
  let (c, s) := drawNat s
  let (d, s) := drawNat s
  { s with dbg := { s.dbg with challenge := [a, b, c, d].map (BitVec.ofNat 32) } }

/-- BOOT on a state as a reset has left it (R28, R564). A thermal trip is marked in the Logbook (R618). -/
def bootUp (s : State) (bad : List Nat) : State :=
  let s := coreAtBoot (newChallenge (enterState (meterBoot s) .boot))
  let s := if s.boot.tripMark then onBoot (logAdd s { cls := 2, typ := Config.logType 5, security := true }) (fun b => { b with tripMark := false }) else s
  if !flashOk s then enterRecovery s bad else startImage (romChoose s bad)

/-- A reset that does not wait: the device boots again unless something holds it in COLD. -/
def resetNow (s : State) (cause : ResetCause) (bad : List Nat) : State :=
  let s := resetState s cause
  if s.boot.rstLow || !s.boot.supplies || s.boot.brown || s.care.tripped then s else bootUp s bad

/-- A reset that a running flush holds off (R613). -/
def resetHeld (s : State) (cause : ResetCause) (bad : List Nat) : State :=
  if s.boot.flush then onBoot s (fun b => { b with heldReset := some cause }) else resetNow s cause bad

/-- RST_N_ASSERT (R28, R613): ignored after a thermal trip (R618). -/
def execRstNAssert (s : State) : Host.Outcome State Fault Refusal :=
  let s := onBoot s (fun b => { b with rstLow := true })
  .next (if s.dev.st = .cold then s else resetHeld s .rstN [])

/-- RST_N_RELEASE (R564, R609): with the supplies in range the device boots. `flash` is the identified capacity in Mbit, 0 when identification failed, and
`bad` lists the slots that give a read error. The TAP returns to Test-Logic-Reset and the pins to their functions (R591). -/
def execRstNRelease (flash : Nat) (bad : List Nat) (s : State) : Host.Outcome State Fault Refusal :=
  if !s.boot.rstLow then .next s
  else
    let s := onBoot s (fun b => { b with rstLow := false, flash := flash })
    let s := { s with dbg := { s.dbg with tap := .idcode, pins := .normal } }
    .next (if s.dev.st ≠ .cold ∨ !s.boot.supplies ∨ s.boot.brown ∨ s.care.tripped then s else bootUp s bad)

/-- SUPPLY_LOSS (R28): the reset-cause register clears, a thermal trip ends, and the core rails will start at their default (R565, R608, R618). -/
def execSupplyLoss (s : State) : Host.Outcome State Fault Refusal :=
  let s := resetState s .power
  let s := onBoot s (fun b => { b with supplies := false })
  .next (onCare s (fun c => { c with tripped := false, vcore := CareSt.reset.vcore }))

/-- BROWN_OUT (R610): a reset without flush; the device stays in COLD until SUPPLY_RETURN. -/
def execBrownOut (s : State) : Host.Outcome State Fault Refusal :=
  .next (onBoot (resetState s .brownOut) (fun b => { b with brown := true }))

/-- SUPPLY_RETURN (R610): every rail has been in range for 10 ms. -/
def execSupplyReturn (flash : Nat) (bad : List Nat) (s : State) : Host.Outcome State Fault Refusal :=
  let s := onBoot s (fun b => { b with supplies := true, brown := false })
  .next (if s.dev.st ≠ .cold ∨ s.boot.rstLow ∨ s.care.tripped then s else bootUp (onBoot s (fun b => { b with flash := flash })) bad)

/-- BOOT_STEP_LIMIT_EXPIRY (R564, R565): a boot fault. The limits are suspended while the device is HALTED (R30). -/
def execBootStepLimitExpiry (bad : List Nat) (s : State) : Host.Outcome State Fault Refusal :=
  if s.dev.st ≠ .boot then .next s else .next (resetHeld s .bootFault bad)
/-- BOOT_FIRMWARE_FAULT (R564, R565): a boot fault. -/
def execBootFirmwareFault (bad : List Nat) (s : State) : Host.Outcome State Fault Refusal :=
  if s.dev.st ≠ .boot then .next s else .next (resetHeld s .bootFault bad)
/-- SW_RESET_EXPIRY (R443, R613): 1 ms after SW_RESET. -/
def execSwResetExpiry (bad : List Nat) (s : State) : Host.Outcome State Fault Refusal :=
  if !s.boot.swReset then .next s else .next (resetHeld s .swReset bad)
/-- DEADLINE_RESET (R582): 1 ms after a deadline's record. -/
def execDeadlineReset (bad : List Nat) (s : State) : Host.Outcome State Fault Refusal :=
  if !s.boot.deadline then .next s else .next (resetHeld s .swReset bad)

/-- A house time later by so many minutes, as CT64. -/
def ctMinutes (c k : Nat) : Nat := ct64Add c (60 * k)

/-- The running slot is UNCONFIRMED: CONFIRM_BY from CONFIRM_HOURS, source 1365 and its notice (R581). -/
def confirmFrom (s : State) : Nat := if s.boot.hours = 0 then 0 else ctMinutes (houseCt64 s) (60 * s.boot.hours)

/-- Post-package repair has returned pages of the retired list to service (R502). -/
def repairPages (s : State) (l : List (Nat × Nat)) : State :=
  l.foldl (fun (s : State) (e : Nat × Nat) =>
    match s.hbm.retired.find? (fun r => r.1 == e.1 && r.2.1 == e.2) with
    | none => s
    | some r => hbmEvent (hbmCount (onHbm s (fun b => { b with retired := b.retired.erase r, lost := b.lost.erase (r.1, r.2.2) })) .pprDone e.1 1) e.1 3) s

/-- BOOT_COMPLETE: step 7 of Table 20-4 (R563 to R565, R581). The operands are what step 6 found: pages repaired, tiles that fail, and control processors
that did not start. -/
def execBootComplete (repaired : List (Nat × Nat)) (tiles cps : List Nat) (s : State) : Host.Outcome State Fault Refusal :=
  match s.boot.running with
  | none => .next s
  | some k =>
    if s.dev.st ≠ .boot then .next s
    else
      let s := repairPages s repaired
      let roles := s.care.cps.zipIdx.map (fun (e : CpRole × Nat) => if cps.contains e.2 then CpRole.failed else e.1)
      let s := onCare s (fun c => { c with cps := roles })
      if (cpIn s .active).isNone && (cpIn s .standby).isNone then .next (enterRecovery s [])
      else
        let s := match cpIn s .active, cpIn s .standby with
          | none, some b => onCare s (fun c => { c with cps := c.cps.set b .active })
          | _, _ => s
        let trial := slotSt s k == .trial
        let by' := confirmFrom s
        let s := if trial then writeCtl s (fun r => { r.slotTo k .unconfirmed with confirmBy := by', cfails := 0 })
          else if (ctlOf s).cfails = 0 then s else writeCtl s (fun r => { r with cfails := 0 })
        let s := if trial then updateNotice (updateEv (updateLog s 5 k) 5) 5 else s
        let s := if s.boot.verFail then updateEv s 2 else s
        let s := if s.boot.fellBack then updateNotice (updateEv s 4) 4 else s
        let s := tiles.foldl failTile s
        let s := (List.range 68).foldl (fun (s : State) (t : Nat) => if (tileOf s t).st = .worn ∨ (tileOf s t).st = .failed then decideSwap s t ((tileOf s t).st == .failed) else s) s
        .next (calBegin s 0 0)

/-! ### Flush, supplies and temperature (R609 to R618) -/

/-- Every SECURITY entry and every closed metering record goes to flash (R429, R435). -/
def flushAll (s : State) : State :=
  let due := s.log.ram.filter (fun e => e.eflags.testBit 0 && !e.eflags.testBit 1)
  let all := s.log.flash ++ due
  let ram := rechain s.log.ramPrev (s.log.ram.map (fun (e : LogEntry) => if e.eflags.testBit 0 then { e with eflags := e.eflags ||| 2 } else e))
  let recs := s.meter.ring ++ s.meter.closed
  { s with log := { s.log with ram := ram, flash := all.drop (all.length - flashRing), flashLost := s.log.flashLost + (all.length - flashRing) },
           meter := { s.meter with closed := [], ring := recs.drop (recs.length - meterRing), ringLost := s.meter.ringLost + (recs.length - meterRing) },
           time := { s.time with houseCheckpoint := s.time.house } }

/-- THERMAL_WARNING (R509, R615). -/
def execThermalWarning (tile : Nat) (s : State) : Host.Outcome State Fault Refusal :=
  if 68 ≤ tile then .fault .noSuchUnit else .next (careEvent s 1319 tile)
/-- THERMAL_CRITICAL (R509, R615): THERM_N goes low. -/
def execThermalCritical (tile : Nat) (s : State) : Host.Outcome State Fault Refusal :=
  if 68 ≤ tile then .fault .noSuchUnit else .next (careEvent (onCare s (fun c => { c with therm := true })) 1320 tile)
/-- THERMAL_TRIP (R613, R618): THERMTRIP_N goes low, a flush runs, and the reset follows it; the next boot marks the trip. -/
def execThermalTrip (s : State) : Host.Outcome State Fault Refusal :=
  if s.dev.st = .cold then .next s
  else .next (onBoot (onCare s (fun c => { c with tripped := true })) (fun b => { b with tripMark := true, flush := true, heldReset := some .thermalTrip }))

/-- Set point of a sector in 10 µV from V_VID and its largest median degradation (R611). -/
def setPoint (s : State) (k : Nat) : Nat :=
  let ts := ((List.range 17).map (fun i => 17 * k + i)).filter (fun t => ((tileOf s t).st == .active || (tileOf s t).st == .warn) && (tileOf s t).degr.length == 5)
  let d := ts.foldl (fun (a : Int) (t : Nat) => max a (median5 (tileOf s t).degr)) 0
  Nat.min 80000 (Config.vVid k + 5 * d.toNat)

/-- VCORE_ADJUST (R611): the sector's rail moves to its set point, or its regulator is left alone until the next boot. Where a regulator never answered,
tiles that need more than the default are worn. -/
def execVcoreAdjust (sector : Nat) (ok : Bool) (s : State) : Host.Outcome State Fault Refusal :=
  if 4 ≤ sector then .fault .noSuchUnit
  else
    let s := if s.care.vfault.getD sector false then s
      else if ok then onCare s (fun c => { c with vcore := c.vcore.set sector (setPoint s sector) })
      else careEvent (onCare s (fun c => { c with vfault := c.vfault.set sector true })) 1321 sector
    if s.care.vfault.getD sector false && s.care.vcore.getD sector 0 == 75000 then
      .next (((List.range 17).map (fun i => 17 * sector + i)).foldl (fun (s : State) (t : Nat) =>
        if (tileOf s t).degr.length = 5 ∧ 75000 < (Config.vVid sector : Int) + 5 * median5 (tileOf s t).degr then wearTile s t else s) s)
    else .next s

end Sys2Proof.Machine
end

