-- ==== Sys2Proof/Machine/Update.lean ====
section
/-! DEFINITION. Update.lean: folio transfer, activation, live handover, confirmation and fall-back (R572 to R589). -/
namespace Sys2Proof.Machine

/-- Slot that an update goes into: the one that does not run, in RECOVERY the one that ACTIVE does not name. -/
def updTarget (s : State) : Nat := 1 - (s.boot.running.getD (ctlOf s).active)
/-- Is the running slot UNCONFIRMED? -/
def runsUnconfirmed (s : State) : Bool := match s.boot.running with | some k => slotSt s k == .unconfirmed | none => false
/-- Has a handover not yet taken over? -/
def handing (s : State) : Bool := match s.boot.hand with | some h => decide (h.stage < 3) | none => false

/-! ### UPDATE_STATUS (R587) -/

/-- TRANSFER_STATE and the transfer it speaks of. -/
def xferState (s : State) : Nat × Option Transfer :=
  match s.boot.xfer with
  | none => (0, none)
  | some x => match slotSt s x.target with | .receiving => (1, some x) | .ready => (2, some x) | _ => (0, none)
/-- A list of flags as bytes, flag 0 in bit 0 of byte 0. -/
def flagBytes (l : List Bool) (n : Nat) : List Byte := (List.range n).map (fun i => BitVec.ofNat 8 ((List.range 8).foldl (fun (a : Nat) (j : Nat) => a + 2 ^ j * b2n (l.getD (8 * i + j) false)) 0))
/-- Code of a slot state (Table 20-3). -/
def SlotSt.code : SlotSt → Nat
  | .empty => 0 | .receiving => 1 | .ready => 2 | .trial => 3 | .unconfirmed => 4 | .confirmed => 5 | .previous => 6 | .failed => 7
/-- The update status record (Table 20-11), with a cause in place of the record's where one is given. -/
def statusRecord (s : State) (cause : Option Nat) : List Byte :=
  let r := ctlOf s
  let x := xferState s
  let n := (x.2.map (fun t => t.folios)).getD 0
  let fmt := fun (k : Nat) => ((s.boot.sets.getD k none).map (fun t => t.format)).getD 0
  let map := (List.range n).map (fun f => match x.2 with | some t => (match tget t.entries f with | some e => e.2 | none => false) | none => false)
  leBytes 8 (80 + ceilDiv n 8) ++ leBytes 1 x.1 ++ leBytes 1 (s.boot.running.getD r.active) ++ leBytes 1 (slotSt s 0).code ++ leBytes 1 (slotSt s 1).code ++
  leBytes 1 r.tries ++ leBytes 1 s.boot.floor ++ leBytes 1 (cause.getD r.cause) ++ leBytes 1 s.boot.causePart ++ leBytes 4 (r.releases.getD 0 0) ++ leBytes 4 (r.releases.getD 1 0) ++
  leBytes 8 r.confirmBy ++ (match x.2 with | some t => t.digest.take 4 | none => leBytes 4 0) ++ leBytes 4 n ++ leBytes 4 ((x.2.map (fun t => t.received)).getD 0) ++
  leBytes 4 s.boot.dup ++ leBytes 4 s.boot.crcErr ++ leBytes 2 (fmt 0) ++ leBytes 2 (fmt 1) ++ leBytes 4 s.boot.notMirrored ++ leBytes 4 s.boot.flash ++
  leBytes 1 s.boot.mode ++ leBytes 1 (b2n s.boot.defaulted + 2 * b2n s.boot.fellBack) ++ leBytes 1 r.cfails ++ leBytes 13 0 ++ flagBytes map (ceilDiv n 8)
/-- The record as a response body: its LENGTH field is the header of R402. -/
def statusBody (s : State) (cause : Option Nat) : Option (List Byte) := some ((statusRecord s cause).drop 8)
/-- UPDATE_STATUS. -/
def updateStatusAct : Act := fun c _ => .ok { s := c.s, body := statusBody c.s none }

/-! ### UPDATE_BEGIN and FOLIO_WRITE (R572, R573) -/

/-- Block of UPDATE_BEGIN (Table 20-12). -/
def updateBeginBlock : List Param := List.replicate 6 ⟨"DIGEST", .any, .req, []⟩ ++ [⟨"IMAGE_BYTES", .any, .req, []⟩, pF "RESUME" 0]
/-- Number in an unsigned slot of full range. -/
def wideNat (b : Block) (i : Nat) : Nat := match b.at i with | .num x => ofSigned 64 x | _ => 0
/-- UPDATE_BEGIN. -/
def updateBeginAct : Act := fun c m =>
  let s := c.s
  let t := updTarget s
  let digest := (List.range 6).flatMap (fun i => leBytes 8 (wideNat m.block i))
  let bytes := wideNat m.block 6
  let resume := m.block.flag 7
  let there := match s.boot.opening.orElse (fun _ => openXfer s) with | some x => x.digest == digest | none => false
  if resume && !there then .error (rej .nosuch 0)
  else if runsUnconfirmed s || slotSt s t == .trial || handing s then .error (rej .busy 0)
  else if slotBytes s < bytes then .error (rej .capacity 0)
  else if resume then .ok { s := s }
  else
    let s := writeCtl s (fun r => { r.slotTo t .receiving with releases := r.releases.set t 0 })
    .ok { s := onBoot s (fun b => { b with xfer := none, opening := some { digest := digest, bytes := bytes, target := t, entries := [] },
                                           slots := b.slots.set t { factory := false, folios := (slotImg s t).folios } }) }

/-- Block of FOLIO_WRITE: raw. -/
def folioWriteBlock : List Param := [⟨"TRANSFER", .any, .req, []⟩, ⟨"FOLIO", .any, .req, []⟩, ⟨"CRC", .any, .req, []⟩]

/-- Write one folio: the state, the status with its DETAIL, and RESULT (R573). -/
def folioWrite (s : State) (id f crc : Nat) (data : List Byte) : State × Status × Nat × Nat :=
  match openXfer s with
  | none => (s, .nosuch, 0, 0)
  | some x =>
    let missing := x.folios - x.received
    if id ≠ leField x.digest 0 4 then (s, .nosuch, 0, 0)
    else if x.folios ≤ f then (s, .format, 1, 0)
    else if data.length ≠ 65536 then (s, .format, 0xFFFF, 0)
    else if crc32c data ≠ crc then (onBoot s (fun b => { b with crcErr := b.crcErr + 1 }), .format, 2, 0)
    else
      let old := tget x.entries f
      if old = some (crc, true) then (onBoot s (fun b => { b with dup := b.dup + 1 }), .ok, 0, missing)
      else if (match old with | some e => e.1 != crc | none => false) then (s, .inconsistent, 2, 0)
      else
        let put := fun (s : State) (mark : Bool) => onBoot s (fun b => { b with xfer := some { x with entries := tset x.entries f (crc, mark) } })
        let d := drawNat s
        if Config.flashFail d.1 then (put d.2 false, .capacity, 0, 0)
        else
          let s := onBoot d.2 (fun b => { b with slots := b.slots.modify x.target (fun g => { g with folios := tset g.folios f data }) })
          let s := updateEv (put s true) 0
          match openXfer s with
          | some y => if y.received = y.folios then (makeReady s y, .ok, 0, 0) else (s, .ok, 0, y.folios - y.received)
          | none => (s, .ok, 0, 0)

/-- Must folio work wait: for the transfer header, or for the end of a power-fail flush (R572, R575)? -/
def folioWaits (s : State) : Bool := s.boot.opening.isSome || s.boot.flush || s.meter.powerFail
/-- FOLIO_WRITE. -/
def folioWriteAct : Act := fun c m =>
  let bad := firstRej [rejIf (handing c.s) (rej .busy 0)]
  match bad, c.q with
  | some r, _ => .error r
  | none, q =>
    match (if folioWaits c.s then q else none) with
    | some q => .ok { s := onBoot c.s (fun b => { b with folioQ := b.folioQ ++ [q] }), later := true }
    | none =>
      match folioWrite c.s (wideNat m.block 0) (wideNat m.block 1) (wideNat m.block 2) m.data with
      | (s, st, d, n) => .ok { s := s, status := st, detail := d, result := n }

/-- The folios that waited are written, in their order. -/
def folioDrain (s : State) : State :=
  if folioWaits s then s
  else
    let l := s.boot.folioQ
    l.foldl (fun (s : State) (q : Request) =>
      let n := fun (i : Nat) => (q.slots.getD i 0).toNat
      match folioWrite s (n 0) (n 1) (n 2) q.data with
      | (s, st, d, r) => finish s Op.folioWrite.info.code q st.code d (tsnOf s.time.tick64) r 0 none) (onBoot s (fun b => { b with folioQ := [] }))

/-- TRANSFER_HEADER_WRITE: UPDATE_STATE is erased and the new header written (R572, step 3). -/
def execTransferHeaderWrite (s : State) : Host.Outcome State Fault Refusal :=
  match s.boot.opening with
  | none => .next s
  | some x => .next (folioDrain (onBoot s (fun b => { b with xfer := some x, opening := none })))

/-! ### Activation and handover (R576 to R580) -/

/-- Conditions of R578 that a handover to a slot would break, by number. -/
def handoverBreach (s : State) (t : Nat) : List Nat :=
  let live := s.dev.st == .calibrate || s.dev.st == .maintenance
  let same := match s.boot.running with | some k => ([3, 4, 5] : List Nat).all (fun p => partDigest (slotImg s k) p == partDigest (slotImg s t) p) | none => false
  (if live || s.dev.st == .recovery then [] else [1]) ++ (if imgHandover (slotImg s t) then [] else [2]) ++
  (if live && (cpIn s .standby).isNone then [3] else []) ++ (if live && !same then [4] else [])

/-- Begin a handover: the incoming processor, the standby where work runs, is reset and leaves service (R579, step 1). -/
def handBegin (s : State) (h : Handover) : State :=
  let s := onBoot s (fun b => { b with hand := some h })
  if s.dev.st = .recovery then s
  else match cpIn s .standby with | some k => onCare s (fun c => { c with cps := c.cps.set k .quarantined }) | none => s

/-- Block of UPDATE_ACTIVATE (Table 20-12). -/
def updateActivateBlock : List Param := [pWd "MODE" ["AUTO", "RESET", "HANDOVER"] 0, pD "CONFIRM_HOURS" 0 720 24, pF "DEFAULTS" 0]
/-- UPDATE_ACTIVATE (R576 to R579). -/
def updateActivateAct : Act := fun c m =>
  let s := c.s
  let t := updTarget s
  let g := slotImg s t
  let breach := handoverBreach s t
  let dflt := m.block.flag 2
  let newer := match s.boot.sets.getD (1 - t) none with | some o => decide (o.format < imgFrom g) | none => false
  if slotSt s t ≠ .ready then .error (rej .nosuch 0)
  else if runsUnconfirmed s || handing s || (m.block.is 0 2 && (breach.contains 1 || breach.contains 3)) then .error (rej .busy 0)
  else match bindCause s g with
    | some k => .error { status := .format, detail := 0xFFFF, resp := (statusRecord s (some k)).drop 8 }
    | none =>
      if newer && !dflt then .error (rej .inconsistent 2)
      else if m.block.is 0 2 && !breach.isEmpty then .error (rej .inconsistent 0)
      else
        let s := onBoot s (fun b => { b with hours := m.block.nat 1 })
        if m.block.is 0 1 || !breach.isEmpty then
          let s := writeCtl s (fun r => { r.slotTo t .trial with active := t, tries := 0, defaults := dflt })
          let s := onBoot s (fun b => { b with mode := 1 })
          .ok { s := s, body := statusBody s none }
        else .ok { s := handBegin s { req := c.q, target := t, back := false, hours := m.block.nat 1, defaults := dflt, stage := 0 }, later := true }

/-- HANDOVER_VERIFY_DONE (R579, step 1): the incoming processor's ROM has verified the target; `bad` lists slots that give a read error. -/
def execHandoverVerifyDone (bad : List Nat) (s : State) : Host.Outcome State Fault Refusal :=
  match s.boot.hand with
  | none => .next s
  | some h =>
    if h.stage ≠ 0 then .next s
    else
      let v := slotCause s h.target bad
      let s := verifyLog s h.target v
      match v with
      | none => .next (onBoot s (fun b => { b with hand := some { h with stage := 1 } }))
      | some c =>
        let s := writeCtl s (fun r => { r.slotTo h.target .failed with cause := c.1 })
        let s := updateEv (onBoot s (fun b => { b with hand := none, causePart := if c.1 = 8 then c.2 else b.causePart, deadline := b.deadline || (h.back && h.hours == 11) })) 2
        let s := match cpIn s .quarantined with | some k => if s.dev.st = .recovery then s else careEvent s 1315 k | none => s
        match h.req with
        | some q => .next (finishRej s Op.updateActivate.info.code q (rej .denied 0))
        | none => .next s

/-- HANDOVER_READY (R579, steps 2 and 3): the settings are in the incoming image's own half and its record is written. A handover back to an older
image writes no record: the one that named it stands. -/
def execHandoverReady (s : State) : Host.Outcome State Fault Refusal :=
  match s.boot.hand with
  | none => .next s
  | some h =>
    if h.stage ≠ 1 then .next s
    else
      let s := onBoot s (fun b => { b with hand := some { h with stage := 2 } })
      if h.back then .next s
      else
        let s := loadSettings s h.target true h.defaults
        let by' := confirmFrom s
        .next (onBoot (writeCtl s (fun r => { r.slotTo h.target .unconfirmed with active := h.target, tries := 1, confirmBy := by', defaults := h.defaults })) (fun b => { b with warned := false }))

/-- What follows a takeover: UPDATE_ACTIVATE completes, or the fall-back is announced (R579, step 5; R582). -/
def handDone (s : State) (h : Handover) : State :=
  if h.back then updateNotice (updateEv (updateLog s 4 h.target) 4) 4
  else
    let s := updateNotice (updateEv (updateEv (updateLog s 3 h.target) 3) 5) 5
    match h.req with
    | some q => finish s Op.updateActivate.info.code q 0 0 (tsnOf s.time.tick64) 0 0 (statusBody s none)
    | none => s

/-- HANDOVER_TAKEOVER (R579, step 4; R580): the new firmware takes over; nothing of the datapath, the configuration or the mailboxes changes. In
RECOVERY the device enters BOOT with the target's image. -/
def execHandoverTakeover (s : State) : Host.Outcome State Fault Refusal :=
  match s.boot.hand with
  | none => .next s
  | some h =>
    if h.stage ≠ 2 then .next s
    else
      let s := onBoot s (fun b => { b with mode := if h.back then b.mode else 2 })
      if s.dev.st = .recovery then
        let md := s.boot.mode
        let t := keepOwner s (resetState s s.boot.lastReset)
        let t := onBoot t (fun b => { b with running := some h.target, mode := md, fellBack := h.back, fallDue := false, hand := some { h with stage := 3 } })
        .next (handDone (startImage (enterState (meterBoot t) .boot)) h)
      else
        let s := onBoot s (fun b => { b with running := some h.target, fellBack := h.back, fallDue := false, hand := some { h with stage := 3 } })
        let s := match cpIn s .active, cpIn s .quarantined with
          | some a, some b => careEvent (onCare s (fun c => { c with cps := (c.cps.set a .quarantined).set b .active })) 1315 a
          | _, _ => s
        .next (handDone { s with regs := { s.regs with copies := [] } } h)

/-- OUTGOING_REBOOT_DONE (R579, step 6): the outgoing processor has booted the target and is the quarantined standby. -/
def execOutgoingRebootDone (s : State) : Host.Outcome State Fault Refusal :=
  match s.boot.hand with
  | none => .next s
  | some h => .next (if h.stage = 3 then verifyLog (onBoot s (fun b => { b with hand := none })) h.target none else s)

/-! ### Confirmation and fall-back (R581 to R583) -/

/-- UPDATE_CONFIRM. -/
def updateConfirmAct : Act := fun c _ =>
  let s := c.s
  match s.boot.running with
  | none => .error (rej .nosuch 0)
  | some k =>
    if slotSt s k ≠ .unconfirmed then .error (rej .nosuch 0)
    else
      let other := if slotSt s (1 - k) = .failed then SlotSt.failed else .previous
      let s := writeCtl s (fun r => { (r.slotTo k .confirmed).slotTo (1 - k) other with tries := 0, confirmBy := 0 })
      .ok { s := burnFuses (onBoot s (fun b => { b with warned := false })) k }

/-- The running image is written FAILED and the other slot becomes ACTIVE; a handover brings it in where R578 permits that (R582, R583). -/
def giveUp (s : State) (k cause : Nat) : State :=
  let s := writeCtl s (fun r => { r.slotTo k .failed with active := 1 - k, cause := cause, confirmBy := 0 })
  let s := updateLog (onBoot s (fun b => { b with fallDue := true, warned := false })) 4 cause
  if (slotSt s (1 - k)).bootable && (handoverBreach s (1 - k)).isEmpty then
    handBegin s { req := none, target := 1 - k, back := true, hours := cause, defaults := false, stage := 0 }
  else s

/-- UPDATE_ABORT (Table 20-9). -/
def updateAbortAct : Act := fun c _ =>
  let s := c.s
  let t := updTarget s
  if handing s then .error (rej .busy 0)
  else if runsUnconfirmed s then .ok { s := giveUp s (1 - t) 12 }
  else match slotSt s t with
    | .trial => .ok { s := writeCtl s (fun r => { r.slotTo t .ready with active := 1 - t }) }
    | .receiving => .ok { s := clear s t }
    | .ready => .ok { s := clear s t }
    | _ => .error (rej .nosuch 0)
where clear (s : State) (t : Nat) : State := onBoot (writeCtl s (fun r => { r.slotTo t .empty with releases := r.releases.set t 0 })) (fun b => { b with xfer := none, opening := none })

/-- CONFIRM_WARNING: 60 minutes before the deadline (R581). -/
def execConfirmWarning (s : State) : Host.Outcome State Fault Refusal :=
  let r := ctlOf s
  if !runsUnconfirmed s || r.confirmBy = 0 || s.boot.warned || ct64Earlier (ctMinutes (houseCt64 s) 60) r.confirmBy || s.dev.st == .halted then .next s
  else .next (updateNotice (updateEv (onBoot s (fun b => { b with warned := true })) 5) 5)

/-- CONFIRM_DEADLINE: house time has passed CONFIRM_BY (R582); in HALTED it acts at the resume (R600). -/
def execConfirmDeadline (s : State) : Host.Outcome State Fault Refusal :=
  let r := ctlOf s
  match s.boot.running with
  | none => .next s
  | some k =>
    if !runsUnconfirmed s || r.confirmBy = 0 || !ct64Earlier r.confirmBy (houseCt64 s) || s.dev.st == .halted || handing s then .next s
    else
      let s := giveUp s k 11
      .next (if handing s then s else onBoot s (fun b => { b with deadline := true }))

/-! ### The end of a flush (R613) -/

/-- FLUSH_END: a flush that ran to its end has written everything; a reset that it held off takes effect. -/
def execFlushEnd (complete : Bool) (s : State) : Host.Outcome State Fault Refusal :=
  if !s.boot.flush then .next s
  else
    let s := onBoot (if complete then flushAll s else s) (fun b => { b with flush := false })
    match s.boot.heldReset with
    | some c => .next (resetNow s c [])
    | none => .next (folioDrain s)

/-! ### STATE_SET (R28, R29, Table 13-15) -/

/-- Block of STATE_SET. -/
def stateSetBlock : List Param := [pW "STATE" ["CALIBRATE", "SERVICE", "DEGRADED", "MAINTENANCE", "RECOVERY", "BOOT"]]
/-- May the owner's command make this transition (Table 1-6)? -/
def stateSetOk (st : DevState) (k : Nat) : Bool :=
  match k with
  | 0 => st == .service || st == .degraded
  | 1 => st == .maintenance
  | 2 => st == .maintenance
  | 3 => st == .service || st == .degraded
  | 4 => st == .calibrate || st == .service || st == .degraded || st == .maintenance
  | _ => st == .recovery
/-- STATE_SET: MAINTENANCE is left for DEGRADED if any capacity is withdrawn (R29); BOOT leaves RECOVERY with the owner's mailbox served. -/
def stateSetC : CSpec :=
  { busy := fun c m => rejIf (m.block.is 0 0 && calBusy c.s 0 0) (rej .busy 0),
    verify := fun c _ m => rejIf (!stateSetOk c.s.dev.st ((m.block.word? 0).getD 9)) (rej .inconsistent 0),
    apply := fun _ m s =>
      let k := (m.block.word? 0).getD 9
      if !stateSetOk s.dev.st k then s else
      match k with
      | 0 => calBegin s 0 0
      | 1 => enterState s (if s.dev.withdrawn then .degraded else .service)
      | 2 => enterState s (if s.dev.withdrawn then .degraded else .service)
      | 3 => enterState s .maintenance
      | 4 => enterRecovery s []
      | _ => bootUp (keepOwner s (resetState s s.boot.lastReset)) [] }

end Sys2Proof.Machine
end

