-- ==== Sys2Proof/Machine/Debug.lean ====
section
/-! DEFINITION. Debug.lean: boundary scan, debug tokens, and what the Serial Debug Port reads, writes, halts and resumes (R590 to R602). -/
namespace Sys2Proof.Machine

/-- Change the debug ports. -/
def onDebug (s : State) (f : DebugSt → DebugSt) : State := { s with dbg := f s.dbg }
/-- DEBUG entry with SECURITY (R602); `kind` keeps apart what does not merge. -/
def debugLog (s : State) (kind dome addr status : Nat) : State :=
  logAdd s { cls := 6, typ := Config.logType kind, dome := dome, gen := if dome < 256 then genOf s dome else 0, addr := addr, status := status }

/-! ### Boundary scan (R590, R591) -/

/-- The TAP takes an instruction, unless TRST_N is low. -/
def tapLoad (s : State) (r : TapReg) (p : PinMode) (cells : Option (List Bool)) : State :=
  if s.dbg.trst then s else onDebug s (fun d => { d with tap := r, pins := p, boundary := cells.getD d.boundary })
/-- What the selected data register shifts out where the spec fixes it: IDCODE. -/
def tapIdcode : Word := 0x16428EB5

/-- JTAG_EXTEST: the boundary register drives the pins while RST_N is low. -/
def execJtagExtest (cells : List Bool) (s : State) : Host.Outcome State Fault Refusal :=
  .next (if s.boot.rstLow then tapLoad s .boundary .extest (some cells) else tapLoad s .bypass .normal none)
/-- JTAG_SAMPLE_PRELOAD: the boundary register holds what was sampled or preloaded. -/
def execJtagSamplePreload (cells : List Bool) (s : State) : Host.Outcome State Fault Refusal := .next (tapLoad s .boundary .normal (some cells))
/-- JTAG_IDCODE. -/
def execJtagIdcode (s : State) : Host.Outcome State Fault Refusal := .next (tapLoad s .idcode .normal none)
/-- JTAG_CLAMP: the pins hold the boundary register's values while RST_N is low. -/
def execJtagClamp (s : State) : Host.Outcome State Fault Refusal := .next (tapLoad s .bypass (if s.boot.rstLow then .clamp else .normal) none)
/-- JTAG_HIGHZ. -/
def execJtagHighz (s : State) : Host.Outcome State Fault Refusal := .next (tapLoad s .bypass (if s.boot.rstLow then .highz else .normal) none)
/-- JTAG_BYPASS: also every unsupported code. -/
def execJtagBypass (s : State) : Host.Outcome State Fault Refusal := .next (tapLoad s .bypass .normal none)
/-- TRST_ASSERT: while TRST_N is low the TAP stays in Test-Logic-Reset; its release frees the TAP. -/
def execTrstAssert (low : Bool) (s : State) : Host.Outcome State Fault Refusal :=
  .next (onDebug s (fun d => if low then { d with trst := true, tap := .idcode, pins := .normal } else { d with trst := false }))

/-! ### Halt and resume (R598 to R601) -/

/-- Debug registers of a control processor. -/
def cpOf (s : State) (k : Nat) : CpDebug := s.dbg.cps.getD k CpDebug.reset
/-- Change a control processor's debug registers. -/
def onCp (s : State) (k : Nat) (f : CpDebug → CpDebug) : State := onDebug s (fun d => { d with cps := d.cps.modify k f })

/-- Halt a control processor: halting the active one takes the device to HALTED (R600). -/
def cpHalt (s : State) (k cause : Nat) : State :=
  let s := debugLog (onCp s k (fun c => { c with halted := true, cause := cause, haltReq := false })) 6 0xFFFF k 0
  match s.dev.st with
  | .cold => s
  | .halted => s
  | st => if cpIn s .active = some k then enterState { s with dev := { s.dev with left := st } } .halted else s
/-- Resume a control processor; what its memories hold is its own again. -/
def cpResume (s : State) (k : Nat) : State :=
  if !(cpOf s k).halted then s
  else
    let s := debugLog (onCp s k (fun c => { c with halted := false, haltReq := false, mem := [] })) 7 0xFFFF k 0
    if s.dev.st = .halted ∧ cpIn s .active = some k then enterState s s.dev.left else s
/-- Resume every control processor; `clear` removes their breakpoints, and their watchpoints with `wps`. -/
def cpResumeAll (s : State) (wps : Bool) : State :=
  let s := onDebug s (fun d => { d with cps := d.cps.map (fun (c : CpDebug) => { c with bps := List.replicate 4 0, wps := if wps then List.replicate 2 (0, 0) else c.wps }) })
  (List.range 4).foldl cpResume s

/-- Halt a Sextant at its next bundle boundary: at once where no bundle is issuing. -/
def sxHaltReq (s : State) (t : Nat) : State :=
  onSx s t (fun e => if e.halted then e else if e.run == .running then { e with haltReq := true } else sxHalt e 1)
/-- Resume a Sextant. -/
def sxResume (e : Sextant) : Sextant := { e with halted := false, haltReq := false, stepping := false }
/-- One bundle, then halt; interrupts stay pending. A WAIT is stepped over when it ends (R599). -/
def sxStep (s : State) (t : Nat) : State :=
  let e := sxOf s t
  if e.run != .running then onSx s t (fun e => match e.run with | .waiting _ => { e with halted := true, stepping := true, haltReq := false } | _ => sxHalt e 2)
  else
    let s := issue (onSx s t (fun e => { e with halted := true, stepping := true, haltReq := false })) t false
    onSx s t (fun e => match e.run with | .waiting _ => e | _ => if e.stepping then sxHalt e 2 else e)

/-- Bits of DBG_CTRL act on an engine: HALT, else STEP, else RESUME. The control processor's own instructions lie outside the spec: a STEP leaves what
its memories hold open. -/
def dbgCtrl (s : State) (target w : Nat) : State :=
  if target < 68 then
    (if w.testBit 0 then sxHaltReq s target else if w.testBit 2 then sxStep s target else if w.testBit 1 then onSx s target sxResume else s)
  else
    let k := target - 96
    if w.testBit 0 then (if (cpOf s k).halted then s else cpHalt s k 1)
    else if w.testBit 2 then (let s := if (cpOf s k).halted then s else cpHalt s k 2
                              onCp s k (fun c => { c with cause := 2, mem := [] }))
    else if w.testBit 1 then cpResume s k else s

/-- Is a TARGET an engine (Table 21-2)? -/
def isEngine (t : Nat) : Bool := decide (t < 68) || (decide (96 ≤ t) && decide (t ≤ 99))

/-! ### Tokens (R595 to R597) -/

/-- The SDP locks: every breakpoint and watchpoint goes, every halted engine resumes, and a new CHALLENGE stands (R597). -/
def sdpLock (s : State) : State :=
  let s := { s with sextants := s.sextants.map (fun (e : Nat × Sextant) => (e.1, { sxResume e.2 with bps := List.replicate 4 0, wps := List.replicate 2 (0, 0) })) }
  let s := cpResumeAll s true
  let (a, s) := drawNat s
  let (b, s) := drawNat s
  let (c, s) := drawNat s
  let (d, s) := drawNat s
  let s := onDebug s (fun x => { x with locked := true, scope := 0, expires := 0, words := [], checking := false, challenge := [a, b, c, d].map (BitVec.ofNat 32) })
  debugLog s 8 0xFFFF 0 0

/-- Is the form of a token right: MAGIC, VERSION, reserved fields (Table 21-3)? -/
def tokenForm (l : List Byte) : Bool :=
  l.length == 256 && leField l 0 4 == 0x44424731 && leField l 4 2 == 1 && leField l 6 2 / 16 == 0 && zeroField l 45 3 && zeroField l 145 15
/-- Does a token of the right form unlock this unit now (R596)? -/
def tokenOk (s : State) (l : List Byte) : Bool :=
  let k := leField l 44 1
  let key := sliceL l 48 97
  decide (k < 4) && sha384 key == Config.rootKeyHash k && !s.boot.revoked.testBit k && ecdsaOk key (l.take 160) (sliceL l 160 96) &&
  leField l 8 4 == 0x00642801 && leField l 12 8 == Config.serial.toNat && leField l 12 8 != 0 &&
  (leField l 20 16 == 0 || sliceL l 20 16 == s.dbg.challenge.flatMap (fun w => leBytes 4 w.toNat)) && ct64Earlier (houseCt64 s) (leField l 36 8)
/-- Accept a token. -/
def tokenTake (s : State) (l : List Byte) : State :=
  let s := onDebug s (fun d => { d with locked := false, scope := leField l 6 2, expires := leField l 36 8 })
  raiseEv (debugLog s 9 0xFFFF (leField l 6 2) 0) 1351 1344
/-- Refuse a token. -/
def tokenRefuse (s : State) : State := debugLog s 10 0xFFFF 0 Status.denied.code

/-- DEBUG_UNLOCK: the parameter buffer is the token. A refusal leaves its entry in the Logbook. -/
def debugUnlockAct : Act := fun c m =>
  if !tokenForm m.data then .error (rej .format 0xFFFF)
  else if tokenOk c.s m.data then .ok { s := tokenTake c.s m.data }
  else .ok { s := tokenRefuse c.s, status := .denied }
/-- DEBUG_LOCK: the new CHALLENGE is the response. -/
def debugLockAct : Act := fun c _ => let s := sdpLock c.s
                                     .ok { s := s, body := some (s.dbg.challenge.flatMap (fun w => leBytes 4 w.toNat)) }

/-- A word of a token over the SDP. -/
def tokenData (s : State) (w : Word) : State := onDebug s (fun d => { d with words := d.words ++ [w] })
/-- A write of TOKEN_GO starts the check where bit 0 is set. -/
def tokenGo (s : State) (w : Word) : State := if w = 1 then onDebug s (fun d => { d with checking := true }) else s
/-- The check of TOKEN_GO ends. -/
def tokenDone (s : State) : State :=
  if !s.dbg.checking then s
  else
    let l := s.dbg.words.flatMap (fun w => leBytes 4 w.toNat)
    let s := onDebug s (fun d => { d with checking := false, words := [] })
    if tokenForm l && tokenOk s l then tokenTake s l else tokenRefuse (onDebug s (fun d => { d with tokenFail := true }))

/-- SDP_STATUS. -/
def sdpStatus (d : DebugSt) : Nat := 2 ^ 31 * b2n d.tokenFail + 2 ^ 30 * b2n d.parityErr + 2 ^ 29 * b2n d.checking + 16 * (d.scope % 65536) + b2n d.locked
/-- Read a register of the SDP control map (Table 21-4). -/
def sdpCtlRead (s : State) (off : Nat) : Word :=
  if off = 0 then 0x56466428
  else if off = 4 then BitVec.ofNat 32 (sdpStatus s.dbg)
  else if 8 ≤ off ∧ off ≤ 0x14 then s.dbg.challenge.getD ((off - 8) / 4) 0
  else 0
/-- Write a register of the SDP control map. -/
def sdpCtlWrite (s : State) (off : Nat) (w : Word) : State :=
  if off = 4 then onDebug s (fun d => { d with tokenFail := d.tokenFail && !w.getLsbD 31, parityErr := d.parityErr && !w.getLsbD 30 })
  else if off = 0x18 then tokenData s w
  else if off = 0x1C then tokenGo s w
  else if off = 0x20 then (if w = 1 then sdpLock s else s)
  else s

/-! ### An engine's address space (Tables 21-2, 21-5) -/

/-- Debug registers. The program counter of a control processor lies outside the spec: a free value. -/
def dbgRead (s : State) (t off : Nat) : Word × State :=
  let e := sxOf s t
  let c := cpOf s (t - 96)
  let sx := decide (t < 68)
  let bp := fun (n : Nat) => if sx then e.bps.getD n 0 else c.bps.getD n 0
  let wp := fun (n : Nat) => if sx then e.wps.getD n (0, 0) else c.wps.getD n (0, 0)
  if off = 4 then (BitVec.ofNat 32 (2 ^ 31 * b2n (if sx then e.halted else c.halted) + (if sx then e.cause else c.cause)), s)
  else if off = 8 then (if sx then (BitVec.ofNat 32 e.pc, s) else let d := drawNat s; (BitVec.ofNat 32 d.1, d.2))
  else if 0x10 ≤ off ∧ off ≤ 0x1C then (bp ((off - 0x10) / 4), s)
  else if off = 0x20 then ((wp 0).1, s) else if off = 0x24 then ((wp 0).2, s)
  else if off = 0x28 then ((wp 1).1, s) else if off = 0x2C then ((wp 1).2, s)
  else (0, s)
/-- WPn_CTRL keeps its own fields only. -/
def wpMask (w : Word) : Word := w &&& 0x800FFFF3
/-- Write a debug register. -/
def dbgWrite (s : State) (t off : Nat) (w : Word) : State :=
  let bp := fun (n : Nat) => if t < 68 then onSx s t (fun e => { e with bps := e.bps.set n w }) else onCp s (t - 96) (fun c => { c with bps := c.bps.set n w })
  let wp := fun (n : Nat) (f : Word × Word → Word × Word) => if t < 68 then onSx s t (fun e => { e with wps := e.wps.modify n f }) else onCp s (t - 96) (fun c => { c with wps := c.wps.modify n f })
  if off = 0 then dbgCtrl s t w.toNat
  else if 0x10 ≤ off ∧ off ≤ 0x1C then bp ((off - 0x10) / 4)
  else if off = 0x20 then wp 0 (fun x => (w, x.2)) else if off = 0x24 then wp 0 (fun x => (x.1, wpMask w))
  else if off = 0x28 then wp 1 (fun x => (w, x.2)) else if off = 0x2C then wp 1 (fun x => (x.1, wpMask w))
  else s

/-- 32-bit part `k` of a wide register. -/
def partOf {n : Nat} (v : BitVec n) (k : Nat) : Word := BitVec.ofNat 32 (v.toNat / 2 ^ (32 * k))
/-- A wide register with its 32-bit part `k` replaced. -/
def withPart {n : Nat} (v : BitVec n) (k : Nat) (w : Word) : BitVec n :=
  let x := v.toNat
  BitVec.ofNat n (x - (x / 2 ^ (32 * k) % 2 ^ 32) * 2 ^ (32 * k) + w.toNat * 2 ^ (32 * k))

/-- A word of a halted Sextant's memories and registers; `none` outside the map. -/
def sxPeek (e : Sextant) (off : Nat) : Option Word :=
  if 0x10000 ≤ off ∧ off < 0x20000 then some (BitVec.ofNat 32 (ofLe (memList e.prog (off - 0x10000) 4)))
  else if 0x100000 ≤ off ∧ off < 0x140000 then some (BitVec.ofNat 32 (ofLe (memList e.data (off - 0x100000) 4)))
  else if 0x200000 ≤ off ∧ off < 0x200800 then some (partOf (e.v.getD ((off - 0x200000) / 64) 0) ((off - 0x200000) % 64 / 4))
  else if 0x210000 ≤ off ∧ off < 0x210800 then some (partOf (e.ac.getD ((off - 0x210000) / 256) 0) ((off - 0x210000) % 256 / 4))
  else if 0x220000 ≤ off ∧ off < 0x220100 then
    let x := (off - 0x220000) / 4
    some (if x < 32 then xRead e x else if x < 40 then e.ix.getD (x - 32) 0 else if x < 48 then e.md.getD (x - 40) 0 else if x < 56 then e.len.getD (x - 48) 0 else e.base.getD (x - 56) 0)
  else if 0x230000 ≤ off ∧ off < 0x230400 then sxSpecial e ((off - 0x230000) / 4)
  else none
/-- Write a word of a halted Sextant's memories and registers. A read-only special register keeps its value. -/
def sxPoke (e : Sextant) (off : Nat) (w : Word) : Sextant :=
  if 0x10000 ≤ off ∧ off < 0x20000 then { e with prog := memPutList e.prog (off - 0x10000) (leBytes 4 w.toNat) }
  else if 0x100000 ≤ off ∧ off < 0x140000 then { e with data := memPutList e.data (off - 0x100000) (leBytes 4 w.toNat) }
  else if 0x200000 ≤ off ∧ off < 0x200800 then { e with v := e.v.modify ((off - 0x200000) / 64) (fun x => withPart x ((off - 0x200000) % 64 / 4) w) }
  else if 0x210000 ≤ off ∧ off < 0x210800 then
    let f := fun (x : AReg) => withPart x ((off - 0x210000) % 256 / 4) w
    { e with ac := e.ac.modify ((off - 0x210000) / 256) f, acNow := e.acNow.modify ((off - 0x210000) / 256) f }
  else if 0x220000 ≤ off ∧ off < 0x220100 then
    let x := (off - 0x220000) / 4
    if x = 0 then e else if x < 32 then { e with x := e.x.set x w } else if x < 40 then { e with ix := e.ix.set (x - 32) w }
    else if x < 48 then { e with md := e.md.set (x - 40) w } else if x < 56 then { e with len := e.len.set (x - 48) w } else { e with base := e.base.set (x - 56) w }
  else if 0x230000 ≤ off ∧ off < 0x230400 then
    let n := (off - 0x230000) / 4
    if sxWritable n then sxSetSpecial e n w else e
  else e

/-- Is an offset in a control processor's map, and may it be written? -/
def cpMap (off : Nat) (rnw : Bool) : Bool :=
  (decide (0x100000 ≤ off) && decide (off ≤ 0x1003FF)) || (decide (0x10000000 ≤ off) && decide (off ≤ 0x101FFFFF)) ||
  (rnw && decide (0x40000000 ≤ off) && decide (off ≤ 0x7FFFFFFF))
/-- The Logbook's RAM ring as the reserved pages 0 to 31 of H0 hold it: entry SEQ at its place modulo the ring (R485, log entry 45). -/
def logByte (s : State) (x : Nat) : Option Byte := (s.log.ram.find? (fun e => e.seq % ramRing == x / 64)).bind (fun e => e.bytes[x % 64]?)
/-- A word of a halted control processor: what the SDP wrote, the Logbook ring, or a free value that stays while the halt lasts. -/
def cpPeek (s : State) (k off : Nat) : Word × State :=
  if 0x40000000 ≤ off ∧ off < 0x44000000 then (BitVec.ofNat 32 (ofLe ((List.range 4).map (fun i => (logByte s (off - 0x40000000 + i)).getD 0))), s)
  else match tget (cpOf s k).mem off with
    | some w => (w, s)
    | none => let d := drawNat s
              let w := BitVec.ofNat 32 d.1
              (w, onCp d.2 k (fun c => { c with mem := tset c.mem off w }))

/-! ### Transactions (R593, R594, R597, R602) -/

/-- Does SCOPE cover an engine? -/
def inScope (s : State) (t : Nat) : Bool :=
  let sc := s.dbg.scope
  if t < 68 then (match (sxOf s t).lease with | none => sc.testBit 0 | some (0, _) => sc.testBit 0 || sc.testBit 1 | some _ => sc.testBit 1)
  else sc.testBit 2
/-- Answer a request. -/
def sdpAck (s : State) (a : Nat) (w : Option Word) : State := onDebug s (fun d => { d with acks := d.acks ++ [(a, w)] })
/-- Entries of R602 for an access to an engine. -/
def sdpLogAccess (s : State) (t : Nat) (rnw : Bool) : State :=
  let s := match (if t < 68 then (sxOf s t).lease else none) with | some (d + 1, _) => debugLog s (256 + t) (d + 1) t 0 | _ => s
  if rnw then s else debugLog s (512 + t) 0xFFFF t 0
/-- One request (R593). `data` is the word of a write, and `dataOk` its parity. -/
def sdpAccess (s : State) (rnw : Bool) (t addr : Nat) (data : Word) (dataOk : Bool) : State :=
  let off := 4 * addr
  let put := fun (s : State) (f : State → State) => if dataOk then sdpAck (f s) 1 none else sdpAck (onDebug s (fun d => { d with parityErr := true })) 1 none
  if s.dbg.checking then sdpAck s 2 none
  else if t = 127 then (if rnw then sdpAck s 1 (some (sdpCtlRead s off)) else put s (fun s => sdpCtlWrite s off data))
  else if s.dbg.locked then sdpAck s 7 none
  else if !isEngine t then sdpAck s 4 none
  else if !inScope s t then sdpAck s 7 none
  else if off < 0x100 then
    let s := sdpLogAccess s t rnw
    if rnw then (let r := dbgRead s t off; sdpAck r.2 1 (some r.1)) else put s (fun s => dbgWrite s t off data)
  else if !rnw && !s.dbg.scope.testBit 3 then sdpAck s 7 none
  else if !(if t < 68 then (sxOf s t).halted else (cpOf s (t - 96)).halted) then sdpAck s 4 none
  else if t < 68 then
    match sxPeek (sxOf s t) off with
    | none => sdpAck s 4 none
    | some w =>
      let s := sdpLogAccess s t rnw
      if rnw then sdpAck s 1 (some w) else put s (fun s => onSx s t (fun e => sxPoke e off data))
  else if !cpMap off rnw then sdpAck s 4 none
  else
    let s := sdpLogAccess s t rnw
    if rnw then (let r := cpPeek s (t - 96) off; sdpAck r.2 1 (some r.1)) else put s (fun s => onCp s (t - 96) (fun c => { c with mem := tset c.mem off data }))

/-- HALTED_ITEM_ABORT (R601): a halted Sextant passes the deadline of its item and stays halted at ENTRY. -/
def execHaltedItemAbort (tile : Nat) (s : State) : Host.Outcome State Fault Refusal :=
  if 68 ≤ tile then .fault .noSuchUnit
  else if (sxOf s tile).halted && itemLate (sxOf s tile) s.time.tick64 then .next (publishAll (abortItem s tile) tile) else .next s

/-- SDP_LINE_RESET (R592): the line returns to idle; a request cut short leaves nothing. -/
def execSdpLineReset (s : State) : Host.Outcome State Fault Refusal := .next s

end Sys2Proof.Machine
end

