-- ==== Sys2Proof/Machine/AperturePlan.lean ====
section
/-! DEFINITION. AperturePlan.lean: the aperture commands of the owner and what they change in the plan (R335, R337, R342). -/
namespace Sys2Proof.Machine

/-- Block of APERTURE_CREATE. -/
def apertureCreateBlock : List Param :=
  [pI "APERTURE" 255, pN "LEAD" 0 (2 ^ 32 - 1), pD "EXCLUDE_TICKS" 16 65535 244, pF "ADOPT" 0, pL "MEMBERS" 64 [(0, 2 ^ 32 - 1)]]
/-- Block of APERTURE_LINK: PEER_IP takes two slots (R400). -/
def apertureLinkBlock : List Param :=
  [pI "APERTURE" 255, pI "PORT" 127, pN "PEER_SERIAL" 0 (2 ^ 32 - 1), pI "PEER_PORT" 127, ⟨"PEER_IP", .any, .req, []⟩, ⟨"PEER_IP 2", .any, .req, []⟩,
   pN "PEER_UDP" 0 65535, pN "DELAY_MIN_NS" 0 (2 ^ 32 - 1), pN "DELAY_MAX_NS" 0 (2 ^ 32 - 1)]
/-- Block of the commands that name one aperture. -/
def apertureOnlyBlock : List Param := [pI "APERTURE" 255]

/-- Instruments of an aperture: CORRELATOR, FXCORR and BEAMFORMER name it in their APERTURE parameter. -/
def Plan.apInstrs (p : Plan) (a : Nat) : List (Nat × Nat) :=
  ((p.objs .instrDefine).filter (fun e => iAperture e.2.2 == .num a)).map (fun e => (e.1, e.2.1))

/-- APERTURE parameter of a command that has one (Table 8-4): the instrument commands' own, and the first slot of the aperture commands. -/
def Cmd.apParam (m : Cmd) : Option PV :=
  match m.op with
  | .instrDefine => some (iAperture m.block)
  | .instrModify => some (iAperture m.block)
  | .apertureCreate => some (m.block.at 0)
  | .apertureLink => some (m.block.at 0)
  | .apertureDelete => some (m.block.at 0)
  | _ => none

/-- Does a new aperture of these members put this device into two trees, or into one of more than 256 devices (R31)? A node's members are given by their leads' serial
numbers, and a tree grows upwards: whatever this device leads already lies below, and shares no other device with the new node. -/
-- DEDUCED, notes/assumptions/158.md
def Plan.treeBad (p : Plan) (a : Nat) (ms : List Nat) : Bool :=
  let others := ((p.of .apertureCreate devDome).filter (fun (e : Nat × Block) => e.1 != a)).map (fun e => e.2)
  others.any (fun b => apLead b != ownSerial || (apMembers b).any (fun x => x != ownSerial && ms.contains x)) ||
  decide (256 < (ms ++ others.flatMap apMembers).eraseDups.length)

/-- What APERTURE_CREATE breaks: the slot at fault (R31, R335); the links must connect every member. Through PREPARE the device is a member; from the owner it leads. -/
def Plan.apertureBad (p : Plan) (b : Block) (prepared : Bool) : Option Nat :=
  let ms := apMembers b
  if (if prepared then !ms.contains ownSerial else apLead b != ownSerial) then some 1
  else if !ms.contains (apLead b) || ms.eraseDups.length != ms.length then some 4
  else if p.treeBad (b.nat 0) ms then some 4
  else if ms.any (fun x => !(p.apRoutes (b.nat 0) ownSerial).any (fun r => r.1 == x)) then some 4
  else none

/-- Entry of a member at the creation of its aperture. -/
def memberNew (serial : Nat) : MemberRun := { serial := serial, excluded := false, rejoining := false, refs := [], tick := 0, state := 2, cfgGen := 0, withdrawn := false, tiles := 64 }

/-- APERTURE_CREATE (R335, R632); RESULT is LEAD_TICKS. -/
def apertureCreateC : CSpec :=
  { edit := fun _ m p => p.put .apertureCreate devDome (m.block.nat 0) m.block,
    verify := fun c o m => firstRej [rejIf (o.has .apertureCreate devDome (m.block.nat 0)) (rej .inconsistent 0), (c.plan.apertureBad m.block m.aperture).bind inconsistent],
    result := fun c m => c.plan.leadTicks (m.block.nat 0),
    apply := fun _ m s => onAp s (m.block.nat 0) (fun r => { r with members := (apMembers m.block).map (fun x => (r.members.find? (fun y => y.serial == x)).getD (memberNew x)) }) }

/-- APERTURE_LINK (R335): from its effective tick the port carries only Transit and control traffic. -/
def apertureLinkC : CSpec :=
  { names := fun c m => rejIf (c.plan.port (m.block.nat 1)).isNone (rej .nosuch 1),
    edit := fun _ m p => p.put .apertureLink devDome (m.block.nat 1) m.block,
    verify := fun c _ m =>
      let q := m.block.nat 1
      firstRej [rejIf ((c.plan.of .feedDefine devDome).any (fun e => (feedPorts e.2).contains q) || !(c.plan.portStreams q).isEmpty) (rej .inconsistent 1),
                rejIf (m.block.nat 2 == ownSerial) (rej .inconsistent 2), rejIf (decide (m.block.nat 8 < m.block.nat 7)) (rej .inconsistent 8)],
    apply := fun _ m s => onAp s (m.block.nat 0) (fun r => { r with links := tset r.links (m.block.nat 1) linkNew }) }

/-- Unplace the aperture's instruments (R342). -/
def Plan.dropAperture (p : Plan) (a : Nat) : Plan :=
  let p := (p.apInstrs a).foldl (fun (q : Plan) x => if q.placed x.1 x.2 then q.unplace x.1 x.2 0 0 else q) p
  let p := (p.apLinks a).foldl (fun (q : Plan) (x : Nat × Block) => q.del .apertureLink devDome x.1) p
  p.del .apertureCreate devDome a

/-- APERTURE_DELETE: at the lead, at a member as it is prepared, and by the owner of a member that has lost its lead (R342). Instruments of the aperture at
the lead stop it unless WITHDRAW is set (R24). -/
def apertureDeleteC : CSpec :=
  { names := fun c m =>
      let a := m.block.nat 0
      match c.plan.aperture a with
      | some b => rejIf (apLead b != ownSerial && !m.aperture && !(apOf c.s a).leadLost) (rej .nosuch 0)
      | none => noSuch 0,
    edit := fun c m p => p.dropAperture (m.block.nat 0),
    verify := fun c o m =>
      let a := m.block.nat 0
      let l := (o.apInstrs a).filter (fun x => o.placed x.1 x.2)
      if m.withdraw || l.isEmpty || (apOf c.s a).leadLost || m.aperture then none else some { status := .inconsistent, detail := 0, resp := affectedList l },
    apply := fun _ m s => { s with apertures := tdel s.apertures (m.block.nat 0) } }

/-- APERTURE_STATS (Table 11-6): per link in port order the least and greatest measured delay in ns and the messages outside the window, then EXCLUSIONS,
REJOINS and ABORTS (log entry 26). -/
def apertureStatsAct : Act := fun c m =>
  let a := m.block.nat 0
  if (c.s.plan.aperture a).isNone && (c.s.plan.apLinks a).isEmpty then .error (rej .nosuch 0)
  else
    let r := apOf c.s a
    let links := ((c.s.plan.apLinks a).mergeSort (fun (x y : Nat × Block) => decide (x.1 ≤ y.1))).flatMap (fun (e : Nat × Block) =>
      let l := tgetD r.links e.1 linkNew
      [ofSigned 64 (l.lo.getD 0), ofSigned 64 (l.hi.getD 0), l.out])
    .ok { s := c.s, body := some (words8 (links ++ [r.exclusions, r.rejoins, r.aborts])) }

end Sys2Proof.Machine
end

