-- ==== Sys2Proof/Machine/Renumber.lean ====
section
/-! DEFINITION. Renumber.lean: EPOCH in SET mode renumbers TICK64, and with it every tick number that the device holds for data or configuration
(R39, R109, R401). Sample and frame indices stay. -/
namespace Sys2Proof.Machine

/-- A tick number under a renumbering. -/
def shT (x : Int) (n : Nat) : Nat := ((n : Int) + x).toNat

def ChTick.shift (x : Int) (c : ChTick) : ChTick := { c with tick := shT x c.tick }
def Bank.shift (x : Int) (b : Bank) : Bank := { b with first := shT x b.first, last := shT x b.last }
def Trig.shift (x : Int) (t : Trig) : Trig := { t with reached := shT x t.reached }
/-- A packet that is formed keeps the header bytes that it was given, with the number of then. -/ -- DESIGN CHOICE, notes/assumptions/164.md
def Pkt.shift (x : Int) (p : Pkt) : Pkt := { p with tick := shT x p.tick }
def SxInput.shift (x : Int) (i : SxItem) : SxItem := { i with m := shT x i.m, n := shT x i.n }

/-- ANCHOR_TICK of a feed (R109). One that would lie below tick 0 moves to tick 0 with its sample, which is the same mapping. -/
def anchorShift (m : Nat) (x : Int) (b : Block) : Block :=
  let a := (b.nat 15 : Int) + x
  if 0 ≤ a then b.put 15 (.num a) else (b.put 15 (.num 0)).put 16 (.num ((b.nat 16 : Int) - a * feedS b m))
def Ring.shift (x : Int) (r : Ring) : Ring :=
  { r with block := anchorShift r.m x r.block, first := shT x r.first, old := r.old.map (fun e => (shT x e.1, e.2)), slots := r.slots.map (fun sl => { sl with tick := shT x sl.tick }) }
def FeedRun.shift (x : Int) (f : FeedRun) : FeedRun :=
  { f with rings := f.rings.map (Ring.shift x), cond := f.cond.map (fun e => (shT x e.1, e.2)), regions := f.regions.map (fun e => (shT x e.1, e.2)), condNext := shT x f.condNext, swap := f.swap.map (fun e => (e.1, shT x e.2)), delay := f.delay.map (fun d => { d with firstTick := shT x d.firstTick }),
           delayQ := f.delayQ.map (fun d => { d with firstTick := shT x d.firstTick }), outs := f.outs.map (fun o => { o with tick := shT x o.tick, avail := shT x o.avail }),
           raws := f.raws.map (fun r => { r with tick := shT x r.tick }), firstTick := shT x f.firstTick }
def Handoff.shift (x : Int) : Handoff → Handoff
  | .src k c => .src k (c.shift x)
  | .absent f c => .absent f (c.shift x)
  | .q4 d i p f c => .q4 d i p f (c.shift x)
  | .beam d i b c => .beam d i b (c.shift x)
  | .packets d k i sub bm parts c => .packets d k i sub bm parts (c.shift x)
def SkRun.shift (x : Int) (r : SkRun) : SkRun :=
  { r with settings := r.settings.map (fun e => (shT x e.1, e.2)), frames := r.frames.map (fun e => (e.1, shT x e.2.1, e.2.2)), held := r.held.map (fun e => (shT x e.1, e.2.shift x)) }
def CapRun.shift (x : Int) (r : CapRun) : CapRun :=
  { r with arriving := r.arriving.map (Trig.shift x), queue := r.queue.map (Trig.shift x), decided := shT x r.decided, freedAt := shT x r.freedAt, cand := r.cand.map (Trig.shift x),
           acc := r.acc.map (fun e => (e.1.shift x, e.2)), units := r.units.map (ChTick.shift x) }
def InstrRun.shift (x : Int) (r : InstrRun) : InstrRun :=
  { r with inq := r.inq.map (fun e => (e.1, shT x e.2.1, e.2.2.shift x)), shedAt := r.shedAt.map (shT x), gainSwap := r.gainSwap.map (shT x), wgtSwap := r.wgtSwap.map (shT x),
           bank := r.bank.map (Bank.shift x), sub := r.sub.map (Bank.shift x), closed := r.closed.map (Bank.shift x), subs := r.subs.map (Bank.shift x),
           corr := r.corr.map (fun e => (shT x e.1, e.2.shift x)), group := r.group.map (fun e => (e.1, shT x e.2.1, e.2.2)), cap := r.cap.shift x,
           loop := { r.loop with from0 := shT x r.loop.from0 } }
def MaskRun.shift (x : Int) (r : MaskRun) : MaskRun := { r with swap := r.swap.map (shT x), hist := r.hist.map (fun e => (e.1, shT x e.2.1, e.2.2)) }
def PlateRun.shift (x : Int) (r : PlateRun) : PlateRun := { r with first := r.first.map (shT x), last := shT x r.last, clear := r.clear.map (shT x) }
def StreamRun.shift (x : Int) (r : StreamRun) : StreamRun :=
  { r with full := true, inbox := r.inbox.map (fun p => { p with tick := shT x p.tick }), go := r.go.map (Pkt.shift x), spill := r.spill.map (Pkt.shift x), unacked := r.unacked.map (fun m => { m with pkt := m.pkt.shift x }) }
def Sextant.shift (x : Int) (e : Sextant) : Sextant :=
  { e with tick := shT x e.tick, swap := e.swap.map (shT x), param := e.param.map (fun p => (shT x p.1, p.2)), ready := shT x e.ready, item := e.item.map (SxInput.shift x),
           due := e.due.map (SxInput.shift x), done := e.done.map (SxInput.shift x), aborted := e.aborted.map (SxInput.shift x) }
def ApertureRun.shift (x : Int) (r : ApertureRun) : ApertureRun :=
  { r with members := r.members.map (fun m => { m with tick := shT x m.tick, refs := m.refs.map (fun e => (shT x e.1, e.2)) }), preparing := r.preparing.map (fun p => { p with at0 := shT x p.at0, e := shT x p.e }),
           holding := r.holding.map (fun h => { h with e := shT x h.e }), adopting := r.adopting.map (fun a => (a.1, shT x a.2.1, a.2.2.map (shT x))) }
def Plan.shift (x : Int) (p : Plan) : Plan :=
  { p with mOld := p.mOld.map (fun e => (shT x e.1, e.2)), recs := p.recs.map (fun r => if r.op == .feedDefine then { r with block := anchorShift p.m x r.block } else r),
           places := p.places.map (fun y => if y.since = 0 then y else { y with since := shT x y.since }) }

/-- A configuration command that waits, admitted or staged: a feed definition's ANCHOR_TICK. -/
def Cmd.shift (m : Nat) (x : Int) (c : Cmd) : Cmd := if c.op == .feedDefine then { c with block := anchorShift m x c.block } else c

/-- Renumber everything that the state holds, all but TICK64 itself (R39). -/
def renumber (x : Int) (s : State) : State :=
  if x = 0 then s
  else
    { s with plan := s.plan.shift x, psets := s.psets.map (fun p => { p with e := shT x p.e, cmds := p.cmds.map (Cmd.shift s.plan.m x) }), time := { s.time with holdTicks := s.time.holdTicks.map (shT x) },
             feeds := s.feeds.map (fun e => (e.1, e.2.shift x)), made := s.made.map (fun e => { e with lastTick := shT x e.lastTick }), handoff := s.handoff.map (fun e => (shT x e.1, e.2.shift x)), taken := s.taken.map (fun e => (shT x e.1, e.2.shift x)),
             coarse := s.coarse.map (fun e => (e.1, { e.2 with settings := e.2.settings.map (fun y => (shT x y.1, y.2)) })),
             zooms := s.zooms.map (fun e => (e.1, { e.2 with inq := e.2.inq.map (fun y => (shT x y.1, y.2.shift x)) })), sks := s.sks.map (fun e => (e.1, e.2.shift x)),
             instrs := s.instrs.map (fun e => (e.1, e.2.shift x)), masks := s.masks.map (fun e => (e.1, e.2.shift x)), plates := s.plates.map (fun e => (e.1, e.2.shift x)),
             streams := s.streams.map (fun e => (e.1, e.2.shift x)), inflight := s.inflight.map (fun y => { y with decided := y.decided.map (shT x) }), flows := s.flows.map (fun e => (e.1, { e.2 with slots := e.2.slots.map (fun y => (shT x y.1, y.2)), raised := e.2.raised.map (fun y => (y.1, shT x y.2)) })),
             sextants := s.sextants.map (fun e => (e.1, e.2.shift x)), apertures := s.apertures.map (fun e => (e.1, e.2.shift x)),
             dacs := s.dacs.map (fun e => (e.1, { e.2 with waiting := e.2.waiting.map (fun w => { w with start := w.start.map (shT x) }) })),
             domes := s.domes.map (fun e => (e.1, { e.2 with staged := e.2.staged.map (Cmd.shift s.plan.m x), drain := e.2.drain.map (fun d => { d with resetTick := d.resetTick.map (shT x), decided := shT x d.decided }) })),
             care := { s.care with swaps := s.care.swaps.map (fun w => (w.1, { w.2 with d := shT x w.2.d, q := shT x w.2.q })) } }

/-- Open integrations and records close early: at a renumbering, for what the unit processes from now on (R191, R222, R301); at a change of M only those
whose data carry no sample tick of the new M yet (R222, R301). -/
def closeForGrid (renumbered : Bool) (s : State) : State :=
  forObjs s .instrDefine (fun s d i b =>
    if !s.plan.placed d i then s
    else
      let k := iKind b
      if k = 4 ∧ corrAcc.corrBatched s d i b then (if renumbered then onInstr (loseOpen s d i (corrNext s d i)) d i (fun r => { r with await := true }) else s)
      else if k = 8 then (if b.is 2 0 then capChange s d i b else s)
      else if renumbered then endEarly s d i b true else s)

/-- Each feed is re-anchored to tick `e` and its first sample there (R109). -/
def reanchor (m0 e : Nat) (p : Plan) : Plan :=
  { p with recs := p.recs.map (fun r => if r.op == .feedDefine then { r with block := (r.block.put 15 (.num (e : Int))).put 16 (.num (firstSample r.block m0 e)) } else r) }

/-- The landing rings follow: ticks below `e` keep the old length (R109). -/
def reanchorRings (m0 e m : Nat) (s : State) : State :=
  { s with feeds := s.feeds.map (fun x => (x.1, { x.2 with rings := x.2.rings.map (fun r => if r.closed then r else
      { r with block := (r.block.put 15 (.num (e : Int))).put 16 (.num (firstSample r.block m0 e)), m := m, old := some (e, m0) }) })) }

end Sys2Proof.Machine
end

