-- ==== Sys2Proof/Machine/Dma.lean ====
section
/-! DEFINITION. Dma.lean: DMA channels (R454, R458 to R467). -/
namespace Sys2Proof.Machine

/-- Bits of DMA_CTRL that are fields: IRQ_DESC, IRQ_END, RETRY_LIMIT, CHAIN, DST_DEV, SRC_DEV (Table 15-9). -/
def dmaCtrlMask : Nat := 0xC738
def DmaCh.irqDesc (c : DmaCh) : Bool := bit c.ctrl 15
def DmaCh.irqEnd (c : DmaCh) : Bool := bit c.ctrl 14
def DmaCh.retryLimit (c : DmaCh) : Nat := bits c.ctrl 10 8
def DmaCh.chain (c : DmaCh) : Bool := bit c.ctrl 5
def DmaCh.dstDev (c : DmaCh) : Bool := bit c.ctrl 4
def DmaCh.srcDev (c : DmaCh) : Bool := bit c.ctrl 3

/-- Channels of a dome: 8 of D0, else its DMA grant (R458). -/
def Plan.dmaChannels (p : Plan) (d : Nat) : Nat := if d = 0 then 8 else match p.grant d 8 with | some b => b.nat 2 | none => 0
/-- A function's channel. -/
def dmaOf (s : State) (f : Fn) (ch : Nat) : DmaCh := tgetD s.dma (f, ch) DmaCh.reset
/-- Change a function's channel. -/
def onDma (s : State) (f : Fn) (ch : Nat) (g : DmaCh → DmaCh) : State := { s with dma := tmod s.dma (f, ch) DmaCh.reset g }

/-- Register offset of channel `ch` in BAR0. -/
def dmaReg (ch off : Nat) : Nat := 0x4000 + 0x100 * ch + off

/-- The dome whose channel an access reaches, or the violation that the access is (R458, Table 14-5). -/
def dmaDome (s : State) (f : Fn) (ch off : Nat) : Except State Nat :=
  match s.plan.domeOf f with
  | none => .error (violation s (if f.vf = 0 then 4 else 5) f (dmaReg ch off))
  | some d => if ch < s.plan.dmaChannels d then .ok d else .error (violation s 4 f (dmaReg ch off))

/-- Event of a port's DMA engine (Table 16-9): 0 retried, 1 halted, 2 poisoned data moved. -/
def engineEvent (s : State) (f : Fn) (k : Nat) : State := raiseEv s (1224 + 4 * f.port + k) 1208
/-- Event of a channel: cause kinds DMA_DESC, DMA_END, DMA_HALT; it carries the generation of the descriptor (R425, R465). -/
def chanEvent (s : State) (d ch kind gen : Nat) : State := if genOf s d = gen then raise s (1208 + ch) (causeId kind ch) (.dome d) else s

/-- The channel halts with a code (R463, R464). -/
def dmaHalt (s : State) (f : Fn) (d ch : Nat) (st : Status) : State :=
  let c := dmaOf s f ch
  let s := onDma s f ch (fun c => { c with busy := false, halted := true, stop := false, retry := false, code := st.code, err := c.err || st != .ok })
  let s := engineEvent s f 1
  if c.irqEnd then chanEvent s d ch 0x1A c.gen else s

/-- Does a descriptor break its form: COUNT = 0, or a NEXT that is to be used with bits 4:1 set (R459, R460)? -/
def DmaCh.malformed (c : DmaCh) : Bool := c.count == 0 || (c.chain && bits c.next 4 1 != 0)

/-- A descriptor begins: its form and its device ranges are checked before any byte moves (R461, R463). -/
def dmaBegin (s : State) (f : Fn) (d ch : Nat) : State :=
  let c := dmaOf s f ch
  if c.malformed then dmaHalt s f d ch .format
  else if c.srcDev && !bar2Ok s d c.src c.count false then dmaHalt (violation s 8 f c.src) f d ch .denied
  else if c.dstDev && !bar2Ok s d c.dst c.count true then dmaHalt (violation s 8 f c.dst) f d ch .denied
  else s

/-- Does the copy run in descending order (R462)? -/
def DmaCh.downward (c : DmaCh) : Bool := c.srcDev && c.dstDev && decide (c.src < c.dst) && decide (c.dst < c.src + c.count)

/-- Copy one block of at most `n` bytes from where the channel stands; `host` holds the host source bytes from there on. Answers whether the block
was poisoned (R462, R466, Table 16-2). -/
def dmaBlock (s : State) (f : Fn) (d ch n : Nat) (host : List Byte) (bad : Bool) (errs : EccErrs) : State × Bool :=
  let c := dmaOf s f ch
  let off := if c.downward then c.count - c.done - n else c.done
  let r := if c.srcDev then devRead s d (c.src + off) n (fnWho f) errs else (s, padTo 0 n (host.take n), bad)
  let s := onDma r.1 f ch (fun c => { c with done := c.done + n })
  if c.dstDev then
    let w := devWrite s d (c.dst + off) r.2.1 (fnWho f) errs
    if r.2.2 then (devPoison w.1 d (c.dst + off) n, true) else w
  else ({ s with out := { s.out with hostWrites := s.out.hostWrites ++ [(f, c.dst + off, r.2.1, r.2.2)] } }, r.2.2)

/-- Copy up to `left` bytes in blocks of 4,096, until one is poisoned. -/
def dmaCopy (f : Fn) (d ch : Nat) (errs : EccErrs) : Nat → State → Nat → List Byte → State × Bool
  | 0, s, _, _ => (s, false)
  | k + 1, s, left, host =>
    if left = 0 then (s, false)
    else
      let n := Nat.min 4096 left
      let r := dmaBlock s f d ch n host false errs
      if r.2 then r else dmaCopy f d ch errs k r.1 (left - n) (host.drop n)

/-- Load a descriptor of 32 bytes into the registers and begin it (R459, R460). -/
def dmaLoad (s : State) (f : Fn) (d ch : Nat) (b : List Byte) : State :=
  let ctrl := leField b 20 4
  let s := onDma s f ch (fun c => { c with src := leField b 0 8, dst := leField b 8 8, count := leField b 16 4, ctrl := ctrl &&& dmaCtrlMask, next := leField b 24 8,
                                           done := 0, fetch := false, retries := 0, retry := false })
  if ctrl != ctrl &&& dmaCtrlMask then dmaHalt s f d ch .format else dmaBegin s f d ch

/-- Fetch the next descriptor of the chain: from device memory at once, from host memory as far as its 32 bytes have come (R459, R463). -/
def dmaFetch (s : State) (f : Fn) (d ch : Nat) (next : List Byte) (errs : EccErrs) : State :=
  let s := onDma s f ch (fun c => { c with fetch := true, retries := 0 })
  let c := dmaOf s f ch
  let a := c.next / 32 * 32
  if bit c.next 0 then
    if !bar2Ok s d a 32 false then dmaHalt (violation s 8 f a) f d ch .denied
    else
      let r := devRead s d a 32 (fnWho f) errs
      if r.2.2 then dmaHalt r.1 f d ch .poison else dmaLoad r.1 f d ch r.2.1
  else if next.length = 32 then dmaLoad s f d ch next else s

/-- A descriptor has ended: it is counted, and the channel ends, halts or goes on (R460, R464, R422). -/
def dmaEnd (s : State) (f : Fn) (d ch : Nat) (next : List Byte) (errs : EccErrs) : State :=
  let s := onDma s f ch (fun c => { c with descs := (c.descs + 1) % 2 ^ 32 })
  let c := dmaOf s f ch
  let s := if c.irqDesc then chanEvent s d ch 0x18 c.gen else s
  if c.gen ≠ genOf s d then dmaHalt (onDma s f ch (fun c => { c with fetch := c.chain })) f d ch .staleGen
  else if !c.chain then
    let s := onDma s f ch (fun c => { c with busy := false, stop := false, doneF := true })
    if c.irqEnd then chanEvent s d ch 0x19 c.gen else s
  else if c.stop then dmaHalt (onDma s f ch (fun c => { c with fetch := true })) f d ch .ok
  else dmaFetch s f d ch next errs

/-- DMA_ADDR_WRITE (R454, R460): a write of SRC, DST or COUNT; one of NEXT leaves DMA_DONE and DMA_DESCS alone. -/
def execDmaAddrWrite (fn : Fn) (ch off : Nat) (w : Word) (s : State) : Host.Outcome State Fault Refusal :=
  if 4 ≤ fn.port ∨ 65 ≤ fn.vf ∨ 8 ≤ ch then .fault .noSuchUnit
  else match dmaDome s fn ch off with
    | .error t => .next t
    | .ok _ =>
      if (dmaOf s fn ch).busy then .next (onDma s fn ch (fun c => { c with wrBusy := true }))
      else
        let lo := fun (x : Nat) => x / 2 ^ 32 * 2 ^ 32 + w.toNat
        let hi := fun (x : Nat) => x % 2 ^ 32 + w.toNat * 2 ^ 32
        match off with
        | 0x00 => .next (onDma s fn ch (fun c => { c with src := lo c.src, done := 0, descs := 0, fetch := false }))
        | 0x04 => .next (onDma s fn ch (fun c => { c with src := hi c.src, done := 0, descs := 0, fetch := false }))
        | 0x08 => .next (onDma s fn ch (fun c => { c with dst := lo c.dst, done := 0, descs := 0, fetch := false }))
        | 0x0C => .next (onDma s fn ch (fun c => { c with dst := hi c.dst, done := 0, descs := 0, fetch := false }))
        | 0x10 => .next (onDma s fn ch (fun c => { c with count := w.toNat, done := 0, descs := 0, fetch := false }))
        | 0x18 => .next (onDma s fn ch (fun c => { c with next := lo c.next }))
        | 0x1C => .next (onDma s fn ch (fun c => { c with next := hi c.next }))
        | _ => .fault .noSuchUnit

/-- A write of DMA_CTRL (R454, R460, R464). While the channel runs only STOP acts. -/
def dmaCtrlWrite (s : State) (fn : Fn) (d ch : Nat) (w : Word) : State :=
  let c := dmaOf s fn ch
  let go := bit w.toNat 0
  let stop := bit w.toNat 1
  if c.busy then onDma s fn ch (fun c => { c with stop := c.stop || stop, wrBusy := c.wrBusy || go || !stop })
  else
    let s := onDma s fn ch (fun c => { c with ctrl := w.toNat &&& dmaCtrlMask })
    if !go then s
    else
      let s := onDma s fn ch (fun c => { c with halted := false, busy := true, stop := stop, retry := false, retries := 0, gen := genOf s d })
      let c := dmaOf s fn ch
      if c.fetch then
        (if c.chain then dmaFetch s fn d ch [] [] else onDma s fn ch (fun c => { c with busy := false, stop := false, doneF := true, fetch := false }))
      else dmaBegin s fn d ch

/-- DMA_GO: a write of DMA_CTRL with GO (R460). -/
def execDmaGo (fn : Fn) (ch : Nat) (w : Word) (s : State) : Host.Outcome State Fault Refusal :=
  if 4 ≤ fn.port ∨ 65 ≤ fn.vf ∨ 8 ≤ ch then .fault .noSuchUnit
  else match dmaDome s fn ch 0x14 with
    | .error t => .next t
    | .ok d => .next (dmaCtrlWrite s fn d ch (w ||| 1#32))

/-- DMA_STOP: a write of DMA_CTRL with STOP and without GO (R464). -/
def execDmaStop (fn : Fn) (ch : Nat) (w : Word) (s : State) : Host.Outcome State Fault Refusal :=
  if 4 ≤ fn.port ∨ 65 ≤ fn.vf ∨ 8 ≤ ch then .fault .noSuchUnit
  else match dmaDome s fn ch 0x14 with
    | .error t => .next t
    | .ok d => .next (dmaCtrlWrite s fn d ch ((w ||| 2#32) &&& 0xFFFFFFFE#32))

/-- DMA_DESCRIPTOR_END (R460): the rest of the descriptor is copied, unless a poisoned block halts it. `hostData` holds the host source bytes from
DMA_DONE on, `next` the next descriptor where it lies in host memory. A channel that waits for a descriptor takes `next` and starts it. -/
def execDmaDescriptorEnd (fn : Fn) (ch : Nat) (hostData : List Byte) (next : List Byte) (errs : List (Nat × Bool)) (s : State) : Host.Outcome State Fault Refusal :=
  if 4 ≤ fn.port ∨ 65 ≤ fn.vf ∨ 8 ≤ ch then .fault .noSuchUnit
  else
    let c := dmaOf s fn ch
    match s.plan.domeOf fn with
    | none => .next s
    | some d =>
      if !c.busy || c.retry then .next s
      else if c.fetch then .next (dmaFetch s fn d ch next errs)
      else
        let r := dmaCopy fn d ch errs (ceilDiv (c.count - c.done) 4096) s (c.count - c.done) hostData
        .next (if r.2 then engineEvent (dmaHalt r.1 fn d ch .poison) fn 2 else dmaEnd r.1 fn d ch next errs)

/-- DMA_BUS_ERROR (R463): a host read fails after `moved` bytes: kind 0 UR or CA, 1 Completion Timeout, 2 a poisoned TLP, whose block is the last of
`hostData`. Reads come of a host source or of a descriptor in host memory. -/
def execDmaBusError (fn : Fn) (ch kind moved : Nat) (hostData : List Byte) (errs : List (Nat × Bool)) (s : State) : Host.Outcome State Fault Refusal :=
  if 4 ≤ fn.port ∨ 65 ≤ fn.vf ∨ 8 ≤ ch ∨ 3 ≤ kind then .fault .noSuchUnit
  else
    let c := dmaOf s fn ch
    match s.plan.domeOf fn with
    | none => .next s
    | some d =>
      if !c.busy || c.retry || (!c.fetch && c.srcDev) then .next s
      else
        let n := if c.fetch then 0 else Nat.min moved (c.count - c.done)
        let r := dmaCopy fn d ch errs (ceilDiv n 4096) s n hostData
        if r.2 then .next (engineEvent (dmaHalt r.1 fn d ch .poison) fn 2)
        else if kind = 2 then
          if c.fetch then .next (dmaHalt r.1 fn d ch .poison)
          else
            let left := c.count - (dmaOf r.1 fn ch).done
            let b := dmaBlock r.1 fn d ch (Nat.min (Nat.min 4096 left) (hostData.length - n)) (hostData.drop n) true errs
            .next (engineEvent (dmaHalt b.1 fn d ch .poison) fn 2)
        else if c.retries < c.retryLimit then
          .next (engineEvent (onDma r.1 fn ch (fun c => { c with retries := c.retries + 1, retry := true })) fn 0)
        else .next (dmaHalt r.1 fn d ch (if kind = 0 then .denied else .timeout))

/-- DMA_RETRY: 4 µs after the failure the request is repeated (R463). -/
def execDmaRetry (fn : Fn) (ch : Nat) (s : State) : Host.Outcome State Fault Refusal :=
  if 4 ≤ fn.port ∨ 65 ≤ fn.vf ∨ 8 ≤ ch then .fault .noSuchUnit
  else if (dmaOf s fn ch).retry then .next (onDma s fn ch (fun c => { c with retry := false })) else .next s

end Sys2Proof.Machine
end

