-- ==== Sys2Proof/Machine/Router.lean ====
section
/-! DEFINITION. Router.lean: event channels, delivery, LUT cells, EV pins, the EVT registers and the commands that set them (R455, R468 to R482). -/
namespace Sys2Proof.Machine

/-! ### Configuration of channels, cells and pins -/

/-- LUT_CONFIG of a cell and of a pin. -/
def Plan.cell (p : Plan) (n : Nat) : Option Block := p.find .lutConfig devDome (256 + n)
def Plan.pin (p : Plan) (n : Nat) : Option Block := p.find .lutConfig devDome (384 + n)
/-- Is a cell enabled and clocked? Enabled and unclocked? -/
def cellClocked (b : Block) : Bool := b.nat 2 == 1 && b.is 3 0
def cellUnclocked (b : Block) : Bool := b.nat 2 == 1 && b.is 3 1
/-- SUPPRESS in force (R478). -/
def Plan.suppress (p : Plan) : Nat := match p.find .lutConfig devDome 400 with | some b => Nat.max 1 (b.nat 1) | none => 1
/-- Core cycles of one grid period: 6.4 ns at 640 ps. -/
def cyclesPerGrid : Nat := 10
/-- First core cycle of the running tick. -/
def tickCycle (s : State) : Nat := cyclesPerGrid * (s.time.grid / uGrid)

def cellRun (s : State) (n : Nat) : CellRun := tgetD s.router.cells n CellRun.reset
def pinRun (s : State) (n : Nat) : PinRun := tgetD s.router.pins n PinRun.reset
def onCell (s : State) (n : Nat) (f : CellRun → CellRun) : State := { s with router := { s.router with cells := tmod s.router.cells n CellRun.reset f } }
def onPin (s : State) (n : Nat) (f : PinRun → PinRun) : State := { s with router := { s.router with pins := tmod s.router.pins n PinRun.reset f } }
def evtOf (s : State) (f : Fn) : EvtRegs := tgetD s.router.regs f EvtRegs.reset
def onEvt (s : State) (f : Fn) (g : EvtRegs → EvtRegs) : State := { s with router := { s.router with regs := tmod s.router.regs f EvtRegs.reset g } }

/-! ### Unclocked levels (R469, R474) -/

/-- Level of an unclocked channel: that of its pin, or the output of its unclocked cell, followed through at most `fuel` cells. -/
def chanLevel (s : State) : Nat → Nat → Bool
  | 0, _ => false
  | k + 1, c =>
    match (List.range 16).find? (fun n => match s.plan.pin n with | some b => b.is 2 1 && b.at 3 == .num c | none => false) with
    | some n => (pinRun s n).level
    | none =>
      match (List.range 128).find? (fun n => (cellOut s.plan n).contains c && (match s.plan.cell n with | some b => cellUnclocked b | none => false)) with
      | none => false
      | some n => match s.plan.cell n with
        | none => false
        | some b =>
          let i := (List.range 4).foldl (fun (a : Nat) (j : Nat) => a + (match b.at (4 + j) with
            | .num x => if chanLevel s k x.toNat then 2 ^ j else 0
            | .named w => if w = 1 then 2 ^ j else 0
            | _ => 0)) 0
          (b.nat 12).testBit i

/-- Unclocked channels of a plan. -/
def Plan.unclockedChans (p : Plan) : List Nat := ((p.objs .lutConfig).filter (fun e => decide (e.2.1 < 256) && e.2.2.is 2 1)).map (fun e => e.2.1)
/-- Levels of every unclocked channel. -/
def chanLevels (s : State) : List (Nat × Bool) := s.plan.unclockedChans.map (fun c => (c, chanLevel s 129 c))

/-- Consumers of an unclocked channel that see it through the synchroniser: all but pins and unclocked cells (R469). -/
def slowConsumers (p : Plan) (c : Nat) : List Consumer := (consumersOf p c).filter (fun x => match x with | .pin _ => false | _ => true)

/-- Output pins on unclocked channels follow the levels; each rising edge is one event, two cycles on, to every other consumer (R469, R475). -/
def levelsMoved (s : State) (old : List (Nat × Bool)) (cyc : Nat) : State :=
  let now := chanLevels s
  let s := (List.range 16).foldl (fun (s : State) (n : Nat) => match s.plan.pin n with
    | some b => (match b.at 3 with
      | .num c => if b.is 2 2 && s.plan.unclocked c.toNat then onPin s n (fun r => { r with level := (now.find? (fun e => e.1 == c.toNat)).any (fun e => e.2), pulse := none }) else s
      | _ => s)
    | none => s) s
  let rose := now.filter (fun e => e.2 && !(old.contains e))
  { s with router := { s.router with queue := s.router.queue ++ rose.map (fun e => (⟨e.1, cyc, cyc + 2, 0, causeId 0x3F e.1, devDome, genOf s devDome, slowConsumers s.plan e.1⟩ : Ev)) } }

/-! ### Delivery (R470, R476, R480, R481) -/

/-- Vector of a channel at a function: that of EVENT_MSIX, or 0 (R480; log entry 30). -/
def Plan.eventVector (p : Plan) (d c : Nat) : Nat := match p.find .eventMsix d c with | some b => b.nat 1 | none => 0

/-- An event reaches a host function (R476, R481). -/
def hostTakes (s : State) (f : Fn) (c : Nat) : State :=
  let r := evtOf s f
  if r.pend.testBit c then
    onChan (onEvt s f (fun r => { r with ovr := setBit r.ovr c true })) c (fun k => { k with ovrHost := k.ovrHost + 1 })
  else
    let s := onEvt s f (fun r => { r with pend := setBit r.pend c true })
    if r.mask.testBit c then sendMsix s f (s.plan.eventVector ((s.plan.domeOf f).getD 0) c) else s

/-- An event reaches the EVENT entries of one capture (R286). -/
def captureTakes (s : State) (d i c : Nat) : State :=
  ((capReaders s 6 (fun dd e => dd == d && e.getD 1 0 == (c : Int) && s.plan.holdsChan dd c)).filter (fun e => e.2.1 == i)).foldl
    (fun (s : State) (e : Nat × Nat × Block × Bool × Nat × List Int) =>
      let (d, i, b, st, k, _) := e
      unitTrig s d i b 6 st k (s.plan.firstUnit d b ((s.time.tick64 : Int) + 1 - s.plan.lamC d i b)) s.time.tick64) s

/-- One consumer takes an event of channel `c` in core cycle `k` (Table 16-6). -/
def consumerTakes (s : State) (k c : Nat) (x : Consumer) : State :=
  match x with
  | .host f => if (s.plan.domeOf f).isSome then hostTakes s f c else s
  | .sextant d h =>
    match s.sextants.find? (fun e => e.2.lease == some (d, h)) with
    | none => s
    | some e =>
      let s := if 16 ≤ e.2.queue.length then onChan s c (fun k => { k with ovrSextant := k.ovrSextant + 1 }) else s
      onSx s e.1 (fun y => takeEvent y c)
  | .capture d i => captureTakes s d i c
  | .pin n =>
    let r := pinRun s n
    if r.pulse.isSome then onChan (onPin s n (fun r => { r with ovr := r.ovr + 1 })) c (fun k => { k with ovrPin := k.ovrPin + 1 })
    else match s.plan.pin n with
      | some b => onPin s n (fun r => { r with level := true, pulse := some (k + b.nat 6) })
      | none => s
  | .cell n i =>
    match s.plan.cell n with
    | some b => onCell s n (fun r => { r with ends := r.ends.set i (k + b.nat (8 + i) + 1) })
    | none => s

/-- Merge the events of one channel published in one cycle: the first producer of Table 16-3 gives the cause (R468). -/
def mergeEvents : List Ev → List (Ev × Nat)
  | [] => []
  | e :: r =>
    let rest := mergeEvents r
    match rest.find? (fun x => x.1.chan == e.chan && x.1.cycle == e.cycle) with
    | none => (e, 0) :: rest
    | some x =>
      let win := if e.rank ≤ x.1.rank then e else x.1
      (win, x.2 + 1) :: rest.filter (fun y => !(y.1.chan == e.chan && y.1.cycle == e.cycle))

/-- Deliver what is due in core cycle `k`; events of an old generation are discarded (R425, R470). -/
def deliverDue (s : State) (k : Nat) : State :=
  let due := s.router.queue.filter (fun e => decide (e.due ≤ k))
  if due.isEmpty then s
  else
    let live := due.filter (fun e => genOf s e.dome == e.gen)
    let s := { s with router := { s.router with queue := s.router.queue.filter (fun e => !(decide (e.due ≤ k))) } }
    (mergeEvents live).foldl (fun (s : State) (e : Ev × Nat) =>
      let s := onChan s e.1.chan (fun c => { c with events := c.events + 1, merged := c.merged + e.2 })
      e.1.dest.foldl (fun (s : State) (x : Consumer) => consumerTakes s k e.1.chan x) s) s

/-! ### Clocked cells (R473) -/

/-- Inputs of a clocked cell in cycle `k` as a table index. -/
def cellIndex (b : Block) (r : CellRun) (k : Nat) : Nat :=
  (List.range 4).foldl (fun (a : Nat) (i : Nat) => a + (match b.at (4 + i) with
    | .num _ => if k < r.ends.getD i 0 then 2 ^ i else 0
    | .named w => if w = 1 then 2 ^ i else 0
    | _ => 0)) 0

/-- A clocked cell over one cycle. -/
def cellStep (b : Block) (r : CellRun) (k : Nat) : CellRun :=
  let l := (b.nat 12).testBit (cellIndex b r k)
  let stored := if b.is 13 2 then (r.stored != l) else r.stored
  let stage := if b.is 13 1 then r.look else if b.is 13 2 then stored else l
  let n := b.nat 14
  let diff := if stage == r.out then 0 else r.diff + 1
  let moves := stage != r.out && decide (n ≤ diff)
  { r with at0 := k, look := l, stored := stored, out := if moves then stage else r.out, diff := if moves then 0 else diff }

/-- Does an output change publish (EDGE: RISE, FALL, BOTH)? -/
def edgeTakes (b : Block) (i : Nat) (up : Bool) : Bool := b.is i 2 || (if up then b.is i 0 else b.is i 1)

/-- Raise a source as of a core cycle. -/
def raiseAt (s : State) (k src cause : Nat) : State :=
  let c := s.router.cycle
  let s := raise { s with router := { s.router with cycle := k } } src cause
  { s with router := { s.router with cycle := c } }

/-- Every enabled clocked cell works core cycle `k`; a change that EDGE selects publishes in cycle k + 1. -/
def cellsWork (s : State) (k : Nat) : State :=
  (s.plan.objs .lutConfig).foldl (fun (s : State) (e : Nat × Nat × Block) =>
    if decide (256 ≤ e.2.1) && decide (e.2.1 < 384) && cellClocked e.2.2 then
      let n := e.2.1 - 256
      let old := cellRun s n
      let new := cellStep e.2.2 old k
      let s := onCell s n (fun _ => new)
      if new.out != old.out && edgeTakes e.2.2 15 new.out then raiseAt s (k + 1) (1368 + n) (causeId 0x3F n) else s
    else s) s

/-- Would a cell stay as it is after cycle `k` if no input moved? -/
def cellStill (b : Block) (r : CellRun) (k : Nat) : Bool := { cellStep b r k with at0 := r.at0 } == r

/-- Pulses whose time is over end (R475). -/
def pulsesEnd (s : State) (k : Nat) : State :=
  { s with router := { s.router with pins := s.router.pins.map (fun e => match e.2.pulse with
    | some x => if x ≤ k then (e.1, { e.2 with pulse := none, level := false }) else e
    | none => e) } }

/-- The next core cycle in which something happens: after `k` at the earliest. -/
def nextBusy (s : State) (k stop : Nat) : Nat :=
  let clocked := (s.plan.objs .lutConfig).filter (fun e => decide (256 ≤ e.2.1) && decide (e.2.1 < 384) && cellClocked e.2.2)
  if clocked.any (fun e => !cellStill e.2.2 (cellRun s (e.2.1 - 256)) k) then k + 1
  else
    let ends := clocked.flatMap (fun e => (cellRun s (e.2.1 - 256)).ends)
    let pulses := s.router.pins.filterMap (fun e => e.2.pulse)
    let dues := s.router.queue.map (fun e => e.due)
    ((ends ++ pulses ++ dues).filter (fun x => decide (k < x))).foldl Nat.min stop

/-- Work core cycles from `k` on until `stop`, in at most `fuel` busy cycles. -/
def routerWork : Nat → State → Nat → Nat → State
  | 0, s, _, stop => { s with router := { s.router with cycle := Nat.max s.router.cycle stop } }
  | fuel + 1, s, k, stop =>
    if stop ≤ k then { s with router := { s.router with cycle := Nat.max s.router.cycle stop } }
    else
      let s := { s with router := { s.router with cycle := k } }
      let s := cellsWork (deliverDue (pulsesEnd s k) k) k
      routerWork fuel s (Nat.max (k + 1) (nextBusy s k stop)) stop

/-- Work every core cycle before `stop`. -/
def routerRun (s : State) (stop : Nat) : State := routerWork (stop - s.router.cycle) s s.router.cycle stop

/-! ### Rows of the router -/

/-- EVENT_DELIVER (R470): the router works up to the next delivery. -/
def execEventDeliver (s : State) : Host.Outcome State Fault Refusal :=
  match (s.router.queue.map (fun e => e.due)).min? with
  | none => .next s
  | some t => .next (routerRun s (t + 1))

/-- EV_PIN_EDGE (R470, R475): an edge of pad `pin` is sampled in a core cycle of the running tick. -/
def execEvPinEdge (pin : Nat) (level : Bool) (cycle : Nat) (s : State) : Host.Outcome State Fault Refusal :=
  if 16 ≤ pin then .fault .noSuchUnit
  else
    let c := Nat.max s.router.cycle (tickCycle s + cycle)
    let s := routerRun s c
    match s.plan.pin pin with
    | none => .next s
    | some b =>
      if !b.is 2 1 || (pinRun s pin).level == level then .next s
      else
        let chan := b.nat 3
        if s.plan.unclocked chan then
          let old := chanLevels s
          .next (levelsMoved (onPin s pin (fun r => { r with level := level, filt := level, edge := c })) old c)
        else
          let r := pinRun s pin
          let f := b.nat 5
          let at' := r.edge + 2 + f
          if r.level != r.filt && decide (c < r.edge + f) then
            -- back within FILTER cycles: the change before this one never was
            .next (onPin { s with router := { s.router with queue := s.router.queue.filter (fun e => !(e.rank == 0 && e.chan == chan && e.cycle == at' && e.cause == causeId 0x3F pin)) } }
              pin (fun r => { r with level := level }))
          else
            let s := onPin s pin (fun r => { r with filt := r.level, level := level, edge := c })
            .next (if edgeTakes b 4 level then publishAt s (c + 2 + f) (c + 18 + f) chan 0 (causeId 0x3F pin) devDome else s)

/-- EV_PULSE_END (R475). -/
def execEvPulseEnd (pin : Nat) (s : State) : Host.Outcome State Fault Refusal :=
  if 16 ≤ pin then .fault .noSuchUnit
  else match (pinRun s pin).pulse with
    | none => .next s
    | some x => .next (routerRun s (x + 1))

/-- LUT_STRETCH_END (R473): the router works up to the cycle in which the input is 0 again. -/
def execLutStretchEnd (cell input : Nat) (s : State) : Host.Outcome State Fault Refusal :=
  if 128 ≤ cell ∨ 4 ≤ input then .fault .noSuchUnit
  else .next (routerRun s ((cellRun s cell).ends.getD input 0 + 1))

/-- LUT_FILTER_EXPIRY (R473): the router works up to the cycle in which the output changes. -/
def execLutFilterExpiry (cell : Nat) (s : State) : Host.Outcome State Fault Refusal :=
  if 128 ≤ cell then .fault .noSuchUnit
  else match s.plan.cell cell with
    | none => .next s
    | some b => .next (if (cellRun s cell).diff = 0 then s else routerRun s (s.router.cycle + (b.nat 14 - (cellRun s cell).diff)))

/-- SUPPRESS_WINDOW_END (R478). -/
def execSuppressWindowEnd (s : State) : Host.Outcome State Fault Refusal :=
  if s.router.windowLeft ≠ 0 then .next s
  else
    let s := windowEnd s
    .next { s with router := { s.router with windowLeft := s.plan.suppress } }

/-! ### EVT registers (R455, R481) -/

/-- Channels that a function sees, as a 256-bit mask (R468). -/
def evtSeen (s : State) (f : Fn) : Nat :=
  match s.plan.domeOf f with
  | none => 0
  | some d => if d = 0 then 2 ^ 256 - 1 else (List.range 256).foldl (fun (a : Nat) (c : Nat) => if s.plan.holdsChan d c then a + 2 ^ c else a) 0

/-- A function that has no EVT window: an unbound VF, or PF0 of HP1 to HP3 (Table 14-5, Table 15-5). -/
def evtDome (s : State) (f : Fn) (off : Nat) : Except State Nat :=
  match s.plan.domeOf f with
  | none => .error (violation s (if f.vf = 0 then 4 else 5) f off)
  | some d => .ok d

/-- EVT_PUB_WRITE (R455, R468): a channel that the dome does not hold, or an unclocked one, is refused. -/
def execEvtPubWrite (fn : Fn) (w : Word) (s : State) : Host.Outcome State Fault Refusal :=
  if 4 ≤ fn.port ∨ 65 ≤ fn.vf then .fault .noSuchUnit
  else match evtDome s fn 0x8060 with
    | .error t => .next t
    | .ok d =>
      let c := w.toNat % 256
      if s.plan.holdsChan d c && !s.plan.unclocked c then .next (publish s c 5 (causeId 0x3F c) d)
      else .next { s with router := { s.router with pubRefused := tmod s.router.pubRefused d 0 (fun n => n + 1) } }

/-- EVT_MASK_WRITE (R455, R481): register `k` of 8; setting a bit whose pending bit is 1 sends one message. -/
def execEvtMaskWrite (fn : Fn) (k : Nat) (w : Word) (s : State) : Host.Outcome State Fault Refusal :=
  if 4 ≤ fn.port ∨ 65 ≤ fn.vf ∨ 8 ≤ k then .fault .noSuchUnit
  else match evtDome s fn (0x8020 + 4 * k) with
    | .error t => .next t
    | .ok d =>
      let old := evtOf s fn
      let seen := evtSeen s fn
      let word := bits seen (32 * k + 31) (32 * k) &&& w.toNat
      let new := old.mask - bits old.mask (32 * k + 31) (32 * k) * 2 ^ (32 * k) + word * 2 ^ (32 * k)
      let s := onEvt s fn (fun r => { r with mask := new })
      .next ((List.range 32).foldl (fun (s : State) (b : Nat) =>
        let c := 32 * k + b
        if new.testBit c && !old.mask.testBit c && old.pend.testBit c then sendMsix s fn (s.plan.eventVector d c) else s) s)

/-! ### EVENT_ROUTE, LUT_CONFIG, EVENT_MSIX, EVENT_STATS -/

/-- Block of EVENT_ROUTE (Table 16-4). -/
def eventRouteBlock : List Param := [pWd "ACTION" ["ADD", "DELETE"] 0, pN "SOURCE" 0 1535, pN "CHANNEL" 0 255, pNWd "CAUSE" 0 63 ["ANY"] 0]

/-- Reserved source numbers (Tables 2-11, 3-4, 16-9, R483). -/
def reservedSource (n : Nat) : Bool :=
  (decide (1072 ≤ n) && decide (n ≤ 1135) && (n - 1072) % 8 == 7) || (decide (1136 ≤ n) && decide (n ≤ 1167) && (n - 1136) % 8 == 7) ||
  (decide (1219 ≤ n) && decide (n ≤ 1223)) || (decide (1240 ≤ n) && decide (n ≤ 1271)) || (decide (1292 ≤ n) && decide (n ≤ 1303)) ||
  (decide (1308 ≤ n) && decide (n ≤ 1311)) || (decide (1326 ≤ n) && decide (n ≤ 1343)) || (decide (1355 ≤ n) && decide (n ≤ 1359)) ||
  (decide (1366 ≤ n) && decide (n ≤ 1367)) || decide (1496 ≤ n)
/-- Sources that a dome may route (R471). -/
def domeSource (n : Nat) : Bool := decide (n ≤ 815) || (decide (1208 ≤ n) && decide (n ≤ 1218))
/-- INDEX of a route's record: SOURCE, CHANNEL and CAUSE, ANY as 64. -/
def routeIndex (b : Block) : Nat := (b.nat 1 * 256 + b.nat 2) * 65 + (match b.at 3 with | .num k => k.toNat | _ => 64)

/-- Producers of a channel (Table 16-3): those that an unclocked channel may have, and the others (R469). -/
def Plan.levelProducers (p : Plan) (c : Nat) : Nat :=
  ((List.range 16).filter (fun n => match p.pin n with | some b => b.is 2 1 && b.at 3 == .num c | none => false)).length +
  sumN ((List.range 128).map (fun n => if (match p.cell n with | some b => b.is 3 1 | none => false) then ((cellOut p n).filter (fun x => x == c)).length else 0))
def Plan.clockProducers (p : Plan) (c : Nat) : Bool :=
  let num := fun (v : PV) => v == .num (c : Int)
  (p.objs .eventRoute).any (fun e => e.2.2.nat 2 == c && (let n := e.2.2.nat 1
    if 1368 ≤ n ∧ n ≤ 1495 then (match p.cell (n - 1368) with | some b => !b.is 3 1 | none => true) else true)) ||
  (p.objs .tdcConfig).any (fun e => num (e.2.2.at 5)) || (p.objs .skDefine).any (fun e => num (e.2.2.at 11)) ||
  (p.objs .maskDefine).any (fun e => num (e.2.2.at (if e.2.2.is 0 1 then 12 else 9))) ||
  (p.objs .instrDefine).any (fun e => iKind e.2.2 == 8 && num (e.2.2.at 26)) ||
  (p.objs .sextantAttach).any (fun e => (List.range 4).any (fun j => num (e.2.2.at (50 + j)))) ||
  (p.objs .sextantEvents).any (fun e => (e.2.2.nats 2).contains c)
/-- Does the plan give an unclocked channel a second producer or a clocked one (R469)? -/
def Plan.chanBad (p : Plan) (c : Nat) : Bool := p.unclocked c && (p.clockProducers c || decide (1 < p.levelProducers c))
/-- INCONSISTENT of a slot that names a channel. -/
def chanCheck (p : Plan) (v : PV) (slot : Nat) : Option Reject := match v with | .num c => rejIf (p.chanBad c.toNat) (rej .inconsistent slot) | _ => none

/-- Does an unclocked cell break R474? -/
def Plan.cellBad (p : Plan) (n : Nat) : Bool :=
  match p.cell n with
  | none => false
  | some b =>
    b.is 3 1 && (!b.is 13 0 || b.nat 14 != 0 || (List.range 4).any (fun i => b.nat (8 + i) != 0 || (match b.at (4 + i) with | .num c => !p.unclocked c.toNat | _ => false)) ||
      decide (1 < (cellOut p n).length) || (cellOut p n).any (fun c => !p.unclocked c))

/-- EVENT_ROUTE (R471). -/
def eventRouteC : CSpec :=
  { names := fun c m =>
      let b := m.block
      firstRej [rejIf (!c.plan.holdsChan m.dome (b.nat 2)) (rej .denied 2), rejIf (m.dome != 0 && !domeSource (b.nat 1) && !reservedSource (b.nat 1)) (rej .denied 1),
                rejIf (reservedSource (b.nat 1)) (rej .nosuch 1), rejIf (b.is 0 1 && !c.plan.has .eventRoute m.dome (routeIndex b)) (rej .nosuch 1)],
    edit := fun _ m p => if m.block.is 0 1 then p.del .eventRoute m.dome (routeIndex m.block) else p.put .eventRoute m.dome (routeIndex m.block) m.block,
    verify := fun c _ m => firstRej [chanCheck c.plan (m.block.at 2) 2,
      rejIf (decide (1368 ≤ m.block.nat 1) && decide (m.block.nat 1 ≤ 1495) && c.plan.cellBad (m.block.nat 1 - 1368)) (rej .inconsistent 2)] }

/-- Block of LUT_CONFIG by its TARGET (Tables 16-5 and 16-8). -/
def lutConfigTable (sl : List Slot) : List Param :=
  pW "TARGET" ["CHANNEL", "CELL", "PIN", "ROUTER"] ::
  (if (sl.getD 0 0).toNat = wordSlot 0 then [pN "CHANNEL" 0 255, pWd "MODE" ["CLOCKED", "UNCLOCKED"] 0]
   else if (sl.getD 0 0).toNat = wordSlot 1 then
     [pN "CELL" 0 127, pF "ENABLE" 0, pWd "MODE" ["CLOCKED", "UNCLOCKED"] 0] ++ (List.range 4).map (fun _ => pNWd "IN" 0 255 ["CONST0", "CONST1"] 0) ++
     (List.range 4).map (fun _ => pD "STRETCH" 0 65535 0) ++ [pD "TABLE" 0 65535 0, pWd "FF" ["NONE", "D", "TOGGLE"] 0, pD "FILTER" 0 15 0, pWd "EDGE" ["RISE", "FALL", "BOTH"] 0]
   else if (sl.getD 0 0).toNat = wordSlot 2 then
     [pI "PIN" 15, pWd "DIR" ["OFF", "IN", "OUT"] 0, (pN "CHANNEL" 0 255).when 2 [.named 1, .named 2], (pW "EDGE" ["RISE", "FALL", "BOTH"]).when 2 [.named 1],
      (pN "FILTER" 0 15).when 2 [.named 1], pD "WIDTH" 1 65535 16]
   else [pD "SUPPRESS" 1 65535 1])

/-- INDEX of a LUT_CONFIG record: channels 0 to 255, cells from 256, pins from 384, the router 400. -/
def lutIndex (b : Block) : Nat := match b.word? 0 with | some 0 => b.nat 1 | some 1 => 256 + b.nat 1 | some 2 => 384 + b.nat 1 | _ => 400

/-- Run-time state of a cell under a changed block: what R477 lists survives; a disabled cell holds output 0 (Table 16-5). -/
def cellKeep (old : Option Block) (b : Block) (r : CellRun) : CellRun :=
  { r with ends := (List.range 4).map (fun i => if (match old with | some o => o.at (4 + i) == b.at (4 + i) | none => false) then r.ends.getD i 0 else 0),
           out := if b.nat 2 = 0 then false else r.out }

/-- LUT_CONFIG (R469, R472 to R475, R477, R478). -/
def lutConfigC : CSpec :=
  { edit := fun _ m p => p.put .lutConfig devDome (lutIndex m.block) m.block,
    verify := fun c _ m =>
      let p := c.plan
      let b := m.block
      match b.word? 0 with
      | some 0 => firstRej
          [rejIf (p.chanBad (b.nat 1)) (rej .inconsistent 2), rejIf ((List.range 128).any (fun n => p.cellBad n)) (rej .inconsistent 2),
           rejIf (!p.unclocked (b.nat 1) && (p.objs .tdcConfig).any (fun e => e.2.2.at 2 == .num (b.nat 1 : Int))) (rej .inconsistent 2)]
      | some 1 => firstRej [rejIf (p.cellBad (b.nat 1)) (rej .inconsistent 3), rejIf ((cellOut p (b.nat 1)).any (fun x => p.chanBad x)) (rej .inconsistent 3)]
      | some 2 => if b.is 2 1 then chanCheck p (b.at 3) 3 else none
      | _ => none,
    apply := fun o m s =>
      let b := m.block
      match b.word? 0 with
      | some 1 => onCell s (b.nat 1) (cellKeep (o.cell (b.nat 1)) b)
      | some 2 =>
        -- a pin changed from OUT to another DIR ends its pulse (R477)
        if b.is 2 2 then s else onPin s (b.nat 1) (fun r => if (match o.pin (b.nat 1) with | some x => x.is 2 2 | none => false) then { r with pulse := none, level := false, filt := false } else r)
      | _ => s }

/-- Block of EVENT_MSIX. -/
def eventMsixBlock : List Param := [pN "CHANNEL" 0 255, pD "VECTOR" 0 2047 0]
/-- Vectors of a function's MSI-X table (R480). -/
def msixVectors (f : Fn) : Nat := if f.vf = 0 then 2048 else 32
/-- EVENT_MSIX (R480). -/
def eventMsixC : CSpec :=
  { names := fun c m => firstRej [rejIf (decide (msixVectors m.fn ≤ m.block.nat 1)) (rej .format 1), rejIf (!c.plan.holdsChan m.dome (m.block.nat 0)) (rej .denied 0)],
    edit := fun _ m p => p.put .eventMsix m.dome (m.block.nat 0) m.block }

/-- Block of EVENT_STATS. -/
def eventStatsBlock : List Param := [(pI "DOME" 255).byRule, pN "CHANNEL" 0 255]
/-- EVENT_STATS (R482). -/
def eventStatsAct : Act := fun c m =>
  match domeSlotBad c.s.plan m 0 with
  | some r => .error r
  | none =>
    if !c.s.plan.holdsChan (domeSlot m 0) (m.block.nat 1) then .error (rej .denied 1)
    else
      let k := tgetD c.s.router.chans (m.block.nat 1) ChanCnt.reset
      .ok { s := c.s, body := some ([k.events, k.merged, k.suppressed, k.ovrHost, k.ovrSextant, k.ovrTdc, k.ovrCapture, k.ovrPin].flatMap (leBytes 8)) }

/-- After a configuration applies: events still to be published find the new consumers, and unclocked levels move (R470, R477). -/
def routerRefresh (s : State) (old : List (Nat × Bool)) : State :=
  let s := { s with router := { s.router with queue := s.router.queue.map (fun e => if tickCycle s ≤ e.cycle ∧ e.due = e.cycle + 16 then { e with dest := consumersOf s.plan e.chan } else e) } }
  levelsMoved s old (tickCycle s)

end Sys2Proof.Machine
end

