-- ==== Sys2Proof/Machine/SxPlan.lean ====
section
/-! DEFINITION. SxPlan.lean: managing Sextants by command: leases, images, attachments, swaps, parameters and events (R346, R363, R365 to R367,
R371 to R377, R544, R571). -/
namespace Sys2Proof.Machine

/-! ### Images (R371) -/

/-- Block of SEXTANT_LOAD; the image is the buffer. -/
def sextantLoadBlock : List Param := [pN "HANDLE" 0 63]
/-- Is an image well formed: MAGIC, VERSION, CYCLES and CODE_BUNDLES in range, CODE_CRC, reserved fields, ENTRY, IVEC and size (R371, Table 12-9)? -/
def sxImageOk (b : List Byte) : Bool :=
  let im := imageOf b
  decide (64 ≤ b.length) && leField b 0 4 == 0x53540001 && leField b 4 2 == 1 && decide (1 ≤ im.cycles) && decide (im.cycles ≤ 1048512) &&
  decide (1 ≤ im.bundles) && decide (im.bundles ≤ 4096) && b.length == 64 + 16 * im.bundles && im.crc == crc32c (b.drop 64) && decide (im.hflags < 16) &&
  leField b 18 6 == 0 && leField b 28 36 == 0 && decide (im.entry < im.bundles) && decide (im.ivec < im.bundles)
/-- Does an image with LIBRARY set carry the digest of a library of the running Almanac (R571)? -/
def libraryOk (s : State) (b : List Byte) : Bool :=
  !(imageOf b).hflags.testBit 3 ||
  (match s.boot.running with | some k => (libDigests (slotImg s k)).contains (sha384 b) | none => false)

/-! ### Leases (R346) -/

/-- Sectors of a dome's inputs: that of the attachment's first input, else that of the lowest feed that the dome sees (log entry 46). -/
def Plan.sxSector (p : Plan) (d : Nat) (a : Option Block) : Nat :=
  let ofSrc := fun (src : Src) (first : Nat) => sectorOf (((p.homeRuns src first 1).head?.map (fun r => r.1)).getD 0)
  let fromAttach := a.bind (fun b => (List.range 4).findSome? (fun k =>
    match b.word? (2 + k) with
    | some 1 => (p.instr d (b.nat (6 + k))).map (fun ib => ofSrc (p.mainSrc d ib) (b.nat (10 + k)))
    | some 2 => some (ofSrc (srcOf d (b.at (6 + k))) (b.nat (10 + k)))
    | some 3 => (p.instr d (b.nat (6 + k))).map (fun ib => ofSrc (p.mainSrc d ib) (iRange ib).1)
    | _ => none))
  fromAttach.getD ((((List.range 1024).find? (fun f => (p.feed f).isSome && (d == 0 || p.sees d f))).bind (fun f => (p.feed f).map feedSector)).getD 0)
/-- Tiles whose Sextant no lease holds. -/
def Plan.sxFree (p : Plan) (gone : List Nat) : List Nat :=
  (List.range 64).filter (fun t => !gone.contains t && !p.places.any (fun x => x.op == .sextantLoad && x.tiles.contains t))
/-- The lowest free tile of a sector (R346). -/
def Plan.sxFreeIn (p : Plan) (gone : List Nat) (sector : Nat) : Option Nat := (p.sxFree gone).find? (fun t => sectorOf t == sector)
/-- Tile of a lease that has no inputs yet: the lowest free one of the sector of the dome's lowest feed, else the lowest free one; the attachment of its
inputs brings it to their sector (log entry 46). -/
def Plan.sxFirst (p : Plan) (gone : List Nat) (d : Nat) : Option Nat := (p.sxFreeIn gone (p.sxSector d none)).orElse (fun _ => (p.sxFree gone).head?)

/-- What admission keeps of an image: CODE_CRC, CYCLES, PAIRED, CODE_BUNDLES, CLEAR_DATA. -/
def sxKept (b : List Byte) : List Int :=
  let im := imageOf b
  [im.crc, im.cycles, b2n (im.hflags.testBit 1), im.bundles, b2n (im.hflags.testBit 2)]

/-- SEXTANT_LOAD in the plan: a new lease, or a staged image of one in place. -/
def sextantLoadEdit (c : Ctx) (m : Cmd) (p : Plan) : Plan :=
  let h := m.block.nat 0
  let im := imageOf m.data
  let p := p.put .sextantLoad m.dome h [.num h, .num im.crc, .num im.cycles]
  match p.place? .sextantLoad m.dome h with
  | some x => p.setPlace { x with chosen := sxKept m.data }
  | none => (match p.sxFirst c.s.dev.goneTiles m.dome with
    | some t => p.setPlace { op := .sextantLoad, dome := m.dome, index := h, placed := true, order := 0, tiles := [t], hstacks := [], latency := 0,
                             chosen := sxKept m.data, since := c.e }
    | none => p)

/-- SEXTANT_LOAD (R346, R371, R372). The image is checked in the order of R371. A dome that finds no Sextant free is refused by CAPACITY. -/
def sextantLoadC : CSpec :=
  { names := fun c m => firstRej
      [rejIf (!sxImageOk m.data) (rej .format 0),
       -- C with the port's bytes of the attachment in force, and the scrub where the lease starts (R374)
       let h := m.block.nat 0
       let port := match c.plan.find .sextantAttach m.dome h with | some a => c.plan.sxPort m.dome a | none => 0
       let need := (imageOf m.data).cycles + 64 + (if (imageOf m.data).hflags.testBit 1 then ceilDiv port 64 else 0) + (if c.plan.has .sextantLoad m.dome h then 0 else scrubCycles)
       rejIf (decide (5 * c.plan.m < need)) (noBudget c.e 0x0A (m.block.nat 0) need (5 * c.plan.m)),
       rejIf (!libraryOk c.s m.data) (rej .denied 0)],
    edit := sextantLoadEdit,
    verify := fun c _ m => rejIf (c.plan.place? .sextantLoad m.dome (m.block.nat 0)).isNone (rej .capacity 0),
    result := fun c m => ((c.plan.place? .sextantLoad m.dome (m.block.nat 0)).map (fun x => x.tiles.headD 0)).getD 0,
    apply := fun _ m s =>
      let h := m.block.nat 0
      -- a lease in place stages the image, and its next item carries FIRST (Table 12-2)
      match leaseTile s m.dome h, sxTile s m.dome h with
      | some t, _ => onSx s t (fun e => { e with staged := m.data, incoming := if e.scrub then m.data else e.incoming, fault := none, nextSt := e.nextSt ||| 4 })
      | none, some t => changeLease s t (some (m.dome, h)) m.data
      | none, none => s }

/-- A handle without a lease. -/
def noLease (p : Plan) (m : Cmd) : Option Reject := rejIf (!p.has .sextantLoad m.dome (m.block.nat 0)) (rej .nosuch 0)

/-- SEXTANT_RELEASE (R346, R347). -/
def sextantReleaseC : CSpec :=
  { names := fun c m => noLease c.plan m,
    edit := fun _ m p => ((p.del .sextantLoad m.dome (m.block.nat 0)).del .sextantAttach m.dome (m.block.nat 0)).del .sextantEvents m.dome (m.block.nat 0),
    apply := fun _ m s =>
      match leaseTile s m.dome (m.block.nat 0) with
      | some t => changeLease s t none []
      | none => s }

/-! ### Attachments (R365, R544) -/

/-- lambda of input `k` of an attachment without Transit: the device tick from whose end the data is present (R213, R192, R367). -/
def Plan.sxInLam (p : Plan) (d : Nat) (b : Block) (k : Nat) : Nat :=
  match b.word? (2 + k) with
  | some 1 => p.lamQ d (b.nat (6 + k))
  | some 2 => p.lambda d (b.nat 1) (srcOf d (b.at (6 + k)))
  | some 3 => p.lam d (b.nat (6 + k)) + 1
  | _ => 0
/-- Is an input held on another tile (R365)? -/
def Plan.sxRemote (p : Plan) (d : Nat) (b : Block) (t k : Nat) : Bool :=
  let srcs := match b.word? (2 + k) with
    | some 1 => ((p.instr d (b.nat (6 + k))).map (fun ib => iSources d ib)).getD []
    | some 2 => [srcOf d (b.at (6 + k))]
    | _ => []
  srcs.any (fun s => (p.homeRuns s (b.nat (10 + k)) (b.nat (14 + k))).any (fun r => r.1 != t))
/-- lambda_s (R367): all inputs are present together. -/
def Plan.sxLam (p : Plan) (d : Nat) (b : Block) (t : Nat) : Nat :=
  ((List.range 4).map (fun k => p.sxInLam d b k)).foldl Nat.max 0 + b2n ((List.range 4).any (fun k => p.sxRemote d b t k))

/-- F_max of an input's source. -/
def Plan.sxFmax (p : Plan) (d : Nat) (b : Block) (k : Nat) : Nat :=
  match b.word? (2 + k) with
  | some 1 => ((p.instr d (b.nat (6 + k))).map (fun x => ((iSources d x).map (fun src => p.fmax src)).foldl Nat.max 0)).getD 0
  | some 2 => p.fmax (srcOf d (b.at (6 + k)))
  | _ => 0
/-- Banks of an attachment: slot, first address and bytes of each (R365, R366). -/
def Plan.sxBanks (p : Plan) (d : Nat) (b : Block) : List (Nat × Nat × Nat) :=
  let three := fun (slot off stride n : Nat) => (List.range 3).map (fun i => (slot, off + i * stride, n))
  (List.range 4).flatMap (fun k =>
    let off := b.nat (18 + k)
    let st := b.nat (22 + k)
    let f := p.sxFmax d b k
    let n := b.nat (14 + k)
    match b.word? (2 + k) with
    | some 1 => let q := ((p.instr d (b.nat (6 + k))).map (fun x => (iSources d x).length)).getD 0
                three (18 + k) off st (f * n * (64 * ceilDiv q 64))
    | some 2 => three (18 + k) off st (f * n * 8) ++ three (26 + k) (b.nat (26 + k)) st (ceilDiv (f * n) 8)
    | some 3 => three (18 + k) off st 4096
    | _ => []) ++
  (List.range 4).flatMap (fun j => if b.is (30 + j) 0 then [] else three (38 + j) (b.nat (38 + j)) (b.nat (42 + j)) (b.nat (46 + j)))
/-- First bank that is misaligned, outside GENERAL, or overlaps one before it. -/
def sxBanksBad : List (Nat × Nat × Nat) → List (Nat × Nat × Nat) → Option Nat
  | _, [] => none
  | seen, x :: r =>
    let bitmap := decide (26 ≤ x.1) && decide (x.1 < 30)
    if (!bitmap && x.2.1 % 64 != 0) || decide (0x3C000 < x.2.1 + x.2.2) || seen.any (fun y => decide (x.2.1 < y.2.1 + y.2.2) && decide (y.2.1 < x.2.1 + x.2.2))
    then some x.1 else sxBanksBad (seen ++ [x]) r

/-- First slot of an attachment that breaks a rule of consistency (R365, R544). -/
def Plan.attachBad (p : Plan) (d h : Nat) (b : Block) : Option Nat :=
  let ib := (p.instr d (b.nat 1)).getD []
  if iKind ib != 9 ∧ iKind ib != 10 then some 1
  else
    let input := (List.range 4).find? (fun k =>
      let first := b.nat (10 + k)
      let cnt := b.nat (14 + k)
      match b.word? (2 + k) with
      | some 1 => (match p.instr d (b.nat (6 + k)) with
        | some x => !iRequantises x || decide (64 < (iSources d x).length) || decide (cnt = 0) || decide (first < (iTaken x).1) || decide ((iTaken x).1 + (iTaken x).2 < first + cnt)
        | none => true)
      | some 2 => decide (cnt = 0) || !p.covers (srcOf d (b.at (6 + k))) first cnt
      | some 3 => (match p.instr d (b.nat (6 + k)) with | some x => iKind x != 9 | none => true)
      | _ => false)
    let output := (List.range 4).find? (fun j =>
      match b.word? (30 + j) with
      | some 1 => (b.nat? (34 + j)).isNone
      | some 2 =>
        let n := b.word? (34 + j)
        let granted := fun (k : Nat) => d == 0 || (match p.grant d 10 with | some g => (g.nat 2).testBit k | none => false)
        let others := (p.objs .sextantAttach).any (fun e => (List.range 4).any (fun i =>
          !(e.1 == d && e.2.1 == h && i == j) && (e.1 != d || e.2.1 != h || decide (i < j)) && e.2.2.is (30 + i) 2 && e.2.2.word? (34 + i) == n))
        (match n with | some k => !granted k || others | none => true)
      | _ => false)
    -- all feeds that the instrument reads have one HOLD (R112)
    let holds := ((iSources d ib).map (fun s => (s, (none : Option (Nat × Nat)))) ++ p.attachReads d (b.nat 1)).map (fun r => p.hold (p.feedOf r.1))
    let uneven := (List.range 4).find? (fun k => (p.sxReads d b k).any (fun r => p.hold (p.feedOf r.1) != holds.headD 0))
    match input.orElse (fun _ => if (holds.eraseDups).length ≤ 1 then none else some (uneven.getD 0)), output with
    | some k, _ => some (6 + k)
    | none, some j => some (34 + j)
    | none, none => sxBanksBad [] (p.sxBanks d b)

/-- NOSUCH and DENIED of an attachment. -/
def attachNames (c : Ctx) (m : Cmd) : Option Reject :=
  let b := m.block
  let d := m.dome
  firstRej ([noLease c.plan m, rejIf (c.plan.instr d (b.nat 1)).isNone (rej .nosuch 1)] ++
    (List.range 4).map (fun k => match b.word? (2 + k) with
      | some 1 => rejIf (c.plan.instr d (b.nat (6 + k))).isNone (rej .nosuch (6 + k))
      | some 2 => rejIf (!c.plan.srcSeen d (srcOf d (b.at (6 + k)))) (rej .nosuch (6 + k))
      | some 3 => rejIf (c.plan.instr d (b.nat (6 + k))).isNone (rej .nosuch (6 + k))
      | _ => none) ++
    (List.range 4).map (fun j => if b.is (30 + j) 0 then none else chanDenied c.plan d (b.at (50 + j)) (50 + j)))

/-- Does an attachment name an input? -/
def attachFed (b : Block) : Bool := (List.range 4).any (fun k => decide (1 ≤ (b.word? (2 + k)).getD 0))
/-- SEXTANT_ATTACH in the plan. A lease elsewhere goes to a free tile of the sector of its inputs (R346). -/
def attachEdit (c : Ctx) (m : Cmd) (p : Plan) : Plan :=
  let h := m.block.nat 0
  let d := m.dome
  let b := m.block
  let sector := p.sxSector d (some b)
  let p := match p.place? .sextantLoad d h with
    | some x =>
      if attachFed b && sectorOf (x.tiles.headD 0) != sector then
        (match p.sxFreeIn c.s.dev.goneTiles sector with | some t => p.setPlace { x with tiles := [t], since := c.e } | none => p)
      else p
    | none => p
  let t := ((p.place? .sextantLoad d h).map (fun x => x.tiles.headD 0)).getD 0
  (p.put .sextantAttach d h b).setPlace { op := .sextantAttach, dome := d, index := h, placed := true, order := 0, tiles := [t], hstacks := [p.stackAny c.s.hbm.failed d (sectorOf t)], latency := p.sxLam d b t, chosen := [], since := c.e }

/-- Output rings of an attachment. -/
def sxRings (h : Nat) (b : Block) : List (Nat × RingRun) :=
  (List.range 4).filterMap (fun j => if b.is (30 + j) 1 then
    some (1024 + 4 * h + j, { slotBytes := ceilDiv (b.nat (46 + j) + 64) 64 * 64, slots := b.nat (34 + j), written := 0, held := [] }) else none)
/-- Is a ring key one of a handle's outputs? -/
def sxRingKey (h k : Nat) : Bool := decide (1024 + 4 * h ≤ k) && decide (k < 1028 + 4 * h)

/-- SEXTANT_ATTACH (R365, R366, R374, R544). -/
def sextantAttachC : CSpec :=
  { names := attachNames, edit := attachEdit,
    verify := fun c _ m =>
      let h := m.block.nat 0
      firstRej [(c.plan.attachBad m.dome h m.block).bind (fun k => inconsistent k),
                rejIf (decide (320 * c.plan.m < c.plan.sxPort m.dome m.block)) (noBudget c.e 0x0A h (c.plan.sxPort m.dome m.block) (320 * c.plan.m)),
                -- no Sextant of the inputs' sector is free
                rejIf (attachFed m.block && (match c.plan.place? .sextantLoad m.dome h with
                  | some x => sectorOf (x.tiles.headD 0) != c.plan.sxSector m.dome (some m.block) && (c.plan.sxFreeIn c.s.dev.goneTiles (c.plan.sxSector m.dome (some m.block))).isNone
                  | none => false)) (rej .capacity 0)],
    result := fun c m => sxLambda c.plan m.dome (m.block.nat 0),
    apply := fun old m s =>
      let h := m.block.nat 0
      let d := m.dome
      let b := m.block
      let s := match old.find .sextantAttach d h with
        | some o => onInstr s d (o.nat 1) (fun r =>
            { r with rings := r.rings.filter (fun x => !sxRingKey h x.1 || (o.nat 1 == b.nat 1 && (sxRings h b).any (fun y => y.1 == x.1 && y.2.slotBytes == x.2.slotBytes && y.2.slots == x.2.slots))),
                     inq := r.inq.filter (fun x => !(decide (sxPos h 0 0 ≤ x.1) && decide (x.1 < sxPos h 4 0))) })
        | none => s
      -- the lease moves with its inputs
      let s := match leaseTile s d h, sxTile s d h with
        | some t, some t' => if t = t' then s else moveLease s t t'
        | _, _ => s
      let s := onInstr s d (b.nat 1) (fun r => { r with rings := r.rings ++ (sxRings h b).filter (fun y => !r.rings.any (fun x => x.1 == y.1)) })
      match sxTile s d h with
      | some t => onSx s t (fun e => { e with due := [], stale := true })
      | none => s }

/-! ### Swaps, parameters, events (R372, R377) -/

/-- Is a command of this opcode pending for the handle, in an admitted set or earlier in its own (R377)? -/
def sxPending' (c : Ctx) (op : Op) (m : Cmd) : Bool :=
  let same := fun (y : Cmd) => y.op == op && y.dome == m.dome && y.block.nat 0 == m.block.nat 0
  c.s.psets.any (fun x => x.cmds.any same) || c.prior.any same

/-- SEXTANT_SWAP (R372, R374, R375). -/
def sextantSwapC : CSpec :=
  { names := fun c m => noLease c.plan m,
    busy := fun c m => rejIf (sxPending' c .sextantSwap m || (match leaseTile c.s m.dome (m.block.nat 0) with | some t => (sxOf c.s t).swap.isSome | none => false)) (rej .busy 0),
    verify := fun c _ m =>
      let h := m.block.nat 0
      match c.plan.place? .sextantLoad m.dome h with
      | some x =>
        let need := c.plan.sxCycles m.dome h + x.swapCycles + (if x.since = c.e then scrubCycles else 0)
        rejIf (decide (5 * c.plan.m < need)) (noBudget c.e 0x0A h need (5 * c.plan.m))
      | none => none,
    apply := fun _ m s => match leaseTile s m.dome (m.block.nat 0) with | some t => onSx s t (fun e => { e with swap := some s.time.tick64 }) | none => s }

/-- Block of SEXTANT_PARAM; the data is the buffer. -/
def sextantParamBlock : List Param := [pN "HANDLE" 0 63, pN "OFFSET" 0 2047, pN "LENGTH" 1 2048]
/-- SEXTANT_PARAM (R367, R377). -/
def sextantParamC : CSpec :=
  { names := fun c m => firstRej [rejIf (m.data.length != m.block.nat 2) (rej .format 2), noLease c.plan m],
    busy := fun c m => rejIf (sxPending' c .sextantParam m || (match leaseTile c.s m.dome (m.block.nat 0) with | some t => (sxOf c.s t).param.isSome | none => false)) (rej .busy 0),
    verify := fun _ _ m => rejIf (decide (2048 < m.block.nat 1 + m.block.nat 2)) (rej .inconsistent 2),
    apply := fun _ m s => match leaseTile s m.dome (m.block.nat 0) with
      | some t => onSx s t (fun e => { e with param := some (s.time.tick64, m.block.nat 1, m.data) })
      | none => s }

/-- SEXTANT_EVENTS (R363, R477): channels outside the grant are refused. -/
def sextantEventsC : CSpec :=
  { names := fun c m =>
      let out := fun (i : Nat) => ((m.block.nats i).findIdx? (fun ch => !c.plan.holdsChan m.dome ch)).bind (fun k => some (rej .denied (slotOf m.block i + 1 + k)))
      firstRej [out 1, out 2, noLease c.plan m],
    edit := fun _ m p => p.put .sextantEvents m.dome (m.block.nat 0) m.block }

/-- Block of SEXTANT_STATS. -/
def sextantStatsBlock : List Param := [(pI "DOME" 255).byRule, pN "HANDLE" 0 63]
/-- SEXTANT_STATS (Table 12-12). -/
def sextantStatsAct : Act := fun c m =>
  let d := domeSlot m 0
  match domeSlotBad c.s.plan m 0, sxTile c.s d (m.block.nat 1) with
  | some r, _ => .error r
  | none, none => .error (rej .nosuch 1)
  | none, some t =>
    let e := sxOf c.s t
    .ok { s := c.s, body := some (words8 [e.items, e.shedItems, e.stalls, e.faults, e.lost, e.lastFault.1, e.lastFault.2, e.maxCycle]) }

end Sys2Proof.Machine
end

