-- ==== Sys2Proof/Machine/Rules.lean ====
section
/-! DEFINITION. Rules.lean: the block and the rule of every configuration opcode (Tables 13-9 to 13-14), and the small rules that span opcodes. -/
namespace Sys2Proof.Machine

/-- The rule of a configuration opcode: its block by the slots sent, whether the parameter buffer is raw (R401), and its checks and effects. -/
structure ConfRule where
  params : List Slot → List Param
  raw : Bool := false
  spec : CSpec

/-- A rule with a fixed block. -/
def conf (ps : List Param) (c : CSpec) : ConfRule := { params := fun _ => ps, spec := c }

/-- TICK_PERIOD, with the pace of every enabled DAC under the new M (R38, R541). -/
def tickPeriodSetC : CSpec :=
  { tickPeriodPlanC with
    verify := fun c o m => firstRej [tickPeriodPlanC.verify c o m, rejIf ((c.plan.of .dacConfig devDome).any (fun e => (dacPaceBad e.2 c.plan.m).isSome)) (rej .inconsistent 0)] }

/-- The rules of the configuration opcodes, COMMIT apart. -/
def Op.conf : Op → Option ConfRule
  | .stateSet => some (Machine.conf stateSetBlock stateSetC)
  | .tickPeriod => some (Machine.conf tickPeriodBlock tickPeriodSetC)
  | .epoch => some (Machine.conf epochBlock epochC)
  | .tdcConfig => some (Machine.conf tdcConfigBlock tdcConfigC)
  | .tdcPair => some (Machine.conf tdcPairBlock tdcPairC)
  | .clockCore => some (Machine.conf clockCoreBlock clockCoreC)
  | .clockOutput => some (Machine.conf clockOutputBlock clockOutputC)
  | .portConfig => some (Machine.conf portConfigBlock portConfigC)
  | .feedDefine => some (Machine.conf feedDefineBlock feedDefineC)
  | .feedDelete => some (Machine.conf feedOnlyBlock feedDeleteC)
  | .feedCondition => some (Machine.conf feedConditionBlock feedConditionC)
  | .coarseDefine => some (Machine.conf coarseBlock coarseDefineC)
  | .skDefine => some (Machine.conf skBlock skDefineC)
  | .skDelete => some (Machine.conf skDeleteBlock skDeleteC)
  | .instrDefine => some { params := instrTable, spec := instrDefineC }
  | .instrModify => some { params := instrTable, spec := instrModifyC }
  | .instrDelete => some (Machine.conf instrOnlyBlock instrDeleteC)
  | .zoomDefine => some (Machine.conf zoomBlock zoomDefineC)
  | .zoomDelete => some (Machine.conf [pN "WINDOW" 0 63] zoomDeleteC)
  | .maskDefine => some { params := maskTable, spec := maskDefineC }
  | .maskArm => some (Machine.conf maskOnlyBlock maskArmC)
  | .maskDelete => some (Machine.conf maskOnlyBlock maskDeleteC)
  | .plateDefine => some (Machine.conf plateTable plateDefineC)
  | .plateClear => some (Machine.conf plateOnlyBlock plateClearC)
  | .plateDelete => some (Machine.conf plateOnlyBlock plateDeleteC)
  | .captureForce => some (Machine.conf instrOnlyBlock captureForceC)
  | .captureArm => some (Machine.conf instrOnlyBlock captureArmC)
  | .streamDefine => some (Machine.conf (streamTable false) streamDefineC)
  | .streamModify => some (Machine.conf (streamTable true) streamModifyC)
  | .streamDelete => some (Machine.conf streamOnlyBlock streamDeleteC)
  | .apertureCreate => some (Machine.conf apertureCreateBlock apertureCreateC)
  | .apertureLink => some (Machine.conf apertureLinkBlock apertureLinkC)
  | .apertureDelete => some (Machine.conf apertureOnlyBlock apertureDeleteC)
  | .sextantLoad => some { params := fun _ => sextantLoadBlock, raw := true, spec := sextantLoadC }
  | .sextantAttach => some (Machine.conf attachBlock sextantAttachC)
  | .sextantSwap => some (Machine.conf [pN "HANDLE" 0 63] sextantSwapC)
  | .sextantParam => some { params := fun _ => sextantParamBlock, raw := true, spec := sextantParamC }
  | .sextantEvents => some (Machine.conf sextantEventsBlock sextantEventsC)
  | .sextantRelease => some (Machine.conf [pN "HANDLE" 0 63] sextantReleaseC)
  | .domeCreate => some (Machine.conf domeCreateBlock domeCreateC)
  | .domeGrant => some { params := domeGrantTable, spec := domeGrantC }
  | .domePriority => some (Machine.conf domePriorityBlock domePriorityC)
  | .domeDelete => some (Machine.conf domeOnlyBlock domeDeleteC)
  | .meterConfig => some (Machine.conf meterConfigBlock meterConfigC)
  | .rateClass => some (Machine.conf rateClassBlock rateClassC)
  | .eventRoute => some (Machine.conf eventRouteBlock eventRouteC)
  | .lutConfig => some { params := lutConfigTable, spec := lutConfigC }
  | .eventMsix => some (Machine.conf eventMsixBlock eventMsixC)
  | .hbmConfig => some (Machine.conf hbmConfigBlock hbmConfigC)
  | .calibrate => some (Machine.conf calibrateBlock calibrateC)
  | .reserveSwap => some (Machine.conf reserveSwapBlock reserveSwapC)
  | .adcConfig => some (Machine.conf adcConfigBlock adcConfigC)
  | .adcCalibrate => some (Machine.conf [] adcCalibrateC)
  | .dacConfig => some (Machine.conf dacConfigBlock dacConfigC)
  | .eyepieceConfig => some (Machine.conf eyepieceBlock eyepieceC)
  | .rectConfig => some (Machine.conf rectBlock rectC)
  | _ => none

/-- Parameters of a command that name an event channel to publish on (R474). -/
def Cmd.publishes (m : Cmd) : List (PV × Nat) :=
  let b := m.block
  let one := fun (i : Nat) => [(b.at i, slotOf b i)]
  match m.op with
  | .tdcConfig => one 5
  | .skDefine => one 11
  | .maskDefine => if b.is 0 0 then one 9 else one 12
  | .instrDefine => if iKind b = 8 then one 26 else []
  | .instrModify => if iKind b = 8 then one 26 else []
  | .sextantAttach => (List.range 4).flatMap (fun k => one (50 + k))
  | .sextantEvents => (b.nats 2).mapIdx (fun (k : Nat) (c : Nat) => (PV.num (c : Int), slotOf b 2 + 1 + k))
  | _ => []

/-- What an opcode's INCONSISTENT check misses because it spans objects: channels that may not be published on (R474), and an aperture command whose
APERTURE parameter names another aperture (R384). -/
def setWide (p : Plan) (m : Cmd) : Option Reject :=
  firstRej ((m.publishes.map (fun v => chanCheck p v.1 v.2)) ++
    [match m.aperture, m.apParam with
     | true, some v => rejIf (v != .dflt && v != .num (m.flags / 256 : Nat)) (rej .inconsistent (slotOf m.block (if m.op = .instrDefine ∨ m.op = .instrModify then (if iKind m.block = 6 then 4 else 3) else 0)))
     | false, some (.num _) => rejIf (m.op == .instrDefine || m.op == .instrModify) (rej .inconsistent (slotOf m.block (if iKind m.block = 6 then 4 else 3)))
     | _, _ => none])

end Sys2Proof.Machine
end

