-- ==== Sys2Proof/Machine/Admission.lean ====
section
/-! DEFINITION. Admission.lean: admission of a configuration set, the pending sets, and what happens at the effective tick (R387, R389 to R394). -/
namespace Sys2Proof.Machine

/-! ### The plan after a set -/

/-- LANE_EN under the SH writes of a set (R440). -/
def withSh (sh : List (Nat × Word)) (p : Plan) : Plan := { p with laneEn := sh.foldl (fun (l : List Word) (e : Nat × Word) => l.set e.1 e.2) p.laneEn }

/-- A set's commands in order, each with the plan that it sees (R390), and the plan after the last one. -/
def walk (s : State) (e : Nat) (p0 : Plan) (cmds : List Cmd) : List (Ctx × Cmd × CSpec) × Plan :=
  cmds.foldl (fun (acc : List (Ctx × Cmd × CSpec) × Plan) (m : Cmd) =>
    match m.op.conf with
    | none => acc
    | some r =>
      let c : Ctx := { s := s, plan := acc.2, e := e, prior := acc.1.map (fun (x : Ctx × Cmd × CSpec) => x.2.1) }
      let m' := r.spec.resolve c m
      (acc.1 ++ [(c, m', r.spec)], r.spec.edit c m' acc.2)) ([], p0)

/-- Renumbering offset of a set that applies at `e` (R60). -/
def setDelta (e : Nat) (cmds : List Cmd) : Int :=
  match cmds.find? (fun m => m.op == .epoch && m.block.is 0 0) with | some m => (m.block.nat 4 : Int) - e | none => 0

/-- The plan that a set gives: the commands in order, the SH writes, the re-anchoring of a new M (R109), the instruments that WITHDRAW unplaces (R24), those
that a new M no longer holds (R38), and a renumbering (R39). -/
def setPlan (s : State) (e : Nat) (p0 : Plan) (cmds : List Cmd) (sh : List (Nat × Word)) : Plan :=
  let p := withSh sh (walk s e p0 cmds).2
  let p := if p.m = p0.m then p else { reanchor p0.m e p with mOld := some (e, p0.m) }
  let p := if cmds.any (fun m => m.withdraw) then p.withdrawAltered p0 (p0.affected p e) e else p
  let p := if p.m = p0.m then p else p.refit s
  p.shift (setDelta e cmds)

/-- Pending sets in the order in which they apply. -/
def pendingOrder (l : List PSet) : List PSet := l.mergeSort (fun x y => decide (x.e < y.e) || (x.e == y.e && decide (x.order ≤ y.order)))
/-- The plan after pending sets. -/
def plansTo (s : State) (p : Plan) (l : List PSet) : Plan := (pendingOrder l).foldl (fun (p : Plan) x => setPlan s x.e p x.cmds x.sh) p
/-- The plan in force at tick `e` as the admissions so far have it. -/
def planAt (s : State) (e : Nat) : Plan := plansTo s s.plan (s.psets.filter (fun x => decide (x.e ≤ e)))

/-! ### Budget (R393) -/

/-- What a plan already uses of a resource that another plan exceeds. -/
def Plan.usedOf (p : Plan) (l : List Bk) (x : Short) : Nat :=
  let mine := fun (d : Nat) => l.filter (fun k => k.dome == d)
  match x.code with
  | 0x14 => if x.unit = 4 then bookedOf (mine (x.sub % 65536)) 0x10 (x.sub / 65536) 0 else (p.grantUse l x.sub x.unit).1
  | 0x0F => if x.unit = 0xFFFF then (p.grantUse l x.sub 3).1 * 2 ^ 21 else if 65536 ≤ x.sub then bookedOf (mine (x.sub - 65536)) 0x0F x.unit 0 else bookedOf l 0x0F x.unit x.sub
  | c =>
    let u := bookedOf l c x.unit x.sub
    -- a stream's own limit holds against its whole schedule (R318)
    if (c = 0x17 ∨ c = 0x10 ∧ x.sub ≠ 0) ∧ u < x.need then 0 else u

/-- BUDGET of a change from one plan to another at a tick: resources that it exceeds and uses more of, in ascending code (R393). -/
def budgetBad (s : State) (o n : Plan) (e : Nat) : Option Reject :=
  let l := o.books s.hbm.failed
  let bad := (n.shortsIn s ++ n.leaseShorts [] e n.m).filter (fun x => decide (o.usedOf l x < x.need))
  -- a spill whose pages the dome's quota cannot hold fails under 0x0F (R318), other pages under the grant (R414)
  let spill := fun (p : Plan) (d : Nat) => sumN ((p.of .streamDefine d).map (fun e => pagesFor (e.2.nat 13)))
  let bad := (bad.map (fun x => if x.code = 0x14 ∧ x.unit = 3 ∧ spill o x.sub < spill n x.sub then { x with code := 0x0F, unit := 0xFFFF, need := x.need * 2 ^ 21, have' := x.have' * 2 ^ 21 } else x)).mergeSort
    (fun x y => decide (x.code < y.code) || (x.code == y.code && decide (x.unit ≤ y.unit)))
  -- one entry for each resource
  let bad := bad.foldl (fun (a : List Short) (x : Short) => if a.any (fun (y : Short) => y.code == x.code && y.unit == x.unit) then a else a ++ [x]) []
  match bad with
  | [] => none
  | x :: _ => some { status := .budget, detail := x.code, tsn := some (tsnOf e),
                     resp := (bad.take 64).flatMap (fun x => reportEntry x.code x.unit (tsnOf e) (x.need - o.usedOf l x) (x.have' - o.usedOf l x)) }

/-- BUDGET at the effective tick and at the tick of every later pending set (R387, R393). -/
def budgetAll (s : State) (e : Nat) (o n : Plan) : Option Reject :=
  let later := pendingOrder (s.psets.filter (fun x => decide (e < x.e)))
  (later.foldl (fun (a : Option Reject × Plan × Plan) x =>
    match a with
    | (some r, p, q) => (some r, p, q)
    | (none, p, q) =>
      let p' := setPlan s x.e p x.cmds x.sh
      let q' := setPlan s x.e q x.cmds x.sh
      (budgetBad s p' q' x.e, p', q')) (budgetBad s o n e, o, n)).1

/-- Resources with a budget per tick that the bookings of a plan exceed in tick `e` of `len` grid periods (R42, R61). -/
def tickShorts (s : State) (p : Plan) (e len : Nat) : List Short :=
  let l := (p.books s.hbm.failed).filter (fun k => decide (k.code ≤ 0x0A) || k.code == 0x0E || (k.code == 0x10 && k.sub == 0) || k.code == 0x11 || k.code == 0x12)
  let swaps := (s.psets.filter (fun x => x.e == e)).flatMap (fun x => (x.cmds.filter (fun y => y.op == .sextantSwap)).map (fun y => (y.dome, y.block.nat 0)))
  (p.leaseShorts swaps e len ++ ((l.map (fun k => (k.code, k.unit, k.sub))).eraseDups).filterMap (fun k =>
    let need := bookedOf l k.1 k.2.1 k.2.2
    match ({ p with m := len } : Plan).budget (fun _ => 0) k.1 k.2.1 k.2.2 with
    | some lim => if lim < need then some (⟨k.1, k.2.1, need, lim, k.2.2⟩ : Short) else none
    | none => none)).mergeSort (fun a b => decide (a.code < b.code) || (a.code == b.code && decide (a.unit ≤ b.unit)))

/-- BUDGET of the ticks that EPOCH commands shorten, among those that follow tick `e`: the work booked for completion in tick e' - 1 must fit its length (R61). The state holds
the set that is decided among the pending ones. -/
def shortTickBad (s : State) (e : Nat) : Option Reject :=
  let ends := ((s.psets.filter (fun x => decide (e ≤ x.e) && x.cmds.any (fun m => m.op == .epoch))).map (fun x => x.e)).eraseDups
  (ends.filterMap (fun x =>
    let k := pendingK s x
    if 0 ≤ k then none
    else
      let p := planAt s (x - 1)
      match tickShorts s p (x - 1) ((p.m : Int) + k).toNat with
      | [] => none
      | b :: r => some { status := .budget, detail := b.code, tsn := some (tsnOf (x - 1)),
                         resp := ((b :: r).take 64).flatMap (fun y => reportEntry y.code y.unit (tsnOf (x - 1)) y.need y.have') })).head?

/-! ### Admission -/

/-- Place of a status in the order of checks (R399). -/
def Status.rank : Status → Nat
  | .denied => 3 | .staleGen => 4 | .format => 5 | .unsupported => 2 | .nosuch => 6 | .busy => 7 | .timeout => 8 | .inconsistent => 9
  | .budget => 10 | .capacity => 11 | _ => 12

/-- The first failure in the order of R399, with the position of the command that fails. -/
def firstFail (l : List (Nat × Reject)) : Option (Nat × Reject) :=
  (l.mergeSort (fun x y => decide (x.2.status.rank < y.2.status.rank) || (x.2.status.rank == y.2.status.rank && decide (x.1 ≤ y.1)))).head?

/-- Instruments that an admitted set defines or changes: dome and number. -/
def setInstrs (x : PSet) : List (Nat × Nat) :=
  ((x.cmds.filter (fun m => m.op == .instrDefine || m.op == .instrModify)).map (fun m => (m.dome, m.block.nat 1))).eraseDups

/-- Pending sets whose own checks fail when they follow a plan. -/
def brokenIn (s : State) (later : List PSet) (n : Plan) : List PSet :=
  ((pendingOrder later).foldl (fun (a : List PSet × Plan) (x : PSet) =>
    let (cs, p') := walk s x.e a.2 x.cmds
    let after := setPlan s x.e a.2 x.cmds x.sh
    let soft := fun (r : Option Reject) => match r with | some y => y.status != .budget && y.status != .capacity | none => false
    if cs.any (fun y => soft (y.2.2.names y.1 y.2.1) || soft (y.2.2.verify { s := s, plan := p', e := x.e } a.2 y.2.1)) then (a.1 ++ [x], a.2) else (a.1, after)) ([], n)).1
/-- Later pending sets whose own checks a new set breaks. -/
def brokenLater (s : State) (e : Nat) (n : Plan) : List PSet := brokenIn s (s.psets.filter (fun x => decide (e < x.e))) n

/-- Instruments that pending sets after tick `e` define, with the plans after their sets that follow from two plans of tick `e` (R391). -/
def lateInstrs (s : State) (e : Nat) (o n : Plan) : List (Nat × Nat × Block × Plan × Plan) :=
  ((pendingOrder (s.psets.filter (fun x => decide (e < x.e)))).foldl (fun (a : List (Nat × Nat × Block × Plan × Plan) × Plan × Plan) (x : PSet) =>
    let p := setPlan s x.e a.2.1 x.cmds x.sh
    let q := setPlan s x.e a.2.2 x.cmds x.sh
    (a.1 ++ (setInstrs x).filterMap (fun (y : Nat × Nat) =>
      if o.placed y.1 y.2 || !p.placed y.1 y.2 then none else (p.instr y.1 y.2).map (fun (b : Block) => (y.1, y.2, b, p, q))), p, q)) ([], o, n)).1

/-- Lanes that a set disables although a port of the feed plan, and with it any aperture link of that port, or an egress grant of a dome uses them (R457).
A port without a definition has its lowest lane alone. -/
def lanesBad (o n : Plan) : Option Nat :=
  let on := fun (p : Plan) (l : Nat) => ((p.laneEn.getD (l / 32) 0).toNat).testBit (l % 32)
  let cut := (List.range 128).filter (fun l => on o l && !on n l)
  cut.find? (fun l => (n.of .portConfig devDome).any (fun e => (portLanes e.1 e.2).contains l) ||
    (n.objs .domeGrant).any (fun g => g.2.1 == 4 && (g.2.2.rows 2).any (fun r => r.headD 0 == (l : Int))))

/-- What admission is asked: a set of one dome. -/
structure SetReq where
  dome : Nat
  cmds : List Cmd
  sh : List (Nat × Word) := []
  /-- The tick named with ETICK. -/
  named : Option Nat := none
  crcRef : Nat := 0
  /-- The first tick at which the set may apply: LEAD_TICKS of an aperture after the running one (R337), or the next tick. -/
  lead : Nat := 1
  q : Option Request := none
  /-- Failures that the request itself has beside those of its commands (R388, R399). -/
  extra : List (Nat × Reject) := []

/-- What admission grants. -/
structure SetOk where
  cmds : List Cmd
  e : Nat
  crc : Nat
  results : List (Nat × Option (List Byte))
  cancelled : List PSet

/-- Decide a set: every check of every command in the order of R399, then BUDGET, then the predicted CRC (R390, R393, R394, R404). The error names the
position of the command that fails. -/
def admitSet (s : State) (x : SetReq) : Except (Nat × Reject) SetOk :=
  let now := s.time.tick64
  let e0 := x.named.getD (now + x.lead)
  let w0 := walk s e0 (planAt s e0) x.cmds
  let e := (w0.1.map (fun y => y.2.2.defer y.1 y.2.1)).foldl Nat.max e0
  let base := planAt s e
  let w := walk s e base x.cmds
  let n := setPlan s e base x.cmds x.sh
  let late := if s.psets.isEmpty then [] else lateInstrs s e base n
  let c : Ctx := { s := s, plan := n, e := e, q := x.q, late := late }
  let checks := (w.1.zipIdx.flatMap (fun (y : (Ctx × Cmd × CSpec) × Nat) =>
    let k := y.1.1
    let m := y.1.2.1
    let sp := y.1.2.2
    ([sp.names k m, sp.busy k m, sp.late k m, setWide n m, sp.verify c base m].filterMap id).map (fun r => (y.2, r))))
  let owner := x.cmds.any (fun m => m.withdraw)
  let gone := lateAltered late
  let broken := brokenLater s e n
  let broken := broken ++ s.psets.filter (fun (y : PSet) => owner && decide (e < y.e) && !broken.contains y && (setInstrs y).any (fun k => gone.any (fun g => g.1 == k.1 && g.2.1 == k.2)))
  let mine := (s.psets.filter (fun y => y.dome == x.dome)).length
  let tooLate := x.named.isSome && decide (e0 < now + x.lead)
  let all := checks ++ x.extra ++
    (if tooLate then [(0, rej .timeout 0)] else []) ++
    (match lanesBad base n with | some l => [(0xFFFF, { status := .inconsistent, detail := l })] | none => []) ++
    (if !broken.isEmpty && !owner then [(0, rej .inconsistent 0)] else []) ++
    (if 256 ≤ mine then [(0, noBudget e 0x15 0 1 0)] else if 16384 ≤ s.psets.length then [(0, noBudget e 0x15 1 1 0)] else [])
  match firstFail all with
  | some r => .error r
  | none =>
    let s' := { s with psets := s.psets.filter (fun y => !broken.contains y) }
    let withSet := { s' with psets := s'.psets ++ [{ dome := x.dome, cfgGen := 0, e := e, order := s.admits, cmds := w.1.map (fun y => y.2.1), sh := x.sh, crc := 0 }] }
    match (budgetAll s' e base n).or (shortTickBad withSet e) with
    | some r => .error (0, r)
    | none =>
      let crc := n.crc
      if x.crcRef ≠ 0 ∧ x.crcRef ≠ crc then .error (0xFFFF, { status := .inconsistent, detail := 0xFFFF })
      else .ok { cmds := w.1.map (fun y => y.2.1), e := e, crc := crc, results := w.1.map (fun y => (y.2.2.result c y.2.1, y.2.2.body c y.2.1)), cancelled := broken }

/-- The next configuration generation: 0 is skipped (R392). -/
def nextCfg (g : Nat) : Nat := if g + 1 = 2 ^ 32 then 1 else g + 1

/-- Pending sets are cancelled: one CAPACITY notice per instrument to each affected dome (R391). -/
def cancelSets (s : State) (l : List PSet) : State :=
  (l.flatMap setInstrs).foldl (fun (s : State) y => capacityNotice s y.1 y.2) { s with psets := s.psets.filter (fun y => !l.contains y) }

/-- Take an admitted set in: a new configuration generation, and the pending set (R391, R392). -/
def takeSet (s : State) (d : Nat) (sh : List (Nat × Word)) (a : SetOk) : State :=
  let s := cancelSets s a.cancelled
  let g := nextCfg (domeRun s d).cfgGen
  let s := onDome s d (fun r => { r with cfgGen := g })
  let s := { s with psets := s.psets ++ [{ dome := d, cfgGen := g, e := a.e, order := s.admits, cmds := a.cmds, sh := sh, crc := a.crc }], admits := s.admits + 1 }
  -- the running tick already has the length that an EPOCH for the next one gives it (R60)
  if a.e = s.time.tick64 + 1 && a.cmds.any (fun m => m.op == .epoch) then fitLen s else s

/-- Logbook entry of a command (R428): the object in the low half of ADDRESS, RESULT in the high half. -/
def cmdLog (s : State) (cls : Nat) (m : Cmd) (e status detail result : Nat) : State :=
  logAdd s { cls := cls, typ := m.op.info.code, fn := some m.fn, dome := m.dome, gen := genOf s m.dome, tag := m.tag, status := status, cfgGen := (domeRun s m.dome).cfgGen,
             pcrc := m.pcrc, addr := m.obj % 2 ^ 32 + 2 ^ 32 * (result % 2 ^ 32), detail := detail, tick := some e }

/-! ### The effective tick -/

/-- Apply one admitted set to the state at its effective tick (R387, R390). -/
def applySet (s : State) (x : PSet) : State :=
  let old := s.plan
  let e := s.time.tick64
  let delta := setDelta e x.cmds
  let n := setPlan s e old x.cmds x.sh
  let s := { s with psets := s.psets.filter (fun y => !(y.dome == x.dome && y.cfgGen == x.cfgGen)) }
  let s := if n.m = old.m ∧ delta = 0 then s else closeForGrid (delta != 0) s
  let s := if n.m = old.m then s else reanchorRings old.m e n.m s
  -- the plan itself holds the renumbering; the rest of the state follows
  let s := if delta = 0 then s else renumber delta { s with plan := n.shift (-delta) }
  let s := takePlaces { s with plan := if delta = 0 then s.plan else old.shift delta } n
  let s := x.cmds.foldl (fun (s : State) (m : Cmd) => match m.op.conf with | some r => r.spec.apply old m s | none => s) s
  x.macs.foldl (fun (s : State) (y : Nat × Nat) => onStream s x.dome y.1 (fun r => { r with mac := y.2, resolved := true })) s

/-- Sets whose effective tick has come. -/
def passedSets (s : State) : List PSet := pendingOrder (s.psets.filter (fun (x : PSet) => decide (x.e ≤ s.time.tick64)))

/-- CONFIG_SET_APPLY: every set that is due applies, in order of tick and admission, with the pages, levels and CRC that follow. In HALTED none applies (R30). A posted
write of the clock block that is due applies first (R82). -/
def applyDue (s : State) (upTo : Option (Nat × Nat)) : State :=
  let s := postedFirst s
  let due := if s.dev.st = .halted then [] else passedSets s
  let due := match upTo with
    | none => due
    | some k => match due.findIdx? (fun (x : PSet) => (x.dome, x.cfgGen) == k) with | some i => due.take (i + 1) | none => []
  if due.isEmpty then s
  else
    let levels := chanLevels s
    let s := due.foldl applySet s
    let s := { s with regs := { s.regs with crcActive := s.plan.crc } }
    routerRefresh (syncPages s) levels

/-- At the resume, sets whose effective tick passed in the halt go with no effect: each command is entered with TIMEOUT, and its instruments are notified
as for a cancelled set (R30, R391). -/ -- DESIGN CHOICE, notes/assumptions/84.md
def dropPassed (s : State) : State :=
  let gone := passedSets s
  cancelSets (gone.foldl (fun (s : State) (x : PSet) => x.cmds.foldl (fun (s : State) (m : Cmd) => cmdLog s 0 m x.e Status.timeout.code 0 0) s) s) gone

/-- CONFIG_SET_APPLY (R390): the sets admitted up to this one apply at their effective tick, together with the SH writes they took. -/
def execConfigSetApply (dome cfgGen : Nat) (s : State) : Host.Outcome State Fault Refusal :=
  if 256 ≤ dome then .fault .noSuchUnit else .next (applyDue s (some (dome, cfgGen)))

end Sys2Proof.Machine
end

