-- ==== Sys2Proof/Machine/Request.lean ====
section
/-! DEFINITION. Request.lean: a request's parameter block and its mailbox form (R384, R400, R401). -/
namespace Sys2Proof.Machine

/-- Bytes of a parameter block: INLINE, then the parameter buffer. -/
def Request.blockBytes (q : Request) : List Byte := q.slots.flatMap (fun (x : Slot) => leBytes 8 x.toNat) ++ q.data
/-- Bytes of a parameter buffer. -/
def Request.bufLen (q : Request) : Nat := 8 * (q.slots.length - 3) + q.data.length

/-- The command that a request gives, read against its block; raw opcodes read INLINE only (R400, R401). -/
def mkCmd (op : Op) (d : Nat) (ps : List Slot → List Param) (raw : Bool) (q : Request) : Except Reject Cmd :=
  match parseBlock (ps q.slots) (if raw then q.slots.take 3 else q.slots) with
  | .error r => .error r
  | .ok b => .ok { op := op, fn := q.fn, dome := d, tag := q.tag.toNat, flags := q.flags.toNat, block := b, data := q.data, bytes := Request.bufLen q,
                   pcrc := crc32c (Request.blockBytes q), obj := (q.slots.headD 0).toNat }

/-- A configuration command of a request. -/
def confCmd (op : Op) (d : Nat) (q : Request) : Except Reject Cmd :=
  match op.conf with
  | some r => mkCmd op d r.params r.raw q
  | none => .error (rej .unsupported 0)

/-- A command in mailbox request format with its parameter buffer (Table 13-2), as PREPARE and DATA carry it; the buffer addresses have no meaning there. -/
def Cmd.wire (m : Cmd) (gen e : Nat) : List Byte :=
  let sl := m.block.slots
  let buf := (sl.drop 3).flatMap (leBytes 8) ++ m.data
  leBytes 2 m.op.info.code ++ leBytes 2 m.tag ++ leBytes 2 m.flags ++ leBytes 2 gen ++ leBytes 4 (tsnOf e) ++ leBytes 4 0 ++ leBytes 8 0 ++
  leBytes 4 buf.length ++ leBytes 4 0 ++ leBytes 8 0 ++ ((List.range 3).flatMap (fun i => leBytes 8 (sl.getD i 0))) ++ buf

/-- An instrument's deletion on behalf of an aperture's lead (R341). -/
def dropInstrCmd (d i flags : Nat) : Cmd :=
  { op := .instrDelete, fn := ownerFn, dome := d, tag := 0xFFFF, flags := flags, block := [.num (i : Int)], data := [], bytes := 0, pcrc := 0, obj := i }

end Sys2Proof.Machine
end

