-- ==== Sys2Proof/Machine/Aperture.lean ====
section
/-! DEFINITION. Aperture.lean: the control protocol of an aperture: prepare and commit, exclusion, rejoin, the lost lead and the forwarded reads (R335 to R342, R396). -/
namespace Sys2Proof.Machine

/-! ### Messages between nodes (R335, R336) -/

/-- A control message from a member that came with a flow-tick outside the window of its link counts in DELAY_OUT (R335). -/
def ctlSeen (s : State) (a serial : Nat) : State :=
  if (apOf s a).links.all (fun e => !e.2.outside) then s
  else
    let nodes := serial :: s.plan.apPath a serial ownSerial
    match (nodes[nodes.length - 2]?).bind (s.plan.portTo a) with
    | some port => onAp s a (fun r => { r with links := tmod r.links port linkNew (fun l => if l.outside then { l with out := (l.out + 1) % 2 ^ 64 } else l) })
    | none => s
/-- Lead of an aperture that this device is in, as a member. -/
def apLeadOf (s : State) (a : Nat) : Nat := ((s.plan.aperture a).map apLead).getD 0
/-- The aperture below another that this device leads, where it is a sub-aperture lead (R31, R336). -/
def apBelow (s : State) (a : Nat) : Option Nat :=
  ((s.plan.of .apertureCreate devDome).find? (fun (e : Nat × Block) => e.1 != a && apLead e.2 == ownSerial)).map (fun e => e.1)
/-- The aperture above the one that this device leads, if it is not the top lead. -/
def apAbove (s : State) (a : Nat) : Option Nat :=
  ((s.plan.of .apertureCreate devDome).find? (fun (e : Nat × Block) => e.1 != a && apLead e.2 != ownSerial)).map (fun e => e.1)
/-- Forward a message that has come for aperture `a` to the members below, under a CMD_ID of their node (R336). -/
def apForward (s : State) (a typ : Nat) (body : List Byte) : State × List (Nat × Nat × Nat) :=
  match apBelow s a with
  | none => (s, [])
  | some c =>
    let id := (apOf s c).cmdId + 1
    let l := apPeers s c
    (l.foldl (fun (s : State) p => apSend s c p typ id body) (onAp s c (fun r => { r with cmdId := id })), l.map (fun p => (c, id, p)))

/-! ### Prepare at the lead (R337, R338) -/

/-- Remove a pending set that has no effect after all; the generation that it took returns when no later set took one. -/
def dropSet (s : State) (d g : Nat) : State :=
  if s.psets.any (fun (x : PSet) => x.dome == d && x.cfgGen == g) then
    onDome { s with psets := s.psets.filter (fun (x : PSet) => !(x.dome == d && x.cfgGen == g)) } d
      (fun r => if r.cfgGen = g then { r with cfgGen := if g ≤ 1 then 0 else g - 1 } else r)
  else s

/-- Prepare an admitted set of an aperture on its members: the lead's own set is pending, and PREPARE goes out in the next tick. -/
def apPrepare (s : State) (a : Nat) (op : Op) (q : Option Request) (d : Nat) (peers : List Nat) (sh : List (Nat × Word)) (k : SetOk) (result : Nat) (body : Option (List Byte) := none) : State :=
  let id := (apOf s a).cmdId + 1
  let now := s.time.tick64
  let s := takeSet s d sh { k with cancelled := [] }
  let wire := leBytes 8 k.e ++ leBytes 4 k.crc ++ k.cmds.flatMap (fun m => m.wire (genOf s m.dome) k.e)
  let x : ApPrep := { id := id, at0 := now, e := k.e, op := op, req := q, dome := d, cfgGen := (domeRun s d).cfgGen, members := peers, replies := [], result := result, body := body }
  let s := onAp s a (fun r => { r with cmdId := id, preparing := r.preparing ++ [x] })
  peers.foldl (fun (s : State) (p : Nat) => apSend s a p 1 id wire) s

/-- Configuration records of an aperture: the aperture and its instruments, in the order of R447 (R342). -/
def apRecords (p : Plan) (a : Nat) : List Byte :=
  (p.devRec .apertureCreate a).flatten ++
  ((p.apInstrs a).mergeSort (fun x y => decide (x.1 < y.1) || (x.1 == y.1 && decide (x.2 ≤ y.2)))).flatMap (fun (x : Nat × Nat) =>
    match p.find .instrDefine x.1 x.2 with | some b => recBytes Op.instrDefine.info.code x.1 x.2 b.slots | none => [])

/-- Replay of the committed aperture configuration to one member, by prepare and commit at a named tick (R341). -/
def apReplay (s : State) (a serial : Nat) : State :=
  let id := (apOf s a).cmdId + 1
  let now := s.time.tick64
  let e := now + s.plan.leadTicks a
  let x : ApPrep := { id := id, at0 := now, e := e, op := .apertureCreate, req := none, dome := 0, cfgGen := 0, members := [serial], replies := [], result := 0 }
  apSend (onAp s a (fun r => { r with cmdId := id, preparing := r.preparing ++ [x] })) a serial 1 id (leBytes 8 e ++ leBytes 4 s.plan.crc ++ apRecords s.plan a)

/-! ### The decision (R338) -/

/-- The reference of a member from a tick on (R339). -/
def addRef (now e crc : Nat) (m : MemberRun) : MemberRun :=
  let old := m.refs.filter (fun (x : Nat × Nat) => decide (x.1 ≤ now))
  { m with refs := (old.drop (old.length - 1)) ++ m.refs.filter (fun (x : Nat × Nat) => decide (now < x.1)) ++ [(e, crc)] }

/-- Status of an abort: the first FAIL in member order, or TIMEOUT when a reply is missing. -/
def apFailure (x : ApPrep) : Option Nat :=
  match (x.members.filterMap (fun p => (tget x.replies p).map (fun r => r.1))).find? (fun c => c != 0) with
  | some c => some c
  | none => if x.members.all (fun p => (tget x.replies p).isSome) then none else some 8

/-- COMMIT: the members are told, their references stand from e on, the sets that the command breaks are cancelled, and the command completes. -/
def apCommit (s : State) (a : Nat) (x : ApPrep) : State :=
  let now := s.time.tick64
  let s := x.members.foldl (fun (s : State) (p : Nat) => apSend s a p 4 x.id (leBytes 8 x.e)) s
  let s := onAp s a (fun r =>
    { r with preparing := r.preparing.filter (fun y => y.id != x.id), adopting := if x.op = .apertureCreate ∧ x.req.isSome then none else r.adopting,
             members := r.members.map (fun m => match tget x.replies m.serial with
               | some y => { addRef now x.e y.2 m with rejoining := m.rejoining || x.req.isNone }
               | none => m) })
  match x.req with
  | none => s
  | some q =>
    let cmds := ((s.psets.find? (fun (y : PSet) => y.dome == x.dome && y.cfgGen == x.cfgGen)).map (fun y => y.cmds)).getD []
    let s := cancelSets s (brokenLater s x.e (planAt s x.e))
    let s := cmds.foldl (fun (s : State) (m : Cmd) => cmdLog s 0 m x.e 0 0 x.result) s
    finish s x.op.info.code q 0 0 (tsnOf x.e) x.result 0 x.body

/-- ABORT: the members are told, the lead's set goes, and the command completes with the failure. -/
def apAbort (s : State) (a : Nat) (x : ApPrep) (code : Nat) : State :=
  let s := x.members.foldl (fun (s : State) (p : Nat) => apSend s a p 5 x.id (leBytes 1 code)) s
  let s := if x.req.isSome then dropSet s x.dome x.cfgGen else s
  let s := onAp s a (fun r =>
    { r with preparing := r.preparing.filter (fun y => y.id != x.id), adopting := if x.op = .apertureCreate ∧ x.req.isSome then none else r.adopting,
             aborts := (r.aborts + 1) % 2 ^ 64 })
  match x.req with
  | none => s
  | some q => finish s x.op.info.code q code 0 (tsnOf s.time.tick64) 0 0 none

/-- Decide a prepared command once every member has replied or the time for replies is over. -/
def apDecide (s : State) (a : Nat) (x : ApPrep) (late : Bool) : State :=
  let all := x.members.all (fun p => (tget x.replies p).isSome)
  if !all && !late && s.time.tick64 < x.at0 + 2 * s.plan.apLc a + 2 then s
  else match apFailure x with
    | none => apCommit s a x
    | some c => apAbort s a x c

/-- APERTURE_DECIDE (R338). -/
def execApertureDecide (ap id : Nat) (s : State) : Host.Outcome State Fault Refusal :=
  if 256 ≤ ap then .fault .noSuchUnit
  else match (apOf s ap).preparing.find? (fun x => x.id == id) with
    | some x => .next (apDecide s ap x false)
    | none => .next s

/-- A member's reply reaches the lead. -/
def apReply (s : State) (a serial id : Nat) (r : Nat × Nat) : State :=
  onAp s a (fun t => { t with preparing := t.preparing.map (fun x => if x.id = id ∧ x.members.contains serial ∧ (tget x.replies serial).isNone then { x with replies := tset x.replies serial r } else x) })

/-- A member below replies to a PREPARE that this device has forwarded. When all have, the sub-aperture lead sends its one reply: READY with its own CRC, or FAIL with the first
failing status and the bitmap of the members that failed (R336, Table 11-5). -/
def apMerge (s : State) (c serial id status : Nat) : State :=
  match s.apertures.findSome? (fun e => (e.2.holding.find? (fun h => h.below.any (fun x => x.1 == (c, id, serial) && x.2.isNone))).map (fun h => (e.1, h))) with
  | none => s
  | some (a, h) =>
    let below := h.below.map (fun x => if x.1 == (c, id, serial) then (x.1, some status) else x)
    let s := onAp s a (fun r => { r with holding := r.holding.map (fun x => if x.id = h.id then { x with below := below } else x) })
    if below.any (fun x => x.2.isNone) then s
    else match (below.filterMap (fun x => x.2)).find? (fun x => x != 0) with
      | none => apSend s a (apLeadOf s a) 2 h.id (leBytes 4 h.crc)
      | some st =>
        let bits := below.zipIdx.foldl (fun (n : Nat) x => if x.1.2 = some 0 then n else n + 2 ^ x.2) 0
        apSend s a (apLeadOf s a) 3 h.id (leBytes 1 st ++ leBytes 8 bits)

/-- READY_RX (R338): READY with the member's predicted configuration CRC. -/
def execReadyRx (ap serial id crc : Nat) (s : State) : Host.Outcome State Fault Refusal :=
  if 256 ≤ ap then .fault .noSuchUnit else .next (apMerge (apReply (ctlSeen s ap serial) ap serial id (0, crc)) ap serial id 0)

/-- FAIL_RX (R338): FAIL with a status code. -/
def execFailRx (ap serial id status : Nat) (s : State) : Host.Outcome State Fault Refusal :=
  if 256 ≤ ap then .fault .noSuchUnit else .next (let st := if status = 0 then 3 else status; apMerge (apReply (ctlSeen s ap serial) ap serial id (st, 0)) ap serial id st)

/-! ### Prepare at a member (R338) -/

/-- The commands of a PREPARE. A replay takes the place of the aperture's instruments that the member has (R341). -/
def apCmds (s : State) (a : Nat) (replay : Bool) (l : List ApCmd) : Except Reject (List Cmd) :=
  let flags := 16 + 256 * a
  let own := if replay then (s.plan.apInstrs a).map (fun (x : Nat × Nat) => dropInstrCmd x.1 x.2 (flags + 8)) else []
  let l := if replay && (s.plan.aperture a).isSome then l.filter (fun c => c.opcode != Op.apertureCreate.info.code) else l
  l.foldl (fun (acc : Except Reject (List Cmd)) (c : ApCmd) =>
    match acc with
    | .error r => .error r
    | .ok done =>
      match Op.ofCode c.opcode with
      | none => .error (rej .unsupported 0)
      | some op =>
        match s.plan.binding c.dome with
        | none => .error (rej .nosuch 0xFFFF)
        | some f =>
          match confCmd op c.dome { c.req with fn := f, flags := BitVec.ofNat 16 (c.req.flags.toNat % 16 ||| flags) } with
          | .error r => .error r
          | .ok m => .ok (done ++ [m])) (.ok own)

/-- What a member answers to a PREPARE: the admitted set, or a status. R32 names the states in which it may be a member. -/
def apAdmit (s : State) (a e : Nat) (replay : Bool) (l : List ApCmd) : Except Status SetOk :=
  if !s.dev.st.runs then .error .inconsistent
  else if s.dev.st = .maintenance ∧ l.any (fun c => c.dome != 0) then .error .busy
  else
    match apCmds s a replay l with
    | .error r => .error r.status
    | .ok cmds =>
      match admitSet s { dome := (l.head?.map (fun c => c.dome)).getD 0, cmds := cmds, named := some e } with
      | .error r => .error r.2.status
      | .ok k => .ok k

/-- PREPARE_RX (R338): the member admits the command without effect, reserves its resources and replies; a sub-aperture lead forwards it and replies when its own members have
(R336). A member that has lost its lead takes none (R342). -/
def execPrepareRx (ap id e : Nat) (replay : Bool) (cmds : List ApCmd) (s : State) : Host.Outcome State Fault Refusal :=
  if 256 ≤ ap then .fault .noSuchUnit
  else
    let lead := match s.plan.aperture ap with | some b => apLead b | none => (cmds.head?.map (fun c => ((c.req.slots.getD 1 0).toNat))).getD 0
    let s := ctlSeen s ap lead
    if (apOf s ap).leadLost then .next s
    else
      match apAdmit s ap e replay cmds with
      | .error st => .next (apSend s ap lead 3 id (leBytes 1 st.code ++ leBytes 8 0))
      | .ok k =>
        let d := (cmds.head?.map (fun c => c.dome)).getD 0
        let s := takeSet s d [] k
        let own := k.cmds.filter (fun m => !replay || m.op != .instrDelete)
        let (s, below) := apForward s ap 1 (leBytes 8 k.e ++ leBytes 4 k.crc ++ own.flatMap (fun m => m.wire (genOf s m.dome) k.e))
        let h : ApHeld := { id := id, e := k.e, committed := false, dome := d, cfgGen := (domeRun s d).cfgGen, crc := k.crc, below := below.map (fun x => (x, none)) }
        let s := onAp s ap (fun r => { r with holding := r.holding ++ [h] })
        .next (if below.isEmpty then apSend s ap lead 2 id (leBytes 4 k.crc) else s)

/-- A member drops a prepared command and its reservations (R338). -/
def dropHeld (s : State) (a : Nat) (h : ApHeld) : State :=
  onAp (dropSet s h.dome h.cfgGen) a (fun r => { r with holding := r.holding.filter (fun x => x.id != h.id) })

/-- COMMIT_RX (R338): the member applies the command at e; its set is pending. -/
def execCommitRx (ap id : Nat) (s : State) : Host.Outcome State Fault Refusal :=
  if 256 ≤ ap then .fault .noSuchUnit
  else
    let s := ctlSeen s ap (apLeadOf s ap)
    let below := (((apOf s ap).holding.filter (fun h => h.id == id)).flatMap (fun h => h.below.map (fun x => (x.1, h.e))))
    let s := below.foldl (fun (s : State) x => apSend s x.1.1 x.1.2.2 4 x.1.2.1 (leBytes 8 x.2)) s
    .next (onAp s ap (fun r => { r with holding := r.holding.map (fun h => if h.id = id then { h with committed := true } else h) }))

/-- ABORT_RX (R338). -/
def execAbortRx (ap id : Nat) (s : State) : Host.Outcome State Fault Refusal :=
  if 256 ≤ ap then .fault .noSuchUnit
  else
    let s := ctlSeen s ap (apLeadOf s ap)
    match (apOf s ap).holding.find? (fun h => h.id == id) with
    | some h =>
      -- the status that the members below are told is not an operand of the command
      let (x, t) := if h.below.isEmpty then (0, s) else drawNat s
      .next (dropHeld (h.below.foldl (fun (s : State) y => apSend s y.1.1 y.1.2.2 5 y.1.2.1 (leBytes 1 x)) t) ap h)
    | none => .next s

/-- At the boundary into a tick: what a member holds without COMMIT is dropped, what it holds with COMMIT has become an ordinary pending set, and a command
that the lead has not decided is aborted (R338). -/
def apExpire (s : State) : State :=
  let now := s.time.tick64
  s.apertures.foldl (fun (s : State) (e : Nat × ApertureRun) =>
    let s := (e.2.holding.filter (fun h => !h.committed && decide (h.e ≤ now))).foldl (fun (s : State) h => dropHeld s e.1 h) s
    let s := onAp s e.1 (fun r => { r with holding := r.holding.filter (fun h => decide (now < h.e)) })
    (e.2.preparing.filter (fun x => decide (x.e ≤ now))).foldl (fun (s : State) x => apDecide s e.1 x true) s) s

/-! ### Exclusion, rejoin and the lost lead (R339 to R342) -/

/-- CAPACITY notices for every instrument of an aperture. -/
def apNotices (s : State) (a : Nat) : State := (s.plan.apInstrs a).foldl (fun (s : State) (x : Nat × Nat) => capacityNotice s x.1 x.2) s

/-- The lead excludes a member from the next tick on, for a cause (R340); the member's part of every read fails with TIMEOUT (R396). -/
def excludeMember (s : State) (a serial k : Nat) : State :=
  match apMember s a serial with
  | none => s
  | some m =>
    if m.excluded then onMember s a serial (fun m => { m with rejoining := false })
    else
      let s := onMember s a serial (fun m => { m with excluded := true, rejoining := false })
      let all := ((apOf s a).members.map (fun x => x.serial)).filter (fun x => x != ownSerial)
      let body := leBytes 4 serial ++ leBytes 8 (s.time.tick64 + 1) ++ leBytes 4 (Config.excludeCause k)
      let s := all.foldl (fun (s : State) (p : Nat) => apSend s a p 6 0 body) s
      let s := onAp s a (fun r => { r with exclusions := (r.exclusions + 1) % 2 ^ 64 })
      let s := apNotices (noticeOwner s 0x8008 10 (Config.excludeCause k) serial serial) a
      (apOf s a).reads.foldl (fun (s : State) (x : ApRead) => apReadPart s a x.id serial 8 0) s

/-- The states of R32 by their codes. -/
def memberState (st : Nat) : Bool := st == 2 || st == 3 || st == 4 || st == 5

/-- A device asks to rejoin, and sends its committed aperture configuration in case the lead has none (R341, R342). -/
def apRejoin (s : State) (a lead : Nat) : State :=
  let cfg := apRecords s.plan a
  let s := apSend s a lead 7 0 (leBytes 4 (runRelease s) ++ leBytes 4 s.plan.m ++ leBytes 8 s.time.tick64 ++ leBytes 4 (domeRun s 0).cfgGen ++ leBytes 4 s.plan.crc)
  apSend s a lead 11 0 (leBytes 4 0 ++ leBytes 4 cfg.length ++ cfg)

/-- The member's side of a lost lead (R342). -/
def loseLead (s : State) (a : Nat) : State :=
  if (apOf s a).leadLost ∨ (s.plan.aperture a).isNone ∨ leads s a then s
  else
    let s := onAp s a (fun r => { r with leadLost := true })
    let s := ((apOf s a).holding.filter (fun h => !h.committed)).foldl (fun (s : State) h => dropHeld s a h) s
    let lead := ((s.plan.aperture a).map apLead).getD 0
    apNotices (noticeOwner s 0x8008 10 (Config.excludeCause 4) lead ownSerial) a

/-- LEAD_LOST (R342): the lead's control flow has been absent for EXCLUDE_TICKS ticks, or its tick status differs. -/
def execLeadLost (ap : Nat) (s : State) : Host.Outcome State Fault Refusal :=
  if 256 ≤ ap then .fault .noSuchUnit else .next (loseLead s ap)

/-- CONTROL_FLOW_ABSENT (R339): a member's control flow has been absent for EXCLUDE_TICKS ticks. -/
def execControlFlowAbsent (ap serial : Nat) (s : State) : Host.Outcome State Fault Refusal :=
  if 256 ≤ ap then .fault .noSuchUnit
  else if leads s ap then .next (excludeMember s ap serial 3)
  else match s.plan.aperture ap with
    | some b => .next (if apLead b = serial then loseLead s ap else s)
    -- a peer that comes back is told again that this device has no such aperture
    | none => .next (match s.plan.portTo ap serial with
      | some q => onAp s ap (fun r => { r with links := tmod r.links q linkNew (fun l => { l with told := false }) })
      | none => s)

/-- Measure a link's one-way delay from a control message (R335). -/
def measureLink (s : State) (a port : Nat) (delay : Int) : State :=
  match s.plan.find .apertureLink devDome port with
  | none => s
  | some b =>
    let bad := decide (delay < (b.nat 7 : Int)) || decide ((b.nat 8 : Int) < delay)
    onAp s a (fun r => { r with links := tmod r.links port linkNew (fun (l : LinkRun) =>
      { l with lo := some (match l.lo with | some x => min x delay | none => delay), hi := some (match l.hi with | some x => max x delay | none => delay),
               out := (l.out + b2n bad) % 2 ^ 64, outside := bad }) })

/-- What a tick status says of its sender (R336). `sentAt` is the receiver's tick in which the schedule has it sent. -/
structure TickStatus where
  release : Nat
  m : Nat
  tick : Nat
  sentAt : Nat
  state : Nat
  cfgGen : Nat
  crc : Nat
  withdrawn : Bool
  tiles : Nat

/-- Does the sender differ in release, M or tick number (R32)? -/
def TickStatus.differs (t : TickStatus) (s : State) : Bool := t.release != runRelease s || t.m != s.plan.m || t.tick != t.sentAt

/-- Reference of a member for a tick. -/
def refAt (m : MemberRun) (t : Nat) : Option Nat := ((m.refs.filter (fun (x : Nat × Nat) => decide (x.1 ≤ t))).getLast?).map (fun x => x.2)

/-- The lead's check of a tick status (R339, R341). -/
def leadChecks (s : State) (a serial : Nat) (t : TickStatus) : State :=
  let s := onMember s a serial (fun m => { m with tick := t.tick, state := t.state, cfgGen := t.cfgGen, withdrawn := t.withdrawn, tiles := t.tiles, differs := t.differs s })
  match apMember s a serial with
  | none => s
  | some m =>
    let same := match refAt m t.tick with | some c => c == t.crc | none => true
    if t.differs s then excludeMember s a serial 1
    else if !memberState t.state then excludeMember s a serial 2
    else if m.excluded then
      (if m.rejoining && same && (refAt m t.tick).isSome then
        markStale (onAp (onMember s a serial (fun m => { m with excluded := false, rejoining := false })) a (fun r => { r with rejoins := (r.rejoins + 1) % 2 ^ 64 })) a serial
      else s)
    else if !same then excludeMember s a serial 0
    else s

/-- A member's check of a tick status: of its lead (R342), or of a member that its lead has excluded, whose return no message of Table 11-5 names: a free
value (log entry 49). -/
def memberChecks (s : State) (a serial lead : Nat) (t : TickStatus) : State :=
  if serial = lead then
    let bad := t.differs s || !memberState t.state
    if bad then loseLead s a
    else if (apOf s a).leadLost then apRejoin (onAp s a (fun r => { r with leadLost := false })) a lead
    else s
  else match apMember s a serial with
    | some m =>
      if m.excluded then
        let (x, s) := drawNat s
        let s := onMember s a serial (fun m => { m with excluded := !x.testBit 0 })
        if x.testBit 0 then markStale s a serial else s
      else s
    | none => s

/-- The first tick status of a peer reaches a device that has no such aperture: it answers with REJOIN and with a configuration of no commands, by which a lead that adopts learns
that it holds none (R342). -/ -- DESIGN CHOICE, notes/assumptions/49.md
def apUnknown (s : State) (a serial port : Nat) : State :=
  let l := tgetD (apOf s a).links port linkNew
  if (apOf s a).adopting.isSome || l.told || !(s.plan.find .apertureLink devDome port).any (fun b => b.nat 0 == a && b.nat 2 == serial) then s
  else apRejoin (onAp s a (fun r => { r with links := tmod r.links port linkNew (fun l => { l with told := true }) })) a serial

/-- TICK_STATUS_RX (R336, R339, R341, R342): a tick status arrives over a port with its measured delay. -/
def execTickStatusRx (ap serial port : Nat) (delayNs : Int) (release m tick sentAt state cfgGen crc : Nat) (withdrawn : Bool) (tiles : Nat) (s : State) : Host.Outcome State Fault Refusal :=
  if 256 ≤ ap ∨ 128 ≤ port then .fault .noSuchUnit
  else
    let s := measureLink s ap port delayNs
    let t : TickStatus := { release := release, m := m, tick := tick, sentAt := sentAt, state := state, cfgGen := cfgGen, crc := crc, withdrawn := withdrawn, tiles := tiles }
    match s.plan.aperture ap with
    | none => .next (apUnknown s ap serial port)
    | some b => .next (if apLead b = ownSerial then leadChecks s ap serial t else memberChecks s ap serial (apLead b) t)

/-- EXCLUDE_RX (R340): the member's flows count as absent from the named tick on; an excluded device asks to rejoin (R341). -/
def execExcludeRx (ap serial : Nat) (s : State) : Host.Outcome State Fault Refusal :=
  if 256 ≤ ap then .fault .noSuchUnit
  else match s.plan.aperture ap, apMember s ap serial with
    | some b, some m =>
      let s := ctlSeen s ap (apLead b)
      if m.excluded then .next s
      else
        let s := apNotices (onMember s ap serial (fun m => { m with excluded := true })) ap
        -- the members below are told too; the cause is not an operand of the command
        let s := if (apBelow s ap).isNone then s else let (x, s) := drawNat s; (apForward s ap 6 (leBytes 4 serial ++ leBytes 8 (s.time.tick64 + 1) ++ leBytes 4 x)).1
        .next (if serial = ownSerial then apRejoin s ap (apLead b) else s)
    | _, _ => .next s

/-- REJOIN_RX (R341): a member that differs stays excluded; otherwise the lead replays the configuration to it. -/
def execRejoinRx (ap serial release m tick sentAt : Nat) (s : State) : Host.Outcome State Fault Refusal :=
  if 256 ≤ ap then .fault .noSuchUnit
  else
    let s := ctlSeen s ap serial
    if !leads s ap || (apOf s ap).adopting.isSome || (apMember s ap serial).isNone then .next s
    else
    let t : TickStatus := { release := release, m := m, tick := tick, sentAt := sentAt, state := 3, cfgGen := 0, crc := 0, withdrawn := false, tiles := 0 }
    let s := excludeMember s ap serial 2
    if t.differs s then .next (noticeOwner s 0x8008 10 (Config.excludeCause 1) serial serial) else .next (apReplay s ap serial)

/-- NOTICE_RX (R336): a member's notice joins the owner's at the lead. The message carries no notice type; a violation's cause names its own, and any
other type is free (log entry 49). -/
def execNoticeRx (ap serial cause count : Nat) (s : State) : Host.Outcome State Fault Refusal :=
  if 256 ≤ ap ∨ 65536 ≤ count then .fault .noSuchUnit
  else
    let s := ctlSeen s ap serial
    if !leads s ap then .next s
    else match apAbove s ap with
    -- a sub-aperture lead forwards it to the lead (R336)
    | some up => .next (apSend s up (apLeadOf s up) 8 0 (leBytes 4 cause ++ leBytes 4 count))
    | none =>
    let (typ, s) := if cause / 1024 = 0x20 then (0x8009, s) else drawNat s
    let (st, s) := if cause / 1024 = 0x20 then (4, s) else drawNat s
    .next ((List.range count).foldl (fun (s : State) (k : Nat) => noticeOwner s typ st cause (cause % 1024) ((serial + 1) * 65536 + k)) s)

/-! ### A lead that adopts (R342) -/

/-- Deadline of an adoption. -/
def adoptDeadline (p : Plan) (a now : Nat) (b : Block) : Nat := now + 2 * b.nat 2 + 3 * p.apLc a + 4

/-- End an adoption that does not commit. -/
def adoptEnd (s : State) (a : Nat) (q : Request) (st : Status) : State :=
  let s := { s with apertures := tdel s.apertures a }
  finish s Op.apertureCreate.info.code q st.code 0 (tsnOf s.time.tick64) 0 0 none

/-- The configuration that is adopted: of the members in member order the first that has one, when it is whole; at the deadline the first that is whole (R342). -/
def adoptPick (r : ApertureRun) (late : Bool) : Option (List ApCmd) :=
  let rows := (r.members.filter (fun m => m.serial != ownSerial)).map (fun m => tget r.configs m.serial)
  let whole := fun (x : Option (Nat × List ApCmd)) => x.bind (fun y => if y.1 ≠ 0 ∧ y.1 ≤ y.2.length then some y.2 else none)
  if late then rows.findSome? whole
  else ((rows.dropWhile (fun x => (x.map (fun y => y.1)) == some 0)).head?).bind whole
/-- The lead admits the adopted configuration for itself and prepares it on every member (R342). -/
def adoptGo (s : State) (ap : Nat) (q : Request) (dl : Nat) (got : List ApCmd) : State :=
  let peers := ((apOf s ap).members.map (fun m => m.serial)).filter (fun x => x != ownSerial)
  match confCmd .apertureCreate 0 q with
  | .error x => adoptEnd s ap q x.status
  | .ok m =>
    match apCmds s ap true (got.filter (fun c => c.opcode == Op.instrDefine.info.code)) with
    | .error x => adoptEnd s ap q x.status
    | .ok l =>
      match admitSet s { dome := 0, cmds := m :: l, lead := s.plan.leadTicks ap } with
      | .error x => adoptEnd s ap q x.2.status
      | .ok k => apPrepare (onAp s ap (fun r => { r with adopting := some (q, dl, some k.e) })) ap .apertureCreate (some q) 0 peers [] k (s.plan.leadTicks ap)

/-- CONFIG_RX (R342): a fragment of a member's committed aperture configuration; `total` counts the commands that define its objects (log entry 49). -/
def execConfigRx (ap serial total : Nat) (cmds : List ApCmd) (s : State) : Host.Outcome State Fault Refusal :=
  if 256 ≤ ap then .fault .noSuchUnit
  else
    let s := ctlSeen s ap serial
    let r := apOf s ap
    match r.adopting with
    | none => .next s
    | some (_, _, some _) => .next s
    | some (q, dl, none) =>
      if !(r.members.any (fun m => m.serial == serial && serial != ownSerial)) then .next s
      else
        let got := ((tget r.configs serial).map (fun (x : Nat × List ApCmd) => x.2)).getD [] ++ cmds
        let s := onAp s ap (fun r => { r with configs := tset r.configs serial (total, got) })
        let r := apOf s ap
        let peers := (r.members.map (fun m => m.serial)).filter (fun x => x != ownSerial)
        match adoptPick r false with
        | some got => .next (adoptGo s ap q dl got)
        | none =>
          if peers.all (fun p => ((tget r.configs p).map (fun (x : Nat × List ApCmd) => x.1)) == some 0) then .next (adoptEnd s ap q .nosuch)
          else .next s

/-- ADOPT_TIMEOUT (R342): at the deadline the first whole configuration in member order is adopted, and with none the command completes with TIMEOUT. -/
def execAdoptTimeout (ap : Nat) (s : State) : Host.Outcome State Fault Refusal :=
  if 256 ≤ ap then .fault .noSuchUnit
  else match (apOf s ap).adopting with
    | some (q, dl, none) => .next (if dl ≤ s.time.tick64 then (match adoptPick (apOf s ap) true with
      | some got => adoptGo s ap q dl got
      | none => adoptEnd s ap q .timeout) else s)
    | _ => .next s

/-! ### Forwarded reads (R396) -/

/-- The lead begins a read of every member: its CMD_ID, its parts in member order, and DATA to the other members. -/
def apReadBegin (s : State) (a : Nat) (q : Request) (m : Cmd) : State :=
  let id := (apOf s a).cmdId + 1
  let s := onAp s a (fun r => { r with cmdId := id })
  let parts : List (Nat × Option (Nat × Nat)) := (apOf s a).members.map (fun x => (x.serial, if x.excluded && x.serial != ownSerial then some (8, 0) else none))
  let s := onAp s a (fun r => { r with reads := r.reads ++ [{ id := id, req := q, parts := parts }] })
  (apPeers s a).foldl (fun (s : State) (p : Nat) => apSend s a p 9 id (m.wire (genOf s m.dome) 0)) s

/-- A sub-aperture lead forwards a read to its own members, and answers for them and itself (R336, R396). -/
def apReadBelow (s : State) (a id : Nat) (q : Request) (m : Cmd) : State :=
  match apBelow s a with
  | none => s
  | some c =>
    let sub := (apOf s c).cmdId + 1
    let parts : List (Nat × Option (Nat × Nat)) := (apOf s c).members.map (fun x => (x.serial, if x.excluded && x.serial != ownSerial then some (8, 0) else none))
    let s := onAp s c (fun r => { r with cmdId := sub, reads := r.reads ++ [{ id := sub, req := q, parts := parts, up := some (a, id) }] })
    (apPeers s c).foldl (fun (s : State) (p : Nat) => apSend s c p 9 sub (m.wire (genOf s m.dome) 0)) s

/-- DATA_RX (R396): the member performs the read on its own RECORDER and answers when its data has moved. -/
def execDataRx (ap id dome : Nat) (q : Request) (s : State) : Host.Outcome State Fault Refusal :=
  if 256 ≤ ap then .fault .noSuchUnit
  else
    let q : Request := { q with fn := ⟨256 + ap, id⟩, tag := BitVec.ofNat 16 0xFFFF, flags := BitVec.ofNat 16 (16 + 256 * ap) }
    let s := ctlSeen s ap (apLeadOf s ap)
    match mkCmd .captureRead dome (fun _ => captureReadBlock) false q with
    | .error r => .next (apReadOwn s ap id r.status.code 0 0)
    | .ok m =>
      let s := apReadBelow s ap id q m
      match captureReadAct { s := s, plan := s.plan, e := s.time.tick64, q := some q } m with
      | .error r => .next (apReadOwn s ap id r.status.code 0 0)
      | .ok x => .next x.s

/-- DATA_DONE_RX (R396): a member's part has ended. -/
def execDataDoneRx (ap serial id status bytes : Nat) (s : State) : Host.Outcome State Fault Refusal :=
  if 256 ≤ ap then .fault .noSuchUnit else .next (apReadPart (ctlSeen s ap serial) ap id serial status bytes)

/-! ### The tick status (R336) -/

/-- The 64 bytes of the tick status: its fields in the order in which R336 lists them, then zeros (log entry 49). -/
def tickStatus (s : State) (seq : Nat) : List Byte :=
  let l := leBytes 8 s.time.tick64 ++ ct96Le (ct96 (sciOfTick s s.time.tick64)) ++ leBytes 1 (stateCode s.dev.st) ++ leBytes 4 (domeRun s 0).cfgGen ++
    leBytes 4 s.regs.crcRun ++ leBytes 1 (b2n s.time.holdover + 2 * b2n s.dev.withdrawn) ++ leBytes 4 seq
  l ++ List.replicate (64 - l.length) 0

/-- The control flow-tick of every aperture link; a message to a device that no link reaches goes nowhere (R336). -/
def apTick (s : State) : State :=
  let s := (s.plan.objs .apertureLink).foldl (fun (s : State) (l : Nat × Nat × Block) => apFlow s (l.2.2.nat 0) l.2.1 (l.2.2.nat 2) (tickStatus s)) s
  { s with apertures := s.apertures.map (fun e => if e.2.outq.isEmpty then e else (e.1, { e.2 with outq := e.2.outq.filter (fun m => (s.plan.apPort e.1 m.1).isSome) })) }

end Sys2Proof.Machine
end

