-- ==== Sys2Proof/Machine/Loopback.lean ====
section
/-! DEFINITION. Loopback.lean: LOOPBACK instruments (R603, R604). -/
namespace Sys2Proof.Machine

/-- One step of the PRBS13 generator x^13 + x^12 + x^2 + x + 1: next bit and register (PRESUMED, log entry 13). -/
def prbs13 (r : Nat) : Bool × Nat :=
  let y := ((r.testBit 12 ^^ r.testBit 11) ^^ r.testBit 1) ^^ r.testBit 0
  (y, (2 * r + b2n y) % 2 ^ 13)
/-- `n` bytes of a bit generator from a register, most significant bit first. -/
def prbsBytes (step : Nat → Bool × Nat) : Nat → Nat → List Byte
  | 0, _ => []
  | n + 1, r =>
    let (v, r) := (List.range 8).foldl (fun (a : Nat × Nat) (j : Nat) => let y := step a.2; (a.1 + 2 ^ (7 - j) * b2n y.1, y.2)) (0, r)
    BitVec.ofNat 8 v :: prbsBytes step n r
/-- The pattern of a sample tick (R603). -/
def loopPattern (b : Block) (n : Nat) : List Byte :=
  match b.word? 7 with
  | some 0 => prbsBytes prbs31 (b.nat 6) (n % (2 ^ 31 - 1) + 1)
  | some 1 => prbsBytes prbs13 (b.nat 6) (n % (2 ^ 13 - 1) + 1)
  | _ => (List.range (b.nat 6)).map (fun j => BitVec.ofNat 8 (n + j))

/-- Send a tick's pattern as SAMPLES packets of the stream (R604). -/
def loopSend (s : State) (d k i n index : Nat) (bytes : List Byte) : State :=
  match s.plan.stream d k with
  | none => s
  | some st =>
    let chunk := Nat.max 32 (st.nat 10)
    (List.range (ceilDiv bytes.length chunk)).foldl (fun (s : State) (j : Nat) => vorsyPkt s d k (i, 0, n) 1 0 (index + j * chunk) n 0 (sliceL bytes (j * chunk) chunk) none) s

/-- A LOOPBACK in device tick `m` (R603, R604): a shed tick is neither generated nor checked. -/
def loopStep (s : State) (m d i : Nat) (b : Block) : State :=
  if !s.plan.placed d i || decide (m < (instrRun s d i).loop.from0) then s
  else if !(shedParts s d i).isEmpty then iCount s d i .shedTicks 1
  else
    let n := b.nat 6
    let s := match b.word? 2 with
      | some 1 => loopSend s d (b.nat 8) i m (instrRun s d i).loop.sent (loopPattern b m)
      | some 2 => { s with out := { s.out with frames := s.out.frames ++ [(b.nat 5, .frame (loopPattern b m))] } }
      | _ => s
    let checked := if b.is 2 1 then 0 else n
    onInstr s d i (fun r => (({ r with loop := { r.loop with sent := r.loop.sent + n, got := r.loop.got + checked } } : InstrRun).count .bytesSent n).count .bytesChecked checked)

/-- LOOPBACK_REPORT_END (R604): after REPORT_TICKS ticks the report is formed. `errors` and `absent` are what the path did to the report's bits: bit errors and
absent granules of 32 bytes, which the checker saw. -/
def execLoopbackReportEnd (dome instr errors absent : Nat) (s : State) : Host.Outcome State Fault Refusal :=
  match s.plan.instr dome instr with
  | none => .next s
  | some b =>
    let r := instrRun s dome instr
    let first := r.loop.from0
    if iKind b ≠ 11 ∨ s.time.tick64 < first + Nat.max 1 (b.nat 9) then .next s
    else
      let bits := 8 * (r.loop.got - r.loop.errs)
      let checked := bits - 256 * absent
      let errors := if b.is 2 1 then 0 else Nat.min errors checked
      let absent := if b.is 2 0 then Nat.min absent (bits / 256) else 0
      let shed := tgetD r.cnt .shedTicks 0 - r.loop.lost
      let bk := { Bank.new b [] [] first 0 with last := first + Nat.max 1 (b.nat 9) - 1, nominal := 8 * b.nat 6 * Nat.max 1 (b.nat 9), shed := shed, flags := 2048 * b2n (decide (0 < shed)) }
      let head := (detHeader s 11 instr 0 bk.r10 bk 0 0 r.loop.seq 0 0).mapIdx (fun (k : Nat) (x : Nat × Nat) => if k = 0 then (1, 12) else if k = 7 then (8, checked) else x)
      let s := iMake s dome instr 0 0 12 b r.loop.seq (bk.r10 % 64) bk.last (head ++ [(8, errors), (8, absent)]) .resultDrop none
      .next (onInstr s dome instr (fun (r : InstrRun) =>
        (({ r with loop := { r.loop with seq := (r.loop.seq + 1) % 2 ^ 32, errs := r.loop.got, lost := tgetD r.cnt .shedTicks 0, from0 := first + Nat.max 1 (b.nat 9) } } : InstrRun).count
          .bitErrors errors).count .lostGranules absent))

end Sys2Proof.Machine
end

