-- ==== Sys2Proof/Machine/Queries.lean ====
section
/-! DEFINITION. Queries.lean: the mailbox's own opcodes, and the block and rule of every opcode that is no configuration command (Tables 13-9 to 13-14). -/
namespace Sys2Proof.Machine

/-- The rule of an opcode of kind Q, I, M or D: its block, whether its parameter buffer is raw, and what it does. -/
structure ActRule where
  params : List Param
  raw : Bool := false
  act : Act

/-! ### CAPABILITY, STATUS, GROUP_ABORT, CANCEL (R390, R391, R405, R406) -/

/-- Bytes 64 to 447 of the capability record: a bit per implemented opcode. -/
def opcodeMap : List Byte :=
  (List.range 12).flatMap (fun c => (List.range 32).map (fun b =>
    BitVec.ofNat 8 (((List.range 8).map (fun k => b2n ((Op.ofCode (256 * c + 8 * b + k)).isSome) * 2 ^ k)).foldl (· + ·) 0)))
/-- Places in flight that are reserved for a mailbox (R382). -/
def reservedPlaces (p : Plan) (f : Fn) : Nat := match p.domeOf f with | some 0 => 64 | some _ => 8 | none => 0
/-- CAPABILITY, without the length header (Table 13-16). -/
def capabilityAct : Act := fun c m =>
  .ok { s := c.s, result := 0x00010200,
        body := some (leBytes 4 0x00010200 ++ leBytes 4 0x00642801 ++ leBytes 8 Config.serial.toNat ++ leBytes 2 64 ++ leBytes 2 4096 ++ leBytes 2 (reservedPlaces c.s.plan m.fn) ++ leBytes 2 256 ++
          leBytes 4 256 ++ leBytes 4 16777216 ++ leBytes 24 0 ++ opcodeMap) }

/-- CONDITION (Table 13-17). -/
def condition (s : State) : Nat := b2n s.dev.withdrawn + 2 * b2n s.time.holdover + 4 * b2n (!s.time.sciSet) + 8 * b2n s.care.took
/-- Advertised active tiles. -/
def activeTiles (s : State) : Nat := 64 - s.dev.goneTiles.length
/-- STATUS, without the length header (Table 13-17, R406). -/
def statusAct : Act := fun c m =>
  let s := c.s
  let d := s.plan.domeOf m.fn
  let members := if m.aperture then (apOf s (m.flags / 256)).members.filter (fun x => x.serial != ownSerial) else []
  let cond := condition s ||| b2n (members.any (fun x => x.withdrawn))
  let tiles := activeTiles s + (members.map (fun x => x.tiles)).foldl (· + ·) 0
  let r := match d with | some d => domeRun s d | none => { gen := 0, cfgGen := 0, staged := [], drain := none }
  let sets := match d with | some d => (s.psets.filter (fun (x : PSet) => x.dome == d)).length | none => 0
  .ok { s := s, result := stateCode s.dev.st + 256 * cond,
        body := some (leBytes 1 (stateCode s.dev.st) ++ leBytes 1 cond ++ leBytes 2 tiles ++ leBytes 4 s.plan.m ++ leBytes 8 s.time.tick64 ++ leBytes 2 r.gen ++ leBytes 2 (inflightOf s m.fn).length ++
          leBytes 4 r.cfgGen ++ leBytes 2 r.staged.length ++ leBytes 2 sets ++ leBytes 2 s.inflight.length ++ leBytes 2 0 ++ leBytes 8 (houseCt64 s) ++ leBytes 16 0) }

/-- GROUP_ABORT: the staged set goes, and D0's pending SH writes (R390, R440). -/
def groupAbortAct : Act := fun c m =>
  let n := (domeRun c.s m.dome).staged.length
  let s := onDome c.s m.dome (fun r => { r with staged := [] })
  .ok { s := if m.dome = 0 then { s with regs := { s.regs with sh := [] } } else s, result := n }

/-- Block of CANCEL. -/
def cancelBlock : List Param := [pN "CFG_GEN" 0 (2 ^ 32 - 1)]
/-- CANCEL (R391). -/
def cancelAct : Act := fun c m =>
  let s := c.s
  match s.psets.find? (fun (x : PSet) => x.dome == m.dome && x.cfgGen == m.block.nat 0) with
  | none => .error (rej .nosuch 0)
  | some x =>
    let rest := { s with psets := s.psets.filter (fun (y : PSet) => y != x) }
    if x.e ≤ s.time.tick64 + 1 then .error (rej .timeout 0)
    else
      let after := fun (y : PSet) => decide (x.e < y.e) || (y.e == x.e && decide (x.order < y.order))
      let base := plansTo rest s.plan (rest.psets.filter (fun y => !after y))
      if (brokenIn rest (rest.psets.filter after) base).any (fun y => y.dome == m.dome) then .error (rej .inconsistent 0)
      else .ok { s := rest }

/-! ### The table -/

/-- A rule with a fixed block. -/
def actRule (ps : List Param) (a : Act) : Option ActRule := some { params := ps, act := a }
/-- A raw opcode. -/
def rawRule (ps : List Param) (a : Act) : Option ActRule := some { params := ps, raw := true, act := a }

/-- The rules of the opcodes of kinds Q, I, M and D. -/
def Op.act : Op → Option ActRule
  | .nop => actRule [] (fun c _ => .ok { s := c.s })
  | .capability => actRule [] capabilityAct
  | .groupAbort => actRule [] groupAbortAct
  | .cancel => actRule cancelBlock cancelAct
  | .status => actRule [] statusAct
  | .timeRead => actRule [] timeReadAct
  | .tdcStats => actRule tdcStatsBlock tdcStatsAct
  | .portStats => actRule portOnlyBlock portStatsAct
  | .portMgmtSend => rawRule portOnlyBlock portMgmtSendAct
  | .portMgmtRecv => actRule portOnlyBlock portMgmtRecvAct
  | .feedStats => actRule feedOnlyBlock feedStatsAct
  | .coefLoad => rawRule coefLoadBlock coefLoadAct
  | .coefSwap => actRule coefSwapBlock coefSwapAct
  | .delayPoly => rawRule [] delayPolyAct
  | .pfbCoefLoad => rawRule (loadBlock 15) pfbCoefLoadAct
  | .instrStats => actRule instrStatsBlock instrStatsAct
  | .rqGainLoad => rawRule (loadBlock 63) rqGainLoadAct
  | .rqGainSwap => actRule (swapBlock 63) rqGainSwapAct
  | .rqStats => actRule rqStatsBlock rqStatsAct
  | .beamWeightLoad => rawRule (loadBlock 63) beamWeightLoadAct
  | .beamWeightSwap => actRule (swapBlock 63) beamWeightSwapAct
  | .resultAck => actRule resultAckBlock resultAckAct
  | .maskLoad => rawRule (loadBlock 7) maskLoadAct
  | .maskSwap => actRule (swapBlock 7) maskSwapAct
  | .sweepGainLoad => rawRule (loadBlock 7) sweepGainLoadAct
  | .sweepGainSwap => actRule (swapBlock 7) sweepGainSwapAct
  | .captureRead => actRule captureReadBlock captureReadAct
  | .captureRelease => actRule captureReleaseBlock captureReleaseAct
  | .streamStats => actRule streamStatsBlock streamStatsAct
  | .streamCredit => actRule streamCreditBlock streamCreditAct
  | .apertureStats => actRule apertureOnlyBlock apertureStatsAct
  | .sextantStats => actRule sextantStatsBlock sextantStatsAct
  | .domeReset => actRule domeResetBlock domeResetAct
  | .domeQuery => actRule domeQueryBlock domeQueryAct
  | .logbookRead => actRule logbookReadBlock logbookReadAct
  | .meterRead => actRule meterReadBlock meterReadAct
  | .eventStats => actRule eventStatsBlock eventStatsAct
  | .hbmStats => actRule [] hbmStatsAct
  | .healthRead => actRule healthReadBlock healthReadAct
  | .qualityRead => actRule [] qualityReadAct
  | .adcRead => actRule adcReadBlock adcReadAct
  | .dacQueue => rawRule dacQueueBlock dacQueueAct
  | .paletteLoad => rawRule paletteBlock paletteLoadAct
  | .transferLoad => rawRule transferBlock transferLoadAct
  | .updateBegin => actRule updateBeginBlock updateBeginAct
  | .folioWrite => rawRule folioWriteBlock folioWriteAct
  | .updateStatus => actRule [] updateStatusAct
  | .updateActivate => actRule updateActivateBlock updateActivateAct
  | .updateConfirm => actRule [] updateConfirmAct
  | .updateAbort => actRule [] updateAbortAct
  | .debugUnlock => rawRule [] debugUnlockAct
  | .debugLock => actRule [] debugLockAct
  | _ => none

/-- Is an opcode's parameter buffer raw (R401)? -/
def Op.raw (o : Op) : Bool :=
  match o.act, o.conf with
  | some r, _ => r.raw
  | none, some r => r.raw
  | none, none => false

end Sys2Proof.Machine
end

