-- ==== Sys2Proof/Machine/Serve.lean ====
section
/-! DEFINITION. Serve.lean: the decision of a mailbox request (R378 to R407). -/
namespace Sys2Proof.Machine

/-! ### Checks that every request takes, in the order of R399 -/

/-- Tag under which a register commit is decided: no request has it (R383, R441). -/
def winTag : Nat := 0xFFFF
/-- Is this request a register commit? -/
def isWin (q : Request) : Bool := q.tag.toNat == winTag

/-- FORMAT of the header whatever the opcode: reserved bits, fields that must be 0, and lengths (R7, R384, R389). -/
def headerBadAny (s : State) (q : Request) : Bool :=
  let fl := q.flags.toNat
  let now := s.time.tick64
  let ahead := (q.etsn.toNat + 2 ^ 32 - now % 2 ^ 32) % 2 ^ 32
  fl.testBit 7 || (!fl.testBit 4 && fl / 256 != 0) || (!fl.testBit 0 && q.etsn != 0) ||
  (fl.testBit 0 && decide (2 ^ 30 < ahead) && decide (ahead ≤ 2 ^ 31)) || (Fn.isOperator q.fn && q.domeGen != 0) ||
  q.rbufLen % 8 != 0 || decide (16777216 < q.rbufLen) || Request.bufLen q % 8 != 0 || decide (16777216 < Request.bufLen q)
/-- FORMAT of the header (R7, R383, R384, R386, R389, R402). -/
def headerBad (s : State) (op : Op) (q : Request) : Bool :=
  let fl := q.flags.toNat
  let k := op.info.kind
  headerBadAny s q || (isWin q && op != .commit) || (fl.testBit 0 && k != .c) || (fl.testBit 1 && (k != .c || op == .commit)) ||
  (fl.testBit 4 && k != .c && op != .status && op != .captureRead) || (k == .q && op != .nop && decide (q.rbufLen < 8))

/-- DENIED for the role (R403, R404), or for WITHDRAW from a dome (R384). -/
def roleBad (s : State) (op : Op) (q : Request) : Bool :=
  let owner := q.fn == ownerFn
  let dome := (s.plan.domeOf q.fn).isSome
  let crc := (q.slots.headD 0).toNat
  (match op.info.role with
   | .owner => !owner
   | .ownerOp => !(owner || Fn.isOperator q.fn)
   | .dome => !dome
   | .domeOp => !(dome || Fn.isOperator q.fn)
   | .domeOwner => !dome) ||
  (q.flags.toNat.testBit 3 && !owner) || (op == .commit && !owner && crc != 0 && crc != allOnes)

/-- STALE_GEN (R392). -/
def staleBad (s : State) (q : Request) : Bool :=
  (match s.plan.domeOf q.fn with | some d => q.domeGen.toNat != genOf s d | none => false) || (q.cfgGen != 0 && q.cfgGen.toNat != cfgGenOf s q.fn)

/-- BUSY by the device state (R388), or while the dome drains (R423). -/
def stateBusy (s : State) (op : Op) (q : Request) (toBoot : Bool) : Bool :=
  let owner := q.fn == ownerFn
  let k := op.info.kind
  (match s.dev.st with
   | .boot => !(owner && k == .q)
   | .recovery => !(owner && (k == .q || op.info.code / 256 == 0x0A || op == .debugUnlock || (op == .stateSet && toBoot)))
   | .maintenance => !owner && k != .q && k != .d && op != .resultAck
   | _ => false) ||
  (match s.plan.domeOf q.fn with | some d => draining s d | none => false)

/-- Logbook class of an opcode (Table 14-8). -/
def opClass (op : Op) : Nat := match op.info.code / 256 with | 0x0A => 5 | 0x0B => 6 | _ => 0

/-! ### Outcomes -/

/-- Write the outcome of a register commit into the COMMIT window (R441). -/
def winDone (s : State) (f : Fn) (status detail tsn : Nat) : State :=
  let g := cfgGenOf s f
  { s with regs := { s.regs with commits := tmod s.regs.commits f CommitWin.reset (fun w => { w with busy := false, status := status, detail := detail, tsn := tsn, cfgGen := g }) } }

/-- Complete a request, or a register commit. -/
def complete (s : State) (op : Op) (q : Request) (status detail tsn result cflags : Nat) (body : Option (List Byte)) (high : Nat := 0) : State :=
  if isWin q then winDone s q.fn status detail tsn else finish s op.info.code q status detail tsn result cflags body high

/-- Complete with a rejection: DENIED is a violation (R420). -/
def refuse (s : State) (op : Op) (q : Request) (r : Reject) : State :=
  let s := if r.status = .denied then violation s 0x07 q.fn op.info.code else s
  if isWin q then winDone s q.fn r.status.code (rejDetail s q r) (r.tsn.getD (tsnOf s.time.tick64)) else finishRej s op.info.code q r

/-- Effective tick that a request names (R389). -/
def namedTick (s : State) (q : Request) : Option Nat := if q.flags.toNat.testBit 0 then some (tickOfTsn s.time.tick64 q.etsn.toNat).toNat else none

/-- Failures of an aperture command at a device that does not lead, or that adopts (R342, R384), and while a member differs in release, M or tick number (R32). -/
def apExtra (s : State) (m : Cmd) (a : Nat) : List Reject :=
  (if m.aperture && m.op != .apertureCreate && !leads s a then [rej .nosuch 0xFFFF] else []) ++ (if (apOf s a).adopting.isSome then [rej .busy 0] else []) ++
  (if (apOf s a).members.any (fun x => x.differs) then [rej .inconsistent 0xFFFF] else [])

/-- The aperture that a configuration command goes to through the lead: the one that it names, or the one that it creates or deletes (R335, R342, R384). -/
def apTarget (s : State) (m : Cmd) : Option Nat :=
  if m.aperture then some (m.flags / 256)
  else match m.op with
    | .apertureCreate => if 1 < (apMembers m.block).length ∨ m.block.flag 3 then some (m.block.nat 0) else none
    | .apertureDelete => if leads s (m.block.nat 0) && (apOf s (m.block.nat 0)).members.any (fun x => x.serial != ownSerial) then some (m.block.nat 0) else none
    | _ => none

/-- Members that a command is prepared on. -/
def apAsked (s : State) (m : Cmd) (a : Nat) : List Nat :=
  if m.op = .apertureCreate then (apMembers m.block).filter (fun x => x != ownSerial) else apPeers s a

/-- A TIMEOUT of an aperture command reports LEAD_TICKS (R337). -/
def leadReport (s : State) (a : Option Nat) (r : Reject) : Reject :=
  match a with
  | some a => if r.status = .timeout then { r with result := s.plan.leadTicks a } else r
  | none => r

/-! ### Configuration commands (R389 to R394) -/

/-- Stage a command: the checks of R390, the limits of Table 13-18, and its place in the set. -/
def stageCmd (s : State) (op : Op) (q : Request) (d : Nat) (m : Cmd) (extra : List Reject) : State :=
  let st := (domeRun s d).staged
  let e := s.time.tick64 + 1
  let w := walk s e (plansTo s s.plan s.psets) (st ++ [m])
  let named := match w.1.getLast? with | some y => (y.2.2.names y.1 y.2.1).toList | none => []
  match firstFail ((named ++ extra).map (fun r => (0, r))) with
  | some r => refuse s op q r.2
  | none =>
    if 256 ≤ st.length ∨ 16777216 < (st.map (fun x => x.bytes)).foldl (· + ·) m.bytes then refuse s op q (noBudget s.time.tick64 0x15 0 1 0)
    else complete (onDome s d (fun r => { r with staged := st ++ [m] })) op q 0 st.length (tsnOf s.time.tick64) 0 8 none

/-- Begin an adoption: the members are expected to answer (R342). -/
def beginAdopt (s : State) (q : Request) (m : Cmd) : State :=
  let a := m.block.nat 0
  let s := markDecided s q
  onAp s a (fun r => { r with members := (apMembers m.block).map memberNew, configs := [], adopting := some (q, adoptDeadline s.plan a s.time.tick64 m.block, none) })

/-- Decide one configuration command that is not staged. With `arp`, an unresolved next-hop address is asked for first (R308). -/
def serveOne (s : State) (op : Op) (q : Request) (d : Nat) (m : Cmd) (extra : List Reject) (arp : Bool) : State :=
  let a := apTarget s m
  let lead := match a with | some a => s.plan.leadTicks a | none => 1
  match admitSet s { dome := d, cmds := [m], named := namedTick s q, lead := lead, q := some q, extra := extra.map (fun r => (0, r)) } with
  | .error r => refuse s op q (leadReport s a r.2)
  | .ok k =>
    if arp && needsMac s m then
      { s with resolving := s.resolving ++ [(op, q)], out := { s.out with frames := s.out.frames ++ [(m.block.nat 2, .resolve d (m.block.nat 0))] } }
    else
      let result := (k.results.head?.map (fun r => r.1)).getD 0
      let body := (k.results.head?.map (fun r => r.2)).getD none
      match a with
      | some a =>
        if op = .apertureCreate ∧ m.block.flag 3 then
          (if (apAsked s m a).isEmpty then refuse s op q (rej .nosuch 4) else beginAdopt s q m)
        else
          let s := if op = .apertureCreate then onAp s a (fun r => { r with members := (apMembers m.block).map memberNew }) else s
          apPrepare (markDecided s q) a op (some q) d (apAsked s m a) [] k result body
      | none =>
        let s := takeSet s d [] k
        let s := cmdLog s (opClass op) ((k.cmds.head?).getD m) k.e 0 0 result
        let s := complete s op q 0 0 (tsnOf k.e) result 0 body
        if op = .stateSet ∧ s.dev.st = .recovery then applyDue { s with psets := s.psets.map (fun (x : PSet) => { x with e := Nat.min x.e s.time.tick64 }) } none else s

/-- Decide a configuration command other than COMMIT. -/
def serveConf (s : State) (op : Op) (q : Request) (d : Nat) (arp : Bool) : State :=
  match confCmd op d q with
  | .error r => refuse s op q r
  | .ok m =>
    let ap := match apTarget s m with | some a => apExtra s m a | none => []
    let busy := if stateBusy s op q (m.block.is 0 5) then [rej .busy 0] else []
    if q.flags.toNat.testBit 1 then stageCmd s op q d m (ap.filter (fun r => r.status == .nosuch) ++ busy)
    else serveOne s op q d m (ap ++ busy) arp

/-! ### COMMIT (R390, R404, R440, R441) -/

/-- Block of COMMIT. -/
def commitBlock : List Param := [⟨"CRC_REF", .nat 0 (2 ^ 32 - 1) [], .val (.num 0), []⟩]

/-- The SH writes that a commit has taken. -/
def takenSh (s : State) (q : Request) : List (Nat × Word) :=
  if q.fn = ownerFn then ((s.regs.taken.find? (fun e => e.1 == q.tag.toNat)).map (fun e => e.2)).getD [] else []
/-- They go with the decision. -/
def dropTaken (s : State) (q : Request) : State :=
  if q.fn = ownerFn then { s with regs := { s.regs with taken := s.regs.taken.filter (fun e => e.1 != q.tag.toNat) } } else s

/-- The failure of a COMMIT: DETAIL is the failing command's position and RESULT its slot under INCONSISTENT and NOSUCH (R394). -/
def commitRej (r : Nat × Reject) : Reject :=
  if r.2.status = .inconsistent ∨ r.2.status = .nosuch then { r.2 with detail := r.1, result := if r.1 = 0xFFFF ∧ r.2.detail = 0xFFFF then 0 else r.2.detail % 65536 } else r.2

/-- The command that a COMMIT itself is, for its Logbook entry. -/
def commitCmd (d : Nat) (q : Request) : Cmd :=
  { op := .commit, fn := q.fn, dome := d, tag := q.tag.toNat, flags := q.flags.toNat, block := [.num ((q.slots.headD 0).toNat : Int)], data := [], bytes := 0, pcrc := crc32c (Request.blockBytes q), obj := 0 }

/-- The staged set and the taken SH writes go when a COMMIT is rejected. -/
def commitFails (s : State) (q : Request) (d : Nat) (r : Reject) : State := refuse (dropTaken (onDome s d (fun t => { t with staged := [] })) q) .commit q r

/-- Decide a COMMIT, or a register commit. -/
def serveCommit (s : State) (q : Request) (d : Nat) (arp : Bool) : State :=
  match parseBlock commitBlock q.slots with
  | .error r => refuse (dropTaken s q) .commit q r
  | .ok b =>
    let cmds := (domeRun s d).staged
    let sh := takenSh s q
    let flag := q.flags.toNat.testBit 4
    let a := if flag then some (q.flags.toNat / 256) else none
    let me := commitCmd d q
    let e := (namedTick s q).getD (s.time.tick64 + 1)
    let ap := match a with | some a => apExtra s me a | none => []
    let still := s.dev.st = .boot ∨ s.dev.st = .recovery
    match ap.find? (fun r => r.status == .nosuch) with
    | some r => commitFails s q d r
    | none =>
      if still ∧ cmds.isEmpty ∧ d = 0 then
        let s := dropTaken s q
        let s := if sh.isEmpty then s else onDome { s with plan := withSh sh s.plan } 0 (fun r => { r with cfgGen := nextCfg r.cfgGen })
        let s := { s with regs := { s.regs with crcActive := s.plan.crc } }
        complete (cmdLog s 0 me s.time.tick64 0 0 0) .commit q 0 0 (tsnOf s.time.tick64) 0 0 none
      else if stateBusy s .commit q false ∨ ap.any (fun r => r.status == .busy) then commitFails s q d (rej .busy 0)
      else if cmds.isEmpty ∧ sh.isEmpty then complete (cmdLog s 0 me e 0 0 0) .commit q 0 0 (tsnOf e) 0 0 none
      else
        match cmds.findIdx? (fun m => m.aperture != flag || (flag && m.flags / 256 != q.flags.toNat / 256)) with
        | some i => commitFails s q d { status := .inconsistent, detail := i }
        | none =>
          let lead := match a with | some a => s.plan.leadTicks a | none => 1
          let differ := (ap.filter (fun r => r.status == .inconsistent)).map (fun r => (0xFFFF, r))
          match admitSet s { dome := d, cmds := cmds, sh := sh, named := namedTick s q, crcRef := b.nat 0, lead := lead, q := some q, extra := differ } with
          | .error r => commitFails s q d (leadReport s a (commitRej r))
          | .ok k =>
            if arp && cmds.any (needsMac s) then
              let asks := (cmds.filter (needsMac s)).map (fun m => (m.block.nat 2, PortMsg.resolve d (m.block.nat 0)))
              { s with resolving := s.resolving ++ [(Op.commit, q)], out := { s.out with frames := s.out.frames ++ asks } }
            else
              let s := dropTaken (onDome s d (fun t => { t with staged := [] })) q
              match a with
              | some a => apPrepare (markDecided s q) a .commit (some q) d (apPeers s a) sh k cmds.length
              | none =>
                let s := takeSet s d sh k
                let s := (k.cmds.zip k.results).foldl (fun (s : State) (x : Cmd × Nat × Option (List Byte)) => cmdLog s (opClass x.1.op) x.1 k.e 0 0 x.2.1) s
                complete (cmdLog s 0 me k.e 0 0 cmds.length) .commit q 0 0 (tsnOf k.e) cmds.length 0 none

/-! ### Queries, immediate commands, data and mailbox operations -/

/-- Decide a request of kind Q, I, M or D. -/
def serveAct (s : State) (op : Op) (q : Request) (d : Nat) : State :=
  match op.act with
  | none => refuse s op q (rej .unsupported 0)
  | some r =>
    match mkCmd op d (fun _ => r.params) r.raw q with
    | .error x => refuse s op q x
    | .ok m =>
      let ap := if m.aperture then apExtra s m (m.flags / 256) else []
      let busy := stateBusy s op q false || ap.any (fun x => x.status == .busy)
      match ap.find? (fun x => x.status == .nosuch) with
      | some x => refuse s op q x
      | none =>
        let s0 := if op = .captureRead ∧ m.aperture then apReadBegin s (m.flags / 256) q m else s
        match r.act { s := s0, plan := s.plan, e := s.time.tick64, q := some q } m with
        | .error x => refuse s op q (if busy && decide (7 ≤ x.status.rank) then rej .busy 0 else x)
        | .ok x =>
          if busy then refuse s op q (rej .busy 0)
          else
            let k := op.info.kind
            let logs := (k == .i || k == .m || opClass op == 5 || opClass op == 6) && op != .domeReset
            let t := if logs then cmdLog x.s (opClass op) m s.time.tick64 x.status.code x.detail x.result else x.s
            if x.later then markDecided t q else complete t op q x.status.code x.detail (tsnOf s.time.tick64) x.result 0 x.body x.high

/-! ### The decision -/

/-- Decide a request now: the checks of R399 that every request takes, then its kind's. -/
def serveNow (s : State) (op : Op) (q : Request) (arp : Bool) : State :=
  let d := (s.plan.domeOf q.fn).getD devDome
  if headerBad s op q then refuse s op q (rej .format 0xFFFF)
  else if roleBad s op q then refuse s op q (rej .denied 0)
  else if staleBad s q then refuse s op q (rej .staleGen 0)
  else if op = .commit then serveCommit s q d arp
  else if op.info.kind = .c then serveConf s op q d arp
  else serveAct s op q d

/-- Does an earlier request of the mailbox still have to complete before a request with FENCE (R387)? -/
def fenced (s : State) (q : Request) : Bool :=
  q.flags.toNat.testBit 2 && ((inflightOf s q.fn).takeWhile (fun x => x.req.tag != q.tag)).any (fun _ => true)

/-- Is an opcode of a kind whose commands are decided one at a time, in fetch order (R387)? -/
def Op.inOrder (o : Op) : Bool := o.info.kind == .c || o.info.kind == .i || o.info.kind == .m
/-- Has every kind C, I or M request that was fetched earlier been decided, where the request is of these kinds (R387)? -/
def inTurn (s : State) (op : Op) (q : Request) : Bool :=
  !op.inOrder || (s.inflight.takeWhile (fun x => !(x.req.fn == q.fn && x.req.tag == q.tag))).all (fun x =>
    x.decided.isSome || !(match Op.ofCode x.opcode with | some o => o.inOrder | none => false))

/-- Decide a fetched request whose turn it is: what its fetch found wrong, or the checks and effect of its opcode. Before its turn nothing happens. -/
-- DESIGN CHOICE, notes/assumptions/174.md
def serveTurn (s : State) (op : Op) (q : Request) : State :=
  if !inTurn s op q then s
  else match (s.inflight.find? (fun x => x.req.fn == q.fn && x.req.tag == q.tag)).bind (fun x => x.verdict) with
    | some r => finishRej s op.info.code q r
    | none => serveNow s op q true

/-- Decide a request, or hold it in HALTED (R388) or behind a FENCE (R387). -/
def serveOrHold (s : State) (op : Op) (q : Request) : State :=
  if s.dev.st = .halted ∨ fenced s q then { s with held := s.held ++ [(op, q)] } else serveTurn s op q

/-- Places that the mailboxes of one function hold beyond its reserved ones (R382). -/
def sharedPlaces (s : State) (f : Fn) : Nat := (inflightOf s f).length - reservedPlaces s.plan f
/-- May a mailbox take one more request in flight (R380, R382, R388, R411)? -/
def mayTake (s : State) (f : Fn) : Bool :=
  let m := mbxOf s f
  let n := (inflightOf s f).length
  let fns := (s.inflight.map (fun x => x.req.fn)).eraseDups
  let shared : Nat := (fns.map (sharedPlaces s)).foldl (· + ·) 0
  s.dev.st != .cold && m.enable && !m.fetchErr && decide (n < 64) && decide (n < cqFree s f) &&
  (decide (n < reservedPlaces s.plan f) || decide (shared < 1992)) && ((s.dev.st != .boot && s.dev.st != .recovery) || f == ownerFn) &&
  (f.vf == 0 || ((s.hostPorts.getD f.port { linkUp := false, perst := true, vfEnable := false }).vfEnable && (s.plan.domeOf f).isSome))

/-- The decision of a mailbox request: one that was fetched, or one that is fetched and decided at once, where its mailbox may take it (R382). A tag in flight
is not used again (R383); a mailbox that is not served decides nothing (R378, R379), and a request that has been decided is not decided again. -/
def serve (op : Op) (q : Request) (s : State) : State :=
  let known := s.inflight.any (fun x => x.opcode == op.info.code && x.req == q)
  if s.dev.st = .cold ∨ !((s.plan.domeOf q.fn).isSome || Fn.isOperator q.fn) then s
  else if known then
    (if s.held.contains (op, q) || s.resolving.contains (op, q) || (s.inflight.any (fun x => x.opcode == op.info.code && x.req == q && x.decided.isSome)) then s else serveOrHold s op q)
  else if !mayTake s q.fn then s
  else if isWin q then writeCq s q.fn winTag 11 0 op.info.code 0xFFFF (tsnOf s.time.tick64) 0 []
  else if (inflightOf s q.fn).any (fun x => x.req.tag == q.tag) then writeCq s q.fn q.tag.toNat 11 0 op.info.code 0xFFFE (tsnOf s.time.tick64) 0 []
  else serveOrHold { s with inflight := s.inflight ++ [{ opcode := op.info.code, req := q, discard := false }] } op q

/-- After HALTED, decide the fetched requests in fetch order, and the register commits that came meanwhile (R388); what a FENCE or an undecided earlier request
still holds stays. -/
def serveHeld (s : State) : State :=
  let s := s.inflight.foldl (fun (s : State) (x : InFlight) =>
    if !s.inflight.contains x || x.decided.isSome || fenced s x.req || s.resolving.any (fun y => y.2 == x.req) then s
    else match x.verdict, Op.ofCode x.opcode with
      | some r, none => finishRej s x.opcode x.req r
      | none, none => s
      | _, some op => if inTurn s op x.req then serveTurn { s with held := s.held.erase (op, x.req) } op x.req else s) s
  (s.held.filter (fun x => isWin x.2)).foldl (fun (s : State) (x : Op × Request) => serveNow { s with held := s.held.erase x } x.1 x.2 true) s

/-- If HALTED has been left, drop the sets whose tick passed in it (R30) and decide what waited. -/
def afterHalt (s t : State) : State := if s.dev.st = .halted ∧ t.dev.st ≠ .halted then serveHeld (fitLen (dropPassed t)) else t

end Sys2Proof.Machine
end

