-- ==== Sys2Proof/Machine/Mailbox.lean ====
section
/-! DEFINITION. Mailbox.lean: the mailbox registers, the fetch of requests, and one meaning per opcode (R378 to R403). -/
namespace Sys2Proof.Machine

/-! ### Registers (R379 to R381, R453) -/

/-- Is a function's number one that the device has? -/
def fnOk (f : Fn) : Bool := decide (f.port < 4) && decide (f.vf < 65)
/-- The violation of an access to a window that an unbound VF does not have (0x05), or that this function does not have (0x04) (Table 14-5). -/
def noWindow (s : State) (f : Fn) (off : Nat) : State := violation s (if f.vf = 0 then 4 else 5) f off
/-- Has a function a mailbox: PF0 of each port and the bound VFs (Table 15-5)? -/
def hasMbx (s : State) (f : Fn) : Bool := f.vf == 0 || (s.plan.domeOf f).isSome
/-- An access to a function's MBX window. -/
def onMbxWindow (s : State) (f : Fn) (off : Nat) (g : State → State) : Host.Outcome State Fault Refusal :=
  if !fnOk f then .fault .noSuchUnit
  else if s.dev.st = .cold then .next s
  else if hasMbx s f then .next (g s) else .next (noWindow s f off)

/-- When an entry frees, the notices lost are reported before any later notice (R397). -/
def reportLost (s : State) (f : Fn) : State :=
  let m := mbxOf s f
  if m.lost = 0 ∨ !m.enable then s
  else if (inflightOf s f).length < cqFree s f then
    writeCq (onMbx s f (fun m => { m with lost := 0 })) f 0xFFFF 0 2 0x800A 0 (tsnOf s.time.tick64) (2 ^ 32 * m.lost) []
  else s

/-- A write of MBX_RQ_TAIL. -/
def mbxTail (s : State) (f : Fn) (w : Word) : State :=
  let t := bits w.toNat 11 0
  onMbx s f (fun m => if t < ringEntries m.rqSize then { m with rqTail := t } else { m with tailRange := true })
/-- A write of MBX_CQ_HEAD: the entries passed are free again. -/
def mbxHead (s : State) (f : Fn) (w : Word) : State :=
  let h := bits w.toNat 12 0
  let s := onMbx s f (fun m =>
    let n := ringEntries m.cqSize
    if h < n then { m with cqHead := h, cqUsed := m.cqUsed - (h + n - m.cqHead) % n } else { m with tailRange := true })
  reportLost s f
/-- A write of MBX_CTRL: ENABLE starts the mailbox with reset rings, is refused, or stops fetching (R379, R453). -/
def mbxCtrl (s : State) (f : Fn) (w : Word) : State :=
  let m := mbxOf s f
  let vec := if f.vf = 0 then bits w.toNat 26 16 else bits w.toNat 20 16
  let on := bit w.toNat 0
  let s := onMbx s f (fun m => { m with vector := vec })
  if on && !m.enable then
    if m.rqSize < 4 ∨ 12 < m.rqSize ∨ m.cqSize < 7 ∨ 13 < m.cqSize ∨ m.rqBase % 4096 ≠ 0 ∨ m.cqBase % 4096 ≠ 0 then onMbx s f (fun m => { m with ringWrite := true })
    else onMbx s f (fun m => { m with enable := true, rqHead := 0, rqTail := 0, cqHead := 0, cqTail := 0, cqUsed := 0, phase := true })
  else if !on && m.enable then
    onMbx { s with inflight := s.inflight.map (fun x => if x.req.fn == f then { x with discard := true } else x) } f (fun m => { m with enable := false })
  else s
/-- A write of a ring base or size register. -/
def mbxRing (s : State) (f : Fn) (off : Nat) (w : Word) : State :=
  let lo := fun (x : Nat) => x / 2 ^ 32 * 2 ^ 32 + bits w.toNat 31 12 * 4096
  let hi := fun (x : Nat) => x % 2 ^ 32 + w.toNat * 2 ^ 32
  onMbx s f (fun m =>
    if m.enable then { m with ringWrite := true }
    else match off with
      | 0x1008 => { m with rqBase := lo m.rqBase }
      | 0x100C => { m with rqBase := hi m.rqBase }
      | 0x1010 => { m with rqSize := bits w.toNat 3 0 }
      | 0x1020 => { m with cqBase := lo m.cqBase }
      | 0x1024 => { m with cqBase := hi m.cqBase }
      | 0x1028 => { m with cqSize := bits w.toNat 3 0 }
      | _ => m)
/-- Is an offset that of a ring base or size register? -/
def ringReg (off : Nat) : Bool := [0x1008, 0x100C, 0x1010, 0x1020, 0x1024, 0x1028].contains off
/-- A write of MBX_ERR. -/
def mbxErr (s : State) (f : Fn) (w : Word) : State :=
  onMbx s f (fun m => { m with tailRange := m.tailRange && !bit w.toNat 0, ringWrite := m.ringWrite && !bit w.toNat 1, fetchErr := m.fetchErr && !bit w.toNat 2 })

/-- MBX_RQ_TAIL_WRITE (R380). -/
def execMbxRqTailWrite (fn : Fn) (w : Word) (s : State) : Host.Outcome State Fault Refusal := onMbxWindow s fn 0x1014 (fun s => mbxTail s fn w)
/-- MBX_CQ_HEAD_WRITE (R381, R453). -/
def execMbxCqHeadWrite (fn : Fn) (w : Word) (s : State) : Host.Outcome State Fault Refusal := onMbxWindow s fn 0x102C (fun s => mbxHead s fn w)
/-- MBX_CTRL_WRITE (R379, R453). -/
def execMbxCtrlWrite (fn : Fn) (w : Word) (s : State) : Host.Outcome State Fault Refusal := onMbxWindow s fn 0x1000 (fun s => mbxCtrl s fn w)
/-- MBX_RING_REG_WRITE (R379): a base or size register, by its BAR0 offset. -/
def execMbxRingRegWrite (fn : Fn) (off : Nat) (w : Word) (s : State) : Host.Outcome State Fault Refusal :=
  if ringReg off then onMbxWindow s fn off (fun s => mbxRing s fn off w) else .fault .noSuchUnit
/-- MBX_ERR_WRITE (R380). -/
def execMbxErrWrite (fn : Fn) (w : Word) (s : State) : Host.Outcome State Fault Refusal := onMbxWindow s fn 0x1038 (fun s => mbxErr s fn w)

/-! ### Fetching (R380, R382, R384, R388) -/

/-- May a mailbox fetch a request: one waits in its ring and may be taken (R382)? -/
def mayFetch (s : State) (f : Fn) : Bool := mayTake s f && (mbxOf s f).rqHead != (mbxOf s f).rqTail

/-- Mailboxes that have a request to fetch and have not had their turn in the present round. -/
def roundLeft (s : State) : List Fn := (s.mbx.map (fun e => e.1)).filter (fun g => mayFetch s g && !(mbxOf s g).turn)
/-- Is it a mailbox's turn to fetch: rounds take one request of each mailbox, D0's first (R382)? -/
def fetchTurn (s : State) (f : Fn) : Bool :=
  let l := if (roundLeft s).isEmpty then (s.mbx.map (fun e => e.1)).filter (mayFetch s) else roundLeft s
  l.contains f && (f == ownerFn || !l.contains ownerFn)
/-- The turn is used; when every mailbox has had its own, the next round begins with it. -/
def useTurn (s : State) (f : Fn) : State :=
  let s := if (roundLeft s).isEmpty then { s with mbx := s.mbx.map (fun e => (e.1, { e.2 with turn := false })) } else s
  onMbx s f (fun m => { m with turn := true })

/-- The request of a 64-byte entry with its parameter buffer (Table 13-2). -/
def entryRequest (f : Fn) (b buf : List Byte) : Request :=
  let raw := match Op.ofCode (leField b 0 2) with | some o => Op.raw o | none => false
  let inline := (List.range 3).map (fun i => BitVec.ofNat 64 (leField b (40 + 8 * i) 8))
  let words := (List.range (buf.length / 8)).map (fun i => BitVec.ofNat 64 (leField buf (8 * i) 8))
  { fn := f, tag := BitVec.ofNat 16 (leField b 2 2), flags := BitVec.ofNat 16 (leField b 4 2), domeGen := BitVec.ofNat 16 (leField b 6 2), etsn := BitVec.ofNat 32 (leField b 8 4),
    cfgGen := BitVec.ofNat 32 (leField b 12 4), rbufAddr := BitVec.ofNat 64 (leField b 32 8), rbufLen := leField b 28 4,
    slots := if raw then inline else inline ++ words, data := if raw then buf else [] }

/-- The parameter buffer: from the host, or from the dome's BAR2 aperture with PBUF_HBM; none where that range has a page that the dome does not hold. -/
def fetchBuf (s : State) (f : Fn) (b host : List Byte) : Option (State × List Byte × Bool) :=
  let n := leField b 24 4
  let ok := decide (n ≤ 16777216) && n % 8 == 0
  if !ok then some (s, [], false)
  else if (leField b 4 2).testBit 5 then
    match s.plan.domeOf f with
    | some d => if bar2Ok s d (leField b 16 8) n false then some (devRead s d (leField b 16 8) n (fnWho f) []) else none
    | none => none
  else if host.length = n then some (s, host, false) else none

/-- Fetching stops on a bus error, which the Logbook records (R380). -/
def fetchStops (s : State) (f : Fn) (b : List Byte) : State :=
  logAdd (onMbx s f (fun m => { m with fetchErr := true }))
    { cls := 2, typ := Config.logType 9, fn := some f, dome := (s.plan.domeOf f).getD 0xFFFF, addr := (mbxOf s f).rqBase + 64 * (mbxOf s f).rqHead, detail := leField b 0 2 }

/-- A request whose fetch found a failure completes with it: at once, or when the FENCE, the fetch order or HALTED that holds it lets go (R387, R388). -/
def failFetched (s : State) (x : InFlight) (r : Reject) : State :=
  let waits := s.dev.st == .halted || fenced s x.req || (match Op.ofCode x.opcode with | some o => !inTurn s o x.req | none => false)
  if waits then { s with inflight := s.inflight.map (fun y => if y == x then { y with verdict := some r } else y) } else finishRej s x.opcode x.req r

/-- A fetched request: one with a tag in flight is not executed; an unknown opcode and a parameter buffer of a wrong length fail; the others are in flight, and a
COMMIT of the owner takes the SH writes (R383, R384, R403, R440). -/
def takeRequest (s : State) (f : Fn) (b buf : List Byte) (bad : Bool) : State :=
  let q := entryRequest f b buf
  let code := leField b 0 2
  let n := leField b 24 4
  if (inflightOf s f).any (fun x => x.req.tag == q.tag) then writeCq s f q.tag.toNat 11 0 code 0xFFFE (tsnOf s.time.tick64) 0 []
  else
    let x : InFlight := { opcode := code, req := q, discard := false }
    let s := { s with inflight := s.inflight ++ [x] }
    if 16777216 < n ∨ n % 8 ≠ 0 ∨ isWin q then failFetched s x (rej .format 0xFFFF)
    else match Op.ofCode code with
      | none => failFetched s x (if headerBadAny s q || q.flags.toNat.testBit 4 then rej .format 0xFFFF else rej .unsupported 0)
      | some o =>
        if bad then failFetched s x (rej .poison 0)
        else if o = .commit ∧ f = ownerFn ∧ !s.regs.sh.isEmpty then { s with regs := { s.regs with sh := [], taken := s.regs.taken ++ [(q.tag.toNat, s.regs.sh)] } }
        else s

/-- REQUEST_FETCH (R380, R382): the next entry of a mailbox whose turn it is, with its parameter buffer, or a bus error. -/
def execRequestFetch (fn : Fn) (entry : List Byte) (buffer : List Byte) (busError : Bool) (s : State) : Host.Outcome State Fault Refusal :=
  if !fnOk fn || entry.length != 64 then .fault .noSuchUnit
  else if !mayFetch s fn || !fetchTurn s fn then .next s
  else if busError then .next (fetchStops s fn entry)
  else match fetchBuf s fn entry buffer with
    | none => .next (fetchStops s fn entry)
    | some r =>
      let s := onMbx (useTurn r.1 fn) fn (fun m => { m with rqHead := (m.rqHead + 1) % ringEntries m.rqSize })
      .next (takeRequest s fn entry r.2.1 r.2.2)

/-- The oldest request of a mailbox that failed at its fetch, waited, and is held by nothing any more. -/
def failedDue (s : State) (f : Fn) : Option (InFlight × Reject) :=
  (inflightOf s f).findSome? (fun x => match x.verdict with
    | some r => if fenced s x.req || (match Op.ofCode x.opcode with | some o => !inTurn s o x.req | none => false) then none else some (x, r)
    | none => none)

/-- FENCE_RELEASE (R387): the oldest held request of a mailbox is decided once every earlier one has completed, and the turn of a kind C, I or M one has come. -/
def execFenceRelease (fn : Fn) (s : State) : Host.Outcome State Fault Refusal :=
  if !fnOk fn then .fault .noSuchUnit
  else if s.dev.st = .halted then .next s
  else match failedDue s fn with
    | some x => .next (finishRej { s with held := s.held.filter (fun y => y.2 != x.1.req) } x.1.opcode x.1.req x.2)
    | none =>
      match s.held.find? (fun x => x.2.fn == fn) with
      | some x => .next (if fenced s x.2 || !inTurn s x.1 x.2 then s else serveNow { s with held := s.held.erase x } x.1 x.2 true)
      | none => .next s

/-- The set admitted as number `k` keeps the next-hop addresses of its streams until it applies (R308). -/
def keepMacs (k : Nat) (l : NextHops) (s : State) : State :=
  { s with psets := s.psets.map (fun (x : PSet) => if x.order = k then { x with macs := l.map (fun (e : Nat × BitVec 48) => (e.1, e.2.toNat)) } else x) }

/-- ARP_RESOLVE_DONE (R308): the next-hop addresses of a waiting request, by stream, or a failure after 1 s, which completes it with TIMEOUT. A request that is then
rejected leaves no address behind (R8); in HALTED the request waits on and asks again (log entry 34). -/
def execArpResolveDone (fn : Fn) (tag : BitVec 16) (macs : Option NextHops) (s : State) : Host.Outcome State Fault Refusal :=
  if !fnOk fn then .fault .noSuchUnit
  else match s.resolving.find? (fun x => x.2.fn == fn && x.2.tag == tag) with
    | none => .next s
    | some x =>
      let s := { s with resolving := s.resolving.erase x }
      let d := (s.plan.domeOf fn).getD devDome
      match macs with
      | none => .next (if x.1 = .commit then commitFails s x.2 d (rej .timeout 0) else refuse s x.1 x.2 (rej .timeout 0))
      | some l =>
        if s.dev.st = .halted then .next { s with held := s.held ++ [x] }
        else
          let t := serveNow s x.1 x.2 false
          .next (if t.admits = s.admits then t else keepMacs s.admits l t)

/-! ### The opcodes (R403): each decides its request -/

/-- NOP (R403). Query that does nothing and completes with RESULT 0. -/
def execNop (q : Request) (s : State) : Host.Outcome State Fault Refusal := .next (serve .nop q s)
/-- CAPABILITY (R405). Returns the capability record. -/
def execCapability (q : Request) (s : State) : Host.Outcome State Fault Refusal := .next (serve .capability q s)
/-- COMMIT (R390). Admits the staged set and SH writes as one configuration at effective tick e. -/
def execCommit (q : Request) (s : State) : Host.Outcome State Fault Refusal := .next (serve .commit q s)
/-- GROUP_ABORT (R390). Discards the staged set and D0's pending SH writes. -/
def execGroupAbort (q : Request) (s : State) : Host.Outcome State Fault Refusal := .next (serve .groupAbort q s)
/-- CANCEL (R391). Cancels a pending set if decided before tick e − 1. -/
def execCancel (q : Request) (s : State) : Host.Outcome State Fault Refusal := .next (serve .cancel q s)
/-- STATUS (R406). Returns the status record. -/
def execStatus (q : Request) (s : State) : Host.Outcome State Fault Refusal := .next (serve .status q s)
/-- STATE_SET (R28). Owner command that moves the device between states at a named tick. -/
def execStateSet (q : Request) (s : State) : Host.Outcome State Fault Refusal := .next (serve .stateSet q s)
/-- TICK_PERIOD (R38). Changes the tick multiple M at an effective tick in CALIBRATE or MAINTENANCE. -/
def execTickPeriod (q : Request) (s : State) : Host.Outcome State Fault Refusal := .next (serve .tickPeriod q s)
/-- EPOCH (R60). Sets, aligns or shifts the tick epoch at an effective tick. -/
def execEpoch (q : Request) (s : State) : Host.Outcome State Fault Refusal := .next (serve .epoch q s)
/-- TIME_READ (R403). Returns science time, house time, TICK64 and tick phase. -/
def execTimeRead (q : Request) (s : State) : Host.Outcome State Fault Refusal := .next (serve .timeRead q s)
/-- TDC_CONFIG (R64). Configures an external TDC channel. -/
def execTdcConfig (q : Request) (s : State) : Host.Outcome State Fault Refusal := .next (serve .tdcConfig q s)
/-- TDC_PAIR (R69). Defines a TDC difference pair. -/
def execTdcPair (q : Request) (s : State) : Host.Outcome State Fault Refusal := .next (serve .tdcPair q s)
/-- TDC_STATS (R403). Returns TDC counters and pair reports. -/
def execTdcStats (q : Request) (s : State) : Host.Outcome State Fault Refusal := .next (serve .tdcStats q s)
/-- CLOCK_CORE (R76). Sets the core ADPLL input SRC_SEL and REF_FREQ. -/
def execClockCore (q : Request) (s : State) : Host.Outcome State Fault Refusal := .next (serve .clockCore q s)
/-- CLOCK_OUTPUT (R82). Sets every field of one clock output at its effective tick. -/
def execClockOutput (q : Request) (s : State) : Host.Outcome State Fault Refusal := .next (serve .clockOutput q s)
/-- PORT_CONFIG (R89). Configures or removes a port as part of the feed plan. -/
def execPortConfig (q : Request) (s : State) : Host.Outcome State Fault Refusal := .next (serve .portConfig q s)
/-- PORT_STATS (R121). Returns a port's receive counters. -/
def execPortStats (q : Request) (s : State) : Host.Outcome State Fault Refusal := .next (serve .portStats q s)
/-- PORT_MGMT_SEND (R93). Sends one frame through the port management queue and returns its transmit time. -/
def execPortMgmtSend (q : Request) (s : State) : Host.Outcome State Fault Refusal := .next (serve .portMgmtSend q s)
/-- PORT_MGMT_RECV (R93). Returns frames from the port management queue with their receive times. -/
def execPortMgmtRecv (q : Request) (s : State) : Host.Outcome State Fault Refusal := .next (serve .portMgmtRecv q s)
/-- FEED_DEFINE (R106). Defines or changes a feed in the feed plan. -/
def execFeedDefine (q : Request) (s : State) : Host.Outcome State Fault Refusal := .next (serve .feedDefine q s)
/-- FEED_DELETE (R116). Removes a feed at its effective tick. -/
def execFeedDelete (q : Request) (s : State) : Host.Outcome State Fault Refusal := .next (serve .feedDelete q s)
/-- FEED_STATS (R122). Returns a feed's counters and status fields. -/
def execFeedStats (q : Request) (s : State) : Host.Outcome State Fault Refusal := .next (serve .feedStats q s)
/-- FEED_CONDITION (R149). Sets a feed's conditioning parameters from sample tick e. -/
def execFeedCondition (q : Request) (s : State) : Host.Outcome State Fault Refusal := .next (serve .feedCondition q s)
/-- COEF_LOAD (R134). Writes the staged decimator coefficient region of a feed. -/
def execCoefLoad (q : Request) (s : State) : Host.Outcome State Fault Refusal := .next (serve .coefLoad q s)
/-- COEF_SWAP (R134). Schedules the coefficient swap at SWAP_SAMPLE. -/
def execCoefSwap (q : Request) (s : State) : Host.Outcome State Fault Refusal := .next (serve .coefSwap q s)
/-- DELAY_POLY (R137). Queues a delay polynomial record for a feed. -/
def execDelayPoly (q : Request) (s : State) : Host.Outcome State Fault Refusal := .next (serve .delayPoly q s)
/-- COARSE_DEFINE (R150). Sets the coarse channeliser definition of a feed. -/
def execCoarseDefine (q : Request) (s : State) : Host.Outcome State Fault Refusal := .next (serve .coarseDefine q s)
/-- PFB_COEF_LOAD (R156). Loads entries of a custom prototype coefficient set. -/
def execPfbCoefLoad (q : Request) (s : State) : Host.Outcome State Fault Refusal := .next (serve .pfbCoefLoad q s)
/-- SK_DEFINE (R172). Defines or changes spectral kurtosis in feed or instrument scope. -/
def execSkDefine (q : Request) (s : State) : Host.Outcome State Fault Refusal := .next (serve .skDefine q s)
/-- SK_DELETE (R176). Deletes an SK definition, closing its block in progress. -/
def execSkDelete (q : Request) (s : State) : Host.Outcome State Fault Refusal := .next (serve .skDelete q s)
/-- INSTR_DEFINE (R43). Defines and admits an instrument of a dome. -/
def execInstrDefine (q : Request) (s : State) : Host.Outcome State Fault Refusal := .next (serve .instrDefine q s)
/-- INSTR_MODIFY (R633). Changes an instrument, or places an unplaced one again. -/
def execInstrModify (q : Request) (s : State) : Host.Outcome State Fault Refusal := .next (serve .instrModify q s)
/-- INSTR_DELETE (R633). Removes an instrument. -/
def execInstrDelete (q : Request) (s : State) : Host.Outcome State Fault Refusal := .next (serve .instrDelete q s)
/-- INSTR_STATS (R204). Returns an instrument's counters, placement and admission figures. -/
def execInstrStats (q : Request) (s : State) : Host.Outcome State Fault Refusal := .next (serve .instrStats q s)
/-- ZOOM_DEFINE (R166). Defines a zoom window and places it. -/
def execZoomDefine (q : Request) (s : State) : Host.Outcome State Fault Refusal := .next (serve .zoomDefine q s)
/-- ZOOM_DELETE (R166). Deletes a zoom window. -/
def execZoomDelete (q : Request) (s : State) : Host.Outcome State Fault Refusal := .next (serve .zoomDelete q s)
/-- RQ_GAIN_LOAD (R181). Writes a range of a requantiser's staged gain bank. -/
def execRqGainLoad (q : Request) (s : State) : Host.Outcome State Fault Refusal := .next (serve .rqGainLoad q s)
/-- RQ_GAIN_SWAP (R181). Schedules a requantiser gain swap at SWAP_TICK. -/
def execRqGainSwap (q : Request) (s : State) : Host.Outcome State Fault Refusal := .next (serve .rqGainSwap q s)
/-- RQ_STATS (R183). Returns requantiser counters, optionally clearing RQ_CLIP_CH. -/
def execRqStats (q : Request) (s : State) : Host.Outcome State Fault Refusal := .next (serve .rqStats q s)
/-- BEAM_WEIGHT_LOAD (R228). Writes a range of a beamformer's staged weight bank. -/
def execBeamWeightLoad (q : Request) (s : State) : Host.Outcome State Fault Refusal := .next (serve .beamWeightLoad q s)
/-- BEAM_WEIGHT_SWAP (R228). Schedules a beam weight swap at SWAP_TICK. -/
def execBeamWeightSwap (q : Request) (s : State) : Host.Outcome State Fault Refusal := .next (serve .beamWeightSwap q s)
/-- RESULT_ACK (R199). Releases HBM ring slots up to the named sequence. -/
def execResultAck (q : Request) (s : State) : Host.Outcome State Fault Refusal := .next (serve .resultAck q s)
/-- MASK_DEFINE (R248). Defines a frequency or sweep mask. -/
def execMaskDefine (q : Request) (s : State) : Host.Outcome State Fault Refusal := .next (serve .maskDefine q s)
/-- MASK_LOAD (R250). Writes a range of a mask's staged bank. -/
def execMaskLoad (q : Request) (s : State) : Host.Outcome State Fault Refusal := .next (serve .maskLoad q s)
/-- MASK_SWAP (R250). Schedules a mask bank swap at SWAP_TICK. -/
def execMaskSwap (q : Request) (s : State) : Host.Outcome State Fault Refusal := .next (serve .maskSwap q s)
/-- MASK_ARM (R253). Re-arms a SINGLE mask from its effective tick. -/
def execMaskArm (q : Request) (s : State) : Host.Outcome State Fault Refusal := .next (serve .maskArm q s)
/-- MASK_DELETE (R244). Deletes a mask. -/
def execMaskDelete (q : Request) (s : State) : Host.Outcome State Fault Refusal := .next (serve .maskDelete q s)
/-- PLATE_DEFINE (R265). Defines a Plate and reports its sub-sampling factor. -/
def execPlateDefine (q : Request) (s : State) : Host.Outcome State Fault Refusal := .next (serve .plateDefine q s)
/-- PLATE_CLEAR (R271). Sets every count of a Plate to 0 at its first sample tick. -/
def execPlateClear (q : Request) (s : State) : Host.Outcome State Fault Refusal := .next (serve .plateClear q s)
/-- PLATE_DELETE (R244). Deletes a Plate. -/
def execPlateDelete (q : Request) (s : State) : Host.Outcome State Fault Refusal := .next (serve .plateDelete q s)
/-- SWEEP_GAIN_LOAD (R259). Writes a range of a sweep mask's staged gain bank. -/
def execSweepGainLoad (q : Request) (s : State) : Host.Outcome State Fault Refusal := .next (serve .sweepGainLoad q s)
/-- SWEEP_GAIN_SWAP (R259). Schedules a sweep gain swap at SWAP_TICK. -/
def execSweepGainSwap (q : Request) (s : State) : Host.Outcome State Fault Refusal := .next (serve .sweepGainSwap q s)
/-- CAPTURE_FORCE (R286). Produces a MANUAL trigger at the first unit of sample tick e − λ_c. -/
def execCaptureForce (q : Request) (s : State) : Host.Outcome State Fault Refusal := .next (serve .captureForce q s)
/-- CAPTURE_ARM (R292). Re-arms a REARM = MANUAL capture. -/
def execCaptureArm (q : Request) (s : State) : Host.Outcome State Fault Refusal := .next (serve .captureArm q s)
/-- CAPTURE_READ (R299). Copies a byte range of a record to a host buffer or a stream, per stack part. -/
def execCaptureRead (q : Request) (s : State) : Host.Outcome State Fault Refusal := .next (serve .captureRead q s)
/-- CAPTURE_RELEASE (R300). Releases closed records up to the named RECORD_SEQ. -/
def execCaptureRelease (q : Request) (s : State) : Host.Outcome State Fault Refusal := .next (serve .captureRelease q s)
/-- STREAM_DEFINE (R305). Defines an egress stream and reports B_max. -/
def execStreamDefine (q : Request) (s : State) : Host.Outcome State Fault Refusal := .next (serve .streamDefine q s)
/-- STREAM_MODIFY (R305). Changes a stream, optionally resetting a RoCE queue pair. -/
def execStreamModify (q : Request) (s : State) : Host.Outcome State Fault Refusal := .next (serve .streamModify q s)
/-- STREAM_DELETE (R307). Deletes a stream that has no producer. -/
def execStreamDelete (q : Request) (s : State) : Host.Outcome State Fault Refusal := .next (serve .streamDelete q s)
/-- STREAM_STATS (R343). Returns a stream's counters. -/
def execStreamStats (q : Request) (s : State) : Host.Outcome State Fault Refusal := .next (serve .streamStats q s)
/-- STREAM_CREDIT (R325). Gives the storage server's read offset for a CREDIT = HOST stream. -/
def execStreamCredit (q : Request) (s : State) : Host.Outcome State Fault Refusal := .next (serve .streamCredit q s)
/-- APERTURE_CREATE (R335). Creates, or with ADOPT re-establishes, an aperture at its lead. -/
def execApertureCreate (q : Request) (s : State) : Host.Outcome State Fault Refusal := .next (serve .apertureCreate q s)
/-- APERTURE_LINK (R335). Joins a local port to a peer device as an aperture link. -/
def execApertureLink (q : Request) (s : State) : Host.Outcome State Fault Refusal := .next (serve .apertureLink q s)
/-- APERTURE_DELETE (R342). Removes an aperture, or applies locally at a member that has lost its lead. -/
def execApertureDelete (q : Request) (s : State) : Host.Outcome State Fault Refusal := .next (serve .apertureDelete q s)
/-- APERTURE_STATS (R343). Returns link and aperture counters. -/
def execApertureStats (q : Request) (s : State) : Host.Outcome State Fault Refusal := .next (serve .apertureStats q s)
/-- SEXTANT_LOAD (R371). Checks an image and claims a Sextant or stages the image. -/
def execSextantLoad (q : Request) (s : State) : Host.Outcome State Fault Refusal := .next (serve .sextantLoad q s)
/-- SEXTANT_ATTACH (R365). Binds a Sextant to its instrument, inputs and outputs. -/
def execSextantAttach (q : Request) (s : State) : Host.Outcome State Fault Refusal := .next (serve .sextantAttach q s)
/-- SEXTANT_SWAP (R372). Schedules the staged image to go into service. -/
def execSextantSwap (q : Request) (s : State) : Host.Outcome State Fault Refusal := .next (serve .sextantSwap q s)
/-- SEXTANT_PARAM (R377). Stages PARAM data to be copied at an item start. -/
def execSextantParam (q : Request) (s : State) : Host.Outcome State Fault Refusal := .next (serve .sextantParam q s)
/-- SEXTANT_EVENTS (R363). Sets a Sextant's subscribed and producer channels. -/
def execSextantEvents (q : Request) (s : State) : Host.Outcome State Fault Refusal := .next (serve .sextantEvents q s)
/-- SEXTANT_RELEASE (R346). Ends a Sextant lease with a scrub. -/
def execSextantRelease (q : Request) (s : State) : Host.Outcome State Fault Refusal := .next (serve .sextantRelease q s)
/-- SEXTANT_STATS (R377). Returns a Sextant's counters. -/
def execSextantStats (q : Request) (s : State) : Host.Outcome State Fault Refusal := .next (serve .sextantStats q s)
/-- DOME_CREATE (R412). Creates a dome bound to one VF. -/
def execDomeCreate (q : Request) (s : State) : Host.Outcome State Fault Refusal := .next (serve .domeCreate q s)
/-- DOME_GRANT (R416). Sets one grant ceiling of a dome. -/
def execDomeGrant (q : Request) (s : State) : Host.Outcome State Fault Refusal := .next (serve .domeGrant q s)
/-- DOME_PRIORITY (R417). Sets a dome's placement priority. -/
def execDomePriority (q : Request) (s : State) : Host.Outcome State Fault Refusal := .next (serve .domePriority q s)
/-- DOME_RESET (R423). Bumps a dome's generation and starts removing everything it has built. -/
def execDomeReset (q : Request) (s : State) : Host.Outcome State Fault Refusal := .next (serve .domeReset q s)
/-- DOME_DELETE (R413). Resets a dome with scrub and frees its number. -/
def execDomeDelete (q : Request) (s : State) : Host.Outcome State Fault Refusal := .next (serve .domeDelete q s)
/-- DOME_QUERY (R412). Returns a dome's binding, generation, priority and grants. -/
def execDomeQuery (q : Request) (s : State) : Host.Outcome State Fault Refusal := .next (serve .domeQuery q s)
/-- LOGBOOK_READ (R430). Returns Logbook entries from RAM or flash. -/
def execLogbookRead (q : Request) (s : State) : Host.Outcome State Fault Refusal := .next (serve .logbookRead q s)
/-- METER_CONFIG (R432). Sets the accounting interval grid, closing open intervals. -/
def execMeterConfig (q : Request) (s : State) : Host.Outcome State Fault Refusal := .next (serve .meterConfig q s)
/-- RATE_CLASS (R434). Changes a dome's rate class, starting a new segment. -/
def execRateClass (q : Request) (s : State) : Host.Outcome State Fault Refusal := .next (serve .rateClass q s)
/-- METER_READ (R433). Returns interval records from flash or the open interval. -/
def execMeterRead (q : Request) (s : State) : Host.Outcome State Fault Refusal := .next (serve .meterRead q s)
/-- EVENT_ROUTE (R471). Adds or removes a route of a numbered source to a channel. -/
def execEventRoute (q : Request) (s : State) : Host.Outcome State Fault Refusal := .next (serve .eventRoute q s)
/-- LUT_CONFIG (R472). Configures a channel, LUT cell, EV pin or the suppression window. -/
def execLutConfig (q : Request) (s : State) : Host.Outcome State Fault Refusal := .next (serve .lutConfig q s)
/-- EVENT_MSIX (R480). Maps an event channel to an MSI-X vector of the function. -/
def execEventMsix (q : Request) (s : State) : Host.Outcome State Fault Refusal := .next (serve .eventMsix q s)
/-- EVENT_STATS (R482). Returns a channel's event, merge, suppression and overrun counts. -/
def execEventStats (q : Request) (s : State) : Host.Outcome State Fault Refusal := .next (serve .eventStats q s)
/-- HBM_CONFIG (R504). Sets HBM controller parameters and stages address masks. -/
def execHbmConfig (q : Request) (s : State) : Host.Outcome State Fault Refusal := .next (serve .hbmConfig q s)
/-- HBM_STATS (R505). Returns HBM counters, masks, page counts and bookings. -/
def execHbmStats (q : Request) (s : State) : Host.Outcome State Fault Refusal := .next (serve .hbmStats q s)
/-- HEALTH_READ (R530). Returns tile and sector health entries. -/
def execHealthRead (q : Request) (s : State) : Host.Outcome State Fault Refusal := .next (serve .healthRead q s)
/-- QUALITY_READ (R529). Returns the quality figures. -/
def execQualityRead (q : Request) (s : State) : Host.Outcome State Fault Refusal := .next (serve .qualityRead q s)
/-- CALIBRATE (R525). Starts a calibration of the named scope and unit. -/
def execCalibrate (q : Request) (s : State) : Host.Outcome State Fault Refusal := .next (serve .calibrate q s)
/-- RESERVE_SWAP (R531). Swaps or withdraws a tile, or forces a control-processor takeover. -/
def execReserveSwap (q : Request) (s : State) : Host.Outcome State Fault Refusal := .next (serve .reserveSwap q s)
/-- ADC_CONFIG (R536). Programs the ADC sequence. -/
def execAdcConfig (q : Request) (s : State) : Host.Outcome State Fault Refusal := .next (serve .adcConfig q s)
/-- ADC_CALIBRATE (R535). Starts an ADC self-calibration. -/
def execAdcCalibrate (q : Request) (s : State) : Host.Outcome State Fault Refusal := .next (serve .adcCalibrate q s)
/-- ADC_READ (R539). Returns ADC results, optionally clearing OVR. -/
def execAdcRead (q : Request) (s : State) : Host.Outcome State Fault Refusal := .next (serve .adcRead q s)
/-- DAC_CONFIG (R541). Configures a control DAC and returns its status. -/
def execDacConfig (q : Request) (s : State) : Host.Outcome State Fault Refusal := .next (serve .dacConfig q s)
/-- DAC_QUEUE (R543). Appends entries to or replaces the loop of a DAC queue. -/
def execDacQueue (q : Request) (s : State) : Host.Outcome State Fault Refusal := .next (serve .dacQueue q s)
/-- EYEPIECE_CONFIG (R549). Configures the Eyepiece link, timing, surface and windows. -/
def execEyepieceConfig (q : Request) (s : State) : Host.Outcome State Fault Refusal := .next (serve .eyepieceConfig q s)
/-- PALETTE_LOAD (R550). Loads palette entries, applied from the next pixel. -/
def execPaletteLoad (q : Request) (s : State) : Host.Outcome State Fault Refusal := .next (serve .paletteLoad q s)
/-- TRANSFER_LOAD (R551). Loads a transfer table, applied from the next pixel. -/
def execTransferLoad (q : Request) (s : State) : Host.Outcome State Fault Refusal := .next (serve .transferLoad q s)
/-- RECT_CONFIG (R554). Sets a CRC-checked rectangle. -/
def execRectConfig (q : Request) (s : State) : Host.Outcome State Fault Refusal := .next (serve .rectConfig q s)
/-- UPDATE_BEGIN (R572). Opens or resumes a folio transfer into the target slot. -/
def execUpdateBegin (q : Request) (s : State) : Host.Outcome State Fault Refusal := .next (serve .updateBegin q s)
/-- FOLIO_WRITE (R573). Checks and programs one folio of the image. -/
def execFolioWrite (q : Request) (s : State) : Host.Outcome State Fault Refusal := .next (serve .folioWrite q s)
/-- UPDATE_STATUS (R587). Returns the update status record. -/
def execUpdateStatus (q : Request) (s : State) : Host.Outcome State Fault Refusal := .next (serve .updateStatus q s)
/-- UPDATE_ACTIVATE (R576). Activates a READY target by reset or by live handover. -/
def execUpdateActivate (q : Request) (s : State) : Host.Outcome State Fault Refusal := .next (serve .updateActivate q s)
/-- UPDATE_CONFIRM (R581). Confirms the running unconfirmed image and raises the SVN floor. -/
def execUpdateConfirm (q : Request) (s : State) : Host.Outcome State Fault Refusal := .next (serve .updateConfirm q s)
/-- UPDATE_ABORT (R583). Abandons the update in progress. -/
def execUpdateAbort (q : Request) (s : State) : Host.Outcome State Fault Refusal := .next (serve .updateAbort q s)
/-- DEBUG_UNLOCK (R596). Presents a debug token that may unlock the SDP. -/
def execDebugUnlock (q : Request) (s : State) : Host.Outcome State Fault Refusal := .next (serve .debugUnlock q s)
/-- DEBUG_LOCK (R597). Locks the SDP and returns a new CHALLENGE. -/
def execDebugLock (q : Request) (s : State) : Host.Outcome State Fault Refusal := .next (serve .debugLock q s)

end Sys2Proof.Machine
end

