-- ==== Sys2Proof/Machine/SdpPort.lean ====
section
/-! DEFINITION. SdpPort.lean: the serial debug port's commands, and PWR_FAIL_N (R592 to R601, R612). Leaving HALTED decides what waited (R388). -/
namespace Sys2Proof.Machine

/-- The debug ports work outside COLD. -/
def powered (s : State) (t : State) : Host.Outcome State Fault Refusal := if s.dev.st = .cold then .next s else .next (afterHalt s t)

/-- SDP_TRANSACTION (R592, R593): a request with a parity error, and one in COLD, is not acknowledged. -/
def execSdpTransaction (rnw : Bool) (target addr : Nat) (parityOk : Bool) (data : Word) (dataOk : Bool) (s : State) : Host.Outcome State Fault Refusal :=
  if 128 ≤ target ∨ 2 ^ 16 ≤ addr then .fault .noSuchUnit
  else if !parityOk then .next s
  else powered s (sdpAccess s rnw target addr data dataOk)

/-- TOKEN_DATA_WRITE (R596); during a check it receives WAIT. -/
def execTokenDataWrite (w : Word) (s : State) : Host.Outcome State Fault Refusal := powered s (if s.dbg.checking then s else tokenData s w)
/-- TOKEN_GO_WRITE (R596). -/
def execTokenGoWrite (w : Word) (s : State) : Host.Outcome State Fault Refusal := powered s (if s.dbg.checking then s else tokenGo s w)
/-- TOKEN_CHECK_DONE (R596). -/
def execTokenCheckDone (s : State) : Host.Outcome State Fault Refusal := powered s (tokenDone s)
/-- SDP_LOCK_WRITE (R597). -/
def execSdpLockWrite (w : Word) (s : State) : Host.Outcome State Fault Refusal := powered s (if s.dbg.checking ∨ w ≠ 1 then s else sdpLock s)
/-- TOKEN_EXPIRY: house time has passed EXPIRES (R597). -/
def execTokenExpiry (s : State) : Host.Outcome State Fault Refusal := powered s (if s.dbg.locked || !ct64Earlier s.dbg.expires (houseCt64 s) then s else sdpLock s)

/-- DBG_HALT: a write of HALT to an engine's DBG_CTRL (R599, R600). -/
def execDbgHalt (target : Nat) (s : State) : Host.Outcome State Fault Refusal := if !isEngine target then .fault .noSuchUnit else powered s (dbgCtrl s target 1)
/-- DBG_RESUME: a write of RESUME (R600). -/
def execDbgResume (target : Nat) (s : State) : Host.Outcome State Fault Refusal := if !isEngine target then .fault .noSuchUnit else powered s (dbgCtrl s target 2)
/-- DBG_STEP: a write of STEP (R599). -/
def execDbgStep (target : Nat) (s : State) : Host.Outcome State Fault Refusal := if !isEngine target then .fault .noSuchUnit else powered s (dbgCtrl s target 4)

/-- PWR_FAIL_ASSERT (R612): source 1352, the flush, the metering close, and every control processor resumes without its breakpoints (R600). -/
def execPwrFailAssert (s : State) : Host.Outcome State Fault Refusal :=
  let t := raiseEv s 1352 1344
  let t := onBoot { t with meter := { t.meter with powerFail := true } } (fun b => { b with flush := true })
  powered s (cpResumeAll t false)

/-- PWR_FAIL_DEASSERT (R612, R435): metering resumes at the next boundary, and the Logbook records the event. -/
def execPwrFailDeassert (s : State) : Host.Outcome State Fault Refusal :=
  if s.dev.st = .cold ∨ !s.meter.powerFail then .next s
  else .next (folioDrain (logAdd { s with meter := { s.meter with powerFail := false } } { cls := 2, typ := causeId 0x3F 8 }))

end Sys2Proof.Machine
end

