-- ==== Sys2Proof/Machine/Registers.lean ====
section
/-! DEFINITION. Registers.lean: BAR0 and BAR4: the windows, the unlock, the indirect spaces, commit, the configuration check and the vote (R437 to R457). -/
namespace Sys2Proof.Machine

/-! ### The OWNER window (R440, R443, R444, R450, R457) -/

/-- A write to an OWNER register from another function is violation 0x01 (R438). -/
def onOwner (s : State) (f : Fn) (off : Nat) (g : State → State) : Host.Outcome State Fault Refusal :=
  if !fnOk f then .fault .noSuchUnit
  else if s.dev.st = .cold then .next s
  else if f = ownerFn then .next (g s) else .next (violation s 1 f off)

/-- A write of UNLOCK: the key arms the unlock, any other value is refused (R443). -/
def unlockWrite (s : State) (w : Word) : State :=
  if w = 0x7A3DC915#32 then (let t := ownerWrite s 0x100000 0 w.toNat; { t with regs := { t.regs with armed := true } }) else keyRefused s 0x100000
/-- A write of SW_RESET: with the unlock armed it schedules the reset and starts the flush (R443, R613). -/
def swResetWrite (s : State) (w : Word) : State :=
  if s.regs.armed then
    let s := ownerWrite s 0x100300 0 w.toNat
    if bit w.toNat 0 then onBoot s (fun b => { b with swReset := true, flush := true }) else s
  else keyRefused s 0x100300
/-- LANE_EN as a read of the SH register shows it: the pending value, or the applied one (Table 15-1). -/
def laneEnReg (s : State) (k : Nat) : Word := ((s.regs.sh.find? (fun e => e.1 == k)).map (fun e => e.2)).getD (s.plan.laneEn.getD k 0)
/-- A write of LANE_ENk replaces its pending value (R440). -/
def shWrite (s : State) (k : Nat) (w : Word) : State :=
  let t := ownerWrite s (0x100100 + 4 * k) (laneEnReg s k).toNat w.toNat
  { t with regs := { t.regs with sh := t.regs.sh.filter (fun e => e.1 != k) ++ [(k, w)] } }

/-- UNLOCK_WRITE (R443). -/
def execUnlockWrite (fn : Fn) (w : Word) (s : State) : Host.Outcome State Fault Refusal := onOwner s fn 0x100000 (fun s => unlockWrite s w)
/-- UNLOCK_EXPIRY (R443): 100 µs after the UNLOCK write. -/
def execUnlockExpiry (s : State) : Host.Outcome State Fault Refusal := .next { s with regs := { s.regs with armed := false } }
/-- SW_RESET_WRITE (R443). -/
def execSwResetWrite (fn : Fn) (w : Word) (s : State) : Host.Outcome State Fault Refusal := onOwner s fn 0x100300 (fun s => swResetWrite s w)
/-- SH_REGISTER_WRITE (R440): LANE_ENk. -/
def execShRegisterWrite (fn : Fn) (k : Nat) (w : Word) (s : State) : Host.Outcome State Fault Refusal :=
  if 4 ≤ k then .fault .noSuchUnit else onOwner s fn (0x100100 + 4 * k) (fun s => shWrite s k w)

/-- Units and words per unit of an indirect space (Table 15-2). -/
def idxShape : Nat → Option (Nat × Nat)
  | 0x01 => some (68, 16384) | 0x02 => some (68, 4096) | 0x03 => some (1, 64) | 0x04 => some (128, 1024) | 0x05 => some (1024, 1024)
  | 0x06 => some (8, 65536) | 0x07 => some (32, 64) | 0x08 => some (384, 64) | 0x09 => some (256, 256) | 0x0A => some (3, 4096)
  | 0x0B => some (1, 65536) | 0x0C => some (1, 4096) | 0x0D => some (72, 256) | 0x0E => some (4, 256) | _ => none

/-- The Ephemeris region as flash holds it: the two halves of 128 KiB, erased flash reading ones (R522, R524). -/
def ephByte (s : State) (x : Nat) : Byte := (((s.care.halves.getD (x / 131072) []).flatMap EphRec.bytes)[x % 131072]?).getD 0xFF
/-- A word of a space. The spec places the words of MAP and of EPHEMERIS; it gives no word numbers for the others, whose words are free values. -/
def idxWord (s : State) (space unit word : Nat) : Nat × State :=
  if space = 0x03 then ((if s.dev.goneTiles.contains word then 0xFFFFFFFF else s.dev.tileMap.getD word 0), s)
  else if space = 0x0B then (ofLe ((List.range 4).map (fun i => ephByte s (4 * word + i))), s)
  else
    match s.regs.idxLatch with
    | some l => if l.1 = (space * 2048 + unit) * 65536 + word then (l.2, s) else fresh s
    | none => fresh s
where
  fresh (s : State) : Nat × State :=
    let (x, s) := drawNat s
    if word % 2 = 0 then
      let (y, s) := drawNat s
      (x % 2 ^ 32, { s with regs := { s.regs with idxLatch := some ((space * 2048 + unit) * 65536 + word + 1, y % 2 ^ 32) } })
    else (x % 2 ^ 32, s)

/-- After an access WORD advances; past 0xFFFF it wraps within the unit (R444). -/
def idxStep (s : State) : State :=
  let a := s.regs.idxAddr
  let wrap := a % 65536 == 65535
  { s with regs := { s.regs with idxAddr := if wrap then a - 65535 else a + 1, idxStat := s.regs.idxStat ||| (4 * b2n wrap) } }
/-- Set sticky bits of IDX_STAT. -/
def idxFlag (s : State) (n : Nat) : State := { s with regs := { s.regs with idxStat := s.regs.idxStat ||| n } }
/-- Is the word at IDX_ADDR inside its space? -/
def idxIn (s : State) : Bool :=
  let a := s.regs.idxAddr
  match idxShape (bits a 31 27) with | some (u, w) => decide (bits a 26 16 < u) && decide (bits a 15 0 < w) | none => false
/-- A read of IDX_DATA (R444). -/
def idxRead (s : State) : Nat × State :=
  let a := s.regs.idxAddr
  if idxIn s then (let r := idxWord s (bits a 31 27) (bits a 26 16) (bits a 15 0); (r.1, idxStep r.2))
  else (0xFFFFFFFF, idxStep (idxFlag s 2))
/-- A write of IDX_DATA: every space is read-only in release 1.2 (R444). -/
def idxWrite (s : State) (w : Word) : State :=
  let s := ownerWrite s 0x100014 0 w.toNat
  idxStep (idxFlag s (if idxIn s then 1 else 2))

/-- IDX_DATA_ACCESS (R444): a read by the owner, or a write. -/
def execIdxDataAccess (fn : Fn) (write : Option Word) (s : State) : Host.Outcome State Fault Refusal :=
  match write with
  | some w => onOwner s fn 0x100014 (fun s => idxWrite s w)
  | none =>
    if !fnOk fn then .fault .noSuchUnit
    else if s.dev.st = .cold then .next s
    else if fn = ownerFn then (let r := idxRead s; .next (answer r.2 fn 0 0x100014 (.word r.1)))
    else .next (answer (violation s 1 fn 0x100014) fn 0 0x100014 .completerAbort)

/-! ### COMMIT (R441, R442) -/

/-- A function's COMMIT window. -/
def commitOf (s : State) (f : Fn) : CommitWin := tgetD s.regs.commits f CommitWin.reset
/-- Change it. -/
def onCommit (s : State) (f : Fn) (g : CommitWin → CommitWin) : State := { s with regs := { s.regs with commits := tmod s.regs.commits f CommitWin.reset g } }
/-- The request that a GO write stands for: the function's staged set, the ETICK that it names, and the owner's CRC_REF. -/
def winRequest (s : State) (f : Fn) (d : Nat) (w : Word) : Request :=
  let et := bit w.toNat 1
  { fn := f, tag := BitVec.ofNat 16 winTag, flags := BitVec.ofNat 16 (b2n et), domeGen := BitVec.ofNat 16 (genOf s d), etsn := if et then BitVec.ofNat 32 (commitOf s f).etsn else 0,
    cfgGen := 0, rbufAddr := 0, rbufLen := 0, slots := [if f = ownerFn then BitVec.ofNat 64 s.regs.crcRef else 0, 0, 0], data := [] }
/-- A write of COMMIT_CTRL: GO commits, and while BUSY the write is LOST (R441, R442). -/
def commitGo (s : State) (f : Fn) (d : Nat) (w : Word) : State :=
  if (commitOf s f).busy then onCommit s f (fun c => { c with lost := true })
  else if !bit w.toNat 0 then s
  else
    let q := winRequest s f d w
    let s := onCommit s f (fun c => { c with busy := true })
    let s := if f = ownerFn then { s with regs := { s.regs with crcRef := 0, sh := [], taken := s.regs.taken ++ (if s.regs.sh.isEmpty then [] else [(winTag, s.regs.sh)]) } } else s
    if s.dev.st = .halted then { s with held := s.held ++ [(Op.commit, q)] } else serveNow s .commit q true

/-- Functions that have COMMIT, DMA and EVT windows: those bound to a dome (Table 15-5). -/
def onDomeWindow (s : State) (f : Fn) (off : Nat) (g : State → Nat → State) : Host.Outcome State Fault Refusal :=
  if !fnOk f then .fault .noSuchUnit
  else if s.dev.st = .cold then .next s
  else match s.plan.domeOf f with
    | some d => .next (g s d)
    | none => .next (noWindow s f off)

/-- COMMIT_CTRL_GO (R441). -/
def execCommitCtrlGo (fn : Fn) (w : Word) (s : State) : Host.Outcome State Fault Refusal := onDomeWindow s fn 0x2000 (fun s d => commitGo s fn d w)

/-! ### TIME (R456) -/

/-- A write of TIME_LATCH, `fs` into the running tick. -/
def timeLatch (s : State) (f : Fn) (fs : Nat) : State :=
  let t := s.time
  let l : Latch := { flags := timeFlags s, sci := ct96 (sciOfTick s t.tick64 + (fs * uFs : Nat)), house := ct64 (ct96 (t.house + Nat.min (fs * uFs) (houseStep s) : Nat)), tick := t.tick64, phase := t.phase, m := s.plan.m }
  { s with regs := { s.regs with latches := tset s.regs.latches f l } }
/-- Has a function a TIME window: all but unbound VFs (Table 15-5)? -/
def execTimeLatchWrite (fn : Fn) (w : Word) (inTickFs : Nat) (s : State) : Host.Outcome State Fault Refusal :=
  if !fnOk fn then .fault .noSuchUnit
  else if s.dev.st = .cold then .next s
  else if !hasMbx s fn then .next (noWindow s fn 0x9000)
  else .next (if bit w.toNat 0 then timeLatch s fn inTickFs else s)

/-! ### The configuration check and the vote (R448, R450, R451) -/

/-- RECORD_REWRITE (R448): the record of a segment and INDEX is written to the units of a tile again. If they agree then, the tile leaves quarantine; the
third rewrite that fails makes it worn. -/
def execRecordRewrite (segment index tile : Nat) (agrees : Bool) (s : State) : Host.Outcome State Fault Refusal :=
  if 68 ≤ tile then .fault .noSuchUnit
  else match s.regs.upset.find? (fun x => x.1 == segment && x.2.1 == index && x.2.2.1 == tile) with
    | none => .next s
    | some x =>
      let s := match logicalOf s tile with | some l => staleTile s l | none => s
      let rest := s.regs.upset.filter (fun y => y != x)
      if agrees then .next { s with regs := { s.regs with upset := rest } }
      else if x.2.2.2 < 2 then .next { s with regs := { s.regs with upset := rest ++ [(x.1, x.2.1, x.2.2.1, x.2.2.2 + 1)] } }
      else .next (wearTile { s with regs := { s.regs with upset := rest } } tile)

/-- A mismatch found at the end of a tick: MISMATCH, the segment and INDEX, source 1344 and a SECURITY entry; the tile's units are quarantined (R448). -/
def configUpset (s : State) (x : Nat × Nat × Nat) : State :=
  if s.regs.upset.any (fun y => y.1 == x.1 && y.2.1 == x.2.1 && y.2.2.1 == x.2.2) then (match logicalOf s x.2.2 with | some l => staleTile s l | none => s)
  else
    let s := { s with regs := { s.regs with mismatch := true, misSegment := x.1 % 16, misIndex := x.2.1 % 4096, upset := s.regs.upset ++ [(x.1, x.2.1, x.2.2, 0)] } }
    let cause := causeId 0x1F (16 * x.1 + x.2.1 % 16)
    let s := raise s 1344 cause
    let s := logAdd s { cls := 2, typ := cause, security := true, addr := x.2.1, detail := x.1 }
    match logicalOf s x.2.2 with | some l => staleTile s l | none => s

/-- Value of a critical field in the committed copy, as one number (R450). -/
def critValue (s : State) (f : CritField) : Nat :=
  let num := fun (l : List Nat) => ofLe (l.flatMap (leBytes 8))
  match f with
  | .clkCore => num (((s.plan.find .clockCore devDome 0).map Block.slots).getD [])
  | .clkOut n => num (Block.slots (s.plan.clkOut n))
  | .laneEn k => (s.plan.laneEn.getD k 0).toNat
  | .binding d => (match s.plan.binding d with | some f => 1 + f.port + 4 * f.vf | none => 0)
  | .pages d => num ((s.hbm.pages.filter (fun p => p.dome == d)).flatMap (fun p => [p.stack, p.page, p.bar2]))
  | .grant d g => num (((s.plan.grant d g).map Block.slots).getD [])

/-- The field that a kind and two numbers name. -/
def critField (k a b : Nat) : CritField := match k with | 0 => .clkCore | 1 => .clkOut a | 2 => .laneEn a | 3 => .binding a | 4 => .pages a | _ => .grant a b

/-- The three stored copies of a field. -/
def critCopies (s : State) (f : CritField) : List Nat := tgetD s.regs.copies f (List.replicate 3 (critValue s f))

/-- Vote on one field (R450, R451): a copy that disagrees takes the majority's value; three different copies take the committed one while a control processor
holds it, and otherwise stay. -/
def voteField (s : State) (f : CritField) : State :=
  match critCopies s f with
  | [a, b, c] =>
    let set := fun (s : State) (v : Nat) => { s with regs := { s.regs with copies := if v = critValue s f then tdel s.regs.copies f else tset s.regs.copies f [v, v, v] } }
    if a ≠ b ∧ b ≠ c ∧ a ≠ c then
      let s := { s with regs := { s.regs with voteFail := true, fails := satAdd s.regs.fails 1 65535 } }
      let s := logAdd (raiseEv s 1346 1344) { cls := 2, typ := causeId 0x3F 2, security := true }
      if (cpIn s .active).isSome && s.dev.st != .halted then set s (critValue s f) else s
    else if a = b ∧ b = c then s
    else
      let v := if a = b then a else c
      set (raiseEv { s with regs := { s.regs with voteFix := true, fixes := satAdd s.regs.fixes 1 65535 } } 1345 1344) v
  | _ => s

/-- VOTE_SCRUB (R450): the copies that no longer hold what was written, by field kind, numbers, copy and value, and the vote on every such field. -/
def execVoteScrub (flips : List (Nat × Nat × Nat × Nat × Nat)) (s : State) : Host.Outcome State Fault Refusal :=
  if s.dev.st = .cold then .next s
  else
    let s := flips.foldl (fun (s : State) (x : Nat × Nat × Nat × Nat × Nat) =>
      let f := critField x.1 x.2.1 x.2.2.1
      { s with regs := { s.regs with copies := tset s.regs.copies f ((critCopies s f).set x.2.2.2.1 x.2.2.2.2) } }) s
    .next ((s.regs.copies.map (fun (e : CritField × List Nat) => e.1)).foldl voteField s)

/-! ### Reads (R437, R438, Tables 15-5 to 15-12, 3-3) -/

/-- Half of a 64-bit value. -/
def half (x : Nat) (hi : Bool) : Nat := if hi then x / 2 ^ 32 % 2 ^ 32 else x % 2 ^ 32

/-- IDENT. -/
def identReg (s : State) (f : Fn) (off : Nat) : Option Nat :=
  match off with
  | 0x00 => some 0x56466428
  | 0x04 => some (0xA1 + 256 * b2n Config.orderX0)
  | 0x08 => some 0x00642801
  | 0x0C => some (runRelease s)
  | 0x10 => some (half Config.serial.toNat false)
  | 0x14 => some (half Config.serial.toNat true)
  | 0x18 => some (((s.plan.domeOf f).getD 0xFFFF) * 65536 + f.vf * 256 + 4 * b2n (f == ownerFn) + f.port)
  | 0x1C => some (activeTiles s * 65536 + condition s * 256 + stateCode s.dev.st)
  | _ => none

/-- MBX. -/
def mbxReg (s : State) (f : Fn) (off : Nat) : Option Nat :=
  let m := mbxOf s f
  match off with
  | 0x1000 => some (m.vector * 65536 + b2n m.enable)
  | 0x1008 => some (half m.rqBase false)
  | 0x100C => some (half m.rqBase true)
  | 0x1010 => some m.rqSize
  | 0x1014 => some m.rqTail
  | 0x1018 => some m.rqHead
  | 0x1020 => some (half m.cqBase false)
  | 0x1024 => some (half m.cqBase true)
  | 0x1028 => some m.cqSize
  | 0x102C => some m.cqHead
  | 0x1030 => some (2 ^ 31 * b2n m.phase + m.cqTail)
  | 0x1034 => some (match s.plan.domeOf f with | some d => genOf s d | none => 0)
  | 0x1038 => some (b2n m.tailRange + 2 * b2n m.ringWrite + 4 * b2n m.fetchErr)
  | 0x103C => some (inflightOf s f).length
  | _ => none

/-- COMMIT; the CRC registers are the owner's. -/
def commitReg (s : State) (f : Fn) (d off : Nat) : Option Nat :=
  let c := commitOf s f
  let r := s.regs
  let own := f == ownerFn
  match off with
  | 0x2000 => some 0
  | 0x2004 => some c.etsn
  | 0x2008 => some (2 ^ 31 * b2n c.busy + 2 ^ 30 * b2n c.lost + 2 ^ 29 * b2n (own && !(r.sh.isEmpty && r.taken.isEmpty)) + 256 * (c.detail % 65536) + c.status)
  | 0x200C => some c.tsn
  | 0x2010 => some (domeRun s d).cfgGen
  | 0x2014 => if own then some r.crcRef else none
  | 0x2018 => if own then some r.crcActive else none
  | 0x201C => if own then some r.crcRun else none
  | 0x2020 => if own then some (2 ^ 31 * b2n r.mismatch + 2 ^ 30 * b2n r.voteFix + 2 ^ 29 * b2n r.voteFail + 4096 * r.misSegment + r.misIndex) else none
  | _ => none

/-- A channel's registers. -/
def dmaRegRead (c : DmaCh) (off : Nat) : Option Nat :=
  match off with
  | 0x00 => some (half c.src false) | 0x04 => some (half c.src true) | 0x08 => some (half c.dst false) | 0x0C => some (half c.dst true)
  | 0x10 => some c.count | 0x14 => some c.ctrl | 0x18 => some (half c.next false) | 0x1C => some (half c.next true)
  | 0x20 => some (2 ^ 31 * b2n c.busy + 2 ^ 30 * b2n c.halted + 2 ^ 29 * b2n c.doneF + 2 ^ 28 * b2n c.err + 2 ^ 27 * b2n c.wrBusy + 65536 * c.retries + c.code)
  | 0x24 => some (c.done % 2 ^ 32) | 0x28 => some c.descs | _ => none

/-- EVT. -/
def evtReg (s : State) (f : Fn) (off : Nat) : Option Nat :=
  let r := evtOf s f
  let seen := evtSeen s f
  let word := fun (x k : Nat) => bits (x &&& seen) (32 * k + 31) (32 * k)
  let some' := fun (x : Nat) => (List.range 8).foldl (fun (a : Nat) (k : Nat) => a + 2 ^ k * b2n (word x k != 0)) 0
  let x := off - 0x8000
  if off % 4 ≠ 0 ∨ off < 0x8000 ∨ 0x8064 < off then none
  else if x < 0x20 then some (word r.pend (x / 4))
  else if x < 0x40 then some (word r.mask ((x - 0x20) / 4))
  else if x < 0x60 then some (word r.ovr ((x - 0x40) / 4))
  else if x = 0x60 then some 0
  else some (256 * some' r.ovr + some' r.pend)

/-- TIME: the last latch (R456). -/
def timeReg (s : State) (f : Fn) (off : Nat) : Option Nat :=
  let l := tget s.regs.latches f
  let v := fun (g : Latch → Nat) => some ((l.map g).getD 0)
  match off with
  | 0x9000 => some 0
  | 0x9004 => v (fun l => 2 ^ 31 + l.flags)
  | 0x9008 => v (fun l => bits l.sci 31 0)
  | 0x900C => v (fun l => bits l.sci 47 32)
  | 0x9010 => v (fun l => bits l.sci 79 48)
  | 0x9014 => v (fun l => bits l.sci 95 80)
  | 0x9018 => v (fun l => half l.house false)
  | 0x901C => v (fun l => half l.house true)
  | 0x9020 => v (fun l => half l.tick false)
  | 0x9024 => v (fun l => half l.tick true)
  | 0x9028 => v (fun l => half (ofSigned 64 l.phase) false)
  | 0x902C => v (fun l => half (ofSigned 64 l.phase) true)
  | 0x9030 => some ((l.map (fun l => l.m)).getD 12800)
  | _ => none

/-- A register of the clock block. A PST register shows what was posted last, while it waits (Table 15-1). -/
def clkReg (s : State) (off : Nat) : Option Nat :=
  let posted := fun (r : PostReg) (v : Nat) => match s.clk.posted with | some x => if x.1 = r then x.2 else v | none => v
  match off with
  | 0x104000 => some (clkStatus s)
  -- reserved bits read 0 (R7)
  | 0x104004 => let v := posted .core (coreCtrlReg s.plan); some (bits v 5 4 * 16 + v % 2)
  | 0x104008 => some s.clk.sticky
  | 0x10400C => some s.clk.refOffset.toNat
  | 0x104010 => some s.clk.coreWord.toNat
  | _ =>
    if off < 0x104100 ∨ 0x104200 ≤ off then none
    else
      let n := (off - 0x104100) / 0x40
      let b := s.plan.clkOut n
      match (off - 0x104100) % 0x40 with
      | 0x00 => let v := posted (.ctrl n) (outCtrlReg b); some (bits v 11 8 * 256 + v % 64)
      | 0x04 => some (posted (.odiv n) (b.nat 4) % 8192)
      | 0x08 => some (outOf s n).fbLo
      | 0x0C => some (posted (.fb n) (b.nat 5) / 2 ^ 32 % 65536)
      | 0x10 => some (b.nat 8)
      | 0x14 => some (outStatus (outOf s n))
      | _ => none

/-- OWNER, IDX_DATA apart. -/
def ownerReg (s : State) (off : Nat) : Option Nat :=
  let r := s.regs
  match off with
  | 0x100000 => some 0
  | 0x100004 => some (2 ^ 31 * b2n r.armed + r.failCount)
  | 0x100010 => some r.idxAddr
  | 0x100018 => some r.idxStat
  | 0x100100 => some (laneEnReg s 0).toNat
  | 0x100104 => some (laneEnReg s 1).toNat
  | 0x100108 => some (laneEnReg s 2).toNat
  | 0x10010C => some (laneEnReg s 3).toNat
  | 0x100200 => some (65536 * r.fails + r.fixes)
  | 0x100300 => some 0
  | _ => clkReg s off

/-- What a 32-bit read receives: a word, or the violation that the access is. -/
def readWord (s : State) (f : Fn) (off : Nat) : Except Nat (Nat × State) :=
  let bound := s.plan.domeOf f
  let rsv : Except Nat (Nat × State) := .error 4
  let of := fun (x : Option Nat) => match x with | some v => .ok (v, s) | none => rsv
  if off % 4 ≠ 0 then rsv
  else if off < 0x1000 then of (identReg s f off)
  else if f.vf ≠ 0 && bound.isNone then .error 5
  else if off < 0x2000 then of (mbxReg s f off)
  else if 0x100000 ≤ off ∧ off < 0x200000 then
    (if f ≠ ownerFn then .error 1 else if off = 0x100014 then .ok (idxRead s) else of (ownerReg s off))
  else if 0x9000 ≤ off ∧ off < 0xA000 then of (timeReg s f off)
  else match bound with
    | none => rsv
    | some d =>
      if off < 0x3000 then of (commitReg s f d off)
      else if 0x4000 ≤ off ∧ off < 0x4800 then
        (if (off - 0x4000) / 256 < s.plan.dmaChannels d then of (dmaRegRead (dmaOf s f ((off - 0x4000) / 256)) (off % 256)) else rsv)
      else if 0x8000 ≤ off ∧ off < 0x9000 then of (evtReg s f off)
      else rsv

/-- A violating read is answered as Table 14-5 states. -/
def badRead (s : State) (f : Fn) (off code : Nat) : State := answer (violation s code f off) f 0 off (if code = 1 then .completerAbort else .unsupportedRequest)

/-- MSI-X table of BAR4: vector v at 16v, with address, data and mask as PCIe lays them out (R480). -/
def msixReg (s : State) (f : Fn) (off : Nat) : Option Nat :=
  let v := off / 16
  let e := tgetD s.router.msixTable (f, v) (0, 0)
  if off % 4 ≠ 0 ∨ msixVectors f ≤ v then none
  else match off % 16 with
    | 0 => some (half e.1 false) | 4 => some (half e.1 true) | 8 => some e.2 | _ => some (b2n (s.router.msixMask.contains (f, v)))

/-- REGISTER_READ (R437, R438): a read of BAR0, or of the MSI-X table in BAR4, of 4 or 8 bytes. -/
def execRegisterRead (fn : Fn) (bar off width : Nat) (s : State) : Host.Outcome State Fault Refusal :=
  if !fnOk fn || (bar != 0 && bar != 4) || decide (2 ^ 24 ≤ off) then .fault .noSuchUnit
  else if s.dev.st = .cold then .next s
  else if bar = 4 then
    match width == 4, msixReg s fn off with
    | true, some v => .next (answer s fn 4 off (.word v))
    | _, _ => .next (answer (violation s 4 fn (off + 4 * 2 ^ 60)) fn 4 off .unsupportedRequest)
  else if width = 4 then
    match readWord s fn off with
    | .ok r => .next (answer r.2 fn 0 off (.word r.1))
    | .error c => .next (badRead s fn off c)
  else if width = 8 ∧ off % 8 = 0 then
    match readWord s fn off with
    | .error c => .next (badRead s fn off c)
    | .ok a =>
      match readWord a.2 fn (off + 4) with
      | .error c => .next (badRead a.2 fn (off + 4) c)
      | .ok b => .next (answer b.2 fn 0 off (.word (a.1 + 2 ^ 32 * b.1)))
  else .next (badRead s fn off (if off < 0x1000 then 4 else if fn.vf ≠ 0 && (s.plan.domeOf fn).isNone then 5 else if 0x100000 ≤ off ∧ off < 0x200000 ∧ fn ≠ ownerFn then 1 else 4))

/-! ### Writes (R439, R454, R455) -/

/-- The state of an outcome. -/
def afterOutcome (s : State) (o : Host.Outcome State Fault Refusal) : State := match o with | .next t => t | _ => s

/-- EVT_PEND and EVT_OVR: each 1 clears its bit on a channel that the function sees. -/
def evtClear (s : State) (f : Fn) (k : Nat) (ovr : Bool) (w : Word) : State :=
  let m := (evtSeen s f) &&& (w.toNat * 2 ^ (32 * k))
  onEvt s f (fun r => if ovr then { r with ovr := r.ovr - (r.ovr &&& m) } else { r with pend := r.pend - (r.pend &&& m) })

/-- A write to the registers of a dome's function. -/
def domeRegWrite (s : State) (f : Fn) (d off : Nat) (w : Word) : Option State :=
  if off = 0x2000 then some (commitGo s f d w)
  else if off = 0x2004 then some (onCommit s f (fun c => { c with etsn := w.toNat }))
  else if off = 0x2008 then some (onCommit s f (fun c => { c with lost := c.lost && !bit w.toNat 30 }))
  else if off = 0x200C ∨ off = 0x2010 then some s
  else if 0x2014 ≤ off ∧ off ≤ 0x2020 then
    (if f ≠ ownerFn then none
     else if off = 0x2014 then some { s with regs := { s.regs with crcRef := w.toNat } }
     else if off = 0x2020 then
       some { s with regs := { s.regs with mismatch := s.regs.mismatch && !bit w.toNat 31, voteFix := s.regs.voteFix && !bit w.toNat 30, voteFail := s.regs.voteFail && !bit w.toNat 29 } }
     else some s)
  else if 0x4000 ≤ off ∧ off < 0x4800 then
    let ch := (off - 0x4000) / 256
    let r := off % 256
    if s.plan.dmaChannels d ≤ ch ∨ 0x28 < r then none
    else if r = 0x14 then some (dmaCtrlWrite s f d ch w)
    else if r = 0x20 then some (onDma s f ch (fun c => { c with doneF := c.doneF && !bit w.toNat 29, err := c.err && !bit w.toNat 28, wrBusy := c.wrBusy && !bit w.toNat 27 }))
    else if r = 0x24 ∨ r = 0x28 then some s
    else some (afterOutcome s (execDmaAddrWrite f ch r w s))
  else if 0x8000 ≤ off ∧ off < 0x8020 then some (evtClear s f ((off - 0x8000) / 4) false w)
  else if off < 0x8040 ∧ 0x8020 ≤ off then some (afterOutcome s (execEvtMaskWrite f ((off - 0x8020) / 4) w s))
  else if off < 0x8060 ∧ 0x8040 ≤ off then some (evtClear s f ((off - 0x8040) / 4) true w)
  else if off = 0x8060 then some (afterOutcome s (execEvtPubWrite f w s))
  else if off = 0x8064 then some s
  else none

/-- A write to the OWNER window by the owner. -/
def ownerRegWrite (s : State) (off : Nat) (w : Word) : Option State :=
  let out := (off - 0x104100) / 0x40
  let put := fun (old : Nat) => ownerWrite s off old w.toNat
  match off with
  | 0x100000 => some (unlockWrite s w)
  | 0x100004 => some (put (2 ^ 31 * b2n s.regs.armed + s.regs.failCount))
  | 0x100010 => some (let t := put s.regs.idxAddr; { t with regs := { t.regs with idxAddr := w.toNat } })
  | 0x100014 => some (idxWrite s w)
  | 0x100018 => some (let t := put s.regs.idxStat; { t with regs := { t.regs with idxStat := t.regs.idxStat - (t.regs.idxStat &&& w.toNat) } })
  | 0x100100 => some (shWrite s 0 w)
  | 0x100104 => some (shWrite s 1 w)
  | 0x100108 => some (shWrite s 2 w)
  | 0x10010C => some (shWrite s 3 w)
  | 0x100200 => some (put (65536 * s.regs.fails + s.regs.fixes))
  | 0x100300 => some (swResetWrite s w)
  | 0x104000 => some (put (clkStatus s))
  | 0x104004 => some (afterOutcome s (execClkCoreCtrlWrite w s))
  | 0x104008 => some (let t := put s.clk.sticky; { t with clk := { t.clk with sticky := t.clk.sticky - (t.clk.sticky &&& w.toNat) } })
  | 0x10400C => some (put s.clk.refOffset.toNat)
  | 0x104010 => some (put s.clk.coreWord.toNat)
  | _ =>
    if off < 0x104100 ∨ 0x104200 ≤ off then none
    else match (off - 0x104100) % 0x40 with
      | 0x00 => some (afterOutcome s (execOutCtrlWrite out w s))
      | 0x04 => some (afterOutcome s (execOutOdivWrite out w s))
      | 0x08 => some (afterOutcome s (execOutFbLoWrite out w s))
      | 0x0C => some (afterOutcome s (execOutFbHiWrite out w s))
      | 0x10 => some (afterOutcome s (execOutFmaxWrite out w s))
      | 0x14 => some (put (outStatus (outOf s out)))
      | _ => none

/-- A 32-bit write to BAR0: its effect, or the violation that it is. -/
def writeWord (s : State) (f : Fn) (off : Nat) (w : Word) : State :=
  let bound := s.plan.domeOf f
  let bad := fun (c : Nat) => violation s c f off
  let of := fun (x : Option State) => x.getD (bad 4)
  if off % 4 ≠ 0 then bad 4
  else if off < 0x1000 then (if (identReg s f off).isSome then s else bad 4)
  else if f.vf ≠ 0 && bound.isNone then bad 5
  else if off < 0x2000 then
    (if off = 0x1000 then mbxCtrl s f w else if off = 0x1014 then mbxTail s f w else if off = 0x102C then mbxHead s f w else if off = 0x1038 then mbxErr s f w
     else if ringReg off then mbxRing s f off w else if (mbxReg s f off).isSome then s else bad 4)
  else if 0x100000 ≤ off ∧ off < 0x200000 then (if f ≠ ownerFn then bad 1 else of (ownerRegWrite s off w))
  else if 0x9000 ≤ off ∧ off < 0xA000 then
    (if off = 0x9000 then (if bit w.toNat 0 then timeLatch s f 0 else s) else if (timeReg s f off).isSome then s else bad 4)
  else match bound with
    | none => bad 4
    | some d => of (domeRegWrite s f d off w)

/-- A write of a word of the MSI-X table; unmasking a vector sends its pending message (R481). -/
def msixWrite (s : State) (f : Fn) (off : Nat) (w : Word) : State :=
  let v := off / 16
  let k := (f, v)
  let e := tgetD s.router.msixTable k (0, 0)
  let put := fun (x : Nat × Nat) => { s with router := { s.router with msixTable := tset s.router.msixTable k x } }
  match off % 16 with
  | 0 => put (e.1 / 2 ^ 32 * 2 ^ 32 + w.toNat, e.2)
  | 4 => put (e.1 % 2 ^ 32 + w.toNat * 2 ^ 32, e.2)
  | 8 => put (e.1, w.toNat)
  | _ =>
    if bit w.toNat 0 then { s with router := { s.router with msixMask := if s.router.msixMask.contains k then s.router.msixMask else k :: s.router.msixMask } }
    else
      let was := s.router.msixPend.contains k
      let s := { s with router := { s.router with msixMask := s.router.msixMask.filter (fun x => x != k), msixPend := s.router.msixPend.filter (fun x => x != k) } }
      if was then sendMsix s f v else s

/-- REGISTER_WRITE (R437 to R439): a write to BAR0, or to the MSI-X table in BAR4, of 4 or 8 bytes. -/
def execRegisterWrite (fn : Fn) (bar off width value : Nat) (s : State) : Host.Outcome State Fault Refusal :=
  if !fnOk fn || (bar != 0 && bar != 4) || decide (2 ^ 24 ≤ off) then .fault .noSuchUnit
  else if s.dev.st = .cold then .next s
  else if bar = 4 then
    (if width = 4 && (msixReg s fn off).isSome then .next (msixWrite s fn off (BitVec.ofNat 32 value)) else .next (violation s 4 fn (off + 4 * 2 ^ 60)))
  else if width = 4 then .next (writeWord s fn off (BitVec.ofNat 32 value))
  else if width = 8 ∧ off % 8 = 0 then .next (writeWord (writeWord s fn off (BitVec.ofNat 32 value)) fn (off + 4) (BitVec.ofNat 32 (value / 2 ^ 32)))
  else .next (violation s (if off < 0x1000 then 4 else if fn.vf ≠ 0 && (s.plan.domeOf fn).isNone then 5 else if 0x100000 ≤ off ∧ off < 0x200000 ∧ fn ≠ ownerFn then 1 else 4) fn off)

end Sys2Proof.Machine
end

