-- ==== Sys2Proof/Machine/Tdc.lean ====
section
/-! DEFINITION. Tdc.lean: an edge at a time-to-digital converter and where its record goes (R65 to R68, R286). -/
namespace Sys2Proof.Machine

/-- TDC_EDGE: an edge on a channel with coarse count `c`, interpolator count `f` and calibration counts `f1`, `f2` (R65 to R67). skew_fs of an internal channel is 0. A result
that finds the FIFO full is discarded. -/ -- DESIGN CHOICE, notes/assumptions/133.md
def execTdcEdge (ch : Nat) (rising : Bool) (c f f1 f2 : Nat) (s : State) : Host.Outcome State Fault Refusal :=
  if 24 ≤ ch then .fault .noSuchUnit
  else if !tdcTakes s.plan ch rising then .next s
  else
    let k := tdcOf s ch
    -- a channel under calibration records nothing (R525)
    if s.care.cals.contains (1, ch) || s.care.cals.contains (1, 127) then .next (onTdc s ch (fun k => { k with missed := k.missed + 1 }))
    else if k.blind then .next (timeEvent (onTdc s ch (fun k => { k with missed := k.missed + 1, overrun := true })) 1184)
    else
      let b := s.plan.find .tdcConfig devDome ch
      let skew : Int := match b with | some b => b.int 4 | none => tdcTrim s ch
      let (t, su, ou, bad) := tdcTime k c f f1 f2 skew
      let abs : Int := sciOfTick s s.time.tick64 + t * uFs
      let flags := b2n (stampHoldover s) + 2 * b2n k.overrun + 4 * b2n bad
      let full := decide (64 ≤ k.fifo.length)
      let recd := ct96Le (ct96 abs) ++ leBytes 1 (ch + 128 * b2n rising) ++ leBytes 1 flags ++ leBytes 2 k.seq
      let s := onTdc s ch (fun k => { k with
        lastS := su, lastO := ou, blind := true, overrun := if full then k.overrun else false,
        fifo := if full then k.fifo else k.fifo ++ [recd], fifoLost := k.fifoLost + b2n full,
        seq := if full then k.seq else (k.seq + 1) % 65536 })
      if full then .next (timeEvent s 1184)
      else
      let s := pairEdge s ch abs flags
      if 16 ≤ ch then .next s
      else
        let s := timeEvent s (1168 + ch)
        match b.bind (fun b => b.nat? 5) with
        | some chan => .next (edgeTrig (publish s chan 3 (causeId 0x3F ch) devDome) chan (roundCt (abs, 1)) (flags % 2 == 1))
        | none => .next s

end Sys2Proof.Machine
end

