-- ==== Sys2Proof/Machine/Tick.lean ====
section
/-! DEFINITION. Tick.lean: the tick boundary and shed work (R36 to R47, R164, R448, R479). -/
namespace Sys2Proof.Machine

/-! ### Shed work (R45 to R47) -/

/-- Has a unit a work item of a dome on a logical tile: of an instrument, of a zoom window, or of an SK definition in instrument scope? -/
def hasItem (s : State) (d : Nat) (u : WorkUnit) (i l : Nat) : Bool :=
  let placed := match s.plan.place? .instrDefine d i with | some x => x.placed || decide (0 < x.since) | none => false
  let onTile := (match s.plan.place? .instrDefine d i with | some x => x.tiles.contains l | none => false) ||
    -- a sweep mask works on its own tile (R258)
    (s.plan.masksOf d i).any (fun e => (s.plan.place? .maskDefine d e.1).any (fun x => x.tiles.contains l))
  match u with
  | .own => placed && onTile
  | .plate => placed && onTile && !(s.plan.platesOf d i).isEmpty
  | .requantiser => (match s.plan.instr d i with
    | some b => placed && decide (0 < rqEntries d b) && (iSources d b).any (fun src => (srcTiles s.plan src).contains l)
    | none => false)
  | .zoom => (match s.plan.place? .zoomDefine d i with | some x => (x.placed || !(zoomRun s d i).inq.isEmpty) && x.tiles.contains l | none => false)
  | .sk => (match s.plan.find .skDefine d i with | some b => d != devDome && (s.plan.skRuns (d, i) b).any (fun r => r.1 == l) | none => false)

/-- The notices of a shed tick (R47): SHED to the dome and a record to the owner by cause; SHED_PERSIST each time that 16 of 256 ticks are reached. -/
def shedNotice (s : State) (d i l : Nat) : State :=
  let now := s.time.tick64
  let cause := causeId 0x17 l
  let s := noticeOwner s 0x8002 0 cause i (64 * d + i)
  if (instrRun s d i).shedAt.contains now then s
  else
    let s := noticeDome s d 0x8002 0 cause i
    let hist := (instrRun s d i).shedAt.filter (fun t => decide (now < t + 256)) ++ [now]
    let many := decide (16 ≤ hist.length)
    let fresh := many && !(instrRun s d i).persists
    let s := onInstr s d i (fun r => { r with shedAt := hist, persists := many })
    if !fresh then s
    else
      let s := noticeDome s d 0x8003 0 cause i
      noticeOwner s 0x8003 0 cause i (64 * d + i)

/-- An SK in instrument scope sheds the tick that it has taken in: its tested channels on the tile are invalid in it, and its tick record carries SHED (R165). -/
def shedSk (s : State) (k : Nat × Nat) (l : Nat) : State :=
  match s.plan.find .skDefine k.1 k.2 with
  | none => s
  | some b =>
    let runs := (s.plan.skRuns k b).filter (fun r => r.1 == l)
    let hit := fun (ch : Nat) => decide (b.nat 3 ≤ ch) && decide (ch < b.nat 3 + b.nat 4) && runs.any (fun (r : Nat × Nat × Nat) => decide (r.2.1 ≤ ch) && decide (ch < r.2.1 + r.2.2))
    let gone := fun (first : Nat) (xs : List Smp) => xs.mapIdx (fun (j : Nat) (x : Smp) => if hit (first + j) then { x with re := 0, im := 0, ok := false } else x)
    let n := ((skRun s k).frames.getLast?.map (fun (e : Nat × Nat × List Smp) => e.2.1)).getD 0
    let lost := fun (c : ChTick) => ({ c with flags := c.flags ||| 2048, frames := c.frames.map (fun (e : Nat × List Smp) => (e.1, gone c.first e.2)) } : ChTick)
    let src : Src := match b.at 2 with | .obj 1 w => .window k.1 w | .obj _ f => .feed f | _ => .feed 0
    let i := k.2 / 2 ^ 17
    -- under FLAG the tick stands at the instrument's inputs already
    let pos := match s.plan.instr k.1 i with | some ib => ((iSources k.1 ib).zipIdx.filter (fun (x : Src × Nat) => x.1 == src)).map (fun (x : Src × Nat) => x.2) | none => []
    let s := if b.is 8 0 then s else onInstr s k.1 i (fun r => { r with inq := r.inq.map (fun (x : Nat × Nat × ChTick) => if pos.contains x.1 && x.2.2.tick == n then (x.1, x.2.1, lost x.2.2) else x) })
    onSk s k (fun r => { r with
      frames := r.frames.map (fun (e : Nat × Nat × List Smp) => if e.2.1 = n then (e.1, e.2.1, gone (b.nat 3) e.2.2) else e),
      held := r.held.map (fun (c : Nat × ChTick) => if c.2.tick = n then (c.1, lost c.2) else c) })

/-- A work item of the running device tick is discarded whole (R45); the notices name the instrument (R47). -/
def shedItem (s : State) (d : Nat) (u : WorkUnit) (i l : Nat) : State :=
  if s.sheds.contains (d, u, i, l) then s
  else
    let s := { s with sheds := s.sheds ++ [(d, u, i, l)] }
    match u with
    | .zoom => s
    | .sk => shedNotice (shedSk (takeSrcs s) (d, i) l) d (i / 2 ^ 17) l
    | _ => shedNotice s d i l

/-- WORK_ITEM_SHED (R45): a work item of dome `dome` on logical tile `tile` is unfinished at the end of the running device tick. The front half is never shed (R43). -/
def execWorkItemShed (dome : Nat) (unit : WorkUnit) (index tile : Nat) (s : State) : Host.Outcome State Fault Refusal :=
  if 256 ≤ dome ∨ 64 ≤ tile then .fault .noSuchUnit
  else .next (if ticking s && hasItem s dome unit index tile then shedItem s dome unit index tile else s)

/-- Every work item on a failed tile is shed until its swap or withdrawal (R513). -/
def shedDead (s : State) : State :=
  s.care.dead.foldl (fun (s : State) (l : Nat) =>
    let one := fun (u : WorkUnit) (s : State) (d i : Nat) (_ : Block) => if hasItem s d u i l then shedItem s d u i l else s
    let s := forObjs (forObjs (forObjs s .instrDefine (one .own)) .instrDefine (one .requantiser)) .instrDefine (one .plate)
    forObjs (forObjs s .zoomDefine (one .zoom)) .skDefine (one .sk)) s

/-! ### The work of a device tick (R44, R164) -/

/-- Instruments in the order in which a unit runs their work (R44): D0, then by placement priority, within a dome in admission order; those that still process
the sample ticks before their unplacement come last. -/
def workOrder (p : Plan) : List (Nat × Nat) :=
  (p.goOrder (fun _ => true)).reverse ++ (p.places.filter (fun x => x.op == .instrDefine && !x.placed && decide (0 < x.since))).map (fun (x : Place) => (x.dome, x.index))

/-- Does work of a dome start in a tick? None from its reset tick on (R424). -/
def domeStopped (s : State) (d : Nat) : Bool := ((domeRun s d).drain.bind (fun (x : Drain) => x.resetTick)).isSome

/-- A suspended instrument takes nothing in, and what it has open is discarded (R27). -/
def holdInstr (s : State) (d i : Nat) : State :=
  onInstr s d i (fun r => { r with inq := [], bank := none, sub := none, corr := none, subs := [], group := [] })

/-- One instrument's work of device tick `m`. -/
def instrWork (s : State) (m d i : Nat) (b : Block) : State :=
  match iKind b with
  | 0 => detStep s m d i b
  | 1 => detStep s m d i b
  | 2 => rtsaStep s m d i b
  | 3 => rqAll s m d i b
  | 4 => corrStep s m d i b
  | 5 => corrStep s m d i b
  | 6 => beamStep s m d i b
  | 7 => rfimonStep s m d i
  | 8 => capStep s m d i b
  | 9 => rtsaStep s m d i b
  | 11 => loopStep s m d i b
  | _ => s

/-- All instruments' work of device tick `m`. -/
def instrsWork (s : State) (m : Nat) : State :=
  (workOrder s.plan).foldl (fun (s : State) (x : Nat × Nat) =>
    if domeStopped s x.1 || suspended s x.1 then holdInstr s x.1 x.2
    else match s.plan.instr x.1 x.2 with
      | some b => instrWork s m x.1 x.2 b
      | none => s) s

/-- An instrument unplaced from a sample tick on has processed its last one (R24, R191): what it has open ends early. -/
def settlePlaces (s : State) (m : Nat) : State :=
  (s.plan.places.filter (fun x => x.op == .instrDefine && !x.placed && decide (0 < x.since))).foldl (fun (s : State) (x : Place) =>
    match s.plan.instr x.dome x.index with
    | some _ =>
      if m + 1 < x.since + x.latency then s
      else
        let s := endPlaced s x.dome x.index
        { s with plan := s.plan.setPlace { x with since := 0 } }
    | none => s) s

/-- The Sextants at the end of device tick `m`; work of a suspended dome stands still, and that of a dome whose reset is decided stops at this boundary (R27, R348, R424). -/
def sextantsWork (s : State) (m : Nat) : State :=
  (s.sextants.map (fun (e : Nat × Sextant) => e.1)).foldl (fun (s : State) (t : Nat) =>
    match (sxOf s t).lease with
    | some (d, _) =>
      if (domeRun s d).drain.isSome || suspended s d then
        let s := if (domeRun s d).drain.isSome then (sxOf s t).done.foldl (fun (s : State) i => publishItem s t i false) s else s
        onSx s t (fun e => { e with run := .idle, item := none, due := [], done := [], aborted := [], inTick := 0 })
      else sxBoundary s m t
    | none => sxBoundary s m t) s

/-- Sextant cycles of the tick that no bundle used pass, so that timers and CYCLE stand at the end of the tick. -/
def sextantsPass (s : State) : State :=
  (s.sextants.map (fun (e : Nat × Sextant) => e.1)).foldl (fun (s : State) (t : Nat) =>
    let e := sxOf s t
    if e.run == .running then s else sxPass s t (5 * s.time.len - e.inTick)) s

/-- Logical tiles whose outputs carry STALE from the start of a tick on: all of them in CALIBRATE (R27), those in quarantine (R448). -/
def staleNow (s : State) : List Nat :=
  if s.dev.eff = .calibrate then List.range 64 else (List.range 64).filter (quarTile s)

/-- The units' work of device tick `m` at its end: consumers before producers, whose data the consumers have from tick m + 1 on. -/
def tickWork (s : State) (m : Nat) : State :=
  let s := shedDead (takeAll s m)
  let s := if s.dev.eff = .calibrate then (List.range 64).foldl staleTile s else s
  let s := streamTick s
  let s := settlePlaces (instrsWork s m) m
  let s := forObjs s .zoomDefine (fun s d w _ =>
    if domeStopped s d || suspended s d then { s with zooms := tmod s.zooms (d, w) ZoomRun.reset (fun r => { r with inq := [] }) } else zoomStep s m d w)
  let s := sextantsWork s m
  let s := forObjs s .feedDefine (fun s _ f _ => coarseStep s m f)
  { s with feeds := s.feeds.map (fun (e : Nat × FeedRun) => (e.1, { e.2 with raws := [] })),
           instrs := s.instrs.map (fun (e : (Nat × Nat) × InstrRun) => (e.1, { e.2 with cands := [] })),
           sheds := [], care := { s.care with coefBad := [] } }

/-! ### The configuration check (R448) -/

/-- CRC_RUN of the tick that ends, and the mismatches found in it: segment, INDEX and physical tile. Any value may stand in CRC_RUN while copies differ. -/
def crcCheck (upsets : List (Nat × Nat × Nat)) (s : State) : State :=
  let crc := s.plan.crc
  let bad := !s.regs.upset.isEmpty || !upsets.isEmpty
  let (x, s) := if bad then drawNat s else (crc, s)
  upsets.foldl configUpset { s with regs := { s.regs with crcActive := crc, crcRun := if bad then x % 2 ^ 32 else crc } }

/-! ### The boundary -/

/-- A suppression window that is over ends (R478). -/
def endWindow (s : State) : State :=
  if s.router.windowLeft ≠ 0 then s
  else
    let s := windowEnd s
    { s with router := { s.router with windowLeft := s.plan.suppress } }

/-- The end of the running device tick: what the router, the Sextants and the units do in it. -/
def endTick (upsets : List (Nat × Nat × Nat)) (s : State) : State :=
  let m := s.time.tick64
  let stop := tickCycle s + 10 * s.time.len
  let s := sextantsPass s
  let s := routerRun s (stop - 1)
  let s := routerRun (quiescence s) stop
  meterTick (crcCheck upsets (tickWork s m))

/-- The start of the next device tick. -/
def startTick (driftFs : Int) (s : State) : State :=
  let s := timeTick driftFs s
  let s := { s with dev := { s.dev with stale := staleNow s }, router := { s.router with windowLeft := s.router.windowLeft - 1 } }
  controlTx (landTick (apTick (apExpire (meterResume (deliverMade s)))))

/-- TICK_BOUNDARY (R39): the running device tick ends and the next one starts. `driftFs` is how far the boundaries have moved against science time in the
tick, measured on channel 18 while the core follows the reference back to lock (R59); `upsets` are the records of
which a unit's copy differs in this tick (R448). What was due in the tick that ends and has not been commanded applies first: a posted write of the clock block, then the sets (R82). -/
def execTickBoundary (driftFs : Int) (upsets : List (Nat × Nat × Nat)) (s : State) : Host.Outcome State Fault Refusal :=
  if upsets.any (fun x => decide (68 ≤ x.2.2)) then .fault .noSuchUnit
  else .next (if ticking s then startTick driftFs (endTick upsets (endWindow (applyDue s none))) else s)

end Sys2Proof.Machine
end

