-- ==== Sys2Proof/Machine/Dispatch.lean ====
section
/-! DEFINITION. Dispatch.lean: one arm per command, each a direct call of its meaning. -/
namespace Sys2Proof.Machine

def exec (i : Instr) (s : State) : Host.Outcome State Fault Refusal :=
  match i with
  | .rstNAssert => Sys2Proof.Machine.execRstNAssert s
  | .rstNRelease flash bad => Sys2Proof.Machine.execRstNRelease flash bad s
  | .supplyLoss => Sys2Proof.Machine.execSupplyLoss s
  | .bootStepLimitExpiry bad => Sys2Proof.Machine.execBootStepLimitExpiry bad s
  | .bootComplete repaired tiles cps => Sys2Proof.Machine.execBootComplete repaired tiles cps s
  | .tickBoundary driftFs upsets => Sys2Proof.Machine.execTickBoundary driftFs upsets s
  | .workItemShed dome unit index tile => Sys2Proof.Machine.execWorkItemShed dome unit index tile s
  | .configSetApply dome cfgGen => Sys2Proof.Machine.execConfigSetApply dome cfgGen s
  | .refInvalidDetect => Sys2Proof.Machine.execRefInvalidDetect s
  | .refReacquire => Sys2Proof.Machine.execRefReacquire s
  | .scienceTimeStep deltaFs => Sys2Proof.Machine.execScienceTimeStep deltaFs s
  | .ppsEdge inTickFs => Sys2Proof.Machine.execPpsEdge inTickFs s
  | .ppsTimeout => Sys2Proof.Machine.execPpsTimeout s
  | .houseTimeSteer elapsedFs => Sys2Proof.Machine.execHouseTimeSteer elapsedFs s
  | .ageingMeasure measured => Sys2Proof.Machine.execAgeingMeasure measured s
  | .ageingEphemerisWrite => Sys2Proof.Machine.execAgeingEphemerisWrite s
  | .tdcEdge ch rising c f f1 f2 => Sys2Proof.Machine.execTdcEdge ch rising c f f1 f2 s
  | .tdcBlindEnd ch => Sys2Proof.Machine.execTdcBlindEnd ch s
  | .tdcPairReport pair => Sys2Proof.Machine.execTdcPairReport pair s
  | .adpllLock pll => Sys2Proof.Machine.execAdpllLock pll s
  | .adpllLossOfLock pll => Sys2Proof.Machine.execAdpllLossOfLock pll s
  | .outputCoastExpiry out => Sys2Proof.Machine.execOutputCoastExpiry out s
  | .bandSearchDone pll => Sys2Proof.Machine.execBandSearchDone pll s
  | .clkoutReenable out => Sys2Proof.Machine.execClkoutReenable out s
  | .ceilingClamp out => Sys2Proof.Machine.execCeilingClamp out s
  | .clkCoreCtrlWrite w => Sys2Proof.Machine.execClkCoreCtrlWrite w s
  | .outCtrlWrite out w => Sys2Proof.Machine.execOutCtrlWrite out w s
  | .outOdivWrite out w => Sys2Proof.Machine.execOutOdivWrite out w s
  | .outFbLoWrite out w => Sys2Proof.Machine.execOutFbLoWrite out w s
  | .outFbHiWrite out w => Sys2Proof.Machine.execOutFbHiWrite out w s
  | .outFmaxWrite out w => Sys2Proof.Machine.execOutFmaxWrite out w s
  | .postedWriteApply => Sys2Proof.Machine.execPostedWriteApply s
  | .portLinkUp port => Sys2Proof.Machine.execPortLinkUp port s
  | .portLinkDown port lane => Sys2Proof.Machine.execPortLinkDown port lane s
  | .ethFrameRx port frame fec rxFs => Sys2Proof.Machine.execEthFrameRx port frame fec rxFs s
  | .agentReply port => Sys2Proof.Machine.execAgentReply port s
  | .membershipReport port => Sys2Proof.Machine.execMembershipReport port s
  | .weltiFrameRx port lane frame fec fecBad rxFs => Sys2Proof.Machine.execWeltiFrameRx port lane frame fec fecBad rxFs s
  | .landingSlotRelease feed poisoned poisonOut => Sys2Proof.Machine.execLandingSlotRelease feed poisoned poisonOut s
  | .arrivalStatsUpdate => Sys2Proof.Machine.execArrivalStatsUpdate s
  | .skBlockDecide dome index => Sys2Proof.Machine.execSkBlockDecide dome index s
  | .skHoldRelease dome index => Sys2Proof.Machine.execSkHoldRelease dome index s
  | .integrationEnd dome instr => Sys2Proof.Machine.execIntegrationEnd dome instr s
  | .subIntegrationEnd dome instr => Sys2Proof.Machine.execSubIntegrationEnd dome instr s
  | .dumpEnd dome instr => Sys2Proof.Machine.execDumpEnd dome instr s
  | .traceGroupEnd dome instr => Sys2Proof.Machine.execTraceGroupEnd dome instr s
  | .sweepWindowDecide dome mask => Sys2Proof.Machine.execSweepWindowDecide dome mask s
  | .plateDecay dome plate => Sys2Proof.Machine.execPlateDecay dome plate s
  | .plateSnapshot dome plate => Sys2Proof.Machine.execPlateSnapshot dome plate s
  | .triggerArrive dome instr => Sys2Proof.Machine.execTriggerArrive dome instr s
  | .triggerDecide dome instr => Sys2Proof.Machine.execTriggerDecide dome instr s
  | .recordClose dome instr => Sys2Proof.Machine.execRecordClose dome instr s
  | .segmentAdvance dome instr => Sys2Proof.Machine.execSegmentAdvance dome instr s
  | .segmentRearm dome instr => Sys2Proof.Machine.execSegmentRearm dome instr s
  | .recordStreamDone dome instr => Sys2Proof.Machine.execRecordStreamDone dome instr s
  | .packetTransmit dome stream elapsedFs poisoned => Sys2Proof.Machine.execPacketTransmit dome stream elapsedFs poisoned s
  | .arpResolveDone fn tag macs => Sys2Proof.Machine.execArpResolveDone fn tag macs s
  | .arpRefresh dome stream mac => Sys2Proof.Machine.execArpRefresh dome stream mac s
  | .roceAckRx dome stream psn => Sys2Proof.Machine.execRoceAckRx dome stream psn s
  | .roceNakRx dome stream psn rnr => Sys2Proof.Machine.execRoceNakRx dome stream psn rnr s
  | .roceCnpRx dome stream => Sys2Proof.Machine.execRoceCnpRx dome stream s
  | .roceRtoExpiry dome stream psn => Sys2Proof.Machine.execRoceRtoExpiry dome stream psn s
  | .transitGranuleRx port flow spec sendTick offset bytes invalid => Sys2Proof.Machine.execTransitGranuleRx port flow spec sendTick offset bytes invalid s
  | .transitDeadline port flow sendTick sampleTick frame0 => Sys2Proof.Machine.execTransitDeadline port flow sendTick sampleTick frame0 s
  | .tickStatusRx ap serial port delayNs release m tick sentAt state cfgGen crc withdrawn tiles => Sys2Proof.Machine.execTickStatusRx ap serial port delayNs release m tick sentAt state cfgGen crc withdrawn tiles s
  | .prepareRx ap id e replay cmds => Sys2Proof.Machine.execPrepareRx ap id e replay cmds s
  | .readyRx ap serial id crc => Sys2Proof.Machine.execReadyRx ap serial id crc s
  | .failRx ap serial id status => Sys2Proof.Machine.execFailRx ap serial id status s
  | .apertureDecide ap id => Sys2Proof.Machine.execApertureDecide ap id s
  | .commitRx ap id => Sys2Proof.Machine.execCommitRx ap id s
  | .abortRx ap id => Sys2Proof.Machine.execAbortRx ap id s
  | .excludeRx ap serial => Sys2Proof.Machine.execExcludeRx ap serial s
  | .rejoinRx ap serial release m tick sentAt => Sys2Proof.Machine.execRejoinRx ap serial release m tick sentAt s
  | .noticeRx ap serial cause count => Sys2Proof.Machine.execNoticeRx ap serial cause count s
  | .dataRx ap id dome q => Sys2Proof.Machine.execDataRx ap id dome q s
  | .dataDoneRx ap serial id status bytes => Sys2Proof.Machine.execDataDoneRx ap serial id status bytes s
  | .configRx ap serial total cmds => Sys2Proof.Machine.execConfigRx ap serial total cmds s
  | .controlFlowAbsent ap serial => Sys2Proof.Machine.execControlFlowAbsent ap serial s
  | .leadLost ap => Sys2Proof.Machine.execLeadLost ap s
  | .adoptTimeout ap => Sys2Proof.Machine.execAdoptTimeout ap s
  | .sextantItemStart tile => Sys2Proof.Machine.execSextantItemStart tile s
  | .sextantItemAbort tile => Sys2Proof.Machine.execSextantItemAbort tile s
  | .sextantTimerExpiry tile k => Sys2Proof.Machine.execSextantTimerExpiry tile k s
  | .waitEnd tile => Sys2Proof.Machine.execWaitEnd tile s
  | .interruptTaken tile => Sys2Proof.Machine.execInterruptTaken tile s
  | .swapApply tile => Sys2Proof.Machine.execSwapApply tile s
  | .leaseScrub tile => Sys2Proof.Machine.execLeaseScrub tile s
  | .bundleIssue tile portBusy => Sys2Proof.Machine.execBundleIssue tile portBusy s
  | .mbxRqTailWrite fn w => Sys2Proof.Machine.execMbxRqTailWrite fn w s
  | .mbxCqHeadWrite fn w => Sys2Proof.Machine.execMbxCqHeadWrite fn w s
  | .mbxCtrlWrite fn w => Sys2Proof.Machine.execMbxCtrlWrite fn w s
  | .mbxRingRegWrite fn off w => Sys2Proof.Machine.execMbxRingRegWrite fn off w s
  | .mbxErrWrite fn w => Sys2Proof.Machine.execMbxErrWrite fn w s
  | .requestFetch fn entry buffer busError => Sys2Proof.Machine.execRequestFetch fn entry buffer busError s
  | .fenceRelease fn => Sys2Proof.Machine.execFenceRelease fn s
  | .nop q => Sys2Proof.Machine.execNop q s
  | .capability q => Sys2Proof.Machine.execCapability q s
  | .commit q => Sys2Proof.Machine.execCommit q s
  | .groupAbort q => Sys2Proof.Machine.execGroupAbort q s
  | .cancel q => Sys2Proof.Machine.execCancel q s
  | .status q => Sys2Proof.Machine.execStatus q s
  | .stateSet q => Sys2Proof.Machine.execStateSet q s
  | .tickPeriod q => Sys2Proof.Machine.execTickPeriod q s
  | .epoch q => Sys2Proof.Machine.execEpoch q s
  | .timeRead q => Sys2Proof.Machine.execTimeRead q s
  | .tdcConfig q => Sys2Proof.Machine.execTdcConfig q s
  | .tdcPair q => Sys2Proof.Machine.execTdcPair q s
  | .tdcStats q => Sys2Proof.Machine.execTdcStats q s
  | .clockCore q => Sys2Proof.Machine.execClockCore q s
  | .clockOutput q => Sys2Proof.Machine.execClockOutput q s
  | .portConfig q => Sys2Proof.Machine.execPortConfig q s
  | .portStats q => Sys2Proof.Machine.execPortStats q s
  | .portMgmtSend q => Sys2Proof.Machine.execPortMgmtSend q s
  | .portMgmtRecv q => Sys2Proof.Machine.execPortMgmtRecv q s
  | .feedDefine q => Sys2Proof.Machine.execFeedDefine q s
  | .feedDelete q => Sys2Proof.Machine.execFeedDelete q s
  | .feedStats q => Sys2Proof.Machine.execFeedStats q s
  | .feedCondition q => Sys2Proof.Machine.execFeedCondition q s
  | .coefLoad q => Sys2Proof.Machine.execCoefLoad q s
  | .coefSwap q => Sys2Proof.Machine.execCoefSwap q s
  | .delayPoly q => Sys2Proof.Machine.execDelayPoly q s
  | .coarseDefine q => Sys2Proof.Machine.execCoarseDefine q s
  | .pfbCoefLoad q => Sys2Proof.Machine.execPfbCoefLoad q s
  | .skDefine q => Sys2Proof.Machine.execSkDefine q s
  | .skDelete q => Sys2Proof.Machine.execSkDelete q s
  | .instrDefine q => Sys2Proof.Machine.execInstrDefine q s
  | .instrModify q => Sys2Proof.Machine.execInstrModify q s
  | .instrDelete q => Sys2Proof.Machine.execInstrDelete q s
  | .instrStats q => Sys2Proof.Machine.execInstrStats q s
  | .zoomDefine q => Sys2Proof.Machine.execZoomDefine q s
  | .zoomDelete q => Sys2Proof.Machine.execZoomDelete q s
  | .rqGainLoad q => Sys2Proof.Machine.execRqGainLoad q s
  | .rqGainSwap q => Sys2Proof.Machine.execRqGainSwap q s
  | .rqStats q => Sys2Proof.Machine.execRqStats q s
  | .beamWeightLoad q => Sys2Proof.Machine.execBeamWeightLoad q s
  | .beamWeightSwap q => Sys2Proof.Machine.execBeamWeightSwap q s
  | .resultAck q => Sys2Proof.Machine.execResultAck q s
  | .maskDefine q => Sys2Proof.Machine.execMaskDefine q s
  | .maskLoad q => Sys2Proof.Machine.execMaskLoad q s
  | .maskSwap q => Sys2Proof.Machine.execMaskSwap q s
  | .maskArm q => Sys2Proof.Machine.execMaskArm q s
  | .maskDelete q => Sys2Proof.Machine.execMaskDelete q s
  | .plateDefine q => Sys2Proof.Machine.execPlateDefine q s
  | .plateClear q => Sys2Proof.Machine.execPlateClear q s
  | .plateDelete q => Sys2Proof.Machine.execPlateDelete q s
  | .sweepGainLoad q => Sys2Proof.Machine.execSweepGainLoad q s
  | .sweepGainSwap q => Sys2Proof.Machine.execSweepGainSwap q s
  | .captureForce q => Sys2Proof.Machine.execCaptureForce q s
  | .captureArm q => Sys2Proof.Machine.execCaptureArm q s
  | .captureRead q => Sys2Proof.Machine.execCaptureRead q s
  | .captureRelease q => Sys2Proof.Machine.execCaptureRelease q s
  | .streamDefine q => Sys2Proof.Machine.execStreamDefine q s
  | .streamModify q => Sys2Proof.Machine.execStreamModify q s
  | .streamDelete q => Sys2Proof.Machine.execStreamDelete q s
  | .streamStats q => Sys2Proof.Machine.execStreamStats q s
  | .streamCredit q => Sys2Proof.Machine.execStreamCredit q s
  | .apertureCreate q => Sys2Proof.Machine.execApertureCreate q s
  | .apertureLink q => Sys2Proof.Machine.execApertureLink q s
  | .apertureDelete q => Sys2Proof.Machine.execApertureDelete q s
  | .apertureStats q => Sys2Proof.Machine.execApertureStats q s
  | .sextantLoad q => Sys2Proof.Machine.execSextantLoad q s
  | .sextantAttach q => Sys2Proof.Machine.execSextantAttach q s
  | .sextantSwap q => Sys2Proof.Machine.execSextantSwap q s
  | .sextantParam q => Sys2Proof.Machine.execSextantParam q s
  | .sextantEvents q => Sys2Proof.Machine.execSextantEvents q s
  | .sextantRelease q => Sys2Proof.Machine.execSextantRelease q s
  | .sextantStats q => Sys2Proof.Machine.execSextantStats q s
  | .domeCreate q => Sys2Proof.Machine.execDomeCreate q s
  | .domeGrant q => Sys2Proof.Machine.execDomeGrant q s
  | .domePriority q => Sys2Proof.Machine.execDomePriority q s
  | .domeReset q => Sys2Proof.Machine.execDomeReset q s
  | .domeDelete q => Sys2Proof.Machine.execDomeDelete q s
  | .domeQuery q => Sys2Proof.Machine.execDomeQuery q s
  | .logbookRead q => Sys2Proof.Machine.execLogbookRead q s
  | .meterConfig q => Sys2Proof.Machine.execMeterConfig q s
  | .rateClass q => Sys2Proof.Machine.execRateClass q s
  | .meterRead q => Sys2Proof.Machine.execMeterRead q s
  | .eventRoute q => Sys2Proof.Machine.execEventRoute q s
  | .lutConfig q => Sys2Proof.Machine.execLutConfig q s
  | .eventMsix q => Sys2Proof.Machine.execEventMsix q s
  | .eventStats q => Sys2Proof.Machine.execEventStats q s
  | .hbmConfig q => Sys2Proof.Machine.execHbmConfig q s
  | .hbmStats q => Sys2Proof.Machine.execHbmStats q s
  | .healthRead q => Sys2Proof.Machine.execHealthRead q s
  | .qualityRead q => Sys2Proof.Machine.execQualityRead q s
  | .calibrate q => Sys2Proof.Machine.execCalibrate q s
  | .reserveSwap q => Sys2Proof.Machine.execReserveSwap q s
  | .adcConfig q => Sys2Proof.Machine.execAdcConfig q s
  | .adcCalibrate q => Sys2Proof.Machine.execAdcCalibrate q s
  | .adcRead q => Sys2Proof.Machine.execAdcRead q s
  | .dacConfig q => Sys2Proof.Machine.execDacConfig q s
  | .dacQueue q => Sys2Proof.Machine.execDacQueue q s
  | .eyepieceConfig q => Sys2Proof.Machine.execEyepieceConfig q s
  | .paletteLoad q => Sys2Proof.Machine.execPaletteLoad q s
  | .transferLoad q => Sys2Proof.Machine.execTransferLoad q s
  | .rectConfig q => Sys2Proof.Machine.execRectConfig q s
  | .updateBegin q => Sys2Proof.Machine.execUpdateBegin q s
  | .folioWrite q => Sys2Proof.Machine.execFolioWrite q s
  | .updateStatus q => Sys2Proof.Machine.execUpdateStatus q s
  | .updateActivate q => Sys2Proof.Machine.execUpdateActivate q s
  | .updateConfirm q => Sys2Proof.Machine.execUpdateConfirm q s
  | .updateAbort q => Sys2Proof.Machine.execUpdateAbort q s
  | .debugUnlock q => Sys2Proof.Machine.execDebugUnlock q s
  | .debugLock q => Sys2Proof.Machine.execDebugLock q s
  | .vfEnableWrite port enable => Sys2Proof.Machine.execVfEnableWrite port enable s
  | .functionLevelReset fn => Sys2Proof.Machine.execFunctionLevelReset fn s
  | .hostLinkDown port => Sys2Proof.Machine.execHostLinkDown port s
  | .perstAssert port => Sys2Proof.Machine.execPerstAssert port s
  | .domeResetTick dome => Sys2Proof.Machine.execDomeResetTick dome s
  | .domeResetReturn dome => Sys2Proof.Machine.execDomeResetReturn dome s
  | .logbookFlashWrite => Sys2Proof.Machine.execLogbookFlashWrite s
  | .meterIntervalClose => Sys2Proof.Machine.execMeterIntervalClose s
  | .meterRecordWrite => Sys2Proof.Machine.execMeterRecordWrite s
  | .meterCheckpoint => Sys2Proof.Machine.execMeterCheckpoint s
  | .pwrFailAssert => Sys2Proof.Machine.execPwrFailAssert s
  | .powerfailMeterClose => Sys2Proof.Machine.execPowerfailMeterClose s
  | .pwrFailDeassert => Sys2Proof.Machine.execPwrFailDeassert s
  | .unlockWrite fn w => Sys2Proof.Machine.execUnlockWrite fn w s
  | .unlockExpiry => Sys2Proof.Machine.execUnlockExpiry s
  | .swResetWrite fn w => Sys2Proof.Machine.execSwResetWrite fn w s
  | .swResetExpiry bad => Sys2Proof.Machine.execSwResetExpiry bad s
  | .idxDataAccess fn write => Sys2Proof.Machine.execIdxDataAccess fn write s
  | .shRegisterWrite fn k w => Sys2Proof.Machine.execShRegisterWrite fn k w s
  | .commitCtrlGo fn w => Sys2Proof.Machine.execCommitCtrlGo fn w s
  | .recordRewrite segment index tile agrees => Sys2Proof.Machine.execRecordRewrite segment index tile agrees s
  | .voteScrub flips => Sys2Proof.Machine.execVoteScrub flips s
  | .dmaAddrWrite fn ch off w => Sys2Proof.Machine.execDmaAddrWrite fn ch off w s
  | .dmaGo fn ch w => Sys2Proof.Machine.execDmaGo fn ch w s
  | .dmaStop fn ch w => Sys2Proof.Machine.execDmaStop fn ch w s
  | .dmaDescriptorEnd fn ch hostData next errs => Sys2Proof.Machine.execDmaDescriptorEnd fn ch hostData next errs s
  | .dmaBusError fn ch kind moved hostData errs => Sys2Proof.Machine.execDmaBusError fn ch kind moved hostData errs s
  | .dmaRetry fn ch => Sys2Proof.Machine.execDmaRetry fn ch s
  | .evtPubWrite fn w => Sys2Proof.Machine.execEvtPubWrite fn w s
  | .evtMaskWrite fn k w => Sys2Proof.Machine.execEvtMaskWrite fn k w s
  | .timeLatchWrite fn w inTickFs => Sys2Proof.Machine.execTimeLatchWrite fn w inTickFs s
  | .registerWrite fn bar off width value => Sys2Proof.Machine.execRegisterWrite fn bar off width value s
  | .eventDeliver => Sys2Proof.Machine.execEventDeliver s
  | .evPinEdge pin level cycle => Sys2Proof.Machine.execEvPinEdge pin level cycle s
  | .evPulseEnd pin => Sys2Proof.Machine.execEvPulseEnd pin s
  | .lutStretchEnd cell input => Sys2Proof.Machine.execLutStretchEnd cell input s
  | .suppressWindowEnd => Sys2Proof.Machine.execSuppressWindowEnd s
  | .bar2Read fn off len errs => Sys2Proof.Machine.execBar2Read fn off len errs s
  | .bar2Write fn off bytes errs => Sys2Proof.Machine.execBar2Write fn off bytes errs s
  | .rtPortPanic stack port level => Sys2Proof.Machine.execRtPortPanic stack port level s
  | .rtPortOverflow stack port words dome plate => Sys2Proof.Machine.execRtPortOverflow stack port words dome plate s
  | .hbmRefresh stack bank postpone => Sys2Proof.Machine.execHbmRefresh stack bank postpone s
  | .selfRefreshEntry stack => Sys2Proof.Machine.execSelfRefreshEntry stack s
  | .selfRefreshExit stack us => Sys2Proof.Machine.execSelfRefreshExit stack us s
  | .patrolScrubRead stack err => Sys2Proof.Machine.execPatrolScrubRead stack err s
  | .pageRetire stack => Sys2Proof.Machine.execPageRetire stack s
  | .retireCopyEnd stack => Sys2Proof.Machine.execRetireCopyEnd stack s
  | .hbmStackFail stack => Sys2Proof.Machine.execHbmStackFail stack s
  | .roMeasurement tile fa fr => Sys2Proof.Machine.execRoMeasurement tile fa fr s
  | .tileStatusMissing tile => Sys2Proof.Machine.execTileStatusMissing tile s
  | .healthSample temps supplies => Sys2Proof.Machine.execHealthSample temps supplies s
  | .reserveSelftest sector pass => Sys2Proof.Machine.execReserveSelftest sector pass s
  | .swapRecordsWrite sector => Sys2Proof.Machine.execSwapRecordsWrite sector s
  | .swapCrcMatch sector ok => Sys2Proof.Machine.execSwapCrcMatch sector ok s
  | .swapSwitch sector => Sys2Proof.Machine.execSwapSwitch sector s
  | .tileWithdraw tile => Sys2Proof.Machine.execTileWithdraw tile s
  | .sramPatrolRead tile sram row err use => Sys2Proof.Machine.execSramPatrolRead tile sram row err use s
  | .sramRowRepair tile sram row => Sys2Proof.Machine.execSramRowRepair tile sram row s
  | .cpHeartbeat => Sys2Proof.Machine.execCpHeartbeat s
  | .heartbeatTimeout => Sys2Proof.Machine.execHeartbeatTimeout s
  | .cpFaultReport => Sys2Proof.Machine.execCpFaultReport s
  | .standbyTakeover => Sys2Proof.Machine.execStandbyTakeover s
  | .standbyBootDone => Sys2Proof.Machine.execStandbyBootDone s
  | .calibrationEnd scope unit figs recs => Sys2Proof.Machine.execCalibrationEnd scope unit figs recs s
  | .pfbSelftestEnd sector ripple => Sys2Proof.Machine.execPfbSelftestEnd sector ripple s
  | .adcSequenceStart => Sys2Proof.Machine.execAdcSequenceStart s
  | .adcConversionDone raw => Sys2Proof.Machine.execAdcConversionDone raw s
  | .adcCalDone gain offset => Sys2Proof.Machine.execAdcCalDone gain offset s
  | .dacPacerStep dac => Sys2Proof.Machine.execDacPacerStep dac s
  | .dacShortDetect dac on => Sys2Proof.Machine.execDacShortDetect dac on s
  | .frameStart => Sys2Proof.Machine.execFrameStart s
  | .frameEnd => Sys2Proof.Machine.execFrameEnd s
  | .dpHpdChange level edid => Sys2Proof.Machine.execDpHpdChange level edid s
  | .irqHpd lost => Sys2Proof.Machine.execIrqHpd lost s
  | .dpTrainDone ok => Sys2Proof.Machine.execDpTrainDone ok s
  | .dpTrainRetry => Sys2Proof.Machine.execDpTrainRetry s
  | .transferHeaderWrite => Sys2Proof.Machine.execTransferHeaderWrite s
  | .handoverVerifyDone bad => Sys2Proof.Machine.execHandoverVerifyDone bad s
  | .handoverTakeover => Sys2Proof.Machine.execHandoverTakeover s
  | .outgoingRebootDone => Sys2Proof.Machine.execOutgoingRebootDone s
  | .confirmWarning => Sys2Proof.Machine.execConfirmWarning s
  | .confirmDeadline => Sys2Proof.Machine.execConfirmDeadline s
  | .deadlineReset bad => Sys2Proof.Machine.execDeadlineReset bad s
  | .jtagExtest cells => Sys2Proof.Machine.execJtagExtest cells s
  | .jtagSamplePreload cells => Sys2Proof.Machine.execJtagSamplePreload cells s
  | .jtagIdcode => Sys2Proof.Machine.execJtagIdcode s
  | .jtagClamp => Sys2Proof.Machine.execJtagClamp s
  | .jtagHighz => Sys2Proof.Machine.execJtagHighz s
  | .jtagBypass => Sys2Proof.Machine.execJtagBypass s
  | .trstAssert low => Sys2Proof.Machine.execTrstAssert low s
  | .sdpLineReset => Sys2Proof.Machine.execSdpLineReset s
  | .sdpTransaction rnw target addr parityOk data dataOk => Sys2Proof.Machine.execSdpTransaction rnw target addr parityOk data dataOk s
  | .tokenDataWrite w => Sys2Proof.Machine.execTokenDataWrite w s
  | .tokenGoWrite w => Sys2Proof.Machine.execTokenGoWrite w s
  | .tokenCheckDone => Sys2Proof.Machine.execTokenCheckDone s
  | .sdpLockWrite w => Sys2Proof.Machine.execSdpLockWrite w s
  | .tokenExpiry => Sys2Proof.Machine.execTokenExpiry s
  | .dbgHalt target => Sys2Proof.Machine.execDbgHalt target s
  | .dbgResume target => Sys2Proof.Machine.execDbgResume target s
  | .dbgStep target => Sys2Proof.Machine.execDbgStep target s
  | .haltedItemAbort tile => Sys2Proof.Machine.execHaltedItemAbort tile s
  | .loopbackReportEnd dome instr errors absent => Sys2Proof.Machine.execLoopbackReportEnd dome instr errors absent s
  | .brownOut => Sys2Proof.Machine.execBrownOut s
  | .vcoreAdjust sector ok => Sys2Proof.Machine.execVcoreAdjust sector ok s
  | .thermalWarning tile => Sys2Proof.Machine.execThermalWarning tile s
  | .thermalCritical tile => Sys2Proof.Machine.execThermalCritical tile s
  | .thermalTrip => Sys2Proof.Machine.execThermalTrip s
  | .bootFirmwareFault bad => Sys2Proof.Machine.execBootFirmwareFault bad s
  | .supplyReturn flash bad => Sys2Proof.Machine.execSupplyReturn flash bad s
  | .flushEnd complete => Sys2Proof.Machine.execFlushEnd complete s
  | .perstRelease port => Sys2Proof.Machine.execPerstRelease port s
  | .hostLinkUp port => Sys2Proof.Machine.execHostLinkUp port s
  | .tileControlFault tile => Sys2Proof.Machine.execTileControlFault tile s
  | .eyeMonitor lane width height => Sys2Proof.Machine.execEyeMonitor lane width height s
  | .hbmTemperatureLimit stack => Sys2Proof.Machine.execHbmTemperatureLimit stack s
  | .handoverReady => Sys2Proof.Machine.execHandoverReady s
  | .registerRead fn bar off width => Sys2Proof.Machine.execRegisterRead fn bar off width s
  | .lutFilterExpiry cell => Sys2Proof.Machine.execLutFilterExpiry cell s

end Sys2Proof.Machine
end

