-- ==== Sys2Proof/WellFormed.lean ====
section
/-! DEFINITION. WellFormed.lean: which commands name only units, functions, registers and lengths that the block has. -/
namespace Sys2Proof

/-- Four host ports, with PF0 and 64 VFs each (R410). -/
def Fn.wf (f : Fn) : Bool := f.port < 4 && f.vf < 65

/-- A request that one of the functions sends, with a response buffer of a length that Table 13-2 allows. -/
def Request.wf (q : Request) : Bool := q.fn.wf && q.rbufLen ≤ 16777216 && q.rbufLen % 8 == 0

/-- Every operand is in the range that the spec gives it: ports 0 to 127, tiles 0 to 67, sectors and host ports 0 to 3, stacks 0 to 7, domes 0 to 255,
feeds 0 to 1,023, the numbers of a dome's objects, the registers of a window. -/
def Instr.wf : Instr → Bool
  | .rstNAssert => true
  | .rstNRelease _ _ => true
  | .supplyLoss => true
  | .bootStepLimitExpiry _ => true
  | .bootComplete _ _ _ => true
  | .tickBoundary _ upsets => upsets.all (fun x => x.2.2 < 68)
  | .workItemShed dome _ _ tile => dome < 256 && tile < 64
  | .configSetApply dome _ => dome < 256
  | .refInvalidDetect => true
  | .refReacquire => true
  | .scienceTimeStep _ => true
  | .ppsEdge _ => true
  | .ppsTimeout => true
  | .houseTimeSteer _ => true
  | .ageingMeasure _ => true
  | .ageingEphemerisWrite => true
  | .tdcEdge ch _ _ _ _ _ => ch < 24
  | .tdcBlindEnd ch => ch < 24
  | .tdcPairReport pair => pair < 8
  | .adpllLock pll => pll < 5
  | .adpllLossOfLock pll => pll < 5
  | .outputCoastExpiry out => out < 4
  | .bandSearchDone pll => pll < 5
  | .clkoutReenable out => out < 4
  | .ceilingClamp out => out < 4
  | .clkCoreCtrlWrite _ => true
  | .outCtrlWrite out _ => out < 4
  | .outOdivWrite out _ => out < 4
  | .outFbLoWrite out _ => out < 4
  | .outFbHiWrite out _ => out < 4
  | .outFmaxWrite out _ => out < 4
  | .postedWriteApply => true
  | .portLinkUp port => port < 128
  | .portLinkDown port _ => port < 128
  | .ethFrameRx port _ fec _ => port < 128 && fec.all (fun w => w.lane < 32)
  | .agentReply port => port < 128
  | .membershipReport port => port < 128
  | .weltiFrameRx port lane _ fec _ _ => port < 128 && lane < 32 && fec.all (fun w => w.lane < 32)
  | .landingSlotRelease feed _ _ => feed < 1024
  | .arrivalStatsUpdate => true
  | .skBlockDecide dome _ => dome < 65536
  | .skHoldRelease dome _ => dome < 65536
  | .integrationEnd dome instr => dome < 256 && instr < 64
  | .subIntegrationEnd dome instr => dome < 256 && instr < 64
  | .dumpEnd dome instr => dome < 256 && instr < 64
  | .traceGroupEnd dome instr => dome < 256 && instr < 64
  | .sweepWindowDecide dome mask => dome < 256 && mask < 8
  | .plateDecay dome plate => dome < 256 && plate < 16
  | .plateSnapshot dome plate => dome < 256 && plate < 16
  | .triggerArrive dome instr => dome < 256 && instr < 64
  | .triggerDecide dome instr => dome < 256 && instr < 64
  | .recordClose dome instr => dome < 256 && instr < 64
  | .segmentAdvance dome instr => dome < 256 && instr < 64
  | .segmentRearm dome instr => dome < 256 && instr < 64
  | .recordStreamDone dome instr => dome < 256 && instr < 64
  | .packetTransmit dome stream _ _ => dome < 256 && stream < 64
  | .arpResolveDone fn _ _ => fn.wf
  | .arpRefresh dome stream _ => dome < 256 && stream < 64
  | .roceAckRx dome stream _ => dome < 256 && stream < 64
  | .roceNakRx dome stream _ _ => dome < 256 && stream < 64
  | .roceCnpRx dome stream => dome < 256 && stream < 64
  | .roceRtoExpiry dome stream _ => dome < 256 && stream < 64
  | .transitGranuleRx port flow _ _ _ _ _ => port < 128 && flow < 65536
  | .transitDeadline port flow _ _ _ => port < 128 && flow < 65536
  | .tickStatusRx ap _ port _ _ _ _ _ _ _ _ _ _ => ap < 256 && port < 128
  | .prepareRx ap _ _ _ _ => ap < 256
  | .readyRx ap _ _ _ => ap < 256
  | .failRx ap _ _ _ => ap < 256
  | .apertureDecide ap _ => ap < 256
  | .commitRx ap _ => ap < 256
  | .abortRx ap _ => ap < 256
  | .excludeRx ap _ => ap < 256
  | .rejoinRx ap _ _ _ _ _ => ap < 256
  | .noticeRx ap _ _ count => ap < 256 && count < 65536
  | .dataRx ap _ dome _ => ap < 256 && dome < 256
  | .dataDoneRx ap _ _ _ _ => ap < 256
  | .configRx ap _ _ _ => ap < 256
  | .controlFlowAbsent ap _ => ap < 256
  | .leadLost ap => ap < 256
  | .adoptTimeout ap => ap < 256
  | .sextantItemStart tile => tile < 68
  | .sextantItemAbort tile => tile < 68
  | .sextantTimerExpiry tile k => tile < 68 && k < 4
  | .waitEnd tile => tile < 68
  | .interruptTaken tile => tile < 68
  | .swapApply tile => tile < 68
  | .leaseScrub tile => tile < 68
  | .bundleIssue tile _ => tile < 68
  | .mbxRqTailWrite fn _ => fn.wf
  | .mbxCqHeadWrite fn _ => fn.wf
  | .mbxCtrlWrite fn _ => fn.wf
  | .mbxRingRegWrite fn off _ => fn.wf && [0x1008, 0x100C, 0x1010, 0x1020, 0x1024, 0x1028].contains off
  | .mbxErrWrite fn _ => fn.wf
  | .requestFetch fn entry _ _ => fn.wf && entry.length == 64
  | .fenceRelease fn => fn.wf
  | .nop q => q.wf
  | .capability q => q.wf
  | .commit q => q.wf
  | .groupAbort q => q.wf
  | .cancel q => q.wf
  | .status q => q.wf
  | .stateSet q => q.wf
  | .tickPeriod q => q.wf
  | .epoch q => q.wf
  | .timeRead q => q.wf
  | .tdcConfig q => q.wf
  | .tdcPair q => q.wf
  | .tdcStats q => q.wf
  | .clockCore q => q.wf
  | .clockOutput q => q.wf
  | .portConfig q => q.wf
  | .portStats q => q.wf
  | .portMgmtSend q => q.wf
  | .portMgmtRecv q => q.wf
  | .feedDefine q => q.wf
  | .feedDelete q => q.wf
  | .feedStats q => q.wf
  | .feedCondition q => q.wf
  | .coefLoad q => q.wf
  | .coefSwap q => q.wf
  | .delayPoly q => q.wf
  | .coarseDefine q => q.wf
  | .pfbCoefLoad q => q.wf
  | .skDefine q => q.wf
  | .skDelete q => q.wf
  | .instrDefine q => q.wf
  | .instrModify q => q.wf
  | .instrDelete q => q.wf
  | .instrStats q => q.wf
  | .zoomDefine q => q.wf
  | .zoomDelete q => q.wf
  | .rqGainLoad q => q.wf
  | .rqGainSwap q => q.wf
  | .rqStats q => q.wf
  | .beamWeightLoad q => q.wf
  | .beamWeightSwap q => q.wf
  | .resultAck q => q.wf
  | .maskDefine q => q.wf
  | .maskLoad q => q.wf
  | .maskSwap q => q.wf
  | .maskArm q => q.wf
  | .maskDelete q => q.wf
  | .plateDefine q => q.wf
  | .plateClear q => q.wf
  | .plateDelete q => q.wf
  | .sweepGainLoad q => q.wf
  | .sweepGainSwap q => q.wf
  | .captureForce q => q.wf
  | .captureArm q => q.wf
  | .captureRead q => q.wf
  | .captureRelease q => q.wf
  | .streamDefine q => q.wf
  | .streamModify q => q.wf
  | .streamDelete q => q.wf
  | .streamStats q => q.wf
  | .streamCredit q => q.wf
  | .apertureCreate q => q.wf
  | .apertureLink q => q.wf
  | .apertureDelete q => q.wf
  | .apertureStats q => q.wf
  | .sextantLoad q => q.wf
  | .sextantAttach q => q.wf
  | .sextantSwap q => q.wf
  | .sextantParam q => q.wf
  | .sextantEvents q => q.wf
  | .sextantRelease q => q.wf
  | .sextantStats q => q.wf
  | .domeCreate q => q.wf
  | .domeGrant q => q.wf
  | .domePriority q => q.wf
  | .domeReset q => q.wf
  | .domeDelete q => q.wf
  | .domeQuery q => q.wf
  | .logbookRead q => q.wf
  | .meterConfig q => q.wf
  | .rateClass q => q.wf
  | .meterRead q => q.wf
  | .eventRoute q => q.wf
  | .lutConfig q => q.wf
  | .eventMsix q => q.wf
  | .eventStats q => q.wf
  | .hbmConfig q => q.wf
  | .hbmStats q => q.wf
  | .healthRead q => q.wf
  | .qualityRead q => q.wf
  | .calibrate q => q.wf
  | .reserveSwap q => q.wf
  | .adcConfig q => q.wf
  | .adcCalibrate q => q.wf
  | .adcRead q => q.wf
  | .dacConfig q => q.wf
  | .dacQueue q => q.wf
  | .eyepieceConfig q => q.wf
  | .paletteLoad q => q.wf
  | .transferLoad q => q.wf
  | .rectConfig q => q.wf
  | .updateBegin q => q.wf
  | .folioWrite q => q.wf
  | .updateStatus q => q.wf
  | .updateActivate q => q.wf
  | .updateConfirm q => q.wf
  | .updateAbort q => q.wf
  | .debugUnlock q => q.wf
  | .debugLock q => q.wf
  | .vfEnableWrite port _ => port < 4
  | .functionLevelReset fn => fn.wf
  | .hostLinkDown port => port < 4
  | .perstAssert port => port < 4
  | .domeResetTick dome => dome < 256
  | .domeResetReturn dome => dome < 256
  | .logbookFlashWrite => true
  | .meterIntervalClose => true
  | .meterRecordWrite => true
  | .meterCheckpoint => true
  | .pwrFailAssert => true
  | .powerfailMeterClose => true
  | .pwrFailDeassert => true
  | .unlockWrite fn _ => fn.wf
  | .unlockExpiry => true
  | .swResetWrite fn _ => fn.wf
  | .swResetExpiry _ => true
  | .idxDataAccess fn _ => fn.wf
  | .shRegisterWrite fn k _ => fn.wf && k < 4
  | .commitCtrlGo fn _ => fn.wf
  | .recordRewrite _ _ tile _ => tile < 68
  | .voteScrub _ => true
  | .dmaAddrWrite fn ch off _ => fn.wf && ch < 8 && [0x00, 0x04, 0x08, 0x0C, 0x10, 0x18, 0x1C].contains off
  | .dmaGo fn ch _ => fn.wf && ch < 8
  | .dmaStop fn ch _ => fn.wf && ch < 8
  | .dmaDescriptorEnd fn ch _ _ _ => fn.wf && ch < 8
  | .dmaBusError fn ch kind _ _ _ => fn.wf && ch < 8 && kind < 3
  | .dmaRetry fn ch => fn.wf && ch < 8
  | .evtPubWrite fn _ => fn.wf
  | .evtMaskWrite fn k _ => fn.wf && k < 8
  | .timeLatchWrite fn _ _ => fn.wf
  | .registerWrite fn bar off _ _ => fn.wf && (bar == 0 || bar == 4) && off < 2 ^ 24
  | .eventDeliver => true
  | .evPinEdge pin _ _ => pin < 16
  | .evPulseEnd pin => pin < 16
  | .lutStretchEnd cell input => cell < 128 && input < 4
  | .suppressWindowEnd => true
  | .bar2Read fn _ _ _ => fn.wf
  | .bar2Write fn _ _ _ => fn.wf
  | .rtPortPanic stack port level => stack < 8 && port < 4 && level ≤ 16
  | .rtPortOverflow stack port _ _ _ => stack < 8 && port < 4
  | .hbmRefresh stack bank _ => stack < 8 && bank < 512
  | .selfRefreshEntry stack => stack < 8
  | .selfRefreshExit stack _ => stack < 8
  | .patrolScrubRead stack _ => stack < 8
  | .pageRetire stack => stack < 8
  | .retireCopyEnd stack => stack < 8
  | .hbmStackFail stack => stack < 8
  | .roMeasurement tile _ _ => tile < 68
  | .tileStatusMissing tile => tile < 68
  | .healthSample temps supplies => temps.length == 68 && supplies.length == 4
  | .reserveSelftest sector _ => sector < 4
  | .swapRecordsWrite sector => sector < 4
  | .swapCrcMatch sector _ => sector < 4
  | .swapSwitch sector => sector < 4
  | .tileWithdraw tile => tile < 68
  | .sramPatrolRead tile sram row _ _ => tile < 68 && sram < 96 && row < 256
  | .sramRowRepair tile sram row => tile < 68 && sram < 96 && row < 256
  | .cpHeartbeat => true
  | .heartbeatTimeout => true
  | .cpFaultReport => true
  | .standbyTakeover => true
  | .standbyBootDone => true
  | .calibrationEnd scope unit _ _ => scope < 6 && unit < 128
  | .pfbSelftestEnd sector _ => sector < 4
  | .adcSequenceStart => true
  | .adcConversionDone raw => -65536 ≤ raw && raw ≤ 65535
  | .adcCalDone gain offset => gain < 65536 && -32768 ≤ offset && offset ≤ 32767
  | .dacPacerStep dac => dac < 8
  | .dacShortDetect dac _ => dac < 8
  | .frameStart => true
  | .frameEnd => true
  | .dpHpdChange _ edid => edid.length ≤ 512
  | .irqHpd _ => true
  | .dpTrainDone _ => true
  | .dpTrainRetry => true
  | .transferHeaderWrite => true
  | .handoverVerifyDone _ => true
  | .handoverTakeover => true
  | .outgoingRebootDone => true
  | .confirmWarning => true
  | .confirmDeadline => true
  | .deadlineReset _ => true
  | .jtagExtest _ => true
  | .jtagSamplePreload _ => true
  | .jtagIdcode => true
  | .jtagClamp => true
  | .jtagHighz => true
  | .jtagBypass => true
  | .trstAssert _ => true
  | .sdpLineReset => true
  | .sdpTransaction _ target addr _ _ _ => target < 128 && addr < 2 ^ 16
  | .tokenDataWrite _ => true
  | .tokenGoWrite _ => true
  | .tokenCheckDone => true
  | .sdpLockWrite _ => true
  | .tokenExpiry => true
  | .dbgHalt target => target < 68 || (96 ≤ target && target ≤ 99)
  | .dbgResume target => target < 68 || (96 ≤ target && target ≤ 99)
  | .dbgStep target => target < 68 || (96 ≤ target && target ≤ 99)
  | .haltedItemAbort tile => tile < 68
  | .loopbackReportEnd dome instr _ _ => dome < 256 && instr < 64
  | .brownOut => true
  | .vcoreAdjust sector _ => sector < 4
  | .thermalWarning tile => tile < 68
  | .thermalCritical tile => tile < 68
  | .thermalTrip => true
  | .bootFirmwareFault _ => true
  | .supplyReturn _ _ => true
  | .flushEnd _ => true
  | .perstRelease port => port < 4
  | .hostLinkUp port => port < 4
  | .tileControlFault tile => tile < 68
  | .eyeMonitor lane _ _ => lane < 128
  | .hbmTemperatureLimit stack => stack < 8
  | .handoverReady => true
  | .registerRead fn bar off _ => fn.wf && (bar == 0 || bar == 4) && off < 2 ^ 24
  | .lutFilterExpiry cell => cell < 128

end Sys2Proof
end

