-- ==== Sys2Proof/Safety.lean ====
section
/-! DEFINITION. Safety.lean: the words that statements are made of: the request of a command, the state in which a request is decided, the invariant of every
state, and what a run that never stops is. -/
namespace Sys2Proof

/-- The opcode and the request of a command that is a mailbox request; every other command is an event of the device's own, of a pin or of a register. -/
def Instr.request : Instr → Option (Machine.Op × Request)
  | .rstNAssert => none
  | .rstNRelease _ _ => none
  | .supplyLoss => none
  | .bootStepLimitExpiry _ => none
  | .bootComplete _ _ _ => none
  | .tickBoundary _ _ => none
  | .workItemShed _ _ _ _ => none
  | .configSetApply _ _ => none
  | .refInvalidDetect => none
  | .refReacquire => none
  | .scienceTimeStep _ => none
  | .ppsEdge _ => none
  | .ppsTimeout => none
  | .houseTimeSteer _ => none
  | .ageingMeasure _ => none
  | .ageingEphemerisWrite => none
  | .tdcEdge _ _ _ _ _ _ => none
  | .tdcBlindEnd _ => none
  | .tdcPairReport _ => none
  | .adpllLock _ => none
  | .adpllLossOfLock _ => none
  | .outputCoastExpiry _ => none
  | .bandSearchDone _ => none
  | .clkoutReenable _ => none
  | .ceilingClamp _ => none
  | .clkCoreCtrlWrite _ => none
  | .outCtrlWrite _ _ => none
  | .outOdivWrite _ _ => none
  | .outFbLoWrite _ _ => none
  | .outFbHiWrite _ _ => none
  | .outFmaxWrite _ _ => none
  | .postedWriteApply => none
  | .portLinkUp _ => none
  | .portLinkDown _ _ => none
  | .ethFrameRx _ _ _ _ => none
  | .agentReply _ => none
  | .membershipReport _ => none
  | .weltiFrameRx _ _ _ _ _ _ => none
  | .landingSlotRelease _ _ _ => none
  | .arrivalStatsUpdate => none
  | .skBlockDecide _ _ => none
  | .skHoldRelease _ _ => none
  | .integrationEnd _ _ => none
  | .subIntegrationEnd _ _ => none
  | .dumpEnd _ _ => none
  | .traceGroupEnd _ _ => none
  | .sweepWindowDecide _ _ => none
  | .plateDecay _ _ => none
  | .plateSnapshot _ _ => none
  | .triggerArrive _ _ => none
  | .triggerDecide _ _ => none
  | .recordClose _ _ => none
  | .segmentAdvance _ _ => none
  | .segmentRearm _ _ => none
  | .recordStreamDone _ _ => none
  | .packetTransmit _ _ _ _ => none
  | .arpResolveDone _ _ _ => none
  | .arpRefresh _ _ _ => none
  | .roceAckRx _ _ _ => none
  | .roceNakRx _ _ _ _ => none
  | .roceCnpRx _ _ => none
  | .roceRtoExpiry _ _ _ => none
  | .transitGranuleRx _ _ _ _ _ _ _ => none
  | .transitDeadline _ _ _ _ _ => none
  | .tickStatusRx _ _ _ _ _ _ _ _ _ _ _ _ _ => none
  | .prepareRx _ _ _ _ _ => none
  | .readyRx _ _ _ _ => none
  | .failRx _ _ _ _ => none
  | .apertureDecide _ _ => none
  | .commitRx _ _ => none
  | .abortRx _ _ => none
  | .excludeRx _ _ => none
  | .rejoinRx _ _ _ _ _ _ => none
  | .noticeRx _ _ _ _ => none
  | .dataRx _ _ _ _ => none
  | .dataDoneRx _ _ _ _ _ => none
  | .configRx _ _ _ _ => none
  | .controlFlowAbsent _ _ => none
  | .leadLost _ => none
  | .adoptTimeout _ => none
  | .sextantItemStart _ => none
  | .sextantItemAbort _ => none
  | .sextantTimerExpiry _ _ => none
  | .waitEnd _ => none
  | .interruptTaken _ => none
  | .swapApply _ => none
  | .leaseScrub _ => none
  | .bundleIssue _ _ => none
  | .mbxRqTailWrite _ _ => none
  | .mbxCqHeadWrite _ _ => none
  | .mbxCtrlWrite _ _ => none
  | .mbxRingRegWrite _ _ _ => none
  | .mbxErrWrite _ _ => none
  | .requestFetch _ _ _ _ => none
  | .fenceRelease _ => none
  | .nop q => some (.nop, q)
  | .capability q => some (.capability, q)
  | .commit q => some (.commit, q)
  | .groupAbort q => some (.groupAbort, q)
  | .cancel q => some (.cancel, q)
  | .status q => some (.status, q)
  | .stateSet q => some (.stateSet, q)
  | .tickPeriod q => some (.tickPeriod, q)
  | .epoch q => some (.epoch, q)
  | .timeRead q => some (.timeRead, q)
  | .tdcConfig q => some (.tdcConfig, q)
  | .tdcPair q => some (.tdcPair, q)
  | .tdcStats q => some (.tdcStats, q)
  | .clockCore q => some (.clockCore, q)
  | .clockOutput q => some (.clockOutput, q)
  | .portConfig q => some (.portConfig, q)
  | .portStats q => some (.portStats, q)
  | .portMgmtSend q => some (.portMgmtSend, q)
  | .portMgmtRecv q => some (.portMgmtRecv, q)
  | .feedDefine q => some (.feedDefine, q)
  | .feedDelete q => some (.feedDelete, q)
  | .feedStats q => some (.feedStats, q)
  | .feedCondition q => some (.feedCondition, q)
  | .coefLoad q => some (.coefLoad, q)
  | .coefSwap q => some (.coefSwap, q)
  | .delayPoly q => some (.delayPoly, q)
  | .coarseDefine q => some (.coarseDefine, q)
  | .pfbCoefLoad q => some (.pfbCoefLoad, q)
  | .skDefine q => some (.skDefine, q)
  | .skDelete q => some (.skDelete, q)
  | .instrDefine q => some (.instrDefine, q)
  | .instrModify q => some (.instrModify, q)
  | .instrDelete q => some (.instrDelete, q)
  | .instrStats q => some (.instrStats, q)
  | .zoomDefine q => some (.zoomDefine, q)
  | .zoomDelete q => some (.zoomDelete, q)
  | .rqGainLoad q => some (.rqGainLoad, q)
  | .rqGainSwap q => some (.rqGainSwap, q)
  | .rqStats q => some (.rqStats, q)
  | .beamWeightLoad q => some (.beamWeightLoad, q)
  | .beamWeightSwap q => some (.beamWeightSwap, q)
  | .resultAck q => some (.resultAck, q)
  | .maskDefine q => some (.maskDefine, q)
  | .maskLoad q => some (.maskLoad, q)
  | .maskSwap q => some (.maskSwap, q)
  | .maskArm q => some (.maskArm, q)
  | .maskDelete q => some (.maskDelete, q)
  | .plateDefine q => some (.plateDefine, q)
  | .plateClear q => some (.plateClear, q)
  | .plateDelete q => some (.plateDelete, q)
  | .sweepGainLoad q => some (.sweepGainLoad, q)
  | .sweepGainSwap q => some (.sweepGainSwap, q)
  | .captureForce q => some (.captureForce, q)
  | .captureArm q => some (.captureArm, q)
  | .captureRead q => some (.captureRead, q)
  | .captureRelease q => some (.captureRelease, q)
  | .streamDefine q => some (.streamDefine, q)
  | .streamModify q => some (.streamModify, q)
  | .streamDelete q => some (.streamDelete, q)
  | .streamStats q => some (.streamStats, q)
  | .streamCredit q => some (.streamCredit, q)
  | .apertureCreate q => some (.apertureCreate, q)
  | .apertureLink q => some (.apertureLink, q)
  | .apertureDelete q => some (.apertureDelete, q)
  | .apertureStats q => some (.apertureStats, q)
  | .sextantLoad q => some (.sextantLoad, q)
  | .sextantAttach q => some (.sextantAttach, q)
  | .sextantSwap q => some (.sextantSwap, q)
  | .sextantParam q => some (.sextantParam, q)
  | .sextantEvents q => some (.sextantEvents, q)
  | .sextantRelease q => some (.sextantRelease, q)
  | .sextantStats q => some (.sextantStats, q)
  | .domeCreate q => some (.domeCreate, q)
  | .domeGrant q => some (.domeGrant, q)
  | .domePriority q => some (.domePriority, q)
  | .domeReset q => some (.domeReset, q)
  | .domeDelete q => some (.domeDelete, q)
  | .domeQuery q => some (.domeQuery, q)
  | .logbookRead q => some (.logbookRead, q)
  | .meterConfig q => some (.meterConfig, q)
  | .rateClass q => some (.rateClass, q)
  | .meterRead q => some (.meterRead, q)
  | .eventRoute q => some (.eventRoute, q)
  | .lutConfig q => some (.lutConfig, q)
  | .eventMsix q => some (.eventMsix, q)
  | .eventStats q => some (.eventStats, q)
  | .hbmConfig q => some (.hbmConfig, q)
  | .hbmStats q => some (.hbmStats, q)
  | .healthRead q => some (.healthRead, q)
  | .qualityRead q => some (.qualityRead, q)
  | .calibrate q => some (.calibrate, q)
  | .reserveSwap q => some (.reserveSwap, q)
  | .adcConfig q => some (.adcConfig, q)
  | .adcCalibrate q => some (.adcCalibrate, q)
  | .adcRead q => some (.adcRead, q)
  | .dacConfig q => some (.dacConfig, q)
  | .dacQueue q => some (.dacQueue, q)
  | .eyepieceConfig q => some (.eyepieceConfig, q)
  | .paletteLoad q => some (.paletteLoad, q)
  | .transferLoad q => some (.transferLoad, q)
  | .rectConfig q => some (.rectConfig, q)
  | .updateBegin q => some (.updateBegin, q)
  | .folioWrite q => some (.folioWrite, q)
  | .updateStatus q => some (.updateStatus, q)
  | .updateActivate q => some (.updateActivate, q)
  | .updateConfirm q => some (.updateConfirm, q)
  | .updateAbort q => some (.updateAbort, q)
  | .debugUnlock q => some (.debugUnlock, q)
  | .debugLock q => some (.debugLock, q)
  | .vfEnableWrite _ _ => none
  | .functionLevelReset _ => none
  | .hostLinkDown _ => none
  | .perstAssert _ => none
  | .domeResetTick _ => none
  | .domeResetReturn _ => none
  | .logbookFlashWrite => none
  | .meterIntervalClose => none
  | .meterRecordWrite => none
  | .meterCheckpoint => none
  | .pwrFailAssert => none
  | .powerfailMeterClose => none
  | .pwrFailDeassert => none
  | .unlockWrite _ _ => none
  | .unlockExpiry => none
  | .swResetWrite _ _ => none
  | .swResetExpiry _ => none
  | .idxDataAccess _ _ => none
  | .shRegisterWrite _ _ _ => none
  | .commitCtrlGo _ _ => none
  | .recordRewrite _ _ _ _ => none
  | .voteScrub _ => none
  | .dmaAddrWrite _ _ _ _ => none
  | .dmaGo _ _ _ => none
  | .dmaStop _ _ _ => none
  | .dmaDescriptorEnd _ _ _ _ _ => none
  | .dmaBusError _ _ _ _ _ _ => none
  | .dmaRetry _ _ => none
  | .evtPubWrite _ _ => none
  | .evtMaskWrite _ _ _ => none
  | .timeLatchWrite _ _ _ => none
  | .registerWrite _ _ _ _ _ => none
  | .eventDeliver => none
  | .evPinEdge _ _ _ => none
  | .evPulseEnd _ => none
  | .lutStretchEnd _ _ => none
  | .suppressWindowEnd => none
  | .bar2Read _ _ _ _ => none
  | .bar2Write _ _ _ _ => none
  | .rtPortPanic _ _ _ => none
  | .rtPortOverflow _ _ _ _ _ => none
  | .hbmRefresh _ _ _ => none
  | .selfRefreshEntry _ => none
  | .selfRefreshExit _ _ => none
  | .patrolScrubRead _ _ => none
  | .pageRetire _ => none
  | .retireCopyEnd _ => none
  | .hbmStackFail _ => none
  | .roMeasurement _ _ _ => none
  | .tileStatusMissing _ => none
  | .healthSample _ _ => none
  | .reserveSelftest _ _ => none
  | .swapRecordsWrite _ => none
  | .swapCrcMatch _ _ => none
  | .swapSwitch _ => none
  | .tileWithdraw _ => none
  | .sramPatrolRead _ _ _ _ _ => none
  | .sramRowRepair _ _ _ => none
  | .cpHeartbeat => none
  | .heartbeatTimeout => none
  | .cpFaultReport => none
  | .standbyTakeover => none
  | .standbyBootDone => none
  | .calibrationEnd _ _ _ _ => none
  | .pfbSelftestEnd _ _ => none
  | .adcSequenceStart => none
  | .adcConversionDone _ => none
  | .adcCalDone _ _ => none
  | .dacPacerStep _ => none
  | .dacShortDetect _ _ => none
  | .frameStart => none
  | .frameEnd => none
  | .dpHpdChange _ _ => none
  | .irqHpd _ => none
  | .dpTrainDone _ => none
  | .dpTrainRetry => none
  | .transferHeaderWrite => none
  | .handoverVerifyDone _ => none
  | .handoverTakeover => none
  | .outgoingRebootDone => none
  | .confirmWarning => none
  | .confirmDeadline => none
  | .deadlineReset _ => none
  | .jtagExtest _ => none
  | .jtagSamplePreload _ => none
  | .jtagIdcode => none
  | .jtagClamp => none
  | .jtagHighz => none
  | .jtagBypass => none
  | .trstAssert _ => none
  | .sdpLineReset => none
  | .sdpTransaction _ _ _ _ _ _ => none
  | .tokenDataWrite _ => none
  | .tokenGoWrite _ => none
  | .tokenCheckDone => none
  | .sdpLockWrite _ => none
  | .tokenExpiry => none
  | .dbgHalt _ => none
  | .dbgResume _ => none
  | .dbgStep _ => none
  | .haltedItemAbort _ => none
  | .loopbackReportEnd _ _ _ _ => none
  | .brownOut => none
  | .vcoreAdjust _ _ => none
  | .thermalWarning _ => none
  | .thermalCritical _ => none
  | .thermalTrip => none
  | .bootFirmwareFault _ => none
  | .supplyReturn _ _ => none
  | .flushEnd _ => none
  | .perstRelease _ => none
  | .hostLinkUp _ => none
  | .tileControlFault _ => none
  | .eyeMonitor _ _ _ => none
  | .hbmTemperatureLimit _ => none
  | .handoverReady => none
  | .registerRead _ _ _ _ => none
  | .lutFilterExpiry _ => none

end Sys2Proof

namespace Sys2Proof.Machine

/-- A step is safe if it answers a next state: it neither stops the machine nor leaves a command without a meaning. -/
def Answers (o : Host.Outcome State Fault Refusal) : Prop := ∃ t : State, o = .next t

/-- A step answers a next state that has a property: the form of every statement of what a command does. -/
def NextWith (o : Host.Outcome State Fault Refusal) (p : State → Prop) : Prop := ∃ t : State, o = .next t ∧ p t

/-- Between two states a numbered source has raised its event with a cause, unless the suppression window already held it (R478). -/
def Raises (s t : State) (src cause : Nat) : Prop :=
  ∃ y, t.out.raised = s.out.raised ++ y ∧ ((src, cause) ∈ y ∨ (neverSuppressed src = false ∧ (src, cause) ∈ s.router.window))

/-- The Logbook's RAM ring holds an entry of a class, type and tick (R428). -/
def Logged (t : State) (cls typ tick : Nat) : Prop := ∃ e ∈ t.log.ram, e.cls = cls ∧ e.typ = typ ∧ e.tick = tick

/-- One plan differs from another in the record of one object at most: that object stands there with a block, or not at all. -/
def PlanSets (p n : Plan) (op : Op) (dome index : Nat) (b : Option Block) : Prop :=
  n.find op dome index = b ∧ ∀ o d i, (o, d, i) ≠ (op, dome, index) → n.find o d i = p.find o d i

/-- The invariant of every state: HBM, and the program and data memories of every Sextant, are in canonical form (addresses strictly rising, no byte 0 listed),
so that equal memories are equal data. -/
structure State.Inv (s : State) : Prop where
  hbm : Memory.wf s.hbm.mem = true
  sextants : ∀ e ∈ s.sextants, Memory.wf e.2.prog = true ∧ Memory.wf e.2.data = true

/-- A request is taken in flight under its tag (R380, R383). -/
def State.accept (s : State) (op : Op) (q : Request) : State :=
  { s with inflight := s.inflight ++ [({ opcode := op.info.code, req := q, discard := false } : InFlight)] }

/-- Has the request been fetched before (REQUEST_FETCH)? -/
def State.fetched (s : State) (op : Op) (q : Request) : Bool := s.inflight.any (fun x => x.opcode == op.info.code && x.req == q)

/-- Has an earlier step decided the request, or its fetch failed? -/
def State.settled (s : State) (op : Op) (q : Request) : Bool :=
  s.inflight.any (fun x => x.opcode == op.info.code && x.req == q && x.decided.isSome) ||
  ((s.inflight.find? (fun x => x.req.fn == q.fn && x.req.tag == q.tag)).bind (fun x => x.verdict)).isSome

/-- The state in which a request is decided at once: the present one if it has been fetched and neither is held nor waits for an address, the one that takes
it in flight if its mailbox may take it and its tag is free; none in COLD and HALTED, for a mailbox that is not served, behind a FENCE, and for a kind C, I or M
request before those fetched earlier are decided (R378, R379, R382, R383, R387, R388). -/
def State.decides (s : State) (op : Op) (q : Request) : Option State :=
  if s.dev.st = .cold ∨ s.dev.st = .halted ∨ !((s.plan.domeOf q.fn).isSome || Fn.isOperator q.fn) then none
  else if s.fetched op q then
    (if s.held.contains (op, q) || s.resolving.contains (op, q) || s.settled op q || fenced s q || !inTurn s op q then none else some s)
  else if !mayTake s q.fn || isWin q || (inflightOf s q.fn).any (fun x => x.req.tag == q.tag) || fenced (s.accept op q) q || !inTurn (s.accept op q) op q then none
  else some (s.accept op q)

/-- The dome of a request; the device's own number where the mailbox is an operator's (R378). -/
def State.domeFor (s : State) (q : Request) : Nat := (s.plan.domeOf q.fn).getD devDome

/-- The checks that every request takes before those of its own rule (R399): header, role, generations. -/
def State.passes (s : State) (op : Op) (q : Request) : Bool := !headerBad s op q && !roleBad s op q && !staleBad s q

/-- The newest completion entry that the device has written answers a request: its function, tag, opcode, status, DETAIL, TSN and RESULT (Table 13-3), and the
response before it (R402). -/
def Completes (t : State) (op : Op) (q : Request) (status detail tsn result : Nat) (body : Option (List Byte)) (high : Nat) : Prop :=
  ∃ c, t.out.completions.getLast? = some c ∧ c.fn = q.fn ∧ c.tag = q.tag.toNat ∧ c.opcode = op.info.code ∧ c.status = status ∧ c.detail = detail ∧
    c.tsn = tsn ∧ c.result = result ∧ c.resp = (response q body high).1

/-- Will the completion of a request be written: its mailbox is enabled and has not been disabled since the fetch (R379, R381)? -/
def State.writes (s : State) (q : Request) : Bool :=
  (mbxOf s q.fn).enable && !(match s.inflight.find? (fun x => x.req.fn == q.fn && x.req.tag == q.tag) with | some x => x.discard | none => false)

end Sys2Proof.Machine
end

