-- ==== Sys2Proof/Certificates/Slice0/Obligations.lean ====
section
/-! DEFINITION. Obligations.lean: what is claimed of the block. Each statement says which rules of spec/ it rests on; most are conjunctions, one clause for each case.
A clause that rests on a choice of the model names its log entry. Names in capitals are those of the opcode table. -/
open Sys2Proof Sys2Proof.Machine

/-- A step takes the command at the front of the queue and answers what that command's meaning answers on the state with the rest of the queue; with no command waiting the block idles: the state
stays as it is. (The queue is the model's own; that an empty one idles, with no tick of its own, is a DESIGN CHOICE: log entry 1.) -/
def Obligations.StepTakesTheFrontCommand : Prop :=
  (∀ (c : Instr) (rest : List Instr) (s : State), step { s with pending := c :: rest } = exec c { s with pending := rest }) ∧
  (∀ (c : Instr) (s : State), step { s with pending := c :: s.pending } = exec c s) ∧ ∀ s : State, s.pending = [] → step s = .next s

/-- What reset leaves. By the spec: the device in COLD (R27, R28), tick 0 running with M = 12,800 (R36, R39), house time unsynchronised (R53), no dome but D0 and every dome's generation 1 (R427), every
lane enabled and the owner registers locked with no failure counted (Tables 15-3, 15-4), the four outputs off, with OUTn_STATUS 0, FMAX 0 and the divider ODIV 4 (R84), the registers of every mailbox, DMA channel
and event block at the values of Tables 15-7, 15-9 and 15-10, VF Enable clear (Table 14-2), metering intervals of 60 s (R432), the HBM settings of Table 17-5, the Eyepiece's palette 0 and its tables
T[i] = i (R550, R551), every DAC at code 0 (R540), the Sextants scrubbed (R347), the debug port locked with IDCODE selected (R590, R597), sector 0's control processor active and sector 2's standby
(R18), the rails at 0.750 V (R608). By the model's choice: the s and o of a TDC channel hold 128 and 0 (log entry 3), the ADC's factors are 1 and 0 (log entry 25), the flash is as log entry 121 says. -/
def Obligations.ResetState : Prop :=
  (State.reset.dev.st = .cold ∧ State.reset.time.tick64 = 0 ∧ State.reset.time.len = 12800 ∧ State.reset.plan.m = 12800 ∧ State.reset.time.unsynced = true ∧ State.reset.time.sciSet = false ∧
    State.reset.pending = [] ∧ State.reset.psets = [] ∧ State.reset.inflight = []) ∧
  (State.reset.plan.laneEn = List.replicate 4 (BitVec.ofNat 32 0xFFFFFFFF) ∧ State.reset.regs.armed = false ∧ State.reset.regs.failCount = 0 ∧
    (∀ n, n < 4 → outStatus (outOf State.reset n) = 0 ∧ State.reset.plan.find .clockOutput devDome n = some [.num n, .num 0, .num 0, .num 0, .num 4, .num 0, .num 0, .num 0, .num 0])) ∧
  (∀ f : Fn, (mbxOf State.reset f).enable = false ∧ (mbxOf State.reset f).rqSize = 4 ∧ (mbxOf State.reset f).cqSize = 7 ∧ (mbxOf State.reset f).rqTail = 0 ∧ (mbxOf State.reset f).cqHead = 0 ∧
    (mbxOf State.reset f).phase = true ∧ (evtOf State.reset f).pend = 0 ∧ (evtOf State.reset f).mask = 0 ∧ (evtOf State.reset f).ovr = 0 ∧ (commitOf State.reset f).busy = false ∧
    ∀ ch, (dmaOf State.reset f ch).ctrl = 0 ∧ (dmaOf State.reset f ch).busy = false ∧ (dmaOf State.reset f ch).halted = false) ∧
  (∀ d, (domeRun State.reset d).gen = 1 ∧ (domeRun State.reset d).cfgGen = 0 ∧ (domeRun State.reset d).staged = [] ∧ State.reset.plan.find .domeCreate devDome d = none) ∧
  (State.reset.hostPorts = List.replicate 4 { linkUp := false, perst := true, vfEnable := false } ∧ State.reset.plan.find .meterConfig devDome 0 = some [.num 60, .num 0] ∧
    (∀ h, h < 8 → State.reset.plan.find .hbmConfig devDome h = some (hbmConfigBlock0 h)) ∧ State.reset.hbm.pages = [] ∧ ∀ a, memGet State.reset.hbm.mem a = 0) ∧
  (State.reset.eye.palette = List.replicate 256 0 ∧ (∀ t ∈ State.reset.eye.tables, ∀ i, i < 255 → t[i]? = some (i + 1)) ∧ (∀ n, (dacRun State.reset n).code = 0 ∧ (dacRun State.reset n).queue = []) ∧
    ∀ t, (sxOf State.reset t).lease = none ∧ (sxOf State.reset t).v = List.replicate 32 0 ∧ (sxOf State.reset t).x = List.replicate 32 0 ∧ (sxOf State.reset t).prog = [] ∧ (sxOf State.reset t).data = []) ∧
  (State.reset.dbg.tap = .idcode ∧ State.reset.dbg.locked = true ∧ State.reset.care.cps = [.active, .dormant, .standby, .dormant] ∧ State.reset.care.vcore = [75000, 75000, 75000, 75000] ∧
    (∀ ch, (tdcOf State.reset ch).lastS = 128 ∧ (tdcOf State.reset ch).lastO = 0) ∧ State.reset.adc.gain = 2 ^ 15 ∧ State.reset.adc.offset = 0)

/-- The state that reset leaves meets the invariant: HBM and the memories of the Sextants are in canonical form. -/
def Obligations.ResetMeetsInvariant : Prop := State.reset.Inv

/-- An invariant that every step keeps, from every state that meets it and not only on runs from reset: HBM and the program and data memories of all Sextants stay in canonical form (addresses strictly
rising, no byte 0 listed), whichever command stands at the front of the queue: so that two states with equal bytes everywhere hold equal data. -/
def Obligations.EveryStepKeepsMemoryCanonical : Prop := ∀ s t : State, s.Inv → step s = .next t → t.Inv

/-- Every command completes: a well-formed one answers a next state from every state; none is ever refused; one that is not well formed can at most stop because the unit it names does not exist; and no
command touches the queue of those that wait behind it. -/
def Obligations.WellFormedCommandsAnswer : Prop :=
  (∀ (i : Instr) (s : State), i.wf = true → Answers (exec i s)) ∧ (∀ (i : Instr) (s : State), Answers (exec i s) ∨ exec i s = .fault .noSuchUnit) ∧
  ∀ (i : Instr) (s t : State), exec i s = .next t → t.pending = s.pending

/-- The device tick (R39, R40, R52, R59): TICK_BOUNDARY in a state in which ticks run. TICK64 goes up by one from where what was due leaves it, the grid time
goes on by the length of the tick that ends, house time by the same length slewed by at most 100 ppm (R53), and the tick phase by what that length differs from M, and by the measured drift while
the core is following the reference back to lock. The Chronograph's part of it raises source 1188. With no set due TICK64 goes up by exactly one. In a state in which no ticks run nothing happens.
Shed work (R45, R47, R165): WORK_ITEM_SHED. A work item that a unit has on a logical tile is listed as shed in the running tick, once; a zoom window's has no
notice. Nothing is shed that a unit does not have.
Every command named at the head completes: a clause concludes its own next state from conditions on the state and the operands alone. -/
def Obligations.TickBoundaryAndShedWork : Prop :=
  (∀ s (ph : Int) ups, ticking s = true → ups.all (fun x => decide (x.2.2 < 68)) = true →
    NextWith (exec (.tickBoundary ph ups) s) fun t => ∃ a, a = applyDue s none ∧ t.time.tick64 = a.time.tick64 + 1 ∧ t.time.grid = a.time.grid + a.time.len * uGrid ∧
      t.time.house = a.time.house + houseStep a ∧ t.time.phase = nextPhase ph a) ∧
  (∀ s (ph : Int), (timeTick ph s).time.tick64 = s.time.tick64 + 1 ∧ Raises s (timeTick ph s) 1188 (causeId 0x3F 20) ∧
    (following s = false → s.time.len = s.plan.m → (timeTick ph s).time.phase = s.time.phase) ∧
    (0 ≤ s.time.slew → s.time.house + s.time.len * uGrid ≤ (timeTick ph s).time.house) ∧ s.time.house ≤ (timeTick ph s).time.house) ∧
  (∀ s (ph : Int) ups, ticking s = true → ups.all (fun x => decide (x.2.2 < 68)) = true → s.psets.all (fun x => decide (s.time.tick64 < x.e)) = true →
    NextWith (exec (.tickBoundary ph ups) s) fun t => t.time.tick64 = s.time.tick64 + 1 ∧ t.time.house = s.time.house + houseStep s) ∧
  (∀ s (ph : Int) ups, ticking s = false → ups.all (fun x => decide (x.2.2 < 68)) = true → exec (.tickBoundary ph ups) s = .next s) ∧
  (∀ s (d i l : Nat) u, d < 256 → l < 64 → ticking s = true → hasItem s d u i l = true → s.sheds.contains (d, u, i, l) = false →
    NextWith (exec (.workItemShed d u i l) s) fun t => t.sheds = s.sheds ++ [(d, u, i, l)]) ∧
  (∀ s (d i l : Nat), d < 256 → l < 64 → ticking s = true → hasItem s d .zoom i l = true → s.sheds.contains (d, .zoom, i, l) = false →
    exec (.workItemShed d .zoom i l) s = .next { s with sheds := s.sheds ++ [(d, .zoom, i, l)] }) ∧
  (∀ s (d i l : Nat) u, d < 256 → l < 64 → (ticking s = false ∨ hasItem s d u i l = false ∨ s.sheds.contains (d, u, i, l) = true) →
    exec (.workItemShed d u i l) s = .next s)

/-- Configuration sets at their tick (R387, R390): CONFIG_SET_APPLY names a set by dome and configuration generation. When it is the only set that is due, it leaves the
pending list, the plan in force becomes the one that its commands give, and the active configuration CRC follows the plan; a set that is not due, or does not exist, changes nothing, and in HALTED none
applies (R30). A posted write of the clock block that is due goes first (R82): what is said here is said of the state after it.
Every command named at the head completes: a clause concludes its own next state from conditions on the state and the operands alone. -/
def Obligations.ConfigSetAppliesWhenDue : Prop :=
  (∀ s (d g : Nat), d < 256 → exec (.configSetApply d g) s = exec (.configSetApply d g) (postedFirst s)) ∧
  (∀ s (d g : Nat) x, d < 256 → s.dev.st ≠ .halted → postDue s = false → s.psets.filter (fun (y : Machine.PSet) => decide (y.e ≤ s.time.tick64)) = [x] → x.dome = d → x.cfgGen = g → x.cmds = [] → x.macs = [] →
    NextWith (exec (.configSetApply d g) s) fun t => t.psets = s.psets.filter (fun y => !(y.dome == d && y.cfgGen == g)) ∧ t.plan = setPlan s s.time.tick64 s.plan [] x.sh ∧
      t.regs.crcActive = t.plan.crc) ∧
  (∀ s (d g : Nat) x, d < 256 → s.dev.st ≠ .halted → postDue s = false → s.psets.filter (fun (y : Machine.PSet) => decide (y.e ≤ s.time.tick64)) = [x] → x.dome = d → x.cfgGen = g →
    NextWith (exec (.configSetApply d g) s) fun t => t.regs.crcActive = t.plan.crc) ∧
  (∀ s (d g : Nat) x, d < 256 → s.dev.st ≠ .halted → postDue s = false → s.psets.filter (fun (y : Machine.PSet) => decide (y.e ≤ s.time.tick64)) = [x] → x.dome = d → x.cfgGen = g →
    setDelta s.time.tick64 x.cmds = 0 → NextWith (exec (.configSetApply d g) s) fun t => t.psets = s.psets.filter (fun y => !(y.dome == d && y.cfgGen == g)) ∧
      t.plan = setPlan s s.time.tick64 s.plan x.cmds x.sh ∧ t.regs.crcActive = t.plan.crc ∧ t.time.tick64 = s.time.tick64) ∧
  (∀ s (d g : Nat), d < 256 → postDue s = false → (s.dev.st = .halted ∨ s.psets.all (fun x => !((x.dome, x.cfgGen) == (d, g)) || decide (s.time.tick64 < x.e)) = true) →
    exec (.configSetApply d g) s = .next s)

/-- The time-to-digital converters (R63 to R69): TDC_EDGE, TDC_BLIND_END, TDC_PAIR_REPORT. A recording channel that is not blind queues one record of 16 bytes, numbers
it, and is blind afterwards, except where 64 records are queued: the edge then counts as lost and the sequence stands; an edge in the blind time is missed. After N
differences a pair makes one report of them.
Every command named at the head completes: a clause concludes its own next state from conditions on the state and the operands alone. -/
def Obligations.TdcRecordsEdges : Prop :=
  (∀ s (ch c f f1 f2 : Nat) (rise : Bool), ch < 24 → tdcTakes s.plan ch rise = true → s.care.cals.contains (1, ch) = false → s.care.cals.contains (1, 127) = false → (tdcOf s ch).blind = false →
    NextWith (exec (.tdcEdge ch rise c f f1 f2) s) fun t => (tdcOf t ch).blind = true ∧
      ((tdcOf s ch).fifo.length < 64 → ∃ r, (tdcOf t ch).fifo = (tdcOf s ch).fifo ++ [r] ∧ r.length = 16 ∧ (tdcOf t ch).seq = ((tdcOf s ch).seq + 1) % 65536 ∧ (tdcOf t ch).overrun = false) ∧
      (64 ≤ (tdcOf s ch).fifo.length → (tdcOf t ch).fifo = (tdcOf s ch).fifo ∧ (tdcOf t ch).fifoLost = (tdcOf s ch).fifoLost + 1 ∧ (tdcOf t ch).seq = (tdcOf s ch).seq ∧
        (tdcOf t ch).overrun = (tdcOf s ch).overrun ∧ Raises s t 1184 (causeId 0x3F 16) ∧ t = { s with tdc := t.tdc, router := t.router, out := t.out }) ∧
      t = { s with tdc := t.tdc, pairs := t.pairs, instrs := t.instrs, router := t.router, out := t.out }) ∧
  (∀ s (ch c f f1 f2 : Nat) (rise : Bool), ch < 24 → tdcTakes s.plan ch rise = true → s.care.cals.contains (1, ch) = false → s.care.cals.contains (1, 127) = false → (tdcOf s ch).blind = true →
    NextWith (exec (.tdcEdge ch rise c f f1 f2) s) fun t => t.tdc = (onTdc s ch (fun k => { k with missed := k.missed + 1, overrun := true })).tdc ∧ Raises s t 1184 (causeId 0x3F 16) ∧
      t = { s with tdc := t.tdc, router := t.router, out := t.out }) ∧
  (∀ s (ch c f f1 f2 : Nat) (rise : Bool), ch < 24 → tdcTakes s.plan ch rise = false → exec (.tdcEdge ch rise c f f1 f2) s = .next s) ∧
  (∀ s (ch : Nat), ch < 24 → exec (.tdcBlindEnd ch) s = .next (onTdc s ch (fun k => { k with blind := false }))) ∧
  (∀ s (p : Nat) b, s.plan.find .tdcPair devDome p = some b → b.nat 4 ≤ (tgetD s.pairs p TdcPairRun.reset).diffs.length →
    exec (.tdcPairReport p) s = .next { s with pairs := tset s.pairs p { tgetD s.pairs p TdcPairRun.reset with diffs := (tgetD s.pairs p TdcPairRun.reset).diffs.drop (b.nat 4), flags := 0, reports := (tgetD s.pairs p TdcPairRun.reset).reports ++ [pairReport ((tgetD s.pairs p TdcPairRun.reset).diffs.take (b.nat 4)) (tgetD s.pairs p TdcPairRun.reset).flags] } })

/-- Reference loss and return (R55, R57, R75, R76, R84): REF_INVALID_DETECT, REF_REACQUIRE, SCIENCE_TIME_STEP. A valid reference that is declared invalid starts holdover in
the running tick, sets CLK_STICKY bit 1, raises 1194 and 1186 and is logged; a locked core on REF_IN freezes its control word. One that returns is counted valid, and a core on the quartz
moves to REF_IN unless SRC_SEL is QUARTZ; at the first boundary after it holdover ends from that tick on and science time steps once. REF_OFFSET takes what was measured, a free
value: outside ±20,000 ppb, or 0x7FFF_FFFF, of a lost reference, within of a returned one (log entry 138).
Every command named at the head completes: a clause concludes its own next state from conditions on the state and the operands alone. -/
def Obligations.ReferenceLossAndReturn : Prop :=
  (∀ s, s.time.refValid = true →
    NextWith (exec .refInvalidDetect s) fun t =>
      t.time = { s.time with refValid := false, holdover := true, holdTick := true, holdTicks := s.time.tick64 :: s.time.holdTicks, reacquired := false } ∧
      t.clk = { s.clk with sticky := setBit s.clk.sticky 1 true, coreWord := t.clk.coreWord, refOffset := t.clk.refOffset, coast := !s.clk.quartz || s.clk.coast } ∧
      ((s.clk.coreLock = false ∨ s.clk.quartz = true) → t.clk.coreWord = s.clk.coreWord) ∧
      Raises s t 1194 (causeId 0x3F 2) ∧ Raises s t 1186 (causeId 0x3F 18) ∧ Logged t 4 (causeId 0x3F 18) s.time.tick64 ∧
      t = { s with time := t.time, clk := t.clk, log := t.log, router := t.router, out := t.out, free := t.free }) ∧
  (∀ s, s.time.refValid = false →
    exec .refInvalidDetect s = .next { measureRef false s with time := { s.time with reacquired := false } }) ∧
  (∀ s, s.time.refValid = false →
    NextWith (exec .refReacquire s) fun t =>
      t.time = { s.time with refValid := true, reacquired := s.time.holdover } ∧
      t.clk = { s.clk with quartz := s.clk.quartz && s.plan.srcSel == 2, coast := s.clk.coast && s.clk.quartz && s.plan.srcSel == 2, refOffset := BitVec.ofInt 32 (clampInt (-20000) 20000 (Config.freeInt s.free)) } ∧
      Raises s t 1194 (causeId 0x3F 2) ∧ (s.clk.quartz = true → s.plan.srcSel ≠ 2 → Raises s t 1195 (causeId 0x3F 3)) ∧
      t = { s with time := t.time, clk := t.clk, router := t.router, out := t.out, free := s.free + 1 }) ∧
  (∀ s (d : Int), s.time.reacquired = true →
    NextWith (exec (.scienceTimeStep d) s) fun t =>
      t.time = { s.time with reacquired := false, holdover := false, holdTick := false, holdTicks := s.time.holdTicks.filter (fun n => n != s.time.tick64), phase := s.time.phase + d, phaseRange := decide (s.plan.period < 2 * ((s.time.phase + d) * uFs).natAbs),
                             relock := (d, s.time.phase + d) } ∧
      Raises s t 1187 (causeId 0x3F 19) ∧ Logged t 4 (causeId 0x3F 19) s.time.tick64 ∧
      t = { s with time := t.time, log := t.log, router := t.router, out := t.out }) ∧
  (∀ s, s.time.refValid = true → exec .refReacquire s = .next s) ∧
  (∀ s (d : Int), s.time.reacquired = false → exec (.scienceTimeStep d) s = .next s)

/-- PPS supervision (R56): PPS_EDGE and PPS_TIMEOUT. An edge more than 100 ns from the second that the reference defines, and 1.1 s without an edge, set
PPS_FAULT; a good edge clears it; a change raises 1185.
House time and the ageing correction (R53, R54): HOUSE_TIME_STEER, AGEING_MEASURE, AGEING_EPHEMERIS_WRITE. House time is given at most
100 ppm of the time that has passed to slew towards science time, or steps forward once when more than 1 s behind; where no ticks run it goes on by the time that has passed; the ageing correction follows its measurement by at most 0.05 ppm a day and is stored once a day.
Every command named at the head completes: a clause concludes its own next state from conditions on the state and the operands alone. -/
def Obligations.PpsAndHouseTime : Prop :=
  (∀ s (x : Nat), s.time.sciSet = true →
    NextWith (exec (.ppsEdge x) s) fun t =>
      t.time = { s.time with ppsFault := decide (100000000 * uFs < offSecond (sciOfTick s s.time.tick64 + (x * uFs : Nat))), ppsGrid := some (s.time.grid + x * uFs) } ∧
      (t.time.ppsFault ≠ s.time.ppsFault → Raises s t 1185 (causeId 0x3F 17)) ∧ t = { s with time := t.time, router := t.router, out := t.out }) ∧
  (∀ s (x : Nat), s.time.sciSet = false →
    NextWith (exec (.ppsEdge x) s) fun t =>
      t.time = { s.time with ppsGrid := some (s.time.grid + x * uFs), ppsFault := (match s.time.ppsGrid with | some p => decide (100000000 * uFs < offSecond ((s.time.grid + x * uFs : Nat) - (p : Int))) | none => false) } ∧
      (t.time.ppsFault ≠ s.time.ppsFault → Raises s t 1185 (causeId 0x3F 17)) ∧ t = { s with time := t.time, router := t.router, out := t.out }) ∧
  (∀ s, NextWith (exec .ppsTimeout s) fun t =>
      t.time = { s.time with ppsFault := true } ∧ (s.time.ppsFault = false → Raises s t 1185 (causeId 0x3F 17)) ∧
      t = { s with time := t.time, router := t.router, out := t.out }) ∧
  (∀ s (x : Nat), s.time.sciSet = true → s.time.holdover = false → ticking s = true → (uSec : Int) < sciOfTick s s.time.tick64 - s.time.house →
    NextWith (exec (.houseTimeSteer x) s) fun t =>
      t.time = { s.time with house := (sciOfTick s s.time.tick64).toNat, slew := 0, unsynced := false } ∧ t.meter = { s.meter with stepped := true } ∧
      Logged t 4 (causeId 0x3F 22) s.time.tick64 ∧ t = { s with time := t.time, meter := t.meter, log := t.log, router := t.router, out := t.out }) ∧
  (∀ s (x : Nat), s.time.sciSet = true → s.time.holdover = false → ticking s = true → sciOfTick s s.time.tick64 - s.time.house ≤ (uSec : Int) →
    exec (.houseTimeSteer x) s = .next { s with time := { s.time with slew := clampInt (-((x * uFs / 10000 : Nat) : Int)) ((x * uFs / 10000 : Nat) : Int) (sciOfTick s s.time.tick64 - s.time.house), unsynced := false } }) ∧
  (∀ s (x : Nat), ticking s = true → (s.time.sciSet = false ∨ s.time.holdover = true) → exec (.houseTimeSteer x) s = .next s) ∧
  (∀ s (x : Nat), ticking s = false → s.dev.st ≠ .cold → exec (.houseTimeSteer x) s = .next { s with time := { s.time with house := s.time.house + x * uFs } }) ∧
  (∀ s (x : Nat), ticking s = false → s.dev.st = .cold → exec (.houseTimeSteer x) s = .next s) ∧
  (∀ s (v : Int), s.time.refValid = true → exec (.ageingMeasure v) s = .next { s with time := { s.time with ageing := s.time.ageing + clampInt (-578) 578 (v - s.time.ageing) } }) ∧
  (∀ s (v : Int), s.time.refValid = false → exec (.ageingMeasure v) s = .next s) ∧
  (∀ s, NextWith (exec .ageingEphemerisWrite s) fun t =>
      t.time = { s.time with ageingStored := s.time.ageing } ∧
      (halfBytes (ephLive s) + 36 ≤ 98304 → s.care.half < s.care.halves.length →
        ∃ r, ephLive t = ephLive s ++ [r] ∧ r.typ = 3 ∧ r.unit = 0 ∧ r.payload = leBytes 4 (ofSigned 32 s.time.ageing)) ∧
      t = { s with time := t.time, care := t.care })

/-- The clock loops (R73 to R79): ADPLL_LOCK, ADPLL_LOSS_OF_LOCK, OUTPUT_COAST_EXPIRY, BAND_SEARCH_DONE, CLKOUT_REENABLE, CEILING_CLAMP. Loop 0 is the core, loops 1 to 4
are the outputs. A core that locks raises 1193, one that loses lock sets CLK_STICKY bit 0 and raises 1192; an output that loses lock coasts, sets its sticky bit and
raises 1196 + n; after its coast it is muted and searches; the search takes the band nearest its target, with a fine control word that the spec leaves open (a free
value); and an output is enabled again after LOCK, but not above its ceiling. The pads of a muted or disabled output are held, P low and N high, an LVCMOS pad low, and are of high impedance under FMT = OFF (R78, R80).
Every command named at the head completes: a clause concludes its own next state from conditions on the state and the operands alone. -/
def Obligations.ClockLoops : Prop :=
  (∀ s, s.clk.coreLock = false → NextWith (exec (.adpllLock 0) s) fun t =>
    t.clk = { s.clk with coreLock := true, coast := false } ∧ Raises s t 1193 (causeId 0x3F 1) ∧ t = { s with clk := t.clk, router := t.router, out := t.out }) ∧
  (∀ s, s.clk.coreLock = true → exec (.adpllLock 0) s = .next s) ∧
  (∀ s (n : Nat), n < 4 → exec (.adpllLock (n + 1)) s = .next (onOut s n (fun o => { o with lock := true, search := false, coast := false }))) ∧
  (∀ s, s.time.refValid = false → NextWith (exec (.adpllLossOfLock 0) s) fun t =>
    t.clk = { s.clk with coreLock := false, coast := true, sticky := setBit s.clk.sticky 0 true, coreWord := t.clk.coreWord } ∧ (s.clk.coreLock = false → t.clk.coreWord = s.clk.coreWord) ∧ Raises s t 1192 (causeId 0x3F 0) ∧
    t = { s with clk := t.clk, router := t.router, out := t.out, free := t.free }) ∧
  (∀ s, s.time.refValid = true → NextWith (exec (.adpllLossOfLock 0) s) fun t =>
    t.clk = { s.clk with coreLock := false, coast := true, sticky := setBit (setBit s.clk.sticky 0 true) 1 true, coreWord := t.clk.coreWord } ∧ t.time.refValid = false ∧ t.time.holdover = true ∧
    Raises s t 1192 (causeId 0x3F 0) ∧ Raises s t 1194 (causeId 0x3F 2) ∧ Raises s t 1186 (causeId 0x3F 18) ∧
    t = { s with clk := t.clk, time := t.time, log := t.log, router := t.router, out := t.out, free := t.free }) ∧
  (∀ s (n : Nat), n < 4 → NextWith (exec (.adpllLossOfLock (n + 1)) s) fun t =>
    t.clk = { (onOut s n (fun o => { o with lock := false, coast := true })).clk with sticky := setBit s.clk.sticky (4 + n) true } ∧ Raises s t (1196 + n) (causeId 0x3F (4 + n)) ∧
    t = { s with clk := t.clk, router := t.router, out := t.out }) ∧
  (∀ s (n : Nat), n < 4 → (outOf s n).coast = true → outOn (s.plan.clkOut n) = true →
    exec (.outputCoastExpiry n) s = .next (onOut s n (fun o => { o with muted := true, lock := false, coast := false, fmtMute := false, search := (s.plan.clkOut n).nat 3 == 0 }))) ∧
  (∀ s, exec (.bandSearchDone 0) s = .next { s with clk := { s.clk with coreWord := BitVec.ofNat 32 (30 * 2 ^ 24 + Config.freeNat s.free % 2 ^ 24) }, free := s.free + 1 }) ∧
  (∀ s (n : Nat), n < 4 → (outOf s n).search = true → exec (.bandSearchDone (n + 1)) s =
    .next { (onOut s n (fun o => { o with search := false, band := bandOf ((s.plan.clkOut n).nat 5) (Config.freeNat s.free) })) with free := s.free + 1 }) ∧
  (∀ s (n : Nat), n < 4 → (outOf s n).muted = true → outOn (s.plan.clkOut n) = true → overCeiling (s.plan.clkOut n) = false → ((outOf s n).lock = true ∨ (s.plan.clkOut n).nat 3 = 1 ∨ (outOf s n).fmtMute = true) →
    NextWith (exec (.clkoutReenable n) s) fun t => t.clk = (onOut s n (fun o => { o with muted := false, fmtMute := false, clamp := false })).clk ∧
      Raises s t (1200 + n) (causeId 0x3F (8 + n)) ∧ t = { s with clk := t.clk, router := t.router, out := t.out }) ∧
  (∀ s (n : Nat), n < 4 → NextWith (exec (.ceilingClamp n) s) fun t =>
    t.clk.outs = (onOut s n (fun o => { o with clamp := true, lock := false, coast := true })).clk.outs ∧ t.clk.sticky = setBit (setBit s.clk.sticky (8 + n) true) (4 + n) true ∧
    Raises s t (1196 + n) (causeId 0x3F (4 + n)) ∧ Raises s t 1204 (causeId 0x3F 12) ∧ t = { s with clk := t.clk, router := t.router, out := t.out }) ∧
  (∀ s (n : Nat), ((s.plan.clkOut n).nat 2 = 0 → clkPads s n = (.highZ, .highZ)) ∧
    ((s.plan.clkOut n).nat 2 ≠ 0 → ((outOf s n).muted = true ∨ (s.plan.clkOut n).flag 1 = false) → clkPads s n = (.low, if (s.plan.clkOut n).nat 2 = 4 then .low else .high)))

/-- The clock registers (R83, R84, R442, R443): CLK_CORE_CTRL_WRITE, OUT_CTRL_WRITE, OUT_ODIV_WRITE, OUT_FB_LO_WRITE, OUT_FB_HI_WRITE, OUT_FMAX_WRITE. Each write is
logged and consumes the unlock; a posted register takes its value if none is posted already, and discards it with LOST otherwise; FB_LO is staged only; FMAX applies at
once under the unlock, with no effect on an output whose FOUT the new ceiling allows, and is refused without it.
Every command named at the head completes: a clause concludes its own next state from conditions on the state and the operands alone. -/
def Obligations.ClockRegisterWrites : Prop :=
  let posts (c : Instr) (r : PostReg) (v : State → Nat) : Prop :=
    (∀ s, s.clk.posted = none → NextWith (exec c s) fun t => t.clk = { s.clk with posted := some (r, v s), postedDue := false } ∧ t.regs = { s.regs with armed := false } ∧
      Logged t 0 0 s.time.tick64 ∧ t = { s with clk := t.clk, regs := t.regs, log := t.log, router := t.router, out := t.out }) ∧
    (∀ s, s.clk.posted ≠ none → NextWith (exec c s) fun t => t.clk = { s.clk with sticky := setBit s.clk.sticky 13 true } ∧ t.regs = { s.regs with armed := false } ∧
      Raises s t 1205 (causeId 0x3F 13) ∧ t = { s with clk := t.clk, regs := t.regs, log := t.log, router := t.router, out := t.out })
  (∀ w, posts (.clkCoreCtrlWrite w) .core (fun _ => w.toNat)) ∧ (∀ (n : Nat) w, n < 4 → posts (.outCtrlWrite n w) (.ctrl n) (fun _ => w.toNat)) ∧
  (∀ (n : Nat) w, n < 4 → posts (.outOdivWrite n w) (.odiv n) (fun _ => w.toNat)) ∧
  (∀ (n : Nat) w, n < 4 → posts (.outFbHiWrite n w) (.fb n) (fun s => bits w.toNat 15 0 * 2 ^ 32 + (outOf s n).fbLo)) ∧
  (∀ (n : Nat) w s, n < 4 → NextWith (exec (.outFbLoWrite n w) s) fun t => t.clk = (onOut s n (fun o => { o with fbLo := w.toNat })).clk ∧
    t.regs = { s.regs with armed := false } ∧ Logged t 0 0 s.time.tick64 ∧ t = { s with clk := t.clk, regs := t.regs, log := t.log, router := t.router, out := t.out }) ∧
  (∀ (n : Nat) w s, n < 4 → s.regs.armed = true → NextWith (exec (.outFmaxWrite n w) s) fun t =>
    t.plan = s.plan.put .clockOutput devDome n ((s.plan.clkOut n).put 8 (.num (bits w.toNat 20 0))) ∧ t.regs = { s.regs with armed := false } ∧ Logged t 0 0 s.time.tick64 ∧
    (overCeiling ((s.plan.clkOut n).put 8 (.num (bits w.toNat 20 0))) = false → t.clk = s.clk) ∧ t = { s with plan := t.plan, regs := t.regs, clk := t.clk, log := t.log, router := t.router, out := t.out }) ∧
  (∀ (n : Nat) w s, n < 4 → s.regs.armed = false → NextWith (exec (.outFmaxWrite n w) s) fun t =>
    t.regs = { s.regs with armed := false, failCount := satAdd s.regs.failCount 1 65535 } ∧ Logged t 1 2 s.time.tick64 ∧ Raises s t 1347 (causeId 0x3F 3) ∧
    t = { s with regs := t.regs, log := t.log, router := t.router, out := t.out })

/-- POSTED_WRITE_APPLY (R79, R83, R442): the posted value of CLK_CORE_CTRL, OUTn_CTRL, OUTn_ODIV or OUTn_FB applies with what follows from it, or sets CFG_ERR and leaves
the value before it; BUSY clears in either case. The write is due once a tick boundary has come since it was posted, and at once where no ticks run;
before that it waits.
Every command named at the head completes: a clause concludes its own next state from conditions on the state and the operands alone. -/
def Obligations.PostedWriteApplies : Prop :=
  (∀ s, (s.clk.posted = none ∨ s.clk.postedDue = false ∧ ticking s = true) → exec .postedWriteApply s = .next s) ∧
  (∀ s r (v : Nat), s.clk.posted = some (r, v) → (s.clk.postedDue = true ∨ ticking s = false) → NextWith (exec .postedWriteApply s) fun t => t.clk.posted = none ∧
    t = { s with clk := t.clk, plan := t.plan, router := t.router, out := t.out, free := t.free }) ∧
  (∀ s (v : Nat), s.clk.posted = some (.core, v) → (s.clk.postedDue = true ∨ ticking s = false) → bits v 5 4 ≠ 3 → NextWith (exec .postedWriteApply s) fun t =>
    t.plan = s.plan.put .clockCore devDome 0 [.num (bits v 5 4), .num (bits v 0 0)] ∧
    t.clk = { s.clk with posted := none, postedDue := false, quartz := t.clk.quartz, coast := t.clk.coast, coreWord := t.clk.coreWord } ∧
    t.clk.quartz = (if bits v 5 4 = 2 then true else if s.time.refValid then false else s.clk.quartz && (bits v 5 4 != 1 || s.dev.st == .boot)) ∧
    (t.clk.quartz = s.clk.quartz → t.clk.coast = s.clk.coast ∧ t.clk.coreWord = s.clk.coreWord) ∧ (t.clk.quartz ≠ s.clk.quartz → t.clk.coast = (!t.clk.quartz && !s.time.refValid))) ∧
  (∀ s (n v : Nat), s.clk.posted = some (.ctrl n, v) → (s.clk.postedDue = true ∨ ticking s = false) → (4 < bits v 3 1 ∨ 1 < bits v 5 4 ∨ bits v 9 8 = 3) → NextWith (exec .postedWriteApply s) fun t =>
    t.clk = { s.clk with posted := none, postedDue := false, sticky := setBit s.clk.sticky 12 true } ∧ Raises s t 1205 (causeId 0x3F 13) ∧ t = { s with clk := t.clk, router := t.router, out := t.out }) ∧
  (∀ s (n v : Nat) b, s.clk.posted = some (.ctrl n, v) → (s.clk.postedDue = true ∨ ticking s = false) → bits v 3 1 ≤ 4 → bits v 5 4 ≤ 1 → bits v 9 8 ≠ 3 →
    b = [(s.plan.clkOut n).at 0, .num (bits v 0 0), .num (bits v 3 1), .num (bits v 5 4), (s.plan.clkOut n).at 4, (s.plan.clkOut n).at 5, .num (bits v 11 10), .num (bits v 9 8), (s.plan.clkOut n).at 8] →
    outBad b = none → NextWith (exec .postedWriteApply s) fun t => t.plan = s.plan.put .clockOutput devDome n b) ∧
  (∀ s (n v : Nat), s.clk.posted = some (.odiv n, v) → (s.clk.postedDue = true ∨ ticking s = false) → 4 ≤ bits v 12 0 → bits v 12 0 ≤ 4096 → outBad ((s.plan.clkOut n).put 4 (.num (bits v 12 0))) = none →
    NextWith (exec .postedWriteApply s) fun t => t.plan = s.plan.put .clockOutput devDome n ((s.plan.clkOut n).put 4 (.num (bits v 12 0)))) ∧
  (∀ s (n v : Nat), s.clk.posted = some (.odiv n, v) → (s.clk.postedDue = true ∨ ticking s = false) → (bits v 12 0 < 4 ∨ 4096 < bits v 12 0) → NextWith (exec .postedWriteApply s) fun t =>
    t.clk = { s.clk with posted := none, postedDue := false, sticky := setBit s.clk.sticky 12 true } ∧ Raises s t 1205 (causeId 0x3F 13) ∧ t = { s with clk := t.clk, router := t.router, out := t.out }) ∧
  (∀ s (n v : Nat), s.clk.posted = some (.fb n, v) → (s.clk.postedDue = true ∨ ticking s = false) → fbMin ≤ v → v ≤ fbMax → outBad ((s.plan.clkOut n).put 5 (.num v)) = none →
    NextWith (exec .postedWriteApply s) fun t => t.plan = s.plan.put .clockOutput devDome n ((s.plan.clkOut n).put 5 (.num v))) ∧
  (∀ s (n v : Nat), s.clk.posted = some (.fb n, v) → (s.clk.postedDue = true ∨ ticking s = false) → (v < fbMin ∨ fbMax < v) → NextWith (exec .postedWriteApply s) fun t =>
    t.clk = { s.clk with posted := none, postedDue := false, sticky := setBit s.clk.sticky 12 true } ∧ Raises s t 1205 (causeId 0x3F 13) ∧ t = { s with clk := t.clk, router := t.router, out := t.out })

/-- Links and the port agent (R89, R92, R97, R121 to R123): PORT_LINK_UP, PORT_LINK_DOWN, AGENT_REPLY, MEMBERSHIP_REPORT, ARRIVAL_STATS_UPDATE. A configured port's link that comes
up or goes down, or a lane of it that does, raises source 816 + 2p, and a fall is counted (that of a whole link once: the model's choice, log entry 143); what is up already, or down already, stays as it is; the agent takes the oldest diverted frame and answers a request for the port's own addresses, 1,000 a second;
membership is reported for the groups of the port's feeds; the extremes of arrival are published in ns and start afresh.
Every command named at the head completes: a clause concludes its own next state from conditions on the state and the operands alone. -/
def Obligations.LinksAndPortAgent : Prop :=
  (∀ s (p : Nat) b, p < 128 → s.plan.port p = some b → (portRun s p).allUp = false → NextWith (exec (.portLinkUp p) s) fun t =>
    t.ports = (onPort s p (fun r => { r with linkUp := true, lanes := r.lanes.map laneWake })).ports ∧ Raises s t (816 + 2 * p) (causeId 0x11 p) ∧
    t = { s with ports := t.ports, router := t.router, out := t.out }) ∧
  (∀ s (p : Nat), p < 128 → (s.plan.port p = none ∨ (portRun s p).allUp = true) → exec (.portLinkUp p) s = .next s) ∧
  (∀ s (p : Nat), p < 128 → (s.plan.port p = none ∨ (portRun s p).linkUp = false) → exec (.portLinkDown p none) s = .next s) ∧
  (∀ s (p k : Nat), p < 128 → (s.plan.port p = none ∨ ((portRun s p).lanes.getD k LaneRun.reset).st = .down) → exec (.portLinkDown p (some k)) s = .next s) ∧
  (∀ s (p : Nat) b, p < 128 → s.plan.port p = some b → (portRun s p).linkUp = true → NextWith (exec (.portLinkDown p none) s) fun t =>
    (portRun t p).linkUp = false ∧ (portRun t p).lanes = (portRun s p).lanes.map laneDown ∧ (portRun t p).count .linkDown 0 = ((portRun s p).count .linkDown 0 + 1) % 2 ^ 64 ∧
    Raises s t (816 + 2 * p) (causeId 0x11 p) ∧ t = { s with ports := t.ports, router := t.router, out := t.out }) ∧
  (∀ s (p k : Nat) b, p < 128 → s.plan.port p = some b → ((portRun s p).lanes.getD k LaneRun.reset).st ≠ .down → NextWith (exec (.portLinkDown p (some k)) s) fun t =>
    (portRun t p).linkUp = (portRun s p).linkUp ∧ (portRun t p).lanes = (setLane k laneDown (portRun s p)).lanes ∧
    (portRun t p).count .linkDown k = ((portRun s p).count .linkDown k + 1) % 2 ^ 64 ∧ Raises s t (816 + 2 * p) (causeId 0x11 p) ∧
    t = { s with ports := t.ports, router := t.router, out := t.out }) ∧
  (∀ s (p : Nat) f rest b, p < 128 → (portRun s p).agentQ = f :: rest → s.plan.port p = some b → (portRun s p).agentSec = houseSec s → 1000 ≤ (portRun s p).agentUsed →
    NextWith (exec (.agentReply p) s) fun t => (portRun t p).agentQ = rest ∧ (portRun t p).count .agentDrop 0 = ((portRun s p).count .agentDrop 0 + 1) % 2 ^ 64 ∧
      t = { s with ports := t.ports }) ∧
  (∀ s (p : Nat) f rest b, p < 128 → (portRun s p).agentQ = f :: rest → s.plan.port p = some b → ((portRun s p).agentSec ≠ houseSec s ∨ (portRun s p).agentUsed < 1000) →
    NextWith (exec (.agentReply p) s) fun t => (portRun t p).agentQ = rest ∧ (t.out.frames = s.out.frames ∨ t.out.frames = s.out.frames ++ [(p, .answer f)]) ∧
      ((ethView f).etype = 0x0806 → beField (ethView f).body 6 2 = 1 → ipNone (ipBytes b 4) = false → mapV4 (sliceL (ethView f).body 24 4) = ipBytes b 4 →
        t.out.frames = s.out.frames ++ [(p, .answer f)]) ∧ t = { s with ports := t.ports, out := { s.out with frames := t.out.frames } }) ∧
  (∀ s (p : Nat), p < 128 → NextWith (exec (.membershipReport p) s) fun t =>
    t.out.frames = s.out.frames ++ (if ((portGroups s.plan p).filter isV4).isEmpty then [] else [(p, .report false (((portGroups s.plan p).filter isV4).map ofBe))]) ++
      (if ((portGroups s.plan p).filter (fun a => !isV4 a)).isEmpty then [] else [(p, .report true (((portGroups s.plan p).filter (fun a => !isV4 a)).map ofBe))]) ∧
    t = { s with out := { s.out with frames := t.out.frames } }) ∧
  (∀ s, NextWith (exec .arrivalStatsUpdate s) fun t => t = { s with feeds := t.feeds } ∧ (∀ e ∈ t.feeds, e.2.runArr = none) ∧
    ∀ f r lo hi, (f, r) ∈ s.feeds → r.runArr = some (lo, hi) →
      (f, { r with arrMin := lo / (1000000 * uFs : Nat), arrMax := hi / (1000000 * uFs : Nat), runArr := none }) ∈ t.feeds)

/-- Frames that a port receives (R90 to R98): ETH_FRAME_RX and WELTI_FRAME_RX. A frame on a port of its kind whose link, or lane, is up is counted; an Ethernet frame is then
dropped at the first check of Table 4-2 that it fails, with that check's counter, and one that passes them all lands as a packet of its feed; a Weltilink lane in HUNT is
FRAMED after four good headers in a row, and one that is FRAMED hunts after four bad ones. Nothing but feeds, ports, the counters of RoCE streams, events and the model's own counter of free values changes.
Every command named at the head completes: a clause concludes its own next state from conditions on the state and the operands alone. -/
def Obligations.ReceivedFramesAreChecked : Prop :=
  let counted (s : State) (p n : Nat) (fec : List FecWords) (lane : Nat) : State := fecCount fec p (bump (bump s p lane .rxFrames 1) p lane .rxBytes n)
  (∀ s (p : Nat) fr fec (rx : Nat), p < 128 → fec.all (fun w => decide (w.lane < 32)) = true → NextWith (exec (.ethFrameRx p fr fec rx) s) fun t =>
    t = { s with feeds := t.feeds, ports := t.ports, streams := t.streams, router := t.router, out := t.out, free := t.free }) ∧
  (∀ s (p : Nat) fr fec (rx : Nat) b, p < 128 → fec.all (fun w => decide (w.lane < 32)) = true → s.plan.port p = some b → portEth b = true → (portRun s p).linkUp = true →
    (fr.length < 4 ∨ leField fr (fr.length - 4) 4 ≠ crc32 (fr.take (fr.length - 4))) → exec (.ethFrameRx p fr fec rx) s = .next (bump (counted s p fr.length fec 0) p 0 .fcsErr 1)) ∧
  (∀ s (p : Nat) fr fec (rx : Nat) b, p < 128 → fec.all (fun w => decide (w.lane < 32)) = true → s.plan.port p = some b → portEth b = true → (portRun s p).linkUp = true →
    4 ≤ fr.length → leField fr (fr.length - 4) 4 = crc32 (fr.take (fr.length - 4)) → fr.length < 64 →
    exec (.ethFrameRx p fr fec rx) s = .next (bump (counted s p fr.length fec 0) p 0 .runt 1)) ∧
  (∀ s (p : Nat) fr fec (rx : Nat) b e v c f k pl clip inv, p < 128 → fec.all (fun w => decide (w.lane < 32)) = true → s.plan.port p = some b → portEth b = true → (portRun s p).linkUp = true →
    64 ≤ fr.length → leField fr (fr.length - 4) 4 = crc32 (fr.take (fr.length - 4)) → e = ethView fr → fr.length ≤ b.nat 11 + (if e.vlans.isEmpty then 18 else 22) → e.etype ≠ 0x8808 →
    macTaken s.plan p b e.dst = true →
    e.vlans = (match b.nat? 10 with | some v => [v] | none => []) → v = ipView e → ((b.flag 12 && ptpEvent e v) || roceFrame v || ptpFrame e v || agentFrame e v) = false → v.ok = true → v.proto = 17 → udpSumOk v = true →
    ((s.plan.objs .feedDefine).filter (fun f => feedMatch p b f.2.2 v)).head? = some c → encapOk (c.2.2.is 1 1) (v.body.drop 8) = true →
    ((s.plan.objs .feedDefine).filter (fun f => feedMatch p b f.2.2 v)).find? (fun f => identMatch f.2.2 (v.body.drop 8)) = some f → headerAgrees f.2.2 (v.body.drop 8) = some (k, pl, clip, inv) →
    exec (.ethFrameRx p fr fec rx) s = .next (landPacket (counted s p fr.length fec 0) f.2.1 k rx pl clip inv)) ∧
  (∀ s (p l : Nat) fr fec bad (rx : Nat), p < 128 → l < 32 → fec.all (fun w => decide (w.lane < 32)) = true → NextWith (exec (.weltiFrameRx p l fr fec bad rx) s) fun t =>
    t = { s with feeds := t.feeds, ports := t.ports, router := t.router, out := t.out }) ∧
  (∀ s (p l : Nat) fr fec bad (rx : Nat) b, p < 128 → l < 32 → fec.all (fun w => decide (w.lane < 32)) = true → s.plan.port p = some b → portEth b = false → l < b.nat 2 →
    ((portRun s p).lanes.getD l LaneRun.reset).st = .hunt → (beField fr 0 2 == 0x5E7A && beField fr 28 4 == crc32c (fr.take 28)) = true → ((portRun s p).lanes.getD l LaneRun.reset).good < 3 →
    exec (.weltiFrameRx p l fr fec bad rx) s = .next (onLane (counted s p fr.length fec l) p l (fun x => { x with good := x.good + 1 }))) ∧
  (∀ s (p l : Nat) fr fec bad (rx : Nat) b, p < 128 → l < 32 → fec.all (fun w => decide (w.lane < 32)) = true → s.plan.port p = some b → portEth b = false → l < b.nat 2 →
    ((portRun s p).lanes.getD l LaneRun.reset).st = .hunt → (beField fr 0 2 == 0x5E7A && beField fr 28 4 == crc32c (fr.take 28)) = false →
    exec (.weltiFrameRx p l fr fec bad rx) s = .next (onLane (counted s p fr.length fec l) p l (fun x => { x with good := 0 }))) ∧
  (∀ s (p l : Nat) fr fec bad (rx : Nat) b, p < 128 → l < 32 → fec.all (fun w => decide (w.lane < 32)) = true → s.plan.port p = some b → portEth b = false → l < b.nat 2 →
    ((portRun s p).lanes.getD l LaneRun.reset).st = .hunt → (beField fr 0 2 == 0x5E7A && beField fr 28 4 == crc32c (fr.take 28)) = true → 3 ≤ ((portRun s p).lanes.getD l LaneRun.reset).good →
    NextWith (exec (.weltiFrameRx p l fr fec bad rx) s) fun t => ((portRun t p).lanes.getD l LaneRun.reset).st = .framed ∧ Raises s t (816 + 2 * p) (causeId 0x11 p)) ∧
  (∀ s (p l : Nat) fr fec bad (rx : Nat) b, p < 128 → l < 32 → fec.all (fun w => decide (w.lane < 32)) = true → s.plan.port p = some b → portEth b = false → l < b.nat 2 →
    ((portRun s p).lanes.getD l LaneRun.reset).st = .framed → (beField fr 0 2 == 0x5E7A && beField fr 28 4 == crc32c (fr.take 28)) = false → 3 ≤ ((portRun s p).lanes.getD l LaneRun.reset).bad →
    NextWith (exec (.weltiFrameRx p l fr fec bad rx) s) fun t => ((portRun t p).lanes.getD l LaneRun.reset).st = .hunt ∧ Raises s t (816 + 2 * p) (causeId 0x11 p) ∧
      (portRun t p).count .linkDown l = ((portRun s p).count .linkDown l + 1) % 2 ^ 64)

/-- Landing slots and spectral kurtosis (R110, R173 to R175): LANDING_SLOT_RELEASE changes the feed alone: the slot that is due leaves its ring, counts VALID_SAMPLES, CLIP_SAMPLES and
its poisoned granules, and goes to conditioning with its tick record as landed, one output tick for each sub-band; a ring that is closed goes once its last slot has. SK_BLOCK_DECIDE classes the channels of the
oldest whole block of a known unit, counts them by class and blanks those outside under BLANK, and SK_HOLD_RELEASE lets the oldest held tick go on, with its blanking, to the readers of the feed or to the
instrument of the unit, once no undecided block holds its frames.
Every command named at the head completes: a clause concludes its own next state from conditions on the state and the operands alone. -/
def Obligations.LandingAndKurtosis : Prop :=
  (∀ s (f : Nat) a b, f < 1024 → NextWith (exec (.landingSlotRelease f a b) s) fun t => t = { s with feeds := t.feeds } ∧
    (∀ g, g ≠ f → tget t.feeds g = tget s.feeds g) ∧ ∀ r ∈ (feedRun t f).rings, (r.closed && r.slots.isEmpty) = false) ∧
  (∀ s (f : Nat) a b r sl sm rec, f < 1024 → (feedRun s f).rings = [r] → r.slots.find? (fun x => x.tick + feedH r.block + 4 == s.time.tick64) = some sl → sl.bad = [] →
    sm = { sl with grans := sl.grans.filter (fun e => !a.contains e.1) } → rec = feedRecOf s r sm (slotSamples r sm) (a.any (fun g => (tget sl.grans g).isSome)) →
    NextWith (exec (.landingSlotRelease f a b) s) fun t => (feedRun t f).rings = [{ r with slots := r.slots.filter (fun x => x.tick != sl.tick) }].filter (fun x => !(x.closed && x.slots.isEmpty)) ∧
      (feedRun t f).valid = ((feedRun s f).valid + rec.valid) % 2 ^ 64 ∧ (feedRun t f).clip = ((feedRun s f).clip + rec.clip) % 2 ^ 64 ∧
      (feedRun t f).landPoison = (feedRun s f).landPoison + (a.filter (fun g => (tget sl.grans g).isSome)).length ∧ (feedRun t f).raws = (feedRun s f).raws ++ [rawTickOf r rec (slotSamples r sm)] ∧
      ((∀ x ∈ (feedRun s f).outs, x.tick ≠ sl.tick) → ∃ l, (feedRun t f).outs = (feedRun s f).outs ++ l ∧ l.length = feedK r.block ∧ ∀ x ∈ l, x.tick = sl.tick)) ∧
  (∀ s (d i : Nat), d < 65536 → skKnown s (d, i) = true → exec (.skBlockDecide d i) s = .next (skDecide (takeSrcs s) (d, i))) ∧
  (∀ s (d i stop : Nat) r x rest b cls exc, d < 65536 → skKnown s (d, i) = true → r = skRun (takeSrcs s) (d, i) → r.frames = x :: rest → skSetting r x.2.1 = some b → (∀ e ∈ rest, skSetting r e.2.1 = some b) → skEnd b r = some stop →
    cls = (List.range (b.nat 4)).map (fun n => (skClass b ((r.frames.filter (fun e => decide (e.1 < stop))).map (fun e => e.2.2.getD n noSmp))).2.2.2) →
    exc = (List.range (b.nat 4)).filter (fun n => cls.getD n 3 == 1 || cls.getD n 3 == 2) → NextWith (exec (.skBlockDecide d i) s) fun t => (skRun t (d, i)).at0 = stop ∧
      (skRun t (d, i)).frames = r.frames.filter (fun e => !decide (e.1 < stop)) ∧ (skRun t (d, i)).held = r.held ∧ (skRun t (d, i)).blocks = r.blocks + b.nat 4 ∧
      (skRun t (d, i)).high = r.high + (cls.filter (fun c => c == 1)).length ∧ (skRun t (d, i)).low = r.low + (cls.filter (fun c => c == 2)).length ∧
      (skRun t (d, i)).untested = r.untested + (cls.filter (fun c => c == 3)).length ∧
      (skRun t (d, i)).blanks = (if b.is 8 0 ∧ exc ≠ [] then r.blanks ++ [(r.at0, stop, exc.map (fun n => b.nat 3 + n))] else r.blanks) ∧
      (d = devDome → ∃ w, (skRun t (d, i)).records = r.records ++ [w])) ∧
  (∀ s (d i : Nat), d < 65536 → skKnown s (d, i) = false → exec (.skBlockDecide d i) s = .next s ∧ exec (.skHoldRelease d i) s = .next s) ∧
  (∀ s (d i : Nat), d < 65536 → skKnown s (d, i) = true → NextWith (exec (.skBlockDecide d i) s) fun t =>
    t = { s with handoff := t.handoff, instrs := t.instrs, made := t.made, out := t.out, router := t.router, sks := t.sks, taken := t.taken, zooms := t.zooms }) ∧
  (∀ s (f due : Nat) c rest, skKnown s (devDome, f) = true → (skRun (takeSrcs s) (devDome, f)).held = (due, c) :: rest →
    (c.frames.isEmpty = true ∨ ((c.frames.getLast?.map (fun e => e.1)).getD 0) < (skRun (takeSrcs s) (devDome, f)).at0) →
    NextWith (exec (.skHoldRelease devDome f) s) fun t => (skRun t (devDome, f)).held = rest ∧
      t.handoff = (takeSrcs s).handoff ++ [(Nat.max due s.time.tick64, .src (.feed f) (skApply (skRun (takeSrcs s) (devDome, f)).blanks c))]) ∧
  (∀ s (d i due : Nat) r c rest b src, d < devDome → skKnown s (d, i) = true → r = skRun (takeSrcs s) (d, i) → r.held = (due, c) :: rest →
    (c.frames.isEmpty = true ∨ ((c.frames.getLast?.map (fun e => e.1)).getD 0) < r.at0) → s.plan.instr d (i / 2 ^ 17) = some b →
    src = (if i % 2 ^ 17 < 2 ^ 16 then .feed (i % 2 ^ 16) else .window d (i % 2 ^ 16)) → NextWith (exec (.skHoldRelease d i) s) fun t => (skRun t (d, i)).held = rest ∧
      ∀ e ∈ (iSources d b).zipIdx, e.1 = src → ∃ x ∈ (instrRun t d (i / 2 ^ 17)).inq, x.1 = e.2 ∧ due ≤ x.2.1 ∧ s.time.tick64 ≤ x.2.1 ∧ x.2.2 = (skApply r.blanks c).range (iTaken b).1 (iTaken b).2)

/-- The lead's decision (R338): READY_RX, FAIL_RX and APERTURE_DECIDE. A reply is kept once for each member that was asked, READY as status 0 with its predicted CRC. With replies from all and none a
failure, every member is sent COMMIT with the effective tick and has its reference from that tick on; with a failure, or with a reply missing by tick a + 2 L_c + 2, every member is sent ABORT, the abort is counted
and the lead's own set goes; before that the lead waits. A replay has no request, so nothing completes. A reply to what a sub-aperture lead has forwarded lets it answer its own lead (R336).
Every command named at the head completes: a clause concludes its own next state from conditions on the state and the operands alone. -/
def Obligations.ApertureLeadDecides : Prop :=
  (∀ s (a p i crc : Nat), a < 256 → (∀ e ∈ s.apertures, ∀ h ∈ e.2.holding, h.below = []) → NextWith (exec (.readyRx a p i crc) s) fun t => t = { s with apertures := t.apertures } ∧ (∀ b, b ≠ a → apOf t b = apOf s b) ∧
      (apOf t a).preparing = (apOf s a).preparing.map (fun x => if x.id = i ∧ x.members.contains p ∧ (tget x.replies p).isNone then { x with replies := tset x.replies p (0, crc) } else x) ∧
      (apOf t a).members = (apOf s a).members) ∧
  (∀ s (a p i st : Nat), a < 256 → st ≠ 0 → (∀ e ∈ s.apertures, ∀ h ∈ e.2.holding, h.below = []) → NextWith (exec (.failRx a p i st) s) fun t => t = { s with apertures := t.apertures } ∧ (∀ b, b ≠ a → apOf t b = apOf s b) ∧
      (apOf t a).preparing = (apOf s a).preparing.map (fun x => if x.id = i ∧ x.members.contains p ∧ (tget x.replies p).isNone then { x with replies := tset x.replies p (st, 0) } else x)) ∧
  (∀ s (a p i crc c : Nat) h, a < 256 → h ∈ (apOf s c).holding → h.below = [((a, i, p), none)] → (∀ e ∈ s.apertures, ∀ g ∈ e.2.holding, g.below ≠ [] → e.1 = c ∧ g = h) →
    NextWith (exec (.readyRx a p i crc) s) fun t => (apOf t c).outq = (apOf s c).outq ++ [(apLeadOf s c, 2, h.id, leBytes 4 h.crc)] ∧ t = { s with apertures := t.apertures }) ∧
  (∀ s (a i : Nat), a < 256 → (apOf s a).preparing.find? (fun x => x.id == i) = none → exec (.apertureDecide a i) s = .next s) ∧
  (∀ s (a i : Nat) x p, a < 256 → (apOf s a).preparing.find? (fun y => y.id == i) = some x → p ∈ x.members → tget x.replies p = none → s.time.tick64 < x.at0 + 2 * s.plan.apLc a + 2 →
    exec (.apertureDecide a i) s = .next s) ∧
  (∀ s (a i : Nat) x, a < 256 → (apOf s a).preparing.find? (fun y => y.id == i) = some x → (∀ p ∈ x.members, ∃ crc, tget x.replies p = some (0, crc)) → x.req = none →
    NextWith (exec (.apertureDecide a i) s) fun t => (apOf t a).preparing = (apOf s a).preparing.filter (fun y => y.id != x.id) ∧
      (apOf t a).outq = (apOf s a).outq ++ x.members.map (fun p => (p, 4, x.id, leBytes 8 x.e)) ∧ (apOf t a).aborts = (apOf s a).aborts ∧
      (∀ m crc, apMember s a m.serial = some m → tget x.replies m.serial = some (0, crc) → ∃ m2, apMember t a m.serial = some m2 ∧ m2.refs.getLast? = some (x.e, crc) ∧ m2.rejoining = true) ∧
      t = { s with apertures := t.apertures }) ∧
  (∀ s (a i c : Nat) x, a < 256 → (apOf s a).preparing.find? (fun y => y.id == i) = some x → (x.members.all (fun p => (tget x.replies p).isSome) = true ∨ x.at0 + 2 * s.plan.apLc a + 2 ≤ s.time.tick64) →
    ((x.members.filterMap (fun p => (tget x.replies p).map (fun r => r.1))).find? (fun c => c != 0) = some c ∨
      ((x.members.filterMap (fun p => (tget x.replies p).map (fun r => r.1))).find? (fun c => c != 0) = none ∧ x.members.all (fun p => (tget x.replies p).isSome) = false ∧ c = 8)) → x.req = none →
    NextWith (exec (.apertureDecide a i) s) fun t => (apOf t a).preparing = (apOf s a).preparing.filter (fun y => y.id != x.id) ∧
      (apOf t a).outq = (apOf s a).outq ++ x.members.map (fun p => (p, 5, x.id, leBytes 1 c)) ∧ (apOf t a).aborts = ((apOf s a).aborts + 1) % 2 ^ 64 ∧ t = { s with apertures := t.apertures })

/-- The request by which a member performs its part `i` of a read of aperture `a`. -/
def partReq (a i : Nat) (q : Request) : Request := { q with fn := ⟨256 + a, i⟩, tag := BitVec.ofNat 16 0xFFFF, flags := BitVec.ofNat 16 (16 + 256 * a) }

/-- A member prepares, applies and drops (R338, R342, R396): PREPARE_RX, COMMIT_RX, ABORT_RX, LEAD_LOST, DATA_RX, DATA_DONE_RX. A member that admits a PREPARE holds it uncommitted, with a pending set that has no effect yet, and
answers READY with the CRC it predicts; one that does not answers FAIL with the status and keeps nothing; after its lead is lost it answers nothing. COMMIT marks what it holds; ABORT drops it and
its set. A device that loses its lead drops what is not committed, and only once. A part of an aperture read that ends is counted once; a read with parts open goes on, and one whose parts have all
moved completes with the sum of their bytes.
Every command named at the head completes: a clause concludes its own next state from conditions on the state and the operands alone. -/
def Obligations.ApertureMemberObeys : Prop :=
  (∀ s (a i e : Nat) r l b, a < 256 → s.plan.aperture a = some b → (apOf s a).leadLost = true → exec (.prepareRx a i e r l) s = .next (ctlSeen s a (apLead b))) ∧
  (∀ s (a i e : Nat) r l k b, a < 256 → s.plan.aperture a = some b → (apOf s a).leadLost = false → apAdmit (ctlSeen s a (apLead b)) a e r l = .ok k → apBelow s a = none → NextWith (exec (.prepareRx a i e r l) s) fun t =>
      (∃ h, (apOf t a).holding = (apOf s a).holding ++ [h] ∧ h.id = i ∧ h.e = k.e ∧ h.committed = false) ∧ (apOf t a).outq = (apOf s a).outq ++ [(apLead b, 2, i, leBytes 4 k.crc)] ∧
      t.plan = s.plan ∧ ∃ x, x ∈ t.psets ∧ x.e = k.e ∧ x.cmds = k.cmds) ∧
  (∀ s (a i e c p : Nat) ps r l k b, a < 256 → s.plan.aperture a = some b → (apOf s a).leadLost = false → apAdmit (ctlSeen s a (apLead b)) a e r l = .ok k → apBelow s a = some c → c ≠ a →
    apPeers s c = p :: ps → NextWith (exec (.prepareRx a i e r l) s) fun t => (apOf t a).outq = (apOf s a).outq ∧
      (∃ h, (apOf t a).holding = (apOf s a).holding ++ [h] ∧ h.id = i ∧ h.below = (p :: ps).map (fun x => ((c, (apOf s c).cmdId + 1, x), none))) ∧
      ∃ wire, (apOf t c).outq = (apOf s c).outq ++ (p :: ps).map (fun x => (x, 1, (apOf s c).cmdId + 1, wire))) ∧
  (∀ s (a i e : Nat) r l st b, a < 256 → s.plan.aperture a = some b → (apOf s a).leadLost = false → apAdmit (ctlSeen s a (apLead b)) a e r l = .error st → NextWith (exec (.prepareRx a i e r l) s) fun t =>
      (apOf t a).outq = (apOf s a).outq ++ [(apLead b, 3, i, leBytes 1 st.code ++ leBytes 8 0)] ∧ (apOf t a).holding = (apOf s a).holding ∧ t = { s with apertures := t.apertures }) ∧
  (∀ s (a i : Nat), a < 256 → NextWith (exec (.commitRx a i) s) fun t => (apOf t a).holding = (apOf s a).holding.map (fun h => if h.id = i then { h with committed := true } else h) ∧
      t = { s with apertures := t.apertures }) ∧
  (∀ s (a i : Nat) h, a < 256 → (apOf s a).holding.find? (fun h => h.id == i) = some h → NextWith (exec (.abortRx a i) s) fun t => (apOf t a).holding = (apOf s a).holding.filter (fun x => x.id != i) ∧
      t.psets = s.psets.filter (fun x => !(x.dome == h.dome && x.cfgGen == h.cfgGen)) ∧ t = { s with apertures := t.apertures, psets := t.psets, domes := t.domes, free := t.free }) ∧
  (∀ s (a i : Nat), a < 256 → (apOf s a).holding.find? (fun h => h.id == i) = none → exec (.abortRx a i) s = .next (ctlSeen s a (apLeadOf s a))) ∧
  (∀ s (a : Nat), a < 256 → ((apOf s a).leadLost = true ∨ s.plan.aperture a = none ∨ leads s a = true) → exec (.leadLost a) s = .next s) ∧
  (∀ s (a : Nat) b, a < 256 → (apOf s a).leadLost = false → s.plan.aperture a = some b → leads s a = false → NextWith (exec (.leadLost a) s) fun t =>
      (apOf t a).leadLost = true ∧ (∀ h ∈ (apOf t a).holding, h.committed = true) ∧ (∀ h ∈ (apOf s a).holding, h.committed = true → (∀ g ∈ (apOf s a).holding, g.id = h.id → g = h) → h ∈ (apOf t a).holding) ∧
      t.plan = s.plan) ∧
  (∀ s (a i d : Nat) (q : Request) r b, a < 256 → s.plan.aperture a = some b → leads s a = false → (∀ e ∈ s.apertures, ∀ x ∈ e.2.reads, x.up ≠ some (a, i)) →
    mkCmd .captureRead d (fun _ => captureReadBlock) false (partReq a i q) = .error r →
    NextWith (exec (.dataRx a i d q) s) fun t => (apOf t a).outq = (apOf s a).outq ++ [(apLead b, 10, i, leBytes 8 r.status.code ++ leBytes 8 0 ++ leBytes 8 0)] ∧ t = { s with apertures := t.apertures }) ∧
  (∀ s (a i d : Nat) (q : Request) m x, a < 256 →
    mkCmd .captureRead d (fun _ => captureReadBlock) false (partReq a i q) = .ok m →
    captureReadAct { s := apReadBelow (ctlSeen s a (apLeadOf s a)) a i (partReq a i q) m, plan := s.plan, e := s.time.tick64, q := some (partReq a i q) } m = .ok x →
    exec (.dataRx a i d q) s = .next x.s) ∧
  (∀ s (a p i st n : Nat) x, a < 256 → (apOf s a).reads.find? (fun y => y.id == i) = some x → (∃ y ∈ x.parts, y.1 ≠ p ∧ y.2 = none) →
    NextWith (exec (.dataDoneRx a p i st n) s) fun t => (∃ x2, (apOf t a).reads.find? (fun y => y.id == i) = some x2 ∧ x2.req = x.req ∧
      x2.parts = x.parts.map (fun y => if y.1 = p ∧ y.2.isNone then (y.1, some (st, n)) else y)) ∧ t = { s with apertures := t.apertures }) ∧
  (∀ s (a p i n : Nat) x ps, a < 256 → (apOf s a).reads.find? (fun y => y.id == i) = some x → x.up = none → x.parts ≠ [] → ps = x.parts.map (fun y => if y.1 = p ∧ y.2.isNone then (y.1, some (0, n)) else y) →
    (∀ y ∈ ps, ∃ c, y.2 = some (0, c)) → isWin x.req = false → s.writes x.req = true → NextWith (exec (.dataDoneRx a p i 0 n) s) fun t =>
      (apOf t a).reads = (apOf s a).reads.filter (fun y => y.id != i) ∧
      Completes t .captureRead x.req 0 0 (tsnOf (decidedTick s x.req)) ((ps.map (fun y => (y.2.map (fun z => z.2)).getD 0)).foldl (fun u v => u + v) 0) none 0) ∧
  (∀ s (a p i st n : Nat), a < 256 → (apOf s a).reads.find? (fun y => y.id == i) = none → exec (.dataDoneRx a p i st n) s = .next (ctlSeen s a p))

/-- Exclusion, rejoin and notices (R335, R336, R339 to R341): CONTROL_FLOW_ABSENT, TICK_STATUS_RX, EXCLUDE_RX, REJOIN_RX, NOTICE_RX. At the lead a member whose control flow is absent, or whose tick status differs in release, M or
tick, names another state, or has not the CRC of its reference, is excluded, once: every other member is sent EXCLUDE, EXCLUSIONS counts it, and the owner is told. A member
that keeps to its reference only has its status noted; one that rejoins with the matching CRC counts again. Each tick status measures its link. EXCLUDE from the lead excludes at a member; a rejoin of a member that agrees
is answered with a replay, that of one that differs is not. A notice is taken at the lead alone, and goes up from a sub-aperture lead. The flows of a member that counts again are STALE until its first complete flow-tick.
Every command named at the head completes: a clause concludes its own next state from conditions on the state and the operands alone. -/
def Obligations.ApertureExclusionAndRejoin : Prop :=
  (∀ s (a p : Nat) m, a < 256 → leads s a = true → apMember s a p = some m → m.excluded = false → NextWith (exec (.controlFlowAbsent a p) s) fun t =>
      (∃ m2, apMember t a p = some m2 ∧ m2.excluded = true ∧ m2.rejoining = false) ∧ (apOf t a).exclusions = ((apOf s a).exclusions + 1) % 2 ^ 64 ∧
      (∀ x ∈ (apOf s a).members, x.serial ≠ ownSerial → ∃ y ∈ (apOf t a).outq, y = (x.serial, 6, 0, leBytes 4 p ++ leBytes 8 (s.time.tick64 + 1) ++ leBytes 4 (Config.excludeCause 3))) ∧ t.plan = s.plan) ∧
  (∀ s (a p : Nat) m, a < 256 → leads s a = true → apMember s a p = some m → m.excluded = true → exec (.controlFlowAbsent a p) s = .next (onMember s a p (fun m => { m with rejoining := false }))) ∧
  (∀ s (a p : Nat) b, a < 256 → leads s a = false → s.plan.aperture a = some b → apLead b = p → exec (.controlFlowAbsent a p) s = exec (.leadLost a) s) ∧
  (∀ s (a p : Nat) b, a < 256 → leads s a = false → s.plan.aperture a = some b → apLead b ≠ p → exec (.controlFlowAbsent a p) s = .next s) ∧
  (∀ s (a p port rl m tk at0 st g crc tl : Nat) (dl : Int) w x, a < 256 → port < 128 → leads s a = true → apMember s a p = some x → x.excluded = false → rl = runRelease s → m = s.plan.m → tk = at0 →
    memberState st = true → refAt x tk = some crc → NextWith (exec (.tickStatusRx a p port dl rl m tk at0 st g crc w tl) s) fun t =>
      apMember t a p = some { x with tick := tk, state := st, cfgGen := g, withdrawn := w, tiles := tl, differs := false } ∧ (apOf t a).exclusions = (apOf s a).exclusions ∧ t = { s with apertures := t.apertures }) ∧
  (∀ s (a p port rl m tk at0 st g crc tl : Nat) (dl : Int) w x, a < 256 → port < 128 → leads s a = true → apMember s a p = some x → x.excluded = false →
    (rl ≠ runRelease s ∨ m ≠ s.plan.m ∨ tk ≠ at0 ∨ memberState st = false ∨ ∃ c, refAt x tk = some c ∧ c ≠ crc) → NextWith (exec (.tickStatusRx a p port dl rl m tk at0 st g crc w tl) s) fun t =>
      (∃ m2, apMember t a p = some m2 ∧ m2.excluded = true) ∧ (apOf t a).exclusions = ((apOf s a).exclusions + 1) % 2 ^ 64 ∧ t.plan = s.plan) ∧
  (∀ s (a p port rl m tk at0 st g crc tl : Nat) (dl : Int) w x, a < 256 → port < 128 → leads s a = true → apMember s a p = some x → x.excluded = true → x.rejoining = true → rl = runRelease s → m = s.plan.m → tk = at0 →
    memberState st = true → refAt x tk = some crc → NextWith (exec (.tickStatusRx a p port dl rl m tk at0 st g crc w tl) s) fun t =>
      (∃ m2, apMember t a p = some m2 ∧ m2.excluded = false ∧ m2.rejoining = false) ∧ (apOf t a).rejoins = ((apOf s a).rejoins + 1) % 2 ^ 64 ∧ t = { s with apertures := t.apertures, flows := t.flows } ∧
      (∀ e ∈ t.flows, flowHome s e.2.spec = some (a, p) → e.2.stale = true)) ∧
  (∀ s (a p : Nat) b m, a < 256 → s.plan.aperture a = some b → apMember s a p = some m → m.excluded = false → NextWith (exec (.excludeRx a p) s) fun t =>
      (∃ m2, apMember t a p = some m2 ∧ m2.excluded = true) ∧ (p ≠ ownSerial → (apOf t a).outq = (apOf s a).outq) ∧ t.plan = s.plan) ∧
  (∀ s (a p : Nat) b m, a < 256 → s.plan.aperture a = some b → apMember s a p = some m → m.excluded = true → exec (.excludeRx a p) s = .next (ctlSeen s a (apLead b))) ∧
  (∀ s (a p : Nat), a < 256 → (s.plan.aperture a = none ∨ apMember s a p = none) → exec (.excludeRx a p) s = .next s) ∧
  (∀ s (a p rl m tk at0 : Nat) x, a < 256 → leads s a = true → (apOf s a).adopting = none → apMember s a p = some x → x.excluded = true → rl = runRelease s → m = s.plan.m → tk = at0 →
    NextWith (exec (.rejoinRx a p rl m tk at0) s) fun t => (∃ y, (apOf t a).preparing = (apOf s a).preparing ++ [y] ∧ y.members = [p] ∧ y.req = none ∧ y.e = s.time.tick64 + 3 * s.plan.apLc a + 4) ∧
      (apOf t a).cmdId = (apOf s a).cmdId + 1 ∧ (∃ body, (apOf t a).outq = (apOf s a).outq ++ [(p, 1, (apOf s a).cmdId + 1, body)]) ∧ t = { s with apertures := t.apertures }) ∧
  (∀ s (a p rl m tk at0 : Nat) x, a < 256 → leads s a = true → (apOf s a).adopting = none → apMember s a p = some x → x.excluded = true → (rl ≠ runRelease s ∨ m ≠ s.plan.m ∨ tk ≠ at0) →
    NextWith (exec (.rejoinRx a p rl m tk at0) s) fun t => (apOf t a).preparing = (apOf s a).preparing ∧ (∃ m2, apMember t a p = some m2 ∧ m2.excluded = true)) ∧
  (∀ s (a p rl m tk at0 : Nat), a < 256 → leads s a = false → exec (.rejoinRx a p rl m tk at0) s = .next (ctlSeen s a p)) ∧
  (∀ s (a p cause n : Nat), a < 256 → n < 65536 → leads s a = false → exec (.noticeRx a p cause n) s = .next (ctlSeen s a p)) ∧
  (∀ s (a p cause n up : Nat), a < 256 → n < 65536 → leads s a = true → apAbove s a = some up → exec (.noticeRx a p cause n) s =
    .next (apSend (ctlSeen s a p) up (apLeadOf s up) 8 0 (leBytes 4 cause ++ leBytes 4 n))) ∧
  (∀ s (a p obj n : Nat), a < 256 → n < 65536 → obj < 1024 → leads s a = true → apAbove s a = none → exec (.noticeRx a p (0x20 * 1024 + obj) n) s =
    .next ((List.range n).foldl (fun (u : State) (k : Nat) => noticeOwner u 0x8009 4 (0x20 * 1024 + obj) obj ((p + 1) * 65536 + k)) (ctlSeen s a p)))

/-- The lead admits an adopted configuration: the APERTURE_CREATE that waits, with the aperture's instruments. -/
def Adopts (s : State) (a : Nat) (q : Request) (got : List ApCmd) (m : Cmd) (cs : List Cmd) (k : SetOk) : Prop :=
  confCmd .apertureCreate 0 q = .ok m ∧ apCmds s a true (got.filter (fun c => c.opcode == Op.instrDefine.info.code)) = .ok cs ∧
  admitSet s { dome := 0, cmds := m :: cs, lead := s.plan.leadTicks a } = .ok k
/-- The adopted configuration is prepared on every member for its effective tick, and the adoption stands until it is decided. -/
def Adopted (s t : State) (a dl : Nat) (q : Request) (k : SetOk) : Prop :=
  (apOf t a).adopting = some (q, dl, some k.e) ∧ ∃ x, (apOf t a).preparing = (apOf s a).preparing ++ [x] ∧ x.e = k.e ∧ x.req = some q ∧
    x.members = ((apOf s a).members.map (fun m => m.serial)).filter (fun y => y != ownSerial) ∧
    ∃ wire, (apOf t a).outq = (apOf s a).outq ++ x.members.map (fun p => (p, 1, x.id, wire))

/-- A lead that adopts (R342): CONFIG_RX and ADOPT_TIMEOUT. Fragments of a member's configuration are collected while the adoption stands; one that every member answers as empty ends it with NOSUCH, and one
that has no whole configuration by its deadline with TIMEOUT; both remove the aperture's run-time state and complete the request. A whole configuration is adopted: that of the first member in member
order that has one, at the deadline the first that is whole; it is prepared on every member. A device that adopts nothing takes no fragment.
Every command named at the head completes: a clause concludes its own next state from conditions on the state and the operands alone. -/
def Obligations.LeadAdoptsConfiguration : Prop :=
  (∀ s (a p n : Nat) l, a < 256 → (apOf s a).adopting = none → exec (.configRx a p n l) s = .next (ctlSeen s a p)) ∧
  (∀ s (a p n dl : Nat) q l, a < 256 → (apOf s a).adopting = some (q, dl, none) → ((apOf s a).members.any (fun m => m.serial == p && p != ownSerial)) = false → exec (.configRx a p n l) s = .next (ctlSeen s a p)) ∧
  (∀ s (a p n dl : Nat) q l, a < 256 → (apOf s a).adopting = some (q, dl, none) → ((apOf s a).members.any (fun m => m.serial == p && p != ownSerial)) = true →
    (((tget (apOf s a).configs p).map (fun x => x.2)).getD [] ++ l).length < n → (∀ m ∈ (apOf s a).members, m.serial ≠ p → ∀ x, tget (apOf s a).configs m.serial = some x → x.1 = 0 ∨ x.2.length < x.1) → NextWith (exec (.configRx a p n l) s) fun t =>
      tget (apOf t a).configs p = some (n, ((tget (apOf s a).configs p).map (fun x => x.2)).getD [] ++ l) ∧ (apOf t a).adopting = some (q, dl, none) ∧ t = { s with apertures := t.apertures }) ∧
  (∀ s (a p dl : Nat) q, a < 256 → (apOf s a).adopting = some (q, dl, none) → ((apOf s a).members.any (fun m => m.serial == p && p != ownSerial)) = true →
    (∀ m ∈ (apOf s a).members, m.serial ≠ ownSerial → m.serial ≠ p → ∃ l, tget (apOf s a).configs m.serial = some (0, l)) → s.writes q = true → NextWith (exec (.configRx a p 0 []) s) fun t =>
      tget t.apertures a = none ∧ Completes t .apertureCreate q 5 0 (tsnOf s.time.tick64) 0 none 0) ∧
  (∀ s (a dl : Nat) q, a < 256 → (apOf s a).adopting = some (q, dl, none) → dl ≤ s.time.tick64 → s.writes q = true → adoptPick (apOf s a) true = none → NextWith (exec (.adoptTimeout a) s) fun t =>
      tget t.apertures a = none ∧ Completes t .apertureCreate q 8 0 (tsnOf s.time.tick64) 0 none 0) ∧
  (∀ s (a p n dl : Nat) q l got m cs k, a < 256 → (apOf s a).adopting = some (q, dl, none) → ((apOf s a).members.any (fun m => m.serial == p && p != ownSerial)) = true →
    adoptPick (apOf (onAp (ctlSeen s a p) a (fun r => { r with configs := tset r.configs p (n, ((tget r.configs p).map (fun x => x.2)).getD [] ++ l) })) a) false = some got →
    Adopts (onAp (ctlSeen s a p) a (fun r => { r with configs := tset r.configs p (n, ((tget r.configs p).map (fun x => x.2)).getD [] ++ l) })) a q got m cs k →
    NextWith (exec (.configRx a p n l) s) fun t => Adopted s t a dl q k) ∧
  (∀ s (a dl : Nat) q got m cs k, a < 256 → (apOf s a).adopting = some (q, dl, none) → dl ≤ s.time.tick64 → adoptPick (apOf s a) true = some got → Adopts s a q got m cs k →
    NextWith (exec (.adoptTimeout a) s) fun t => Adopted s t a dl q k) ∧
  (∀ s (a dl : Nat) q, a < 256 → (apOf s a).adopting = some (q, dl, none) → s.time.tick64 < dl → exec (.adoptTimeout a) s = .next s) ∧
  (∀ s (a : Nat), a < 256 → (apOf s a).adopting = none → exec (.adoptTimeout a) s = .next s)

/-- Packets of a stream (R27, R317, R319, R320): PACKET_TRANSMIT. The token bucket fills at RATE up to BURST. The packets queued ahead of the spill leave first; a packet leaves when the bucket
holds its wire bytes and takes them, and stays otherwise; a head that reads back poisoned is dropped and counted in SPILL_POISON; a queue pair in ERROR, an empty stream, and a port whose link
is down send nothing. A stream of a suspended dome, or of one in reset, stands still.
Every command named at the head completes: a clause concludes its own next state from conditions on the state and the operands alone. -/
def Obligations.PacketsLeaveByTokens : Prop :=
  (∀ s (d k e : Nat) pz st, s.plan.stream d k = some st → (suspended s d = true ∨ ((domeRun s d).drain.bind (fun x => x.resetTick)).isSome = true) → exec (.packetTransmit d k e pz) s = .next s) ∧
  (∀ s (d k e : Nat) pz st, s.plan.stream d k = some st → suspended s d = false → ((domeRun s d).drain.bind (fun x => x.resetTick)) = none →
    ((streamRun s d k).error = true ∨ (portRun s (st.nat 2)).linkUp = false ∨
      ((streamRun s d k).go = [] ∧ (streamRun s d k).spill = [] ∧ (streamRun s d k).unacked.any (fun m => !m.again.isEmpty) = false)) →
    exec (.packetTransmit d k e pz) s = .next (onStream s d k (fun r => { r with tokens := Nat.min (st.nat 12 * tokenByte) (r.tokens + st.nat 11 * e) }))) ∧
  (∀ s (d k e : Nat) pz st pb p rest, s.plan.stream d k = some st → suspended s d = false → ((domeRun s d).drain.bind (fun x => x.resetTick)) = none → s.plan.port (st.nat 2) = some pb →
    (streamRun s d k).error = false → (portRun s (st.nat 2)).linkUp = true → (streamRun s d k).unacked.any (fun m => !m.again.isEmpty) = false → (streamRun s d k).go = p :: rest → p.ends = none →
    st.is 1 2 = false → p.wire * tokenByte ≤ Nat.min (st.nat 12 * tokenByte) ((streamRun s d k).tokens + st.nat 11 * e) →
    NextWith (exec (.packetTransmit d k e pz) s) fun t => (∃ id, t.out.frames = s.out.frames ++ [(st.nat 2, .frame (udpFrame pb st (nextHop st (streamRun s d k)) 0 id p.bytes))]) ∧
      (streamRun t d k).go = rest ∧ (streamRun t d k).tokens + p.wire * tokenByte = Nat.min (st.nat 12 * tokenByte) ((streamRun s d k).tokens + st.nat 11 * e) ∧ (streamRun t d k).pkts = ((streamRun s d k).pkts + 1) % 2 ^ 64 ∧
      (streamRun t d k).bytes = ((streamRun s d k).bytes + p.wire) % 2 ^ 64 ∧ t = { s with streams := t.streams, out := t.out, free := s.free + 1, meter := t.meter }) ∧
  (∀ s (d k e : Nat) pz st p rest, s.plan.stream d k = some st → suspended s d = false → ((domeRun s d).drain.bind (fun x => x.resetTick)) = none → (portRun s (st.nat 2)).linkUp = true →
    (streamRun s d k).error = false → (streamRun s d k).go = [] → (streamRun s d k).unacked.any (fun m => !m.again.isEmpty) = false → (streamRun s d k).spill = p :: rest → pz = false →
    Nat.min (st.nat 12 * tokenByte) ((streamRun s d k).tokens + st.nat 11 * e) < p.wire * tokenByte →
    exec (.packetTransmit d k e pz) s = .next (onStream s d k (fun r => { r with tokens := Nat.min (st.nat 12 * tokenByte) (r.tokens + st.nat 11 * e) }))) ∧
  (∀ s (d k e : Nat) st pb p rest, s.plan.stream d k = some st → suspended s d = false → ((domeRun s d).drain.bind (fun x => x.resetTick)) = none → (portRun s (st.nat 2)).linkUp = true →
    s.plan.port (st.nat 2) = some pb → (streamRun s d k).error = false → (streamRun s d k).go = [] → (streamRun s d k).unacked.any (fun m => !m.again.isEmpty) = false → (streamRun s d k).spill = p :: rest →
    p.ends = none → st.is 1 2 = false → p.wire * tokenByte ≤ Nat.min (st.nat 12 * tokenByte) ((streamRun s d k).tokens + st.nat 11 * e) →
    NextWith (exec (.packetTransmit d k e false) s) fun t => (∃ id, t.out.frames = s.out.frames ++ [(st.nat 2, .frame (udpFrame pb st (nextHop st (streamRun s d k)) 0 id p.bytes))]) ∧
      (streamRun t d k).spill = rest ∧ (streamRun t d k).tokens + p.wire * tokenByte = Nat.min (st.nat 12 * tokenByte) ((streamRun s d k).tokens + st.nat 11 * e) ∧
      (streamRun t d k).pkts = ((streamRun s d k).pkts + 1) % 2 ^ 64 ∧ t = { s with streams := t.streams, out := t.out, free := s.free + 1, meter := t.meter }) ∧
  (∀ s (d k e : Nat) st p rest, s.plan.stream d k = some st → suspended s d = false → ((domeRun s d).drain.bind (fun x => x.resetTick)) = none → (portRun s (st.nat 2)).linkUp = true →
    (streamRun s d k).error = false → (streamRun s d k).go = [] → (streamRun s d k).unacked.any (fun m => !m.again.isEmpty) = false → (streamRun s d k).spill = p :: rest → p.ends = none →
    NextWith (exec (.packetTransmit d k e true) s) fun t => (streamRun t d k).spill = rest ∧ (streamRun t d k).spillPoison = (streamRun s d k).spillPoison + 1 ∧ t = { s with streams := t.streams })

/-- RoCE streams and next hops (R308, R322, R324): ROCE_ACK_RX, ROCE_NAK_RX, ROCE_CNP_RX, ROCE_RTO_EXPIRY, ARP_REFRESH. An acknowledgement removes the messages it covers, oldest first; a sequence
error marks every packet from the PSN named on to be sent again, a timeout or RNR NAK that PSN alone, and both are counted; after RETRY retransmissions of a PSN the queue pair enters ERROR; a CNP is only counted; a
refreshed next-hop address is kept, and a refresh that fails is counted and keeps the last. A queue pair in ERROR takes nothing.
Every command named at the head completes: a clause concludes its own next state from conditions on the state and the operands alone. -/
def Obligations.RoceAcknowledgements : Prop :=
  (∀ s (d k psn : Nat) st, s.plan.stream d k = some st → st.is 1 2 = true → (streamRun s d k).error = false →
    NextWith (exec (.roceAckRx d k psn) s) fun t => (∀ m ∈ (streamRun s d k).unacked, m.pkt.ends = none) →
      (streamRun t d k).unacked = (streamRun s d k).unacked.dropWhile (fun m => psnLe (m.psn + m.npkts - 1) psn) ∧ t = { s with streams := t.streams }) ∧
  (∀ s (d k psn : Nat) (rnr : Bool) st, s.plan.stream d k = some st → st.is 1 2 = true → (streamRun s d k).error = false → holdsPsn (streamRun s d k) psn = true →
    (∀ m ∈ (streamRun s d k).unacked, ∀ j < m.npkts, (if rnr then isPsn psn m j else fromPsn psn m j) = true → m.retries.getD j 0 < st.nat 26) →
    NextWith (exec (.roceNakRx d k psn rnr) s) fun t =>
      (streamRun t d k).retx = (streamRun s d k).retx + ((streamRun s d k).unacked.map (fun m => ((List.range m.npkts).filter (fun j => if rnr then isPsn psn m j else fromPsn psn m j)).length)).foldl (· + ·) 0 ∧
      (streamRun t d k).unacked.map (fun m => (m.pkt, m.psn)) = (streamRun s d k).unacked.map (fun m => (m.pkt, m.psn)) ∧
      (∀ x ∈ (streamRun t d k).unacked, ∀ j < x.npkts, (if rnr then isPsn psn x j else fromPsn psn x j) = true → j ∈ x.again) ∧ t = { s with streams := t.streams }) ∧
  (∀ s (d k psn : Nat) st, s.plan.stream d k = some st → st.is 1 2 = true → (streamRun s d k).error = false → holdsPsn (streamRun s d k) psn = true →
    (∀ m ∈ (streamRun s d k).unacked, ∀ j < m.npkts, isPsn psn m j = true → m.retries.getD j 0 < st.nat 26) →
    NextWith (exec (.roceRtoExpiry d k psn) s) fun t => (streamRun t d k).timeouts = ((streamRun s d k).timeouts + 1) % 2 ^ 64 ∧
      (streamRun t d k).unacked.map (fun m => (m.pkt, m.psn)) = (streamRun s d k).unacked.map (fun m => (m.pkt, m.psn)) ∧
      (∀ x ∈ (streamRun t d k).unacked, ∀ j < x.npkts, isPsn psn x j = true → j ∈ x.again) ∧ t = { s with streams := t.streams }) ∧
  (∀ s (d k psn : Nat) (rnr : Bool) st, s.plan.stream d k = some st → st.is 1 2 = true → (streamRun s d k).error = false →
    (∃ m ∈ (streamRun s d k).unacked, ∃ j < m.npkts, isPsn psn m j = true ∧ fromPsn psn m j = true ∧ st.nat 26 ≤ m.retries.getD j 0) →
    NextWith (exec (.roceNakRx d k psn rnr) s) fun t => (streamRun t d k).error = true ∧ (streamRun t d k).go = [] ∧ (streamRun t d k).spill = []) ∧
  (∀ s (d k : Nat) st, s.plan.stream d k = some st → st.is 1 2 = true → (streamRun s d k).error = false →
    exec (.roceCnpRx d k) s = .next (onStream s d k (fun r => { r with cnpRx := (r.cnpRx + 1) % 2 ^ 64 }))) ∧
  (∀ s (d k psn : Nat) (rnr : Bool) st, s.plan.stream d k = some st → (st.is 1 2 = false ∨ (streamRun s d k).error = true) →
    exec (.roceAckRx d k psn) s = .next s ∧ exec (.roceNakRx d k psn rnr) s = .next s ∧ exec (.roceRtoExpiry d k psn) s = .next s ∧ exec (.roceCnpRx d k) s = .next s) ∧
  (∀ s (d k : Nat) st (m : BitVec 48), s.plan.stream d k = some st → st.nat? 3 = none → exec (.arpRefresh d k (some m)) s = .next (onStream s d k (fun r => { r with mac := m.toNat, resolved := true })) ∧
    exec (.arpRefresh d k none) s = .next (onStream s d k (fun r => { r with arpFail := (r.arpFail + 1) % 2 ^ 64 }))) ∧
  (∀ s (d k : Nat) st (m : Option (BitVec 48)), s.plan.stream d k = some st → (st.nat? 3).isSome = true → exec (.arpRefresh d k m) s = .next s)

/-- Transit (R328, R333, R334, R340, R341, R344): TRANSIT_GRANULE_RX and TRANSIT_DEADLINE. A granule that comes before device tick m + L_t is kept in its flow-tick's slot, where the first arrival stands; one that comes later is
discarded and counted in TR_LATE. At the deadline the slot goes, and its granules that have not arrived count as absent, of a flow of an excluded member all of them; what has arrived whole reaches its
input with its samples valid, and an absent granule counts the tick in ABSENT_TICKS and marks it PARTIAL. A flow of which nothing has come is counted by its entry of the schedule.
Every command named at the head completes: a clause concludes its own next state from conditions on the state and the operands alone. -/
def Obligations.TransitGranules : Prop :=
  (∀ s (p f m off : Nat) spec bytes inv, p < 128 → f < 65536 → m + (flowRun s (p, f) spec).spec.lt ≤ s.time.tick64 →
    NextWith (exec (.transitGranuleRx p f spec m off bytes inv) s) fun t => (flowRun t (p, f) spec).late = ((flowRun s (p, f) spec).late + bytes.length / 32) % 2 ^ 64 ∧
      (flowRun t (p, f) spec).slots = (flowRun s (p, f) spec).slots ∧ t = { s with flows := t.flows }) ∧
  (∀ s (p f m off : Nat) spec bytes inv, p < 128 → f < 65536 → s.time.tick64 < m + (flowRun s (p, f) spec).spec.lt →
    NextWith (exec (.transitGranuleRx p f spec m off bytes inv) s) fun t => t = { s with flows := t.flows } ∧ (flowRun t (p, f) spec).spec = (flowRun s (p, f) spec).spec ∧
      ∃ g v, (flowRun t (p, f) spec).slots = (flowRun s (p, f) spec).slots.filter (fun x => x.1 != m) ++ [(m, g, v)] ∧ (inv = true → v = true) ∧
        (∀ i, i < bytes.length / 32 → (tget g (off / 32 + i)).isSome = true) ∧
        (∀ g0 v0, (flowRun s (p, f) spec).slots.find? (fun x => x.1 == m) = some (m, g0, v0) → ∀ i z, tget g0 i = some z → tget g i = some z) ∧
        ((flowRun s (p, f) spec).slots.find? (fun x => x.1 == m) = none → ∀ i, i < bytes.length / 32 → tget g (off / 32 + i) = some (sliceL bytes (32 * i) 32))) ∧
  (∀ s (p f m n q : Nat) r, p < 128 → f < 65536 → tget s.flows (p, f) = some r → r.cfg = s.regs.crcActive → s.plan.instr r.spec.dome r.spec.instr = none →
    NextWith (exec (.transitDeadline p f m n q) s) fun t => t = { s with flows := t.flows } ∧ ∃ r2, tget t.flows (p, f) = some r2 ∧ r2.slots = r.slots.filter (fun x => x.1 != m) ∧ r2.spec = r.spec ∧
      (r.slots.find? (fun x => x.1 == m) = none → r2.absent = (r.absent + flowGranules r.spec) % 2 ^ 64)) ∧
  (∀ s (p f m n q : Nat) r b, p < 128 → f < 65536 → tget s.flows (p, f) = some r → r.cfg = s.regs.crcActive → s.plan.instr r.spec.dome r.spec.instr = some b →
    NextWith (exec (.transitDeadline p f m n q) s) fun t => ∃ r2, tget t.flows (p, f) = some r2 ∧ r2.slots = r.slots.filter (fun x => x.1 != m) ∧ t.dev = s.dev ∧ t.plan = s.plan ∧ t.time = s.time ∧
      (flowExcluded s p r.spec = true → r2.absent = (r.absent + flowGranules r.spec) % 2 ^ 64)) ∧
  (∀ s (p f m n q x : Nat) r b g, p < 128 → f < 65536 → tget s.flows (p, f) = some r → r.cfg = s.regs.crcActive → s.plan.instr r.spec.dome r.spec.instr = some b → flowExcluded s p r.spec = false →
    r.slots.find? (fun y => y.1 == m) = some (m, g, false) → (∀ k, k < flowGranules r.spec → (tget g k).isSome = true) → flowInputs s r.spec = [x] → (∀ e ∈ (instrRun s r.spec.dome r.spec.instr).inq, e.1 ≠ x) →
    NextWith (exec (.transitDeadline p f m n q) s) fun t => ∃ c, (instrRun t r.spec.dome r.spec.instr).inq = (instrRun s r.spec.dome r.spec.instr).inq ++ [(x, m + s.plan.lInst r.spec.dome r.spec.instr, c)] ∧
      c.tick = n ∧ c.first = (iRange b).1 ∧ c.frames.length = r.spec.frames ∧ c.flags.testBit 16 = false ∧ t.free = s.free) ∧
  (∀ s (p f m n q : Nat) r b, p < 128 → f < 65536 → tget s.flows (p, f) = some r → r.cfg = s.regs.crcActive → s.plan.instr r.spec.dome r.spec.instr = some b → r.slots.find? (fun y => y.1 == m) = none →
    0 < flowGranules r.spec → NextWith (exec (.transitDeadline p f m n q) s) fun t =>
      tgetD (instrRun t r.spec.dome r.spec.instr).cnt .absentTicks 0 = (tgetD (instrRun s r.spec.dome r.spec.instr).cnt .absentTicks 0 + 1) % 2 ^ 64) ∧
  (∀ s (p f m n q : Nat), p < 128 → f < 65536 → tget s.flows (p, f) = none → s.plan.find .apertureLink devDome p = none → exec (.transitDeadline p f m n q) s = .next s) ∧
  (∀ s (p f m n q : Nat) l, p < 128 → f < 65536 → tget s.flows (p, f) = none → s.plan.find .apertureLink devDome p = some l → s.plan.instr (scheduled p f).dome (scheduled p f).instr = none →
    NextWith (exec (.transitDeadline p f m n q) s) fun t => ∃ r2, tget t.flows (p, f) = some r2 ∧ r2.spec = scheduled p f ∧ r2.absent = flowGranules (scheduled p f) % 2 ^ 64)

/-- Triggers of a capture (R289, R290, R293): TRIGGER_ARRIVE and TRIGGER_DECIDE on a TRIGGERED RECORDER. The oldest trigger that has reached it is counted under its stage and entry, and queued, or
counted in LATE_TRIG when it comes too late, or in QUEUE_LOST when its stage holds 64. A decision comes once device tick d(n) has ended, for the next sample tick: with one trigger of stage A in it that
is eligible, SEQ = A accepts it and A_THEN_B makes it the candidate; a trigger under hold-off is counted and changes nothing else; with no trigger and no candidate only the decided tick advances.
Every command named at the head completes: a clause concludes its own next state from conditions on the state and the operands alone. -/
def Obligations.CaptureTriggers : Prop :=
  (∀ s (d i : Nat) b x rest, s.plan.instr d i = some b → iKind b = 8 → b.is 2 0 = true → (capRun s d i).arriving = x :: rest →
    NextWith (exec (.triggerArrive d i) s) fun t => (capRun t d i).arriving = rest ∧
      (s.plan.unitTick d b x.pos + Plan.capDelay.lamS 4 s.plan d i b ((capEntries b x.stageB).getD x.entry []) < x.reached →
        (capRun t d i).queue = (capRun s d i).queue ∧ tgetD (instrRun t d i).cnt .lateTrig 0 = (tgetD (instrRun s d i).cnt .lateTrig 0 + 1) % 2 ^ 64) ∧
      (x.reached ≤ s.plan.unitTick d b x.pos + Plan.capDelay.lamS 4 s.plan d i b ((capEntries b x.stageB).getD x.entry []) → (capRun s d i).decided ≤ s.plan.unitTick d b x.pos →
        (64 ≤ ((capRun s d i).queue.filter (fun y => y.stageB == x.stageB)).length → (capRun t d i).queue = (capRun s d i).queue ∧
          tgetD (instrRun t d i).cnt .queueLost 0 = (tgetD (instrRun s d i).cnt .queueLost 0 + 1) % 2 ^ 64) ∧
        (((capRun s d i).queue.filter (fun y => y.stageB == x.stageB)).length < 64 → (capRun t d i).queue = (capRun s d i).queue ++ [x])) ∧
      t = { s with instrs := t.instrs }) ∧
  (∀ s (d i : Nat) b, s.plan.instr d i = some b → iKind b = 8 → b.is 2 0 = true → (capRun s d i).arriving = [] → exec (.triggerArrive d i) s = .next s ∧
    (s.time.tick64 ≤ (capRun s d i).decided + s.plan.capDelay 4 d i b → exec (.triggerDecide d i) s = .next s)) ∧
  (∀ s (d i : Nat) b, s.plan.instr d i = some b → iKind b = 8 → b.is 2 0 = true → (capRun s d i).arriving = [] → (capRun s d i).decided + s.plan.capDelay 4 d i b < s.time.tick64 →
    (capRun s d i).cand = none → (capRun s d i).queue.filter (fun y => decide (y.pos < s.plan.firstUnit d b (((capRun s d i).decided : Int) + 1))) = [] →
    NextWith (exec (.triggerDecide d i) s) fun t => capRun t d i = { capRun s d i with decided := (capRun s d i).decided + 1 } ∧ t = { s with instrs := t.instrs }) ∧
  (∀ s (d i : Nat) b x, s.plan.instr d i = some b → iKind b = 8 → b.is 2 0 = true → (capRun s d i).arriving = [] → (capRun s d i).decided + s.plan.capDelay 4 d i b < s.time.tick64 →
    (capRun s d i).cand = none → (capRun s d i).queue.filter (fun y => decide (y.pos < s.plan.firstUnit d b (((capRun s d i).decided : Int) + 1))) = [x] → x.stageB = false →
    (capRun s d i).phase = .filling → (capRun s d i).acc = none → (capRun s d i).arm ≤ x.pos → (capRun s d i).resume ≤ x.pos →
    NextWith (exec (.triggerDecide d i) s) fun t => (capRun t d i).decided = (capRun s d i).decided + 1 ∧
      (b.is 15 1 = false → (b.is 18 1 = true → (capRun s d i).holdPos ≤ x.pos) → (b.is 18 2 = true → (capRun s d i).holdN = 0) → (capRun t d i).acc = some (x, 0) ∧
        tgetD (instrRun t d i).cnt .accepted 0 = (tgetD (instrRun s d i).cnt .accepted 0 + 1) % 2 ^ 64 ∧ (b.is 18 1 = true → (capRun t d i).holdPos = x.pos + (b.nat 19 : Int)) ∧
        (b.is 18 2 = true → (capRun t d i).holdN = b.nat 19)) ∧
      (b.is 15 1 = true → (b.is 18 1 = true → (capRun s d i).holdPos ≤ x.pos) → (b.is 18 2 = true → (capRun s d i).holdN = 0) → s.plan.firstUnit d b (((capRun s d i).decided : Int) + 1) ≤ x.pos + (b.nat 16 : Int) →
        (capRun t d i).cand = some x ∧ (capRun t d i).acc = none) ∧
      (b.is 18 1 = true → x.pos < (capRun s d i).holdPos → (capRun t d i).acc = none ∧ (capRun t d i).cand = none ∧
        tgetD (instrRun t d i).cnt .holdoffSkipped 0 = (tgetD (instrRun s d i).cnt .holdoffSkipped 0 + 1) % 2 ^ 64) ∧
      t = { s with instrs := t.instrs, router := t.router }) ∧
  (∀ s (d i : Nat) b, s.plan.instr d i = some b → (iKind b ≠ 8 ∨ b.is 2 0 = false) → exec (.triggerArrive d i) s = .next s ∧ exec (.triggerDecide d i) s = .next s)

/-- Records and segments of a capture (R291, R292, R294, R300): RECORD_CLOSE, SEGMENT_ADVANCE, SEGMENT_REARM, RECORD_STREAM_DONE. A record closes once its last unit is written: its header goes to the
segment, RECORD_SEQ advances and event 12t + 10 is raised. After a close the writer takes the next free segment, waits under REARM = MANUAL, and finding the segment unreleased stops with FULL = STOP or
takes it with OVERWRITE, counting the loss; a freed segment is armed; records that have been sent are released.
Every command named at the head completes: a clause concludes its own next state from conditions on the state and the operands alone. -/
def Obligations.CaptureRecords : Prop :=
  (∀ s (d i : Nat) b x dl, s.plan.instr d i = some b → iKind b = 8 → b.is 2 0 = true → (capRun s d i).acc = some (x, dl) → x.pos + (b.nat 10 : Int) - 1 ≤ (capRun s d i).lastUnit → b.is 24 1 = false →
    NextWith (exec (.recordClose d i) s) fun t => (capRun t d i).acc = none ∧ (capRun t d i).phase = .closed ∧ (capRun t d i).seq = ((capRun s d i).seq + 1) % 2 ^ 32 ∧
      (capRun t d i).recs = (capRun s d i).recs ++ [⟨(capRun s d i).seq, (capRun s d i).seg, .held, if x.pos - (b.nat 9 : Int) < (capRun s d i).arm then (capRun s d i).arm else x.pos - (b.nat 9 : Int)⟩] ∧ (capRun t d i).gapFrom = some (x.pos + (b.nat 10 : Int)) ∧
      t.hbm = (objPut s (capKey d i) ((capRun s d i).seg * (capGeom s.plan d i b).bytes) (capHeader s.plan d i b (capRun s d i) x dl
        (if x.pos - (b.nat 9 : Int) < (capRun s d i).arm then (capRun s d i).arm else x.pos - (b.nat 9 : Int)) (x.pos + (b.nat 10 : Int) - 1) false).le).hbm ∧
      Raises s t (12 * physTile s (iTile s d i 0) + 10) (causeId 0x0D i) ∧ t = { s with hbm := t.hbm, instrs := t.instrs, router := t.router, out := t.out }) ∧
  (∀ s (d i : Nat) b x dl, s.plan.instr d i = some b → iKind b = 8 → b.is 2 0 = true → (capRun s d i).acc = some (x, dl) → x.pos + (b.nat 10 : Int) - 1 ≤ (capRun s d i).lastUnit → b.is 24 1 = true →
    NextWith (exec (.recordClose d i) s) fun t => (capRun t d i).acc = none ∧ (capRun t d i).phase = .closed ∧ (capRun t d i).seq = ((capRun s d i).seq + 1) % 2 ^ 32 ∧
      ∃ l f, (capRun t d i).recs = l ++ [⟨(capRun s d i).seq, (capRun s d i).seg, .streaming, f⟩]) ∧
  (∀ s (d i : Nat) b, s.plan.instr d i = some b → closeDue s d i b = false → exec (.recordClose d i) s = .next s) ∧
  (∀ s (d i : Nat) b, s.plan.instr d i = some b → iKind b = 8 → b.is 2 0 = true → (capRun s d i).phase = .closed → b.is 20 1 = true →
    exec (.segmentAdvance d i) s = .next (onCap s d i (fun r => { r with phase := .manual }))) ∧
  (∀ s (d i : Nat) b, s.plan.instr d i = some b → iKind b = 8 → b.is 2 0 = true → (capRun s d i).phase = .closed → b.is 20 1 = false →
    (capRun s d i).recs.any (fun x => x.seg == ((capRun s d i).seg + 1) % Nat.max 1 (b.nat 11)) = false →
    exec (.segmentAdvance d i) s = .next (onCap s d i (fun r => { r with phase := .arming, seg := (r.seg + 1) % Nat.max 1 (b.nat 11) }))) ∧
  (∀ s (d i : Nat) b, s.plan.instr d i = some b → iKind b = 8 → b.is 2 0 = true → (capRun s d i).phase = .closed → b.is 20 1 = false →
    (capRun s d i).recs.any (fun x => x.seg == ((capRun s d i).seg + 1) % Nat.max 1 (b.nat 11)) = true →
    NextWith (exec (.segmentAdvance d i) s) fun t =>
      (b.is 21 1 = false → capRun t d i = { capRun s d i with phase := .noSegment } ∧ Raises s t (12 * physTile s (iTile s d i 0) + 10) (causeId 0x0E i)) ∧
      (b.is 21 1 = true → (capRun t d i).phase = .arming ∧ (capRun t d i).seg = ((capRun s d i).seg + 1) % Nat.max 1 (b.nat 11) ∧
        tgetD (instrRun t d i).cnt .overwritten 0 = (tgetD (instrRun s d i).cnt .overwritten 0 + 1) % 2 ^ 64 ∧ (∀ x ∈ (capRun t d i).recs, x.seg ≠ (capRun t d i).seg) ∧
        Raises s t (12 * physTile s (iTile s d i 0) + 10) (causeId 0x0F i)) ∧
      t = { s with instrs := t.instrs, router := t.router, out := t.out }) ∧
  (∀ s (d i : Nat) b, s.plan.instr d i = some b → (capRun s d i).phase ≠ .closed → exec (.segmentAdvance d i) s = .next s) ∧
  (∀ s (d i : Nat) b, s.plan.instr d i = some b → iKind b = 8 → b.is 2 0 = true → (capRun s d i).phase = .freed → (capRun s d i).freedAt < s.time.tick64 →
    exec (.segmentRearm d i) s = .next (onCap s d i (fun r => { r with phase := .arming, seg := (r.seg + 1) % Nat.max 1 (b.nat 11) }))) ∧
  (∀ s (d i : Nat) b, s.plan.instr d i = some b → ((capRun s d i).phase ≠ .freed ∨ s.time.tick64 ≤ (capRun s d i).freedAt) → exec (.segmentRearm d i) s = .next s) ∧
  (∀ s (d i : Nat) b, s.plan.instr d i = some b → iKind b = 8 → b.is 2 0 = true → NextWith (exec (.recordStreamDone d i) s) fun t =>
    (capRun t d i).recs = (capRun s d i).recs.filter (fun x => x.stage != .sent) ∧
    (capRun t d i).phase = (if (capRun s d i).phase = .noSegment ∧ (capRun t d i).recs.any (fun x => x.seg == ((capRun s d i).seg + 1) % Nat.max 1 (b.nat 11)) = false then .freed else (capRun s d i).phase) ∧
    t = { s with instrs := t.instrs })

/-- Sweep windows, decays and snapshots (R262, R268, R270): SWEEP_WINDOW_DECIDE, PLATE_DECAY, PLATE_SNAPSHOT. A sweep mask whose history reaches to the end of its next window decides it, once, and
counts a trigger only if the window has a candidate; a due decay is applied once, c - min(c, DEC) or c - ceil(c / 2^SH) by PERSIST, and leaves every count no greater; a due snapshot takes the
decay that is due first, forms a record of its header and counts, uses its SNAP_SEQ whether its ring has room or not, and keeps the counts; what is not due happens not.
Every command named at the head completes: a clause concludes its own next state from conditions on the state and the operands alone. -/
def Obligations.SweepWindowsAndPlates : Prop :=
  (∀ s (d k : Nat) mb b, s.plan.mask d k = some mb → s.plan.instr d (mb.nat 2) = some b → mb.is 0 1 = true →
    (maskRun s d k).hist.any (fun h => decide (((maskRun s d k).window + 1) * mb.nat 11 ≤ h.1 + 1 - s.plan.dmMax d mb) && decide (s.plan.dmMax d mb ≤ h.1 + 1)) = true →
    NextWith (exec (.sweepWindowDecide d k) s) fun t => (maskRun t d k).window = (maskRun s d k).window + 1 ∧
      (maskRun t d k).triggers = (maskRun s d k).triggers + (match bestCand mb (s.plan.kappa (srcOf d (b.at 2)) (mb.nat 3) (mb.nat 4)) (maskRun s d k).hist (maskRun s d k).window with | some _ => 1 | none => 0)) ∧
  (∀ s (d k : Nat) mb b, s.plan.mask d k = some mb → s.plan.instr d (mb.nat 2) = some b →
    (mb.is 0 1 = false ∨ (maskRun s d k).hist.any (fun h => decide (((maskRun s d k).window + 1) * mb.nat 11 ≤ h.1 + 1 - s.plan.dmMax d mb) && decide (s.plan.dmMax d mb ≤ h.1 + 1)) = false) →
    exec (.sweepWindowDecide d k) s = .next s) ∧
  (∀ s (d k : Nat) pb, s.plan.plate d k = some pb → (plateRun s d k).decayDue = true →
    NextWith (exec (.plateDecay d k) s) fun t => (plateRun t d k).decayDue = false ∧ (plateRun t d k).decays = (plateRun s d k).decays + 1 ∧
      (pb.word? 9 = some 1 → (plateRun t d k).counts = (plateRun s d k).counts.map (fun c => c - Nat.min c (pb.nat 11))) ∧
      (pb.word? 9 = some 2 → (plateRun t d k).counts = (plateRun s d k).counts.map (fun c => c - (c + 2 ^ pb.nat 12 - 1) / 2 ^ pb.nat 12)) ∧
      (∀ n, (plateRun t d k).counts.getD n 0 ≤ (plateRun s d k).counts.getD n 0) ∧ t = { s with plates := t.plates }) ∧
  (∀ s (d k : Nat) pb, s.plan.plate d k = some pb → (plateRun s d k).decayDue = false → NextWith (exec (.plateDecay d k) s) fun t =>
    (∀ e f, plateRun t e f = plateRun s e f) ∧ t = { s with plates := t.plates }) ∧
  (∀ s (d k : Nat) pb, s.plan.plate d k = some pb → (plateRun s d k).snapDue = true →
    NextWith (exec (.plateSnapshot d k) s) fun t => (plateRun t d k).snapDue = false ∧ (plateRun t d k).snapSeq = ((plateRun s d k).snapSeq + 1) % 2 ^ 32 ∧
      (plateRun t d k).snapshots = (plateRun s d k).snapshots + 1 ∧ (plateRun t d k).counts = (plateDecay pb (plateRun s d k)).counts ∧ (plateRun t d k).frames = 0) ∧
  (∀ s (d k : Nat) pb, s.plan.plate d k = some pb → (plateRun s d k).snapDue = true → suspended s d = false →
    NextWith (exec (.plateSnapshot d k) s) fun t => ∃ m, t.made = s.made ++ [m] ∧ m.dome = d ∧ m.instr = pb.nat 1 ∧ m.kind = 5 ∧ m.seq = (plateRun s d k).snapSeq ∧ m.lastTick = (plateRun s d k).last ∧
      m.body.take 4 = [(1, 5), (1, 1), (2, pb.nat 1), (1, k)] ∧ m.body.drop (m.body.length - (padTo 0 (plateCells pb) (plateDecay pb (plateRun s d k)).counts).length) =
        (padTo 0 (plateCells pb) (plateDecay pb (plateRun s d k)).counts).map (fun c => (4, c))) ∧
  (∀ s (d k : Nat) pb, s.plan.plate d k = some pb → (plateRun s d k).snapDue = false → exec (.plateSnapshot d k) s = exec (.plateDecay d k) s) ∧
  (∀ s (d k : Nat), s.plan.mask d k = none → k < 8 → exec (.sweepWindowDecide d k) s = .next s) ∧
  (∀ s (d k : Nat), s.plan.plate d k = none → k < 16 → exec (.plateDecay d k) s = .next s ∧ exec (.plateSnapshot d k) s = .next s)

/-- R266, whole: the level of a code L is floor((L - FLOOR) / STEP), limited to 0 to LEVELS - 1; a code below is counted in PL_BELOW and added at level 0, one above in PL_ABOVE and at the top, and
every counted sample adds exactly one count to its column, at that level (but for a count at 2^32 - 1, which R267 leaves as it is). -/
def Obligations.PlateLevels : Prop :=
  ∀ pb (l : Int) (x : Nat) (r : PlateRun), 0 < pb.nat 8 → 0 < pb.nat 6 → x < plateCols pb →
    ∃ y, y < pb.nat 6 ∧ (plateAdd pb x l r).increments = r.increments + 1 ∧
      (l < pb.int 7 → y = 0 ∧ (plateAdd pb x l r).below = r.below + 1 ∧ (plateAdd pb x l r).above = r.above) ∧
      (pb.int 7 + (pb.nat 8 : Int) * (pb.nat 6 : Int) ≤ l → y = pb.nat 6 - 1 ∧ (plateAdd pb x l r).above = r.above + 1 ∧ (plateAdd pb x l r).below = r.below) ∧
      (pb.int 7 ≤ l → l < pb.int 7 + (pb.nat 8 : Int) * (pb.nat 6 : Int) → (pb.nat 8 : Int) * (y : Int) + pb.int 7 ≤ l ∧ l < (pb.nat 8 : Int) * ((y : Int) + 1) + pb.int 7 ∧
        (plateAdd pb x l r).below = r.below ∧ (plateAdd pb x l r).above = r.above) ∧
      (∀ n, (plateAdd pb x l r).counts.getD n 0 = r.counts.getD n 0 + (if n = y * plateCols pb + x ∧ r.counts.getD n 0 < 2 ^ 32 - 1 then 1 else 0)) ∧
      (plateAdd pb x l r).sat = r.sat + (if 2 ^ 32 - 1 ≤ r.counts.getD (y * plateCols pb + x) 0 then 1 else 0)

/-- R251, whole: a point is tested when its channel's sample is valid, and outside when its level code is above HIGH or below LOW; the frame's state is OUT with a tested point outside, IN with points
tested and none outside, NONE with no point tested. -/
def Obligations.MaskFrameStates : Prop :=
  ∀ s (m d k bankNo cnt q : Nat) mb b (bank : Array Nat) c (xs : List Smp),
    (maskRun (freqFrame s m d k mb b bank bankNo c cnt q xs).1 d k).state =
      (if xs.any (fun x => x.ok) = false then 0
       else if xs.zipIdx.any (fun e => e.1.ok && (decide (pointHigh (bank.getD e.2 maskOpen) < levelCode e.1.pow) || decide (levelCode e.1.pow < pointLow (bank.getD e.2 maskOpen)))) then 2 else 1)

/-- Records that instruments form (R193, R196, R198, R220, R221, R231): INTEGRATION_END, SUB_INTEGRATION_END, DUMP_END. The oldest closed bank of a detector or integrator
becomes one record with the instrument's number and its RESULT_SEQ, which advances by one modulo 2^32, from the bank's first to its last sample tick; that of a correlator or a
pulsar instrument becomes one record for each part, that of a beamformer one for each beam. A completed sub-integration is correlated from the next device tick on. Where no bank is
closed nothing is formed; nothing but the record list and the instruments changes, so no memory and no message.
Traces and loopback reports (R257, R604): TRACE_GROUP_END and LOOPBACK_REPORT_END. The oldest whole group of trace frames becomes a record of KIND 8 and VERSION 1, which is
at its destination at once, its frames leave the group and RESULT_SEQ advances; with no whole group nothing happens. A LOOPBACK forms its report of KIND 12 once REPORT_TICKS ticks have passed, with VALID the bits checked, the next report
starts where it ends, and nothing is formed before.
Every command named at the head completes: a clause concludes its own next state from conditions on the state and the operands alone. -/
def Obligations.RecordsAndReports : Prop :=
  (∀ s (d i : Nat) b bk rest, s.plan.instr d i = some b → (instrRun s d i).closed = bk :: rest → iKind b ≤ 1 →
    NextWith (exec (.integrationEnd d i) s) fun t => ∃ m, t.made = s.made ++ [m] ∧ m.dome = d ∧ m.instr = i ∧ m.block = b ∧ m.kind = iKind bk.block ∧ m.seq = (instrRun s d i).seq ∧ m.lastTick = bk.last ∧
      m.body.take 7 = [(1, iKind bk.block), (1, 1), (2, i), (2, bk.block.nat 6), (2, bk.r10 + 64 * bk.block.nat 9), (8, bk.first), (4, bk.last + 1 - bk.first)] ∧ m.drops = .resultDrop ∧
      (instrRun t d i).closed = rest ∧ (instrRun t d i).seq = ((instrRun s d i).seq + 1) % 2 ^ 32 ∧ t = { s with made := t.made, instrs := t.instrs }) ∧
  (∀ s (d i : Nat) b bk rest, s.plan.instr d i = some b → (instrRun s d i).closed = bk :: rest → iKind b = 6 →
    NextWith (exec (.integrationEnd d i) s) fun t => (∃ l, t.made = s.made ++ l ∧ l.length = bk.block.nat 8 ∧ ∀ m ∈ l, m.dome = d ∧ m.instr = i ∧ m.kind = 4 ∧ m.lastTick = bk.last ∧ m.seq = (instrRun s d i).seq) ∧
      (instrRun t d i).closed = rest ∧ (instrRun t d i).seq = ((instrRun s d i).seq + 1) % 2 ^ 32 ∧ t = { s with made := t.made, instrs := t.instrs }) ∧
  (∀ s (d i : Nat) b bk rest, s.plan.instr d i = some b → (instrRun s d i).closed = bk :: rest → iKind b ≤ 1 →
    NextWith (exec (.integrationEnd d i) s) fun t => tgetD (instrRun t d i).cnt .results 0 = (tgetD (instrRun s d i).cnt .results 0 + 1) % 2 ^ 64 ∧
      ∃ m, t.made = s.made ++ [m] ∧ m.body.drop (m.body.length - (detArrays (bk.block.nat 6) (bk.block.flag 9) bk.acc).length) = detArrays (bk.block.nat 6) (bk.block.flag 9) bk.acc) ∧
  (∀ s (d i : Nat) b, s.plan.instr d i = some b → 1 < iKind b → iKind b ≠ 6 → exec (.integrationEnd d i) s = .next s) ∧
  (∀ s (d i : Nat), i < 64 → (instrRun s d i).closed = [] → exec (.integrationEnd d i) s = .next s) ∧
  (∀ s (d i : Nat) b bk rest, s.plan.instr d i = some b → (instrRun s d i).subs = bk :: rest →
    NextWith (exec (.subIntegrationEnd d i) s) fun t => (instrRun t d i).subs = rest ∧ (instrRun t d i).corr = some (s.time.tick64 + 1, bk) ∧ t = { s with instrs := t.instrs }) ∧
  (∀ s (d i : Nat), i < 64 → (instrRun s d i).subs = [] → exec (.subIntegrationEnd d i) s = .next s) ∧
  (∀ s (d i : Nat) b bk rest, s.plan.instr d i = some b → (instrRun s d i).corr = none → (instrRun s d i).closed = bk :: rest → iKind b = 4 ∨ iKind b = 5 →
    NextWith (exec (.dumpEnd d i) s) fun t => (∃ l, t.made = s.made ++ l ∧ l.length = bk.parts ∧ ∀ m ∈ l, m.dome = d ∧ m.instr = i ∧ m.kind = (if iKind bk.block = 5 then 3 else 2) ∧ m.lastTick = bk.last ∧
      m.seq = (instrRun s d i).seq ∧ m.drops = .dumpDrop) ∧ (instrRun t d i).closed = rest ∧ (instrRun t d i).seq = ((instrRun s d i).seq + 1) % 2 ^ 32 ∧ t = { s with made := t.made, instrs := t.instrs }) ∧
  (∀ s (d i : Nat), i < 64 → (instrRun s d i).corr = none → (instrRun s d i).closed = [] → exec (.dumpEnd d i) s = .next s) ∧
  (∀ s (d i q : Nat) b, s.plan.instr d i = some b → traceReady b (instrRun s d i).group = some q →
    NextWith (exec (.traceGroupEnd d i) s) fun t => (instrRun t d i).group = (instrRun s d i).group.filter (fun e => !decide (e.1 ≤ q)) ∧ (instrRun t d i).seq = ((instrRun s d i).seq + 1) % 2 ^ 32 ∧
      tgetD (instrRun t d i).cnt .traces 0 = (tgetD (instrRun s d i).cnt .traces 0 + 1) % 2 ^ 64 ∧ t.made = s.made) ∧
  (∀ s (d i q : Nat) b x m, s.plan.instr d i = some b → traceReady b (instrRun s d i).group = some q → x = traceRecord i b ((instrRun s d i).group.filter (fun e => decide (e.1 ≤ q))) →
    m = iRecord s d i 0 0 8 b (instrRun s d i).seq x.2.1 x.2.2 x.1 .resultDrop none → x.1.take 5 = [(1, 8), (1, 1), (2, i), (2, x.2.1), (2, b2n (b.is 5 2))] ∧
    NextWith (exec (.traceGroupEnd d i) s) fun t => t = { deliverOne s m with instrs := t.instrs }) ∧
  (∀ s (d i : Nat) b, s.plan.instr d i = some b → traceReady b (instrRun s d i).group = none → exec (.traceGroupEnd d i) s = .next s) ∧
  (∀ s (d i er ab : Nat) b, s.plan.instr d i = some b → iKind b = 11 → (instrRun s d i).loop.from0 + Nat.max 1 (b.nat 9) ≤ s.time.tick64 →
    NextWith (exec (.loopbackReportEnd d i er ab) s) fun t => ∃ m, t.made = s.made ++ [m] ∧ m.dome = d ∧ m.instr = i ∧ m.kind = 12 ∧ m.seq = (instrRun s d i).loop.seq ∧ m.body.head? = some (1, 12) ∧
      (m.body.drop (m.body.length - 2)) = [(8, if b.is 2 1 then 0 else Nat.min er (8 * ((instrRun s d i).loop.got - (instrRun s d i).loop.errs) - 256 * ab)),
        (8, if b.is 2 0 then Nat.min ab (8 * ((instrRun s d i).loop.got - (instrRun s d i).loop.errs) / 256) else 0)] ∧
      (instrRun t d i).loop.from0 = (instrRun s d i).loop.from0 + Nat.max 1 (b.nat 9) ∧ t = { s with made := t.made, instrs := t.instrs }) ∧
  (∀ s (d i er ab : Nat) b, s.plan.instr d i = some b → (iKind b ≠ 11 ∨ s.time.tick64 < (instrRun s d i).loop.from0 + Nat.max 1 (b.nat 9)) →
    exec (.loopbackReportEnd d i er ab) s = .next s)

/-- Issue on a Sextant (R350, R354, R359, R362, R364, R375, R376, R598, R599): BUNDLE_ISSUE, INTERRUPT_TAKEN, SEXTANT_TIMER_EXPIRY, WAIT_END. Every case leaves the other tiles alone. A halted or idle Sextant issues nothing; a requested halt and a
breakpoint halt it; a paired access that finds the port busy stalls one cycle and is counted; an address beyond the code and every fault of the slots end the item with the lowest code; DONE ends it with its outputs
due; a bundle without control goes on to the next one in the next cycle. An interrupt saves the next bundle and FLAGS, clears IE and LEN, and goes on at IVEC. A timer that expires sets its IPEND bit and reloads or
stops. A WAIT takes the oldest event.
Every command named at the head completes: a clause concludes its own next state from conditions on the state and the operands alone. -/
def Obligations.SextantIssue : Prop :=
  (∀ s (n : Nat) pb, n < 68 → NextWith (exec (.bundleIssue n pb) s) fun t => (∀ u, u ≠ n → sxOf t u = sxOf s u) ∧
      t = { s with sextants := t.sextants, free := t.free, router := t.router, out := t.out, log := t.log, mbx := t.mbx }) ∧
  (∀ s (n : Nat) pb, n < 68 → ((sxOf s n).halted = true ∨ (sxOf s n).run = .idle) → exec (.bundleIssue n pb) s = .next s) ∧
  (∀ s (n : Nat) pb, n < 68 → (sxOf s n).halted = false → (sxOf s n).run ≠ .idle → (sxOf s n).haltReq = true →
    exec (.bundleIssue n pb) s = .next (onSx s n (fun e => { e with halted := true, cause := 1, haltReq := false, stepping := false }))) ∧
  (∀ s (n : Nat) pb, n < 68 → (sxOf s n).halted = false → (sxOf s n).run = .running → (sxOf s n).haltReq = false → irqDue (sxOf s n) = false → (sxOf s n).stepping = false →
    (sxOf s n).bps.any (fun b => b.getLsbD 31 && b.toNat % 2 ^ 31 == (sxOf s n).pc) = true →
    exec (.bundleIssue n pb) s = .next (onSx s n (fun e => { e with halted := true, cause := 3, haltReq := false, stepping := false }))) ∧
  (∀ s (n : Nat) pb im c, n < 68 → (sxOf s n).halted = false → (sxOf s n).run = .running → (sxOf s n).haltReq = false → irqDue (sxOf s n) = false → (sxOf s n).bps.all (fun b => !b.getLsbD 31) = true →
    (sxOf s n).image = some im → ((im.bundles ≤ (sxOf s n).pc ∧ c = 5) ∨ ((sxOf s n).pc < im.bundles ∧ pb = false ∧ bundleFault (sxOf s n) (slotsOf (sxOf s n) (sxProds s.plan (sxOf s n)) (sxOf s n).pc) = some c)) →
    NextWith (exec (.bundleIssue n pb) s) fun t => (sxOf t n).fault = some (c, (sxOf s n).pc) ∧ (sxOf t n).run = .idle ∧ (sxOf t n).item = none ∧ (sxOf t n).aborted = (sxOf s n).aborted ++ (sxOf s n).item.toList ∧
      (sxOf t n).faults = ((sxOf s n).faults + 1) % 2 ^ 64 ∧ (sxOf t n).x = (sxOf s n).x ∧ (sxOf t n).data = (sxOf s n).data ∧ ((sxOf s n).lease = none → t.log = s.log)) ∧
  (∀ s (n : Nat) im, n < 68 → (sxOf s n).halted = false → (sxOf s n).run = .running → (sxOf s n).haltReq = false → irqDue (sxOf s n) = false → (sxOf s n).bps.all (fun b => !b.getLsbD 31) = true →
    (sxOf s n).image = some im → (sxOf s n).pc < im.bundles → isPaired ((bundleAt (sxOf s n) (sxOf s n).pc).getD 3 0) = true →
    NextWith (exec (.bundleIssue n true) s) fun t => (sxOf t n).stalls = ((sxOf s n).stalls + 1) % 2 ^ 64 ∧ (sxOf t n).pc = (sxOf s n).pc ∧ (sxOf t n).item = (sxOf s n).item ∧ (sxOf t n).now = (sxOf s n).now + 1) ∧
  (∀ s (n : Nat) im, n < 68 → (sxOf s n).halted = false → (sxOf s n).run = .running → (sxOf s n).haltReq = false → irqDue (sxOf s n) = false → (sxOf s n).bps.all (fun b => !b.getLsbD 31) = true →
    (sxOf s n).wps.all (fun w => !w.2.getLsbD 31) = true → (sxOf s n).image = some im → (sxOf s n).pc < im.bundles → bundleFault (sxOf s n) (slotsOf (sxOf s n) (sxProds s.plan (sxOf s n)) (sxOf s n).pc) = none →
    ((slotsOf (sxOf s n) (sxProds s.plan (sxOf s n)) (sxOf s n).pc).map (fun o => o.ctl)).filter (fun c => c != .none) = [.done] → NextWith (exec (.bundleIssue n false) s) fun t =>
      (sxOf t n).run = .idle ∧ (sxOf t n).item = none ∧ (sxOf t n).done = (sxOf s n).done ++ (sxOf s n).item.toList ∧ (sxOf t n).items = ((sxOf s n).items + 1) % 2 ^ 64 ∧ (sxOf t n).halted = false) ∧
  (∀ s (n : Nat) im, n < 68 → (sxOf s n).halted = false → (sxOf s n).run = .running → (sxOf s n).haltReq = false → irqDue (sxOf s n) = false → (sxOf s n).bps.all (fun b => !b.getLsbD 31) = true →
    (sxOf s n).wps.all (fun w => !w.2.getLsbD 31) = true → (sxOf s n).image = some im → (sxOf s n).pc < im.bundles → bundleFault (sxOf s n) (slotsOf (sxOf s n) (sxProds s.plan (sxOf s n)) (sxOf s n).pc) = none →
    ((slotsOf (sxOf s n) (sxProds s.plan (sxOf s n)) (sxOf s n).pc).map (fun o => o.ctl)).filter (fun c => c != .none) = [] → (sxOf s n).flags &&& 0x700 = 0 → (sxOf s n).jumps = [] → (sxOf s n).pipe = [] →
    NextWith (exec (.bundleIssue n false) s) fun t => (sxOf t n).pc = (sxOf s n).pc + 1 ∧ (sxOf t n).run = .running ∧ (sxOf t n).item = (sxOf s n).item ∧ (sxOf t n).now = (sxOf s n).now + 1) ∧
  (∀ s (n : Nat), n < 68 → (sxOf s n).halted = false → irqDue (sxOf s n) = true → NextWith (exec (.interruptTaken n) s) fun t => (sxOf t n).ipc = BitVec.ofNat 32 (sxOf s n).pc ∧ (sxOf t n).run = .running ∧
      (sxOf t n).flags &&& 0xF00 = 0 ∧ ((sxOf s n).pipe = [] → (sxOf t n).iflags = (sxOf s n).flags ∧ (sxOf t n).pc = (sxOf s n).ivec.toNat ∧ (sxOf t n).lc = (sxOf s n).lc) ∧
      (∀ u, u ≠ n → sxOf t u = sxOf s u) ∧ t = { s with sextants := t.sextants, free := t.free, router := t.router }) ∧
  (∀ s (n : Nat), n < 68 → ((sxOf s n).halted = true ∨ irqDue (sxOf s n) = false) → exec (.interruptTaken n) s = .next s) ∧
  (∀ s (n k : Nat) x, n < 68 → k < 4 → (sxOf s n).halted = false → (sxOf s n).timers[k]? = some x → x.run = true → (sxOf s n).timers.any (fun y => y.run && decide (y.left < x.left)) = false → (sxOf s n).pipe = [] →
    NextWith (exec (.sextantTimerExpiry n k) s) fun t => (sxOf t n).ipend.getLsbD k = true ∧ (sxOf t n).now = (sxOf s n).now + x.left ∧
      (sxOf t n).timers[k]? = some (if x.ctl.getLsbD 1 then { x with cnt := x.rld } else { x with cnt := 0, ctl := x.ctl &&& 0xFFFFFFFE }) ∧
      (x.ctl.getLsbD 2 = true → ∃ ev ∈ t.router.queue.drop s.router.queue.length, ev.chan = bits x.ctl.toNat 15 8) ∧ (∀ u, u ≠ n → sxOf t u = sxOf s u) ∧
      t = { s with sextants := t.sextants, free := t.free, router := t.router }) ∧
  (∀ s (n k : Nat) x, n < 68 → k < 4 → (sxOf s n).timers[k]? = some x → ((sxOf s n).halted = true ∨ x.run = false ∨ (sxOf s n).timers.any (fun y => y.run && decide (y.left < x.left)) = true) →
    exec (.sextantTimerExpiry n k) s = .next s) ∧
  (∀ s (n d c : Nat) r, n < 68 → (sxOf s n).halted = false → (sxOf s n).run = .waiting d → (sxOf s n).queue = c :: r → (sxOf s n).stepping = false → NextWith (exec (.waitEnd n) s) fun t =>
      (sxOf t n).queue = r ∧ (sxOf t n).run = .running ∧ (sxOf t n).waitst = BitVec.ofNat 32 c ∧ (d ≠ 0 → (sxOf t n).x = (sxOf s n).x.set d (BitVec.ofNat 32 c)) ∧ (d = 0 → (sxOf t n).x = (sxOf s n).x) ∧
      t = { s with sextants := t.sextants }) ∧
  (∀ s (n : Nat), n < 68 → ((sxOf s n).queue = [] ∨ (sxOf s n).run = .running ∨ (sxOf s n).run = .idle) → NextWith (exec (.waitEnd n) s) fun t => (∀ u, sxOf t u = sxOf s u) ∧ t = { s with sextants := t.sextants })

/-- Items of a Sextant (R347, R367, R369, R372): SEXTANT_ITEM_START, SWAP_APPLY, LEASE_SCRUB, SEXTANT_ITEM_ABORT. The oldest item whose bank is ready starts at the entry of the image with its status; a swap that is due takes the staged image and clears
the registers; a scrub clears memories and registers; an item past its deadline is aborted, its records are shed, and memories and registers stay. What is not due does not happen.
Every command named at the head completes: a clause concludes its own next state from conditions on the state and the operands alone. -/
def Obligations.SextantItems : Prop :=
  (∀ s (n : Nat), n < 68 → ticking s = false → exec (.sextantItemStart n) s = .next s) ∧
  (∀ s (n : Nat), n < 68 → ticking s = true → (sxOf s n).scrub = false → (sxOf s n).due = [] → exec (.sextantItemStart n) s = .next s) ∧
  (∀ s (n : Nat) i rest im, n < 68 → ticking s = true → (sxOf s n).scrub = false → swapDue (sxOf s n) s.time.tick64 = false → (sxOf s n).due = i :: rest → (sxOf s n).run = .idle → (sxOf s n).halted = false →
    (sxOf s n).fault = none → (sxOf s n).image = some im → i.m ≤ s.time.tick64 → NextWith (exec (.sextantItemStart n) s) fun t =>
      (sxOf t n).run = .running ∧ (sxOf t n).item = some i ∧ (sxOf t n).due = rest ∧ (sxOf t n).pc = im.entry ∧ (sxOf t n).cycle = 0 ∧ (sxOf t n).tick = s.time.tick64 ∧ (sxOf t n).itemst = (sxOf s n).nextSt ∧
      (sxOf t n).nextSt = 0 ∧ (sxOf t n).x = (sxOf s n).x ∧ (∀ u, u ≠ n → sxOf t u = sxOf s u) ∧ t = { s with sextants := t.sextants }) ∧
  (∀ s (n : Nat), n < 68 → (sxOf s n).run = .idle → swapDue (sxOf s n) s.time.tick64 = true → (sxOf s n).due = [] → NextWith (exec (.swapApply n) s) fun t =>
      (sxOf t n).swap = none ∧ (sxOf t n).fault = none ∧ (sxOf t n).image = some (imageOf (sxOf s n).staged) ∧ (sxOf t n).prog = memPutList [] 0 (sliceL (sxOf s n).staged 64 (16 * (imageOf (sxOf s n).staged).bundles)) ∧
      (sxOf t n).x = List.replicate 32 0 ∧ (sxOf t n).flags = 0 ∧ (sxOf t n).pipe = [] ∧ (sxOf t n).ivec = BitVec.ofNat 32 (imageOf (sxOf s n).staged).ivec ∧ (∀ u, u ≠ n → sxOf t u = sxOf s u) ∧
      t = { s with sextants := t.sextants, free := t.free, router := t.router }) ∧
  (∀ s (n : Nat), n < 68 → ((sxOf s n).run ≠ .idle ∨ swapDue (sxOf s n) s.time.tick64 = false) → exec (.swapApply n) s = .next s) ∧
  (∀ s (n : Nat), n < 68 → (sxOf s n).scrub = true → NextWith (exec (.leaseScrub n) s) fun t => (sxOf t n).data = [] ∧ (sxOf t n).x = List.replicate 32 0 ∧ (sxOf t n).v = List.replicate 32 0 ∧ (sxOf t n).queue = [] ∧
      (sxOf t n).lease = (sxOf s n).lease ∧ (sxOf t n).scrub = false ∧ (sxOf t n).run = .idle ∧ ((sxOf s n).lease = none → (sxOf t n).image = none ∧ (sxOf t n).prog = []) ∧
      ((sxOf s n).lease ≠ none → (sxOf s n).incoming ≠ [] → (sxOf t n).image = some (imageOf (sxOf s n).incoming)) ∧ (∀ u, u ≠ n → sxOf t u = sxOf s u) ∧ t = { s with sextants := t.sextants }) ∧
  (∀ s (n : Nat), n < 68 → (sxOf s n).scrub = false → exec (.leaseScrub n) s = .next s) ∧
  (∀ s (n : Nat) i, n < 68 → (sxOf s n).item = some i → i.m + 1 ≤ s.time.tick64 → NextWith (exec (.sextantItemAbort n) s) fun t => (sxOf t n).run = .idle ∧ (sxOf t n).item = none ∧ (sxOf t n).flags &&& 0x700 = 0 ∧
      (sxOf t n).nextSt = (sxOf s n).nextSt ||| 1 ∧ (sxOf t n).x = (sxOf s n).x ∧ (sxOf t n).data = (sxOf s n).data ∧
      ((sxOf s n).halted = false → (sxOf s n).aborted = [] → (sxOf t n).shedItems = ((sxOf s n).shedItems + 1) % 2 ^ 64) ∧ (∀ u, u ≠ n → sxOf t u = sxOf s u)) ∧
  (∀ s (n : Nat), n < 68 → ((sxOf s n).item = none ∨ ∃ i, (sxOf s n).item = some i ∧ s.time.tick64 < i.m + 1) → exec (.sextantItemAbort n) s = .next s)

/-- The scalar and load/store slots of a bundle (R351, R353, R356 to R358, R362, R363, R376, Tables 12-1, 12-6, 12-10, 12-11): results with their latencies for the arithmetic, branch, special, control and load instructions; X0 is never written;
reserved operations raise ILLEGAL, misaligned accesses ALIGN, accesses beyond data memory ADDR, an MTS to a read-only number ILLEGAL, a channel that is not held EVT. -/
def Obligations.SextantSlots : Prop :=
  (∀ e pr (pc w : Nat), bits w 25 21 ≠ 0 →
    (bits w 31 26 = 0x01 → (scalarSlot e pr pc w).writes = [(1, .x (bits w 25 21) (xRead e (bits w 20 16) + xRead e (bits w 4 0)))]) ∧
    (bits w 31 26 = 0x02 → (scalarSlot e pr pc w).writes = [(1, .x (bits w 25 21) (xRead e (bits w 20 16) - xRead e (bits w 4 0)))]) ∧
    (bits w 31 26 = 0x03 → (scalarSlot e pr pc w).writes = [(1, .x (bits w 25 21) (xRead e (bits w 20 16) &&& xRead e (bits w 4 0)))]) ∧
    (bits w 31 26 = 0x04 → (scalarSlot e pr pc w).writes = [(1, .x (bits w 25 21) (xRead e (bits w 20 16) ||| xRead e (bits w 4 0)))]) ∧
    (bits w 31 26 = 0x05 → (scalarSlot e pr pc w).writes = [(1, .x (bits w 25 21) (xRead e (bits w 20 16) ^^^ xRead e (bits w 4 0)))]) ∧
    (bits w 31 26 = 0x06 → (xRead e (bits w 4 0)).toNat < 32 → (scalarSlot e pr pc w).writes = [(1, .x (bits w 25 21) (xRead e (bits w 20 16) <<< (xRead e (bits w 4 0)).toNat))]) ∧
    (bits w 31 26 = 0x08 → (xRead e (bits w 4 0)).toNat < 32 → (scalarSlot e pr pc w).writes = [(1, .x (bits w 25 21) (xRead e (bits w 20 16) >>> (xRead e (bits w 4 0)).toNat))]) ∧
    (bits w 31 26 = 0x10 → (scalarSlot e pr pc w).writes = [(2, .x (bits w 25 21) (xRead e (bits w 20 16) * xRead e (bits w 4 0)))])) ∧
  (∀ e pr (pc w : Nat) x v, x ∈ (scalarSlot e pr pc w).writes ∨ x ∈ (memSlot e w).writes → x.2 ≠ PipeWrite.x 0 v) ∧
  (∀ e pr (pc w : Nat), (bits w 31 26 = 0x09 → (scalarSlot e pr pc w).writes = [(1, .flags (cmpFlags (xRead e (bits w 20 16)) (xRead e (bits w 4 0))))]) ∧
    (bits w 31 26 = 0x14 → (scalarSlot e pr pc w).ctl = .jump (.bundle (bits w 15 0))) ∧ (bits w 31 26 = 0x15 → (scalarSlot e pr pc w).ctl = if e.flags.getLsbD 0 then .jump (.bundle (bits w 15 0)) else .none) ∧
    (bits w 31 26 = 0x16 → (scalarSlot e pr pc w).ctl = if e.flags.getLsbD 0 then .none else .jump (.bundle (bits w 15 0))) ∧
    (bits w 31 26 = 0x17 → (scalarSlot e pr pc w).ctl = .jump (.bundle (bits w 15 0)) ∧ (scalarSlot e pr pc w).writes = [(1, .x 31 (BitVec.ofNat 32 (pc + 3)))]) ∧
    (bits w 31 26 = 0x1D → sxWritable (bits w 15 0) = false → (scalarSlot e pr pc w).faults = [1]) ∧ (bits w 31 26 = 0x20 → (scalarSlot e pr pc w).ctl = .wait (bits w 25 21)) ∧
    (bits w 31 26 = 0x21 → pr.contains (bits w 15 0) = true → (scalarSlot e pr pc w).ctl = .publish (bits w 15 0)) ∧ (bits w 31 26 = 0x21 → pr.contains (bits w 15 0) = false → (scalarSlot e pr pc w).faults = [7]) ∧
    (bits w 31 26 = 0x22 → (scalarSlot e pr pc w).ctl = .done) ∧ (bits w 31 26 = 0x23 → (scalarSlot e pr pc w).ctl = .jump .rti) ∧
    (0x23 < bits w 31 26 → (scalarSlot e pr pc w).faults = [1])) ∧
  (∀ e (w a : Nat), bits w 17 16 = 3 → a = ofSigned 32 ((e.ix.getD (bits w 20 18) 0).toNat + toSigned 16 (bits w 15 0)) →
    (bits w 31 26 = 0x05 → a % 4 = 0 → a + 4 ≤ 0x40000 → (memSlot e w).faults = [] ∧ (memSlot e w).writes = xWrite 3 (bits w 25 21) (BitVec.ofNat 32 (dataRead e a 4))) ∧
    (bits w 31 26 = 0x03 → a % 2 = 0 → a + 2 ≤ 0x40000 → (memSlot e w).faults = [] ∧ (memSlot e w).writes = xWrite 3 (bits w 25 21) (BitVec.ofInt 32 (toSigned 16 (dataRead e a 2)))) ∧
    (bits w 31 26 = 0x01 → a < 0x40000 → (memSlot e w).faults = [] ∧ (memSlot e w).writes = xWrite 3 (bits w 25 21) (BitVec.ofInt 32 (toSigned 8 (dataRead e a 1)))) ∧
    (bits w 31 26 = 0x09 → a % 64 = 0 → a + 64 ≤ 0x40000 → (memSlot e w).faults = [] ∧ (memSlot e w).writes = [(2, .mem a (leBytes 64 (e.v.getD (bits w 25 21) 0).toNat))]) ∧
    ((bits w 31 26 = 0x08 ∨ bits w 31 26 = 0x09) → a % 64 ≠ 0 → 2 ∈ (memSlot e w).faults) ∧ ((bits w 31 26 = 0x08 ∨ bits w 31 26 = 0x09) → 0x40000 ≤ a → 3 ∈ (memSlot e w).faults) ∧
    (0x13 < bits w 31 26 → (memSlot e w).faults = [1])) ∧
  (∀ e (w : Nat), bits w 31 26 = 0 → macSlot e w = {} ∧ (memSlot e w).writes = [] ∧ (memSlot e w).faults = [] ∧ ∀ pr pc, (scalarSlot e pr pc w).writes = [] ∧ (scalarSlot e pr pc w).ctl = .none) ∧
  (∀ e (w : Nat), (0x20 ≤ bits w 31 26 ∨ (0x05 ≤ bits w 31 26 ∧ bits w 31 26 ≤ 0x07)) → (macSlot e w).faults = [1])

/-- Mailbox registers (R379, R380, R381, R453): MBX_RQ_TAIL_WRITE, MBX_CQ_HEAD_WRITE, MBX_CTRL_WRITE, MBX_RING_REG_WRITE, MBX_ERR_WRITE on a function with a mailbox. A tail or head below the ring size is taken, any other is ignored and
sets TAIL_RANGE; ENABLE goes from 0 to 1 only with legal rings, sets heads and tails to 0 and PHASE to 1, and sets RING_WRITE otherwise; clearing it discards the completions of what is in flight; a base or size register
is written while disabled alone; ones clear the error bits. A function without a mailbox commits a violation, and in COLD nothing is taken.
Every command named at the head completes: a clause concludes its own next state from conditions on the state and the operands alone. -/
def Obligations.MailboxRegisterWrites : Prop :=
  (∀ s f (w : Word), fnOk f = true → s.dev.st ≠ .cold → hasMbx s f = true →
    (bits w.toNat 11 0 < 2 ^ (mbxOf s f).rqSize → exec (.mbxRqTailWrite f w) s = .next (onMbx s f (fun m => { m with rqTail := bits w.toNat 11 0 }))) ∧
    (2 ^ (mbxOf s f).rqSize ≤ bits w.toNat 11 0 → exec (.mbxRqTailWrite f w) s = .next (onMbx s f (fun m => { m with tailRange := true })))) ∧
  (∀ s f (w : Word), fnOk f = true → s.dev.st ≠ .cold → hasMbx s f = true → NextWith (exec (.mbxCqHeadWrite f w) s) fun t =>
    (bits w.toNat 12 0 < 2 ^ (mbxOf s f).cqSize → (mbxOf t f).cqHead = bits w.toNat 12 0 ∧ (mbxOf t f).tailRange = (mbxOf s f).tailRange ∧
      ((mbxOf s f).lost = 0 → t = onMbx s f (fun m => { m with cqHead := bits w.toNat 12 0, cqUsed := m.cqUsed - (bits w.toNat 12 0 + 2 ^ m.cqSize - m.cqHead) % 2 ^ m.cqSize }))) ∧
    (2 ^ (mbxOf s f).cqSize ≤ bits w.toNat 12 0 → (mbxOf t f).cqHead = (mbxOf s f).cqHead ∧ (mbxOf t f).tailRange = true) ∧ t = { s with mbx := t.mbx, out := t.out, router := t.router }) ∧
  (∀ s f (w : Word), fnOk f = true → s.dev.st ≠ .cold → hasMbx s f = true → NextWith (exec (.mbxCtrlWrite f w) s) fun t =>
    (mbxOf t f).vector = (if f.vf = 0 then bits w.toNat 26 16 else bits w.toNat 20 16) ∧
    (bit w.toNat 0 = true → (mbxOf s f).enable = false → 4 ≤ (mbxOf s f).rqSize → (mbxOf s f).rqSize ≤ 12 → 7 ≤ (mbxOf s f).cqSize → (mbxOf s f).cqSize ≤ 13 → (mbxOf s f).rqBase % 4096 = 0 → (mbxOf s f).cqBase % 4096 = 0 →
      (mbxOf t f).enable = true ∧ (mbxOf t f).rqHead = 0 ∧ (mbxOf t f).rqTail = 0 ∧ (mbxOf t f).cqHead = 0 ∧ (mbxOf t f).cqTail = 0 ∧ (mbxOf t f).phase = true ∧ t.inflight = s.inflight) ∧
    (bit w.toNat 0 = true → (mbxOf s f).enable = false → ((mbxOf s f).rqSize < 4 ∨ 12 < (mbxOf s f).rqSize ∨ (mbxOf s f).cqSize < 7 ∨ 13 < (mbxOf s f).cqSize ∨ (mbxOf s f).rqBase % 4096 ≠ 0 ∨ (mbxOf s f).cqBase % 4096 ≠ 0) →
      (mbxOf t f).enable = false ∧ (mbxOf t f).ringWrite = true ∧ t.inflight = s.inflight) ∧
    (bit w.toNat 0 = false → (mbxOf s f).enable = true → (mbxOf t f).enable = false ∧ t.inflight = s.inflight.map (fun x => if x.req.fn == f then { x with discard := true } else x)) ∧
    (bit w.toNat 0 = (mbxOf s f).enable → (mbxOf t f).enable = (mbxOf s f).enable ∧ t.inflight = s.inflight) ∧ t = { s with mbx := t.mbx, inflight := t.inflight }) ∧
  (∀ s f (w : Word), fnOk f = true → s.dev.st ≠ .cold → hasMbx s f = true → (mbxOf s f).enable = true → ∀ off, ringReg off = true →
    exec (.mbxRingRegWrite f off w) s = .next (onMbx s f (fun m => { m with ringWrite := true }))) ∧
  (∀ s f (w : Word), fnOk f = true → s.dev.st ≠ .cold → hasMbx s f = true → (mbxOf s f).enable = false →
    exec (.mbxRingRegWrite f 0x1008 w) s = .next (onMbx s f (fun m => { m with rqBase := m.rqBase / 2 ^ 32 * 2 ^ 32 + bits w.toNat 31 12 * 4096 })) ∧
    exec (.mbxRingRegWrite f 0x100C w) s = .next (onMbx s f (fun m => { m with rqBase := m.rqBase % 2 ^ 32 + w.toNat * 2 ^ 32 })) ∧ exec (.mbxRingRegWrite f 0x1010 w) s = .next (onMbx s f (fun m => { m with rqSize := bits w.toNat 3 0 })) ∧
    exec (.mbxRingRegWrite f 0x1020 w) s = .next (onMbx s f (fun m => { m with cqBase := m.cqBase / 2 ^ 32 * 2 ^ 32 + bits w.toNat 31 12 * 4096 })) ∧
    exec (.mbxRingRegWrite f 0x1024 w) s = .next (onMbx s f (fun m => { m with cqBase := m.cqBase % 2 ^ 32 + w.toNat * 2 ^ 32 })) ∧ exec (.mbxRingRegWrite f 0x1028 w) s = .next (onMbx s f (fun m => { m with cqSize := bits w.toNat 3 0 }))) ∧
  (∀ s f (w : Word), fnOk f = true → s.dev.st ≠ .cold → hasMbx s f = true → exec (.mbxErrWrite f w) s =
    .next (onMbx s f (fun m => { m with tailRange := m.tailRange && !bit w.toNat 0, ringWrite := m.ringWrite && !bit w.toNat 1, fetchErr := m.fetchErr && !bit w.toNat 2 }))) ∧
  (∀ s f (w : Word), fnOk f = true → s.dev.st ≠ .cold → hasMbx s f = false → ∀ i ∈ [Instr.mbxRqTailWrite f w, .mbxCqHeadWrite f w, .mbxCtrlWrite f w, .mbxRingRegWrite f 0x1008 w, .mbxErrWrite f w],
    NextWith (exec i s) fun t => t.mbx = s.mbx ∧ Raises s t 1348 (causeId 0x20 (if f.vf = 0 then 4 else 5)) ∧ Logged t 1 (if f.vf = 0 then 4 else 5) s.time.tick64) ∧
  (∀ s f (w : Word), fnOk f = true → s.dev.st = .cold → ∀ i ∈ [Instr.mbxRqTailWrite f w, .mbxCqHeadWrite f w, .mbxCtrlWrite f w, .mbxRingRegWrite f 0x1008 w, .mbxErrWrite f w], exec i s = .next s)

/-- Fetching and waiting (R308, R380, R382, R383, R387, R388): REQUEST_FETCH, FENCE_RELEASE, ARP_RESOLVE_DONE. A mailbox that may fetch and whose turn in the round it is takes the entry at its head under its tag and the head passes it; a bus error stops fetching, is logged, and
passes nothing; a mailbox that may not fetch, or whose turn it is not, does nothing. The oldest held request of a mailbox is decided once no earlier one is in flight and, for kinds C, I and M, every one fetched earlier is decided, never in HALTED. A request that waits for a next-hop address is decided
with the addresses; without one it completes with TIMEOUT.
Every command named at the head completes: a clause concludes its own next state from conditions on the state and the operands alone. -/
def Obligations.RequestsAreFetchedAndReleased : Prop :=
  (∀ s f b buf be, fnOk f = true → b.length = 64 → (mayFetch s f && fetchTurn s f) = false → exec (.requestFetch f b buf be) s = .next s) ∧
  (∀ s f b buf, fnOk f = true → b.length = 64 → (mayFetch s f && fetchTurn s f) = true → NextWith (exec (.requestFetch f b buf true) s) fun t => (mbxOf t f).fetchErr = true ∧ (mbxOf t f).rqHead = (mbxOf s f).rqHead ∧
    t.inflight = s.inflight ∧ Logged t 2 (Config.logType 9) s.time.tick64 ∧ t = { s with mbx := t.mbx, log := t.log, out := t.out, router := t.router }) ∧
  (∀ s f b buf op, fnOk f = true → b.length = 64 → (mayFetch s f && fetchTurn s f) = true → leField b 24 4 ≤ 16777216 → leField b 24 4 % 8 = 0 → buf.length = leField b 24 4 → (leField b 4 2).testBit 5 = false →
    Op.ofCode (leField b 0 2) = some op → leField b 2 2 ≠ 0xFFFF → ((inflightOf s f).any (fun x => x.req.tag == (entryRequest f b buf).tag)) = false → (op = .commit ∧ f = ownerFn → s.regs.sh = []) →
    exec (.requestFetch f b buf false) s = .next { onMbx (useTurn s f) f (fun m => { m with rqHead := (m.rqHead + 1) % 2 ^ m.rqSize }) with inflight := s.inflight ++ [{ opcode := leField b 0 2, req := entryRequest f b buf, discard := false }] }) ∧
  (∀ s f b buf, fnOk f = true → b.length = 64 → (mayFetch s f && fetchTurn s f) = true → leField b 24 4 ≤ 16777216 → leField b 24 4 % 8 = 0 → buf.length = leField b 24 4 → (leField b 4 2).testBit 5 = false →
    ((inflightOf s f).any (fun x => x.req.tag == (entryRequest f b buf).tag)) = true → NextWith (exec (.requestFetch f b buf false) s) fun t => (mbxOf t f).rqHead = ((mbxOf s f).rqHead + 1) % 2 ^ (mbxOf s f).rqSize ∧
      t.inflight = s.inflight ∧ (∃ c, t.out.completions = s.out.completions ++ [c] ∧ c.tag = leField b 2 2 ∧ c.status = 11 ∧ c.detail = 0xFFFE) ∧ t = { s with mbx := t.mbx, out := t.out, router := t.router }) ∧
  (∀ s f op q, fnOk f = true → s.dev.st ≠ .halted → failedDue s f = none → s.held.find? (fun x => x.2.fn == f) = some (op, q) → (fenced s q || !inTurn s op q) = true → exec (.fenceRelease f) s = .next s) ∧
  (∀ s f op q, fnOk f = true → s.dev.st ≠ .halted → failedDue s f = none → s.held.find? (fun x => x.2.fn == f) = some (op, q) → fenced s q = false → op.info.kind = .q → op ≠ .captureRead → headerBad { s with held := s.held.erase (op, q) } op q = true →
    isWin q = false → s.writes q = true → NextWith (exec (.fenceRelease f) s) fun t => t.held = s.held.erase (op, q) ∧ Completes t op q 11 0xFFFF (tsnOf s.time.tick64) 0 none 0) ∧
  (∀ s f q, fnOk f = true → s.dev.st ≠ .halted → failedDue s f = none → s.held.find? (fun x => x.2.fn == f) = some (.nop, q) → fenced s q = false → s.passes .nop q = true → q.slots = [0, 0, 0] → s.writes q = true →
    stateBusy s .nop q false = false → q.flags.toNat.testBit 4 = false → NextWith (exec (.fenceRelease f) s) fun t => t.held = s.held.erase (.nop, q) ∧ Completes t .nop q 0 0 (tsnOf s.time.tick64) 0 none 0) ∧
  (∀ s f op q, fnOk f = true → s.dev.st ≠ .halted → failedDue s f = none → s.held.find? (fun x => x.2.fn == f) = some (op, q) → fenced s q = false → inTurn s op q = true →
    exec (.fenceRelease f) s = .next (serveNow { s with held := s.held.erase (op, q) } op q true)) ∧
  (∀ s f op q r d m k, fnOk f = true → s.dev.st ≠ .halted → failedDue s f = none → s.held.find? (fun x => x.2.fn == f) = some (op, q) → fenced s q = false → inTurn s op q = true →
    op.info.kind = .c → op ≠ .commit → r = { s with held := s.held.erase (op, q) } → r.passes op q = true → d = s.domeFor q → q.flags.toNat.testBit 1 = false → confCmd op d q = .ok m → apTarget r m = none →
    stateBusy r op q (m.block.is 0 5) = false → needsMac r m = false → r.writes q = true → (op = .stateSet → r.dev.st ≠ .recovery) → admitSet r { dome := d, cmds := [m], named := namedTick r q, q := some q } = .ok k →
    NextWith (exec (.fenceRelease f) s) fun t => t.held = r.held ∧ (∃ x : Machine.PSet, t.psets = r.psets.filter (fun y => !k.cancelled.contains y) ++ [x] ∧ x.dome = d ∧ x.e = k.e ∧ x.cmds = k.cmds) ∧
      Completes t op q 0 0 (tsnOf k.e) ((k.results.head?.map (fun x => x.1)).getD 0) ((k.results.head?.map (fun x => x.2)).getD none) 0) ∧
  (∀ s f x v, fnOk f = true → s.dev.st ≠ .halted → failedDue s f = some (x, v) → s.writes x.req = true → isWin x.req = false → NextWith (exec (.fenceRelease f) s) fun t =>
    t.held = s.held.filter (fun y => y.2 != x.req) ∧ t.plan = s.plan ∧ t.psets = s.psets ∧ ∃ c, t.out.completions.getLast? = some c ∧ c.tag = x.req.tag.toNat ∧ c.status = v.status.code) ∧
  (∀ s f, fnOk f = true → (s.dev.st = .halted ∨ (failedDue s f = none ∧ s.held.find? (fun x => x.2.fn == f) = none)) → exec (.fenceRelease f) s = .next s) ∧
  (∀ s f g m, fnOk f = true → s.resolving.find? (fun x => x.2.fn == f && x.2.tag == g) = none → exec (.arpResolveDone f g m) s = .next s) ∧
  (∀ s f g op q, fnOk f = true → s.resolving.find? (fun x => x.2.fn == f && x.2.tag == g) = some (op, q) → op ≠ .commit → isWin q = false → s.writes q = true → NextWith (exec (.arpResolveDone f g none) s) fun t =>
    t.resolving = s.resolving.erase (op, q) ∧ Completes t op q 8 0 (tsnOf s.time.tick64) 0 none 0 ∧ t.plan = s.plan ∧ t.psets = s.psets) ∧
  (∀ s f g op q l r d m k, fnOk f = true → s.resolving.find? (fun x => x.2.fn == f && x.2.tag == g) = some (op, q) → s.dev.st ≠ .halted → op.info.kind = .c → op ≠ .commit → r = { s with resolving := s.resolving.erase (op, q) } →
    r.passes op q = true → d = s.domeFor q → q.flags.toNat.testBit 1 = false → confCmd op d q = .ok m → apTarget r m = none → stateBusy r op q (m.block.is 0 5) = false → r.writes q = true →
    (op = .stateSet → r.dev.st ≠ .recovery) → (∀ x ∈ s.psets, x.order ≠ s.admits) → admitSet r { dome := d, cmds := [m], named := namedTick r q, q := some q } = .ok k →
    NextWith (exec (.arpResolveDone f g (some l)) s) fun t => t.resolving = r.resolving ∧ t.admits = s.admits + 1 ∧
      (∃ x : Machine.PSet, t.psets = r.psets.filter (fun y => !k.cancelled.contains y) ++ [x] ∧ x.dome = d ∧ x.e = k.e ∧ x.cmds = k.cmds ∧ x.macs = l.map (fun e => (e.1, e.2.toNat))) ∧
      Completes t op q 0 0 (tsnOf k.e) ((k.results.head?.map (fun x => x.1)).getD 0) ((k.results.head?.map (fun x => x.2)).getD none) 0) ∧
  (∀ s f g op q l, fnOk f = true → s.resolving.find? (fun x => x.2.fn == f && x.2.tag == g) = some (op, q) → s.dev.st = .halted → NextWith (exec (.arpResolveDone f g (some l)) s) fun t =>
    t.resolving = s.resolving.erase (op, q) ∧ t.held = s.held ++ [(op, q)] ∧ t = { s with resolving := t.resolving, held := t.held })

/-- R383, whole: tags. A request carries a 16-bit TAG from 0x0000 to 0xFFFE (0xFFFF is refused as a request's tag); one whose TAG equals that of a request of the same mailbox still in flight is not executed and completes with FORMAT and
DETAIL 0xFFFE; the tag of a completed request can be reused at once. NOP completes. -/
def Obligations.TagsInFlightAreRefused : Prop :=
  (∀ s i op (q : Request), i.request = some (op, q) → s.fetched op q = false → s.dev.st ≠ .cold → ((s.plan.domeOf q.fn).isSome || Fn.isOperator q.fn) = true → mayTake s q.fn = true → q.tag.toNat ≠ 0xFFFF →
    (inflightOf s q.fn).any (fun x => x.req.tag == q.tag) = true → NextWith (exec i s) fun t => t = { s with mbx := t.mbx, out := t.out, router := t.router } ∧
      ∃ c, t.out.completions = s.out.completions ++ [c] ∧ c.fn = q.fn ∧ c.tag = q.tag.toNat ∧ c.status = 11 ∧ c.detail = 0xFFFE ∧ c.opcode = op.info.code) ∧
  (∀ s i op (q : Request), i.request = some (op, q) → s.fetched op q = false → s.dev.st ≠ .cold → ((s.plan.domeOf q.fn).isSome || Fn.isOperator q.fn) = true → mayTake s q.fn = true → q.tag.toNat = 0xFFFF →
    NextWith (exec i s) fun t => t = { s with mbx := t.mbx, out := t.out, router := t.router } ∧
      ∃ c, t.out.completions = s.out.completions ++ [c] ∧ c.fn = q.fn ∧ c.status = 11 ∧ c.detail = 0xFFFF) ∧
  (∀ s (q : Request) r, s.decides .nop q = some r → r.passes .nop q = true → q.slots = [0, 0, 0] → r.writes q = true → stateBusy r .nop q false = false → q.flags.toNat.testBit 4 = false →
    (s.inflight.filter (fun x => x.req.fn == q.fn && x.req.tag == q.tag)).length ≤ 1 →
    NextWith (exec (.nop q) s) fun t => Completes t .nop q 0 0 (tsnOf s.time.tick64) 0 none 0 ∧ (inflightOf t q.fn).any (fun x => x.req.tag == q.tag) = false ∧ (mbxOf t q.fn).enable = true ∧
      t = { s with mbx := t.mbx, inflight := t.inflight, out := t.out, router := t.router, hbm := t.hbm })

/-- Configuration requests (R386, R387, R389, R391, R392; kind C of Tables 13-9 to 13-14): a request of kind C other than COMMIT, without STAGE, that passes every check and is not for the lead of an aperture is admitted: its set is pending for the
effective tick, the dome's configuration generation advances, the completion is OK with that tick, and the plan in force stays as it is until then. One whose next-hop address is not known waits for it (R308); one that goes to an aperture is pending at the lead and prepared on the members (R338). STATE_SET, TICK_PERIOD, EPOCH, TDC_CONFIG, TDC_PAIR, CLOCK_CORE, CLOCK_OUTPUT, PORT_CONFIG,
FEED_DEFINE, FEED_DELETE, FEED_CONDITION, COARSE_DEFINE, SK_DEFINE, SK_DELETE, INSTR_DEFINE, INSTR_MODIFY, INSTR_DELETE, ZOOM_DEFINE, ZOOM_DELETE, MASK_DEFINE, MASK_ARM, MASK_DELETE, PLATE_DEFINE, PLATE_CLEAR, PLATE_DELETE, CAPTURE_FORCE, CAPTURE_ARM,
STREAM_DEFINE, STREAM_MODIFY, STREAM_DELETE, APERTURE_CREATE, APERTURE_LINK, APERTURE_DELETE, SEXTANT_LOAD, SEXTANT_ATTACH, SEXTANT_SWAP, SEXTANT_PARAM, SEXTANT_EVENTS, SEXTANT_RELEASE, DOME_CREATE, DOME_GRANT, DOME_PRIORITY, DOME_DELETE,
METER_CONFIG, RATE_CLASS, EVENT_ROUTE, LUT_CONFIG, EVENT_MSIX, HBM_CONFIG, CALIBRATE, RESERVE_SWAP, ADC_CONFIG, ADC_CALIBRATE, DAC_CONFIG, EYEPIECE_CONFIG, RECT_CONFIG.
Every command named here completes: a clause concludes its own next state from conditions on the state and the operands alone. -/
def Obligations.ConfigurationRequestsAreAdmitted : Prop :=
  (∀ s i op (q : Request) r d m k, i.request = some (op, q) → op.info.kind = .c → op ≠ .commit → s.decides op q = some r → r.passes op q = true → d = s.domeFor q → q.flags.toNat.testBit 1 = false →
    confCmd op d q = .ok m → apTarget r m = none → stateBusy r op q (m.block.is 0 5) = false → needsMac r m = false → r.writes q = true → (op = .stateSet → r.dev.st ≠ .recovery) →
    admitSet r { dome := d, cmds := [m], named := namedTick r q, q := some q } = .ok k →
    NextWith (exec i s) fun t => (∃ x : Machine.PSet, t.psets = r.psets.filter (fun y => !k.cancelled.contains y) ++ [x] ∧ x.dome = d ∧ x.e = k.e ∧ x.cmds = k.cmds ∧ x.cfgGen = nextCfg (domeRun s d).cfgGen) ∧
      (domeRun t d).cfgGen = nextCfg (domeRun s d).cfgGen ∧ Completes t op q 0 0 (tsnOf k.e) ((k.results.head?.map (fun x => x.1)).getD 0) ((k.results.head?.map (fun x => x.2)).getD none) 0 ∧
      (op ≠ .epoch → t.time = s.time) ∧ t = { s with psets := t.psets, admits := s.admits + 1, domes := t.domes, time := { s.time with len := t.time.len }, mbx := t.mbx, inflight := t.inflight, out := t.out, router := t.router, log := t.log, hbm := t.hbm }) ∧
  (∀ s i op (q : Request) r d m, i.request = some (op, q) → op.info.kind = .c → op ≠ .commit → s.decides op q = some r → r.passes op q = true → d = s.domeFor q → q.flags.toNat.testBit 1 = false →
    confCmd op d q = .ok m → apTarget r m = none → stateBusy r op q (m.block.is 0 5) = false → needsMac r m = true → (∃ k, admitSet r { dome := d, cmds := [m], named := namedTick r q, q := some q } = .ok k) →
    NextWith (exec i s) fun t => t.resolving = s.resolving ++ [(op, q)] ∧ t.out.frames = s.out.frames ++ [(m.block.nat 2, .resolve d (m.block.nat 0))] ∧ t.out.completions = s.out.completions ∧
      t = { r with resolving := t.resolving, out := t.out }) ∧
  (∀ s i op (q : Request) r d m k a, i.request = some (op, q) → op.info.kind = .c → op ≠ .commit → s.decides op q = some r → r.passes op q = true → d = s.domeFor q → q.flags.toNat.testBit 1 = false →
    confCmd op d q = .ok m → apTarget r m = some a → apExtra r m a = [] → stateBusy r op q (m.block.is 0 5) = false → needsMac r m = false → (op = .apertureCreate → m.block.flag 3 = false) →
    admitSet r { dome := d, cmds := [m], named := namedTick r q, lead := r.plan.leadTicks a, q := some q } = .ok k →
    NextWith (exec i s) fun t => (∃ y, (apOf t a).preparing = (apOf s a).preparing ++ [y] ∧ y.req = some q ∧ y.op = op ∧ y.e = k.e ∧ y.members = apAsked r m a) ∧ (∃ x : Machine.PSet, t.psets = s.psets ++ [x] ∧ x.dome = d ∧ x.e = k.e ∧ x.cmds = k.cmds) ∧
      t.out.completions = s.out.completions ∧ t = { r with psets := t.psets, admits := s.admits + 1, domes := t.domes, time := { r.time with len := t.time.len }, apertures := t.apertures, inflight := t.inflight })

/-- What admission grants (R387, R389, R390, R393): a set that is admitted was asked for no earlier than the next tick, every command of it passes the checks of its own rule against the plan after the last one, its effective tick is
the named one unless a command defers it, and the predicted configuration CRC is that of the plan it gives; a CRC_REF that differs rejects it, as does a named tick that has passed. -/
def Obligations.AdmissionChecksTheWholeSet : Prop :=
  (∀ s x k, admitSet s x = .ok k → x.named.getD (s.time.tick64 + x.lead) ≤ k.e ∧ (∀ n, x.named = some n → s.time.tick64 + x.lead ≤ n) ∧ (x.crcRef ≠ 0 → x.crcRef = k.crc) ∧ x.extra = [] ∧ k.cmds.length ≤ x.cmds.length ∧
    k.results.length = k.cmds.length) ∧
  (∀ s x k, admitSet s x = .ok k → ∀ y ∈ (walk s k.e (planAt s k.e) x.cmds).1, y.2.2.names y.1 y.2.1 = none ∧ y.2.2.busy y.1 y.2.1 = none ∧ y.2.2.late y.1 y.2.1 = none) ∧
  (∀ s x k, admitSet s x = .ok k → k.crc = (setPlan s k.e (planAt s k.e) x.cmds x.sh).crc ∧ (s.psets.filter (fun y => y.dome == x.dome)).length < 256 ∧ s.psets.length < 16384) ∧
  (∀ s x n, x.named = some n → n < s.time.tick64 + x.lead → ∃ r, admitSet s x = .error r ∧ r.2.status.rank ≤ 8)

/-- Staging, COMMIT, GROUP_ABORT and CANCEL (R390, R391, R394): a configuration request with STAGE joins its dome's staged set, completes with its position and STAGED, and changes neither plan nor pending sets. COMMIT admits the staged set
with the SH writes it took as one pending set and empties the staged set, also when admission fails; GROUP_ABORT empties it; CANCEL removes a pending set early enough before its tick.
Every command named at the head completes: a clause concludes its own next state from conditions on the state and the operands alone. -/
def Obligations.StagedSetsCommitAsOne : Prop :=
  (∀ s i op (q : Request) r d m, i.request = some (op, q) → op.info.kind = .c → op ≠ .commit → s.decides op q = some r → r.passes op q = true → d = s.domeFor q → q.flags.toNat.testBit 1 = true → confCmd op d q = .ok m →
    apTarget r m = none → stateBusy r op q (m.block.is 0 5) = false → (match (walk r (r.time.tick64 + 1) (plansTo r r.plan r.psets) ((domeRun r d).staged ++ [m])).1.getLast? with | some y => y.2.2.names y.1 y.2.1 | none => none) = none →
    (domeRun r d).staged.length < 256 → ((domeRun r d).staged.map (fun x => x.bytes)).foldl (· + ·) m.bytes ≤ 16777216 → r.writes q = true → NextWith (exec i s) fun t =>
      (domeRun t d).staged = (domeRun s d).staged ++ [m] ∧ Completes t op q 0 (domeRun s d).staged.length (tsnOf s.time.tick64) 0 none 0 ∧ (∃ c, t.out.completions.getLast? = some c ∧ c.cflags.testBit 3 = true) ∧
      t = { s with domes := t.domes, mbx := t.mbx, inflight := t.inflight, out := t.out, router := t.router, hbm := t.hbm }) ∧
  (∀ s (q : Request) r d b k, s.decides .commit q = some r → isWin q = false → r.passes .commit q = true → d = s.domeFor q → parseBlock commitBlock q.slots = .ok b → q.flags.toNat.testBit 4 = false →
    r.dev.st ≠ .boot → r.dev.st ≠ .recovery → stateBusy r .commit q false = false → (domeRun r d).staged ≠ [] → (domeRun r d).staged.all (fun m => !m.aperture && !needsMac r m) = true →
    admitSet r { dome := d, cmds := (domeRun r d).staged, sh := takenSh r q, named := namedTick r q, crcRef := b.nat 0, q := some q } = .ok k → r.writes q = true → NextWith (exec (.commit q) s) fun t =>
      (∃ x : Machine.PSet, t.psets = r.psets.filter (fun y => !k.cancelled.contains y) ++ [x] ∧ x.dome = d ∧ x.e = k.e ∧ x.cmds = k.cmds ∧ x.sh = takenSh r q) ∧ (domeRun t d).staged = [] ∧
      Completes t .commit q 0 0 (tsnOf k.e) (domeRun s d).staged.length none 0 ∧ t.plan = s.plan) ∧
  (∀ s (q : Request) r d b y, s.decides .commit q = some r → isWin q = false → r.passes .commit q = true → d = s.domeFor q → parseBlock commitBlock q.slots = .ok b → q.flags.toNat.testBit 4 = false →
    r.dev.st ≠ .boot → r.dev.st ≠ .recovery → stateBusy r .commit q false = false → (domeRun r d).staged ≠ [] → (domeRun r d).staged.all (fun m => !m.aperture) = true →
    admitSet r { dome := d, cmds := (domeRun r d).staged, sh := takenSh r q, named := namedTick r q, crcRef := b.nat 0, q := some q } = .error y → r.writes q = true → NextWith (exec (.commit q) s) fun t =>
      (domeRun t d).staged = [] ∧ t.psets = s.psets ∧ t.plan = s.plan ∧ ∃ c, t.out.completions.getLast? = some c ∧ c.tag = q.tag.toNat ∧ c.status = y.2.status.code) ∧
  (∀ s (q : Request) r, s.decides .groupAbort q = some r → r.passes .groupAbort q = true → q.slots = [0, 0, 0] → q.flags.toNat.testBit 4 = false → stateBusy r .groupAbort q false = false → r.writes q = true → NextWith (exec (.groupAbort q) s) fun t =>
      (domeRun t (s.domeFor q)).staged = [] ∧ Completes t .groupAbort q 0 0 (tsnOf s.time.tick64) (domeRun s (s.domeFor q)).staged.length none 0 ∧ (s.domeFor q = 0 → t.regs.sh = []) ∧ t.plan = s.plan ∧ t.psets = s.psets) ∧
  (∀ s (q : Request) r m x, s.decides .cancel q = some r → r.passes .cancel q = true → mkCmd .cancel (s.domeFor q) (fun _ => cancelBlock) false q = .ok m → q.flags.toNat.testBit 4 = false → stateBusy r .cancel q false = false →
    r.psets.find? (fun (y : Machine.PSet) => y.dome == s.domeFor q && y.cfgGen == m.block.nat 0) = some x → r.writes q = true → NextWith (exec (.cancel q) s) fun t => t.plan = s.plan ∧
      (x.e ≤ s.time.tick64 + 1 → t.psets = s.psets ∧ Completes t .cancel q 8 0 (tsnOf s.time.tick64) 0 none 0) ∧
      (s.time.tick64 + 1 < x.e → (s.psets.all (fun y => y == x || decide (y.e < x.e) || (y.e == x.e && decide (y.order ≤ x.order)))) = true → t.psets = s.psets.filter (fun y => y != x) ∧ Completes t .cancel q 0 0 (tsnOf s.time.tick64) 0 none 0))

/-- The order of the checks (R383, R384, R386, R389, R392, R399, R402, R403): a request that fails the header check completes with FORMAT and DETAIL 0xFFFF; one that passes it and fails its role with DENIED, which is a violation; one that passes both and
fails a generation with STALE_GEN and the current dome generation; one whose block is malformed with that failure; one whose admission fails with the first failure. None of them has any effect on the plan, the pending sets or the staged set of another. -/
def Obligations.RejectionsInOrder : Prop :=
  (∀ s i op (q : Request) r, i.request = some (op, q) → s.decides op q = some r → isWin q = false → r.writes q = true → headerBad r op q = true → NextWith (exec i s) fun t =>
    Completes t op q 11 0xFFFF (tsnOf s.time.tick64) 0 none 0 ∧ t = { s with mbx := t.mbx, inflight := t.inflight, out := t.out, router := t.router, hbm := t.hbm }) ∧
  (∀ s i op (q : Request) r, i.request = some (op, q) → s.decides op q = some r → isWin q = false → r.writes q = true → headerBad r op q = false → roleBad r op q = true → NextWith (exec i s) fun t =>
    Completes t op q 4 0 (tsnOf s.time.tick64) 0 none 0 ∧ Raises s t 1348 (causeId 0x20 7) ∧ Logged t 1 7 s.time.tick64 ∧
    t = { s with mbx := t.mbx, inflight := t.inflight, out := t.out, router := t.router, hbm := t.hbm, log := t.log }) ∧
  (∀ s i op (q : Request) r, i.request = some (op, q) → s.decides op q = some r → isWin q = false → r.writes q = true → headerBad r op q = false → roleBad r op q = false → staleBad r q = true → NextWith (exec i s) fun t =>
    Completes t op q 7 (match s.plan.domeOf q.fn with | some d => genOf s d | none => 0) (tsnOf s.time.tick64) 0 none 0 ∧
    t = { s with mbx := t.mbx, inflight := t.inflight, out := t.out, router := t.router, hbm := t.hbm }) ∧
  (∀ s i op (q : Request) r x, i.request = some (op, q) → s.decides op q = some r → op.info.kind = .c → op ≠ .commit → r.passes op q = true → r.writes q = true → confCmd op (s.domeFor q) q = .error x → x.status ≠ .denied → NextWith (exec i s) fun t =>
    (∃ c, t.out.completions.getLast? = some c ∧ c.tag = q.tag.toNat ∧ c.status = x.status.code ∧ c.detail = rejDetail s q x) ∧ t = { s with mbx := t.mbx, inflight := t.inflight, out := t.out, router := t.router, hbm := t.hbm }) ∧
  (∀ s i op (q : Request) r m x, i.request = some (op, q) → s.decides op q = some r → op.info.kind = .c → op ≠ .commit → r.passes op q = true → r.writes q = true → confCmd op (s.domeFor q) q = .ok m → q.flags.toNat.testBit 1 = false →
    apTarget r m = none → stateBusy r op q (m.block.is 0 5) = false → admitSet r { dome := s.domeFor q, cmds := [m], named := namedTick r q, q := some q } = .error x → NextWith (exec i s) fun t =>
    (∃ c, t.out.completions.getLast? = some c ∧ c.tag = q.tag.toNat ∧ c.status = x.2.status.code) ∧ t.plan = s.plan ∧ t.psets = s.psets ∧ t.domes = s.domes) ∧
  (∀ s i op (q : Request), i.request = some (op, q) → s.dev.st = .cold → exec i s = .next s) ∧
  (∀ s i op (q : Request), i.request = some (op, q) → s.dev.st = .halted → s.fetched op q = false → (s.plan.domeOf q.fn).isSome = true → (mbxOf s q.fn).enable = true → isWin q = false → (inflightOf s q.fn).any (fun x => x.req.tag == q.tag) = false →
    exec i s = .next { s.accept op q with held := s.held ++ [(op, q)] })

/-- Queries, immediate commands, data operations and mailbox control (R386, R395, R402, R403; kinds Q, I, M and D of Tables 13-9 to 13-14): a request that passes every check, whose block is well formed and whose rule answers, takes the effect of
its rule at once and completes with its status, DETAIL, RESULT and response, and with the running tick. A query leaves everything as it was but the counters and queues that reading drains. NOP, CAPABILITY, STATUS, TIME_READ, TDC_STATS, PORT_STATS,
PORT_MGMT_SEND, PORT_MGMT_RECV, FEED_STATS, COEF_LOAD, COEF_SWAP, DELAY_POLY, PFB_COEF_LOAD, INSTR_STATS, RQ_GAIN_LOAD, RQ_GAIN_SWAP, RQ_STATS, BEAM_WEIGHT_LOAD, BEAM_WEIGHT_SWAP, RESULT_ACK, MASK_LOAD, MASK_SWAP, SWEEP_GAIN_LOAD, SWEEP_GAIN_SWAP,
CAPTURE_READ, CAPTURE_RELEASE, STREAM_STATS, STREAM_CREDIT, APERTURE_STATS, SEXTANT_STATS, DOME_RESET, DOME_QUERY, LOGBOOK_READ, METER_READ, EVENT_STATS, HBM_STATS, HEALTH_READ, QUALITY_READ, ADC_READ, DAC_QUEUE, PALETTE_LOAD, TRANSFER_LOAD,
UPDATE_BEGIN, FOLIO_WRITE, UPDATE_STATUS, UPDATE_ACTIVATE, UPDATE_CONFIRM, UPDATE_ABORT, DEBUG_UNLOCK, DEBUG_LOCK. One that completes later starts its work at once and stays in flight; a DOME_RESET bumps the generation, drops the
dome's staged and pending sets and begins the drain (R423).
Every command named here completes: a clause concludes its own next state from conditions on the state and the operands alone. -/
def Obligations.RequestsActAtOnce : Prop :=
  (∀ s i op (q : Request) r a m x, i.request = some (op, q) → op.act = some a → op.info.kind ≠ .c → s.decides op q = some r → r.passes op q = true → mkCmd op (s.domeFor q) (fun _ => a.params) a.raw q = .ok m → m.aperture = false →
    stateBusy r op q false = false → a.act { s := r, plan := r.plan, e := r.time.tick64, q := some q } m = .ok x → x.later = false → x.s.writes q = true →
    NextWith (exec i s) fun t => Completes t op q x.status.code x.detail (tsnOf s.time.tick64) x.result x.body x.high ∧
      t = { x.s with mbx := t.mbx, inflight := t.inflight, out := t.out, router := t.router, hbm := t.hbm, log := t.log }) ∧
  (∀ s i op (q : Request) r a m x, i.request = some (op, q) → op.act = some a → op.info.kind ≠ .c → s.decides op q = some r → r.passes op q = true → mkCmd op (s.domeFor q) (fun _ => a.params) a.raw q = .ok m → m.aperture = false →
    stateBusy r op q false = false → a.act { s := r, plan := r.plan, e := r.time.tick64, q := some q } m = .ok x → x.later = true →
    NextWith (exec i s) fun t => t.out.completions = x.s.out.completions ∧ t = { (markDecided x.s q) with out := t.out, router := t.router, log := t.log }) ∧
  (∀ s (q : Request) r a m (d : Nat), s.decides .domeReset q = some r → r.passes .domeReset q = true → Op.domeReset.act = some a → mkCmd .domeReset (s.domeFor q) (fun _ => a.params) a.raw q = .ok m → m.aperture = false →
    stateBusy r .domeReset q false = false → domeSlotBad r.plan m 0 = none → d = domeSlot m 0 → draining r d = false → NextWith (exec (.domeReset q) s) fun t =>
      (∃ x, (domeRun t d).drain = some x ∧ x.req = some q ∧ x.delete = false ∧ x.scrub = m.block.flag 1 ∧ x.decided = s.time.tick64 ∧ x.resetTick = none) ∧ genOf t d = nextGen (genOf s d) ∧
      (domeRun t d).staged = [] ∧ t.psets = s.psets.filter (fun y => y.dome != d) ∧ t.plan = s.plan) ∧
  (∀ s i op (q : Request) r a m x, i.request = some (op, q) → op.act = some a → op.info.kind ≠ .c → s.decides op q = some r → r.passes op q = true → mkCmd op (s.domeFor q) (fun _ => a.params) a.raw q = .ok m → m.aperture = false →
    stateBusy r op q false = false → a.act { s := r, plan := r.plan, e := r.time.tick64, q := some q } m = .error x → x.status ≠ .denied → r.writes q = true →
    NextWith (exec i s) fun t => (∃ c, t.out.completions.getLast? = some c ∧ c.tag = q.tag.toNat ∧ c.status = x.status.code) ∧
      t = { s with mbx := t.mbx, inflight := t.inflight, out := t.out, router := t.router, hbm := t.hbm }) ∧
  (∀ (op : Op) (a : ActRule) (c : Ctx) m x, op.info.kind = .q → op.act = some a → a.act c m = .ok x → x.later = false ∧ x.s = { c.s with tdc := x.s.tdc, ports := x.s.ports, instrs := x.s.instrs, streams := x.s.streams, adc := x.s.adc, free := x.s.free })

/-- R402, whole: the response buffer begins with an 8-byte header that holds the response's full length; with RBUF_LEN below that length the device writes what fits, sets RBUF_SHORT (CFLAGS bit 2) and completes as it otherwise would; a query that returns
data and has RBUF_LEN below 8 completes with FORMAT. -/
def Obligations.ResponsesFitTheBuffer : Prop :=
  (∀ s i op (q : Request) r a m x b, i.request = some (op, q) → op.act = some a → op.info.kind ≠ .c → s.decides op q = some r → r.passes op q = true → mkCmd op (s.domeFor q) (fun _ => a.params) a.raw q = .ok m → m.aperture = false →
    stateBusy r op q false = false → a.act { s := r, plan := r.plan, e := r.time.tick64, q := some q } m = .ok x → x.later = false → x.s.writes q = true → x.body = some b →
    NextWith (exec i s) fun t => ∃ c, t.out.completions.getLast? = some c ∧ c.tag = q.tag.toNat ∧ c.status = x.status.code ∧ c.resp = (leBytes 4 (8 + b.length) ++ leBytes 4 x.high ++ b).take q.rbufLen ∧
      c.cflags.testBit 2 = decide (q.rbufLen < 8 + b.length) ∧ c.detail = x.detail ∧ c.result = x.result) ∧
  (∀ s i op (q : Request) r, i.request = some (op, q) → op.info.kind = .q → op ≠ .nop → s.decides op q = some r → r.writes q = true → q.rbufLen < 8 → isWin q = false → NextWith (exec i s) fun t =>
    Completes t op q 11 0xFFFF (tsnOf s.time.tick64) 0 none 0)

/-- What a definition changes at its effective tick (R83, R110, R168, R207, R222, R253, R262, R305, R307, R340, R372, R412, R432, R471, R473, R480, R532, R541, R548): the edit of ADC_CONFIG, DAC_CONFIG, APERTURE_CREATE, APERTURE_LINK, CLOCK_CORE, CLOCK_OUTPUT, DOME_CREATE, EYEPIECE_CONFIG, RECT_CONFIG, PORT_CONFIG, FEED_DEFINE,
FEED_CONDITION, COARSE_DEFINE, EVENT_ROUTE, LUT_CONFIG, EVENT_MSIX, METER_CONFIG, TDC_PAIR and SEXTANT_EVENTS writes the record of its one object and no other object's; ADD and DELETE of a route, and NONE of a port, remove it; SK_DELETE, ZOOM_DELETE, MASK_DELETE, PLATE_DELETE and STREAM_DELETE remove the record of their object alone, SEXTANT_RELEASE the three of its
handle; TICK_PERIOD changes M alone. -/
def Obligations.DefinitionsChangeTheirObject : Prop :=
  (∀ (c : Ctx) (m : Cmd) p, PlanSets p (adcConfigC.edit c m p) .adcConfig devDome 0 (some m.block) ∧ PlanSets p (dacConfigC.edit c m p) .dacConfig devDome (m.block.nat 0) (some (m.block.put 6 (.num 0))) ∧
    PlanSets p (apertureCreateC.edit c m p) .apertureCreate devDome (m.block.nat 0) (some m.block) ∧ PlanSets p (apertureLinkC.edit c m p) .apertureLink devDome (m.block.nat 1) (some m.block) ∧
    PlanSets p (clockCoreC.edit c m p) .clockCore devDome 0 (some m.block) ∧ PlanSets p (clockOutputC.edit c m p) .clockOutput devDome (m.block.nat 0) (some m.block)) ∧
  (∀ (c : Ctx) (m : Cmd) p, PlanSets p (domeCreateC.edit c m p) .domeCreate devDome (m.block.nat 0) (some m.block) ∧ PlanSets p (eyepieceC.edit c m p) .eyepieceConfig devDome 0 (some m.block) ∧
    PlanSets p (rectC.edit c m p) .rectConfig devDome (m.block.nat 0) (some m.block) ∧ PlanSets p (meterConfigC.edit c m p) .meterConfig devDome 0 (some m.block) ∧ PlanSets p (tdcPairC.edit c m p) .tdcPair devDome (m.block.nat 0) (some m.block)) ∧
  (∀ (c : Ctx) (m : Cmd) p, PlanSets p (portConfigC.edit c m p) .portConfig devDome (m.block.nat 0) (if m.block.is 1 2 then none else some m.block) ∧ PlanSets p (feedDefineC.edit c m p) .feedDefine devDome (m.block.nat 0) (some m.block) ∧
    PlanSets p (feedConditionC.edit c m p) .feedCondition devDome (m.block.nat 0) (some m.block) ∧ PlanSets p (coarseDefineC.edit c m p) .coarseDefine devDome (m.block.nat 0) (some (coarseResolve p m.block))) ∧
  (∀ (c : Ctx) (m : Cmd) p, PlanSets p (eventRouteC.edit c m p) .eventRoute m.dome (routeIndex m.block) (if m.block.is 0 1 then none else some m.block) ∧ PlanSets p (lutConfigC.edit c m p) .lutConfig devDome (lutIndex m.block) (some m.block) ∧
    PlanSets p (eventMsixC.edit c m p) .eventMsix m.dome (m.block.nat 0) (some m.block) ∧ PlanSets p (sextantEventsC.edit c m p) .sextantEvents m.dome (m.block.nat 0) (some m.block)) ∧
  (∀ (c : Ctx) (m : Cmd) p, PlanSets p (zoomDeleteC.edit c m p) .zoomDefine m.dome (m.block.nat 0) none ∧ PlanSets p (maskDeleteC.edit c m p) .maskDefine m.dome (m.block.nat 0) none ∧
    PlanSets p (plateDeleteC.edit c m p) .plateDefine m.dome (m.block.nat 0) none ∧ PlanSets p (streamDeleteC.edit c m p) .streamDefine m.dome (m.block.nat 0) none ∧
    PlanSets p (skDeleteC.edit c m p) .skDefine (skKey m ((m.block.word? 0).getD 0) (m.block.at 1) (m.block.at 2)).1 (skKey m ((m.block.word? 0).getD 0) (m.block.at 1) (m.block.at 2)).2 none) ∧
  (∀ (c : Ctx) (m : Cmd) (p : Plan), (∀ o ∈ [Op.sextantLoad, .sextantAttach, .sextantEvents], (sextantReleaseC.edit c m p).find o m.dome (m.block.nat 0) = none) ∧
    (∀ o d i, ((o, d, i) : Op × Nat × Nat) ∉ [(Op.sextantLoad, m.dome, m.block.nat 0), (.sextantAttach, m.dome, m.block.nat 0), (.sextantEvents, m.dome, m.block.nat 0)] → (sextantReleaseC.edit c m p).find o d i = p.find o d i) ∧
    (tickPeriodC.edit c m p).m = m.block.nat 0 ∧ tickPeriodC.edit c m p = { p with m := m.block.nat 0 })

/-- Host ports (R392, R411, R422, R439, R609): VF_ENABLE_WRITE, FUNCTION_LEVEL_RESET, HOST_LINK_DOWN, PERST_ASSERT, PERST_RELEASE, HOST_LINK_UP. A function reset of a dome bumps its generation, drops its staged and pending sets, completes its requests in flight, disables its mailbox, restores the
function's event registers, stops its DMA channels, and leaves the plan, its instruments, streams, leases and pages as they are. Clearing VF Enable, losing the link and PEn_PERST_N reset every function of the port; the port and its events follow.
Every command named at the head completes: a clause concludes its own next state from conditions on the state and the operands alone. -/
def Obligations.HostPortsAndFunctionResets : Prop :=
  (∀ s (p : Nat) b, p < 4 → (hostOf s p).vfEnable = b → exec (.vfEnableWrite p b) s = .next s) ∧
  (∀ s (p : Nat), p < 4 → (hostOf s p).vfEnable = false → NextWith (exec (.vfEnableWrite p true) s) fun t => t.hostPorts = s.hostPorts.modify p (fun h => { h with vfEnable := true }) ∧
    Raises s t (1136 + 8 * p + 5) (causeId 0x3F (8 * p + 5)) ∧ Logged t 0 (Config.logType 2) s.time.tick64 ∧ t = { s with hostPorts := t.hostPorts, log := t.log, router := t.router, out := t.out }) ∧
  (∀ s (p : Nat), p < 4 → (hostOf s p).vfEnable = true → NextWith (exec (.vfEnableWrite p false) s) fun t => t.hostPorts = s.hostPorts.modify p (fun h => { h with vfEnable := false }) ∧
    (∀ f ∈ (portFns s p).drop 1, (mbxOf t f).enable = false) ∧ Raises s t (1136 + 8 * p + 5) (causeId 0x3F (8 * p + 5)) ∧ t.plan = s.plan ∧ t.instrs = s.instrs ∧ t.streams = s.streams ∧ t.sextants = s.sextants ∧ t.hbm.pages = s.hbm.pages) ∧
  (∀ s f d, f.port < 4 → f.vf < 65 → s.plan.domeOf f = some d → NextWith (exec (.functionLevelReset f) s) fun t => genOf t d = nextGen (genOf s d) ∧ (domeRun t d).staged = [] ∧ t.psets = s.psets.filter (fun x => x.dome != d) ∧
    t.inflight.all (fun x => s.plan.domeOf x.req.fn != some d) = true ∧ mbxOf t f = Mbx.reset ∧ evtOf t f = EvtRegs.reset ∧ t.hbm.pages = s.hbm.pages ∧ (∀ g, g ≠ d → domeRun t g = domeRun s g) ∧
    t.dma = s.dma.map (fun e => if e.1.1 = f then (e.1, if e.2.busy then { e.2 with stop := true } else DmaCh.reset) else e) ∧ Raises s t (1136 + 8 * f.port + 4) (causeId 0x3F (8 * f.port + 4)) ∧
    t = { s with capReads := t.capReads, dma := t.dma, domes := t.domes, hbm := t.hbm, held := t.held, inflight := t.inflight, log := t.log, mbx := t.mbx, out := t.out, psets := t.psets, regs := t.regs, resolving := t.resolving, router := t.router }) ∧
  (∀ s f, f.port < 4 → f.vf < 65 → s.plan.domeOf f = none → NextWith (exec (.functionLevelReset f) s) fun t => t.inflight = s.inflight.filter (fun x => x.req.fn != f) ∧ t.held = s.held.filter (fun e => e.2.fn != f) ∧ mbxOf t f = Mbx.reset ∧
    evtOf t f = EvtRegs.reset ∧ t = { s with dma := t.dma, held := t.held, inflight := t.inflight, mbx := t.mbx, out := t.out, regs := t.regs, router := t.router }) ∧
  (∀ s (p : Nat), p < 4 → NextWith (exec (.hostLinkDown p) s) fun t => t.hostPorts = s.hostPorts.modify p (fun h => { h with linkUp := false }) ∧ (∀ f ∈ portFns s p, (mbxOf t f).enable = false) ∧
    Raises s t (1136 + 8 * p) (causeId 0x3F (8 * p)) ∧ t.plan = s.plan ∧ t.instrs = s.instrs ∧ t.streams = s.streams ∧ t.sextants = s.sextants ∧ t.hbm.pages = s.hbm.pages) ∧
  (∀ s (p : Nat), p < 4 → NextWith (exec (.perstAssert p) s) fun t => t.hostPorts = s.hostPorts.modify p (fun _ => { linkUp := false, perst := true, vfEnable := false }) ∧ (∀ f ∈ portFns s p, (mbxOf t f).enable = false) ∧
    Raises s t (1136 + 8 * p + 6) (causeId 0x3F (8 * p + 6)) ∧ t.plan = s.plan ∧ t.instrs = s.instrs ∧ t.streams = s.streams ∧ t.sextants = s.sextants ∧ t.hbm.pages = s.hbm.pages) ∧
  (∀ s (p : Nat), p < 4 → exec (.perstRelease p) s = .next { s with hostPorts := s.hostPorts.modify p (fun h => { h with perst := false }) }) ∧
  (∀ s (p : Nat), p < 4 → ((hostOf s p).perst = true ∨ s.dev.st = .cold) → exec (.hostLinkUp p) s = .next s) ∧
  (∀ s (p : Nat), p < 4 → (hostOf s p).perst = false → s.dev.st ≠ .cold → NextWith (exec (.hostLinkUp p) s) fun t => t.hostPorts = s.hostPorts.modify p (fun h => { h with linkUp := true }) ∧
    Raises s t (1136 + 8 * p + 1) (causeId 0x3F (8 * p + 1)) ∧ t = { s with hostPorts := t.hostPorts, router := t.router, out := t.out })

/-- Dome resets (R301, R413, R424, R425, R426): DOME_RESET_TICK, DOME_RESET_RETURN. At the first tick after the decision the dome's open integrations and closed banks are discarded, its Sextants stop, its DMA channels are to halt; other domes go on. Once the drain is over everything that the dome built is
gone, its grants stay (a deletion takes them), and the reset's request completes with the dome's generation and the tick of its decision.
Every command named at the head completes: a clause concludes its own next state from conditions on the state and the operands alone. -/
def Obligations.DomeResetsDrainAndReturn : Prop :=
  (∀ s (d : Nat), d < 256 → (domeRun s d).drain = none → exec (.domeResetTick d) s = .next s ∧ exec (.domeResetReturn d) s = .next s) ∧
  (∀ s (d : Nat) x, (domeRun s d).drain = some x → (x.resetTick.isSome = true ∨ s.time.tick64 ≤ x.decided) → exec (.domeResetTick d) s = .next s) ∧
  (∀ s (d : Nat) x, (domeRun s d).drain = some x → x.resetTick = none → x.decided < s.time.tick64 → NextWith (exec (.domeResetTick d) s) fun t =>
    (∃ y, (domeRun t d).drain = some y ∧ y.resetTick = some s.time.tick64 ∧ y.req = x.req ∧ y.scrub = x.scrub) ∧ (∀ i, (instrRun t d i).closed = [] ∧ (instrRun t d i).bank = none ∧ (instrRun t d i).subs = []) ∧
    (∀ g i, g ≠ d → instrRun t g i = instrRun s g i) ∧ t.made = s.made.filter (fun y => y.dome != d) ∧ (∀ e ∈ t.sextants, (e.2.lease.map (fun l => l.1)) = some d → e.2.item = none) ∧
    t = { s with dacs := t.dacs, dma := t.dma, domes := t.domes, handoff := t.handoff, instrs := t.instrs, made := t.made, sextants := t.sextants, zooms := t.zooms }) ∧
  (∀ s (d : Nat) x, (domeRun s d).drain = some x → drainOver s d x = false → exec (.domeResetReturn d) s = .next s) ∧
  (∀ s (d : Nat) x, (domeRun s d).drain = some x → drainOver s d x = true → NextWith (exec (.domeResetReturn d) s) fun t => (domeRun t d).drain = none ∧ genOf t d = genOf s d ∧ (∀ i, tget t.instrs (d, i) = none) ∧
    (∀ g i, g ≠ d → instrRun t g i = instrRun s g i) ∧ (x.delete = false → t.plan = s.plan.clearDome d) ∧ (x.delete = true → d ≠ 0 → t.plan.domeExists d = false) ∧
    (x.scrub = true → t.hbm.pages.filter (fun y => y.dome == d) = []) ∧ t.psets = s.psets ∧ t.free = s.free + 3) ∧
  (∀ s (d : Nat) x q, (domeRun s d).drain = some x → drainOver s d x = true → x.delete = false → x.req = some q → isWin q = false → s.writes q = true → s.plan.of .streamDefine d = [] → NextWith (exec (.domeResetReturn d) s) fun t =>
    ∃ r b, Completes t .domeReset q 0 (genOf s d) (tsnOf x.decided) r b 0)

/-- Logbook, metering and power failure (R53, R429, R431, R432, R433, R435, R436, R612): LOGBOOK_FLASH_WRITE, METER_INTERVAL_CLOSE, METER_RECORD_WRITE, METER_CHECKPOINT, POWERFAIL_METER_CLOSE, PWR_FAIL_ASSERT, PWR_FAIL_DEASSERT. The oldest SECURITY entry that is not in flash goes there and is marked;
a full ring loses its oldest. At the boundary of an interval every open interval closes with its own TERM and the next one opens under the next RECORD_SEQ; a closed record goes to the flash ring; a checkpoint keeps the newer two of each dome. PWR_FAIL_N closes the intervals and
starts the flush, and its release lets metering resume.
Every command named at the head completes: a clause concludes its own next state from conditions on the state and the operands alone. -/
def Obligations.LogbookMeteringAndPowerFailure : Prop :=
  (∀ s, s.log.ram.find? (fun e => e.eflags.testBit 0 && !e.eflags.testBit 1) = none → exec .logbookFlashWrite s = .next s) ∧
  (∀ s e, s.log.ram.find? (fun e => e.eflags.testBit 0 && !e.eflags.testBit 1) = some e → NextWith (exec .logbookFlashWrite s) fun t =>
    (s.log.flash.length < flashRing → t.log.flash = s.log.flash ++ [e] ∧ t.log.flashLost = s.log.flashLost) ∧
    (flashRing ≤ s.log.flash.length → t.log.flash = s.log.flash.drop 1 ++ [e] ∧ t.log.flashLost = s.log.flashLost + 1 ∧ Raises s t 1350 (causeId 0x3F 6)) ∧
    t.log.ram.length = s.log.ram.length ∧ (∀ x ∈ t.log.ram, x.seq = e.seq → x.eflags.testBit 1 = true) ∧ Raises s t 1349 (causeId 0x3F 5) ∧ t = { s with log := t.log, router := t.router, out := t.out }) ∧
  (∀ s, closeIsDue s = false → exec .meterIntervalClose s = .next s) ∧
  (∀ s, closeIsDue s = true → NextWith (exec .meterIntervalClose s) fun t => (∀ d x, tget s.meter.opens d = some x → (∃ y ∈ t.meter.closed, y.dome = x.dome ∧ y.recSeq = x.recSeq ∧ y.term = 0 ∧ y.start = x.start ∧ y.stop = houseCt64 s ∧ y.stopTick = s.time.tick64 ∧ y.segs = x.segs) ∧
      Raises s t 1353 (causeId 0x3F 9) ∧ (s.meter.powerFail = false → d ∈ s.plan.domeList → ∃ z, tget t.meter.opens d = some z ∧ z.recSeq = (x.recSeq + 1) % 2 ^ 32 ∧ z.startTick = s.time.tick64 ∧ z.dome = d)) ∧
    (s.meter.powerFail = false → t.meter.running = true ∧ t.meter.nextMin = s.plan.nextMinute s.time.house) ∧ (s.meter.powerFail = true → t.meter.running = false ∧ t.meter.opens = []) ∧ t = { s with meter := t.meter, router := t.router, out := t.out }) ∧
  (∀ s, s.meter.closed = [] → exec .meterRecordWrite s = .next s) ∧
  (∀ s x r, s.meter.closed = x :: r → (s.meter.ring.length < 32768 → exec .meterRecordWrite s = .next { s with meter := { s.meter with closed := r, ring := s.meter.ring ++ [x] } }) ∧
    (32768 ≤ s.meter.ring.length → exec .meterRecordWrite s = .next { s with meter := { s.meter with closed := r, ring := s.meter.ring.drop 1 ++ [x], ringLost := s.meter.ringLost + 1 } })) ∧
  (∀ s, (s.meter.opens.map (fun e => e.1)).Nodup → NextWith (exec .meterCheckpoint s) fun t => (∀ d x, (d, x) ∈ s.meter.opens →
      tget t.meter.checkpoints d = some ({ x with stop := houseCt64 s, stopTick := s.time.tick64 } :: (tgetD s.meter.checkpoints d []).take 1)) ∧
    t = { s with meter := { s.meter with checkpoints := t.meter.checkpoints }, time := { s.time with houseCheckpoint := s.time.house } }) ∧
  (∀ s, (s.meter.powerFail = false ∨ s.meter.running = false) → exec .powerfailMeterClose s = .next s) ∧
  (∀ s, s.meter.powerFail = true → s.meter.running = true → NextWith (exec .powerfailMeterClose s) fun t => t.meter.running = false ∧ t.meter.opens = [] ∧
    (∀ d x, tget s.meter.opens d = some x → ∃ y ∈ t.meter.closed, y.dome = x.dome ∧ y.recSeq = x.recSeq ∧ y.term = (if closeIsDue s then 0 else 1) ∧ y.rflags.testBit 0 = true) ∧ t = { s with meter := t.meter, router := t.router, out := t.out }) ∧
  (∀ s, s.dev.st = .cold → exec .pwrFailAssert s = .next s ∧ exec .pwrFailDeassert s = .next s) ∧
  (∀ s, s.dev.st ≠ .cold → (s.dev.st ≠ .halted ∨ s.held = []) → NextWith (exec .pwrFailAssert s) fun t => t.meter = { s.meter with powerFail := true } ∧ t.boot = { s.boot with flush := true } ∧ Raises s t 1352 (causeId 0x3F 8) ∧
    (s.dev.st ≠ .halted → t.time = s.time ∧ t.psets = s.psets ∧ t.inflight = s.inflight) ∧
    t = { s with meter := t.meter, boot := t.boot, dbg := t.dbg, dev := t.dev, time := { s.time with len := t.time.len }, psets := t.psets, inflight := t.inflight, hbm := t.hbm, log := t.log, mbx := t.mbx, router := t.router, out := t.out }) ∧
  (∀ s, s.dev.st ≠ .cold → s.meter.powerFail = false → exec .pwrFailDeassert s = .next s) ∧
  (∀ s, s.dev.st ≠ .cold → s.meter.powerFail = true → NextWith (exec .pwrFailDeassert s) fun t => t.meter = { s.meter with powerFail := false } ∧ Logged t 2 (causeId 0x3F 8) s.time.tick64 ∧
    t = { s with meter := t.meter, boot := t.boot, free := t.free, hbm := t.hbm, inflight := t.inflight, mbx := t.mbx, log := t.log, router := t.router, out := t.out })

/-- Unlock, pending values and indirect spaces (R438, R440, R443, R444, R613): UNLOCK_WRITE, UNLOCK_EXPIRY, SW_RESET_WRITE, SH_REGISTER_WRITE, IDX_DATA_ACCESS. The key arms the unlock; another value is a violation and counts; the unlock expires, and every write to an OWNER register
consumes it. SW_RESET applies under the unlock alone. A write of LANE_ENk is pending, and replaces the pending value. An access to IDX_DATA advances WORD within its unit, sets WRAP, RANGE or RO_WRITE, and outside the space reads ones. Another function than PF0 of HP0
commits a violation, reads nothing, and changes nothing of the window; in COLD nothing answers.
Every command named at the head completes: a clause concludes its own next state from conditions on the state and the operands alone. -/
def Obligations.OwnerRegistersAndUnlock : Prop :=
  (∀ s (w : Word), s.dev.st ≠ .cold → NextWith (exec (.unlockWrite ownerFn w) s) fun t =>
    (w = 0x7A3DC915#32 → t.regs = { s.regs with armed := true } ∧ Logged t 0 0 s.time.tick64) ∧
    (w ≠ 0x7A3DC915#32 → t.regs = { s.regs with armed := false, failCount := satAdd s.regs.failCount 1 65535 } ∧ Logged t 1 2 s.time.tick64 ∧ Raises s t 1347 (causeId 0x3F 3) ∧ Raises s t 1348 (causeId 0x20 2)) ∧
    t = { s with regs := t.regs, log := t.log, router := t.router, out := t.out }) ∧
  (∀ s, exec .unlockExpiry s = .next { s with regs := { s.regs with armed := false } }) ∧
  (∀ s (w : Word), s.dev.st ≠ .cold → s.regs.armed = true → NextWith (exec (.swResetWrite ownerFn w) s) fun t => t.regs = { s.regs with armed := false } ∧
    t.boot = (if bit w.toNat 0 then { s.boot with swReset := true, flush := true } else s.boot) ∧ Logged t 0 0 s.time.tick64 ∧ t = { s with regs := t.regs, boot := t.boot, log := t.log, router := t.router, out := t.out }) ∧
  (∀ s (w : Word), s.dev.st ≠ .cold → s.regs.armed = false → NextWith (exec (.swResetWrite ownerFn w) s) fun t => t.regs = { s.regs with failCount := satAdd s.regs.failCount 1 65535 } ∧
    Logged t 1 2 s.time.tick64 ∧ Raises s t 1347 (causeId 0x3F 3) ∧ t = { s with regs := t.regs, log := t.log, router := t.router, out := t.out }) ∧
  (∀ s (k : Nat) (w : Word), s.dev.st ≠ .cold → k < 4 → NextWith (exec (.shRegisterWrite ownerFn k w) s) fun t => t.regs = { s.regs with armed := false, sh := s.regs.sh.filter (fun e => e.1 != k) ++ [(k, w)] } ∧
    laneEnReg t k = w ∧ (∀ j, j ≠ k → laneEnReg t j = laneEnReg s j) ∧ t.plan = s.plan ∧ Logged t 0 0 s.time.tick64 ∧ t = { s with regs := t.regs, log := t.log, router := t.router, out := t.out }) ∧
  (∀ s (w : Word), s.dev.st ≠ .cold → NextWith (exec (.idxDataAccess ownerFn (some w)) s) fun t => t.regs.armed = false ∧
    t.regs.idxAddr = (if s.regs.idxAddr % 65536 = 65535 then s.regs.idxAddr - 65535 else s.regs.idxAddr + 1) ∧
    t.regs.idxStat = ((s.regs.idxStat ||| (if idxIn s then 1 else 2)) ||| (if s.regs.idxAddr % 65536 = 65535 then 4 else 0)) ∧
    t = { s with regs := { s.regs with armed := false, idxAddr := t.regs.idxAddr, idxStat := t.regs.idxStat }, log := t.log, router := t.router, out := t.out }) ∧
  (∀ s, s.dev.st ≠ .cold → idxIn s = false → NextWith (exec (.idxDataAccess ownerFn none) s) fun t => t.out.reads = s.out.reads ++ [(ownerFn, 0, 0x100014, .word 0xFFFFFFFF)] ∧
    t.regs.idxAddr = (if s.regs.idxAddr % 65536 = 65535 then s.regs.idxAddr - 65535 else s.regs.idxAddr + 1) ∧
    t.regs.idxStat = ((s.regs.idxStat ||| 2) ||| (if s.regs.idxAddr % 65536 = 65535 then 4 else 0)) ∧
    t = { s with regs := { s.regs with idxAddr := t.regs.idxAddr, idxStat := t.regs.idxStat }, out := { s.out with reads := t.out.reads } }) ∧
  (∀ s, s.dev.st ≠ .cold → bits s.regs.idxAddr 31 27 = 3 → bits s.regs.idxAddr 26 16 = 0 → bits s.regs.idxAddr 15 0 < 64 → exec (.idxDataAccess ownerFn none) s =
    .next { s with regs := { s.regs with idxAddr := s.regs.idxAddr + 1 },
                   out := { s.out with reads := s.out.reads ++ [(ownerFn, 0, 0x100014, .word (if s.dev.goneTiles.contains (bits s.regs.idxAddr 15 0) then 0xFFFFFFFF else s.dev.tileMap.getD (bits s.regs.idxAddr 15 0) 0))] } }) ∧
  (∀ s, s.dev.st ≠ .cold → s.regs.idxAddr < 2 ^ 32 → idxIn s = true → bits s.regs.idxAddr 31 27 ≠ 3 → bits s.regs.idxAddr 31 27 ≠ 11 →
    (∀ v, s.regs.idxLatch = some (s.regs.idxAddr, v) → NextWith (exec (.idxDataAccess ownerFn none) s) fun t => t.out.reads = s.out.reads ++ [(ownerFn, 0, 0x100014, .word v)] ∧ t.free = s.free) ∧
    (s.regs.idxLatch = none → s.regs.idxAddr % 2 = 0 → NextWith (exec (.idxDataAccess ownerFn none) s) fun t => ∃ v, t.regs.idxLatch = some (s.regs.idxAddr + 1, v) ∧ t.regs.idxAddr = s.regs.idxAddr + 1)) ∧
  (∀ s f (k : Nat) (w : Word), fnOk f = true → f ≠ ownerFn → s.dev.st ≠ .cold → k < 4 → ∀ i ∈ [Instr.unlockWrite f w, .swResetWrite f w, .shRegisterWrite f k w, .idxDataAccess f (some w), .idxDataAccess f none], NextWith (exec i s) fun t =>
    Raises s t 1348 (causeId 0x20 1) ∧ Logged t 1 1 s.time.tick64 ∧ (i ≠ .idxDataAccess f none → t.out.reads = s.out.reads) ∧ (i = .idxDataAccess f none → t.out.reads = s.out.reads ++ [(f, 0, 0x100014, .completerAbort)]) ∧
    t = { s with log := t.log, router := t.router, out := t.out }) ∧
  (∀ s f (k : Nat) (w : Word), fnOk f = true → s.dev.st = .cold → k < 4 → ∀ i ∈ [Instr.unlockWrite f w, .swResetWrite f w, .shRegisterWrite f k w, .idxDataAccess f (some w), .idxDataAccess f none], exec i s = .next s)

/-- Register commits and latches (R30, R387, R440, R441, R442, R456): COMMIT_CTRL_GO, TIME_LATCH_WRITE. A write while BUSY is LOST. GO in HALTED waits with the SH writes taken from PF0 of HP0; with nothing staged and no SH write it is OK, makes no generation and stands in the Logbook;
with a staged set that admission takes, the set is pending for its tick; either way COMMIT_STATUS shows the outcome and no completion entry is written. A TIME latch holds the values of its moment for its own function alone.
Every command named at the head completes: a clause concludes its own next state from conditions on the state and the operands alone. -/
def Obligations.RegisterCommitsAndLatches : Prop :=
  (∀ s f d (w : Word), fnOk f = true → s.dev.st ≠ .cold → s.plan.domeOf f = some d → (commitOf s f).busy = true → exec (.commitCtrlGo f w) s = .next (onCommit s f (fun c => { c with lost := true }))) ∧
  (∀ s f d (w : Word), fnOk f = true → s.dev.st ≠ .cold → s.plan.domeOf f = some d → (commitOf s f).busy = false → bit w.toNat 0 = false → exec (.commitCtrlGo f w) s = .next s) ∧
  (∀ s f d (w : Word), fnOk f = true → s.dev.st = .halted → s.plan.domeOf f = some d → (commitOf s f).busy = false → bit w.toNat 0 = true → NextWith (exec (.commitCtrlGo f w) s) fun t =>
    t.held = s.held ++ [(.commit, winRequest s f d w)] ∧ (commitOf t f).busy = true ∧ (f = ownerFn → t.regs.sh = [] ∧ (s.regs.sh ≠ [] → t.regs.taken = s.regs.taken ++ [(0xFFFF, s.regs.sh)])) ∧
    (f ≠ ownerFn → t.regs.sh = s.regs.sh) ∧ t = { s with held := t.held, regs := t.regs }) ∧
  (∀ s f d (w : Word), fnOk f = true → s.dev.st ≠ .cold → s.dev.st ≠ .boot → s.dev.st ≠ .recovery → s.dev.st ≠ .halted → f ≠ ownerFn → s.plan.domeOf f = some d → (commitOf s f).busy = false → w = 1#32 →
    State.passes (onCommit s f (fun c => { c with busy := true })) .commit (winRequest s f d w) = true → stateBusy s .commit (winRequest s f d w) false = false → (domeRun s d).staged = [] →
    NextWith (exec (.commitCtrlGo f w) s) fun t => commitOf t f = { commitOf s f with busy := false, status := 0, detail := 0, tsn := tsnOf (s.time.tick64 + 1), cfgGen := cfgGenOf s f } ∧ t.domes = s.domes ∧
      t.out.completions = s.out.completions ∧ Logged t 0 Op.commit.info.code (s.time.tick64 + 1) ∧ t = { s with regs := { s.regs with commits := t.regs.commits }, log := t.log, router := t.router, out := t.out }) ∧
  (∀ s f d (w : Word) k, fnOk f = true → s.dev.st ≠ .cold → s.dev.st ≠ .boot → s.dev.st ≠ .recovery → s.dev.st ≠ .halted → f ≠ ownerFn → s.plan.domeOf f = some d → (commitOf s f).busy = false → w = 1#32 →
    State.passes (onCommit s f (fun c => { c with busy := true })) .commit (winRequest s f d w) = true → stateBusy s .commit (winRequest s f d w) false = false → (domeRun s d).staged ≠ [] →
    (domeRun s d).staged.all (fun m => !m.aperture && !needsMac s m) = true →
    admitSet (onCommit s f (fun c => { c with busy := true })) { dome := d, cmds := (domeRun s d).staged, q := some (winRequest s f d w) } = .ok k →
    NextWith (exec (.commitCtrlGo f w) s) fun t => (commitOf t f).busy = false ∧ (commitOf t f).status = 0 ∧ (commitOf t f).tsn = tsnOf k.e ∧ (domeRun t d).staged = [] ∧ t.plan = s.plan ∧ t.out.completions = s.out.completions ∧
      ∃ x : Machine.PSet, t.psets = s.psets.filter (fun y => !k.cancelled.contains y) ++ [x] ∧ x.dome = d ∧ x.e = k.e ∧ x.cmds = k.cmds) ∧
  (∀ s f (w : Word), fnOk f = true → s.dev.st ≠ .cold → s.plan.domeOf f = none → NextWith (exec (.commitCtrlGo f w) s) fun t => Raises s t 1348 (causeId 0x20 (if f.vf = 0 then 4 else 5)) ∧ t = { s with log := t.log, router := t.router, out := t.out }) ∧
  (∀ s f (w : Word) (fs : Nat), fnOk f = true → s.dev.st ≠ .cold → hasMbx s f = true → bit w.toNat 0 = true → NextWith (exec (.timeLatchWrite f w fs) s) fun t =>
    (∃ l, tget t.regs.latches f = some l ∧ l.flags = timeFlags s ∧ l.tick = s.time.tick64 ∧ l.phase = s.time.phase ∧ l.m = s.plan.m ∧ l.sci = ct96 (sciOfTick s s.time.tick64 + (fs * uFs : Nat)) ∧ l.house = ct64 (ct96 (s.time.house + Nat.min (fs * uFs) (houseStep s) : Nat))) ∧
    (∀ g, g ≠ f → tget t.regs.latches g = tget s.regs.latches g) ∧ t = { s with regs := { s.regs with latches := t.regs.latches } }) ∧
  (∀ s f (w : Word) (fs : Nat), fnOk f = true → s.dev.st ≠ .cold → hasMbx s f = true → bit w.toNat 0 = false → exec (.timeLatchWrite f w fs) s = .next s) ∧
  (∀ s f (w : Word) (fs : Nat), fnOk f = true → s.dev.st ≠ .cold → hasMbx s f = false → NextWith (exec (.timeLatchWrite f w fs) s) fun t => Raises s t 1348 (causeId 0x20 (if f.vf = 0 then 4 else 5)) ∧ t = { s with log := t.log, router := t.router, out := t.out }) ∧
  (∀ s f (w : Word) (fs : Nat), fnOk f = true → s.dev.st = .cold → exec (.commitCtrlGo f w) s = .next s ∧ exec (.timeLatchWrite f w fs) s = .next s)

/-- The configuration check and the vote (R448, R450, R451): RECORD_REWRITE, VOTE_SCRUB. A rewrite that agrees ends the quarantine of the tile's record, the first two that fail are counted, the third makes the tile worn; the tile's outputs stay STALE. A critical
field of which one stored copy differs takes the majority, counts VOTE_FIX and raises source 1345; three different copies set VOTE_FAIL, raise source 1346, make a SECURITY entry, and take the committed copy while a control processor holds it.
Every command named at the head completes: a clause concludes its own next state from conditions on the state and the operands alone. -/
def Obligations.RewritesAndVotes : Prop :=
  (∀ s (g n tile : Nat) a, tile < 68 → s.regs.upset.find? (fun x => x.1 == g && x.2.1 == n && x.2.2.1 == tile) = none → exec (.recordRewrite g n tile a) s = .next s) ∧
  (∀ s (g n tile k : Nat), tile < 68 → s.regs.upset.find? (fun x => x.1 == g && x.2.1 == n && x.2.2.1 == tile) = some (g, n, tile, k) → NextWith (exec (.recordRewrite g n tile true) s) fun t =>
    t.regs.upset = s.regs.upset.filter (fun y => y != (g, n, tile, k)) ∧ (∀ l, logicalOf s tile = some l → l ∈ t.dev.stale) ∧ t = { s with regs := { s.regs with upset := t.regs.upset }, dev := { s.dev with stale := t.dev.stale } }) ∧
  (∀ s (g n tile k : Nat), tile < 68 → s.regs.upset.find? (fun x => x.1 == g && x.2.1 == n && x.2.2.1 == tile) = some (g, n, tile, k) → k < 2 → NextWith (exec (.recordRewrite g n tile false) s) fun t =>
    t.regs.upset = s.regs.upset.filter (fun y => y != (g, n, tile, k)) ++ [(g, n, tile, k + 1)] ∧ (∀ l, logicalOf s tile = some l → l ∈ t.dev.stale) ∧ t = { s with regs := { s.regs with upset := t.regs.upset }, dev := { s.dev with stale := t.dev.stale } }) ∧
  (∀ s (g n tile k : Nat), tile < 68 → s.regs.upset.find? (fun x => x.1 == g && x.2.1 == n && x.2.2.1 == tile) = some (g, n, tile, k) → 2 ≤ k → s.care.tiles.length = 68 → NextWith (exec (.recordRewrite g n tile false) s) fun t =>
    t.regs.upset = s.regs.upset.filter (fun y => y != (g, n, tile, k)) ∧ ((tileOf s tile).st = .active ∨ (tileOf s tile).st = .warn → (tileOf t tile).st = .worn) ∧ t.plan = s.plan ∧ t.regs = { s.regs with upset := t.regs.upset }) ∧
  (∀ s, s.dev.st ≠ .cold → s.regs.copies = [] → exec (.voteScrub []) s = .next s) ∧ (∀ s l, s.dev.st = .cold → exec (.voteScrub l) s = .next s) ∧
  (∀ s (k a b c v : Nat), s.dev.st ≠ .cold → s.regs.copies = [] → c < 3 → v ≠ critValue s (critField k a b) → NextWith (exec (.voteScrub [(k, a, b, c, v)]) s) fun t =>
    critCopies t (critField k a b) = List.replicate 3 (critValue s (critField k a b)) ∧ t.regs = { s.regs with voteFix := true, fixes := satAdd s.regs.fixes 1 65535 } ∧ Raises s t 1345 (causeId 0x3F 1) ∧ t = { s with regs := t.regs, router := t.router, out := t.out }) ∧
  (∀ s (k a b u v : Nat), s.dev.st ≠ .cold → s.regs.copies = [] → u ≠ critValue s (critField k a b) → v ≠ critValue s (critField k a b) → u ≠ v → NextWith (exec (.voteScrub [(k, a, b, 0, u), (k, a, b, 1, v)]) s) fun t =>
    t.regs.voteFail = true ∧ t.regs.fails = satAdd s.regs.fails 1 65535 ∧ Raises s t 1346 (causeId 0x3F 2) ∧ Logged t 2 (causeId 0x3F 2) s.time.tick64 ∧
    ((cpIn s .active).isSome = true → s.dev.st ≠ .halted → critCopies t (critField k a b) = List.replicate 3 (critValue s (critField k a b))) ∧
    ((cpIn s .active).isSome = false → critCopies t (critField k a b) = [u, v, critValue s (critField k a b)]) ∧ t = { s with regs := t.regs, log := t.log, router := t.router, out := t.out })

/-- Register accesses (R437, R438, R439; Tables 15-1, 15-5 to 15-12): REGISTER_READ, REGISTER_WRITE. A read answers the value that the register shows, an 8-byte read of an aligned pair both halves, and a read that may not be answered is Unsupported Request, or Completer Abort in the
OWNER window; each such access is a violation, and a write of that kind is discarded. A write to a read-only register does nothing; a register that a command of its own writes is written by that command; ones clear sticky bits.
Every command named at the head completes: a clause concludes its own next state from conditions on the state and the operands alone. -/
def Obligations.RegisterAccesses : Prop :=
  (∀ s f, fnOk f = true → s.dev.st ≠ .cold → exec (.registerRead f 0 0 4) s = .next (answer s f 0 0 (.word 0x56466428)) ∧ exec (.registerRead f 0 8 4) s = .next (answer s f 0 8 (.word 0x00642801)) ∧
    exec (.registerRead f 0 0x10 8) s = .next (answer s f 0 0x10 (.word Config.serial.toNat)) ∧ ∀ v < 2 ^ 64, exec (.registerWrite f 0 0 8 v) s = .next s) ∧
  (∀ s f, fnOk f = true → s.dev.st ≠ .cold → hasMbx s f = true → (mbxOf s f).rqBase < 2 ^ 64 → exec (.registerRead f 0 0x1008 8) s = .next (answer s f 0 0x1008 (.word (mbxOf s f).rqBase)) ∧
    exec (.registerRead f 0 0x1018 4) s = .next (answer s f 0 0x1018 (.word (mbxOf s f).rqHead)) ∧ exec (.registerRead f 0 0x103C 4) s = .next (answer s f 0 0x103C (.word (inflightOf s f).length))) ∧
  (∀ s f, fnOk f = true → s.dev.st ≠ .cold → hasMbx s f = true → (tget s.regs.latches f = none → ∀ off ∈ [0x9004, 0x9008, 0x900C, 0x9010, 0x9014, 0x9018, 0x901C, 0x9020, 0x9024, 0x9028, 0x902C], exec (.registerRead f 0 off 4) s = .next (answer s f 0 off (.word 0))) ∧
    (∀ l, tget s.regs.latches f = some l → l.tick < 2 ^ 64 → exec (.registerRead f 0 0x9020 8) s = .next (answer s f 0 0x9020 (.word l.tick)) ∧ exec (.registerRead f 0 0x9030 4) s = .next (answer s f 0 0x9030 (.word l.m)))) ∧
  (∀ s f (off width v : Nat), fnOk f = true → s.dev.st ≠ .cold → f ≠ ownerFn → 0x100000 ≤ off → off < 0x200000 → off % 4 = 0 → width = 4 → (f.vf = 0 ∨ (s.plan.domeOf f).isSome = true) →
    (NextWith (exec (.registerRead f 0 off width) s) fun t => t.out.reads = s.out.reads ++ [(f, 0, off, .completerAbort)] ∧ Raises s t 1348 (causeId 0x20 1) ∧ Logged t 1 1 s.time.tick64 ∧ t = { s with log := t.log, router := t.router, out := t.out }) ∧
    (NextWith (exec (.registerWrite f 0 off width v) s) fun t => Raises s t 1348 (causeId 0x20 1) ∧ Logged t 1 1 s.time.tick64 ∧ t = { s with log := t.log, router := t.router, out := t.out })) ∧
  (∀ s f (off width v : Nat), fnOk f = true → s.dev.st ≠ .cold → off < 0x1000 → ((width ≠ 4 ∧ width ≠ 8) ∨ off % 4 ≠ 0 ∨ (width = 4 ∧ 0x20 ≤ off)) →
    (NextWith (exec (.registerRead f 0 off width) s) fun t => t.out.reads = s.out.reads ++ [(f, 0, off, .unsupportedRequest)] ∧ Raises s t 1348 (causeId 0x20 4) ∧ Logged t 1 4 s.time.tick64 ∧ t = { s with log := t.log, router := t.router, out := t.out }) ∧
    (NextWith (exec (.registerWrite f 0 off width v) s) fun t => Raises s t 1348 (causeId 0x20 4) ∧ Logged t 1 4 s.time.tick64 ∧ t = { s with log := t.log, router := t.router, out := t.out })) ∧
  (∀ s f (w : Word), fnOk f = true → s.dev.st ≠ .cold → hasMbx s f = true → exec (.registerWrite f 0 0x1000 4 w.toNat) s = exec (.mbxCtrlWrite f w) s ∧ exec (.registerWrite f 0 0x1014 4 w.toNat) s = exec (.mbxRqTailWrite f w) s ∧
    exec (.registerWrite f 0 0x102C 4 w.toNat) s = exec (.mbxCqHeadWrite f w) s ∧ exec (.registerWrite f 0 0x1038 4 w.toNat) s = exec (.mbxErrWrite f w) s ∧ exec (.registerWrite f 0 0x9000 4 w.toNat) s = exec (.timeLatchWrite f w 0) s ∧
    ∀ off, ringReg off = true → exec (.registerWrite f 0 off 4 w.toNat) s = exec (.mbxRingRegWrite f off w) s) ∧
  (∀ s (w : Word), s.dev.st ≠ .cold → exec (.registerWrite ownerFn 0 0x100000 4 w.toNat) s = exec (.unlockWrite ownerFn w) s ∧ exec (.registerWrite ownerFn 0 0x100300 4 w.toNat) s = exec (.swResetWrite ownerFn w) s ∧
    exec (.registerWrite ownerFn 0 0x100014 4 w.toNat) s = exec (.idxDataAccess ownerFn (some w)) s ∧ (∀ k < 4, exec (.registerWrite ownerFn 0 (0x100100 + 4 * k) 4 w.toNat) s = exec (.shRegisterWrite ownerFn k w) s) ∧
    exec (.registerWrite ownerFn 0 0x104004 4 w.toNat) s = exec (.clkCoreCtrlWrite w) s ∧ (∀ k < 4, exec (.registerWrite ownerFn 0 (0x104100 + 64 * k) 4 w.toNat) s = exec (.outCtrlWrite k w) s ∧
      exec (.registerWrite ownerFn 0 (0x104104 + 64 * k) 4 w.toNat) s = exec (.outOdivWrite k w) s ∧ exec (.registerWrite ownerFn 0 (0x104108 + 64 * k) 4 w.toNat) s = exec (.outFbLoWrite k w) s ∧
      exec (.registerWrite ownerFn 0 (0x10410C + 64 * k) 4 w.toNat) s = exec (.outFbHiWrite k w) s ∧ exec (.registerWrite ownerFn 0 (0x104110 + 64 * k) 4 w.toNat) s = exec (.outFmaxWrite k w) s)) ∧
  (∀ s f d (w : Word), fnOk f = true → s.dev.st ≠ .cold → s.plan.domeOf f = some d → exec (.registerWrite f 0 0x2000 4 w.toNat) s = exec (.commitCtrlGo f w) s ∧
    exec (.registerWrite f 0 0x2004 4 w.toNat) s = .next (onCommit s f (fun c => { c with etsn := w.toNat })) ∧ exec (.registerWrite f 0 0x2008 4 w.toNat) s = .next (onCommit s f (fun c => { c with lost := c.lost && !bit w.toNat 30 })) ∧
    (∀ k < 8, exec (.registerWrite f 0 (0x8000 + 4 * k) 4 w.toNat) s = .next (onEvt s f (fun r => { r with pend := r.pend - (r.pend &&& (evtSeen s f &&& (w.toNat * 2 ^ (32 * k)))) })))) ∧
  (∀ s f (v : Nat) (w : Word), fnOk f = true → s.dev.st ≠ .cold → v < msixVectors f → exec (.registerRead f 4 (16 * v + 8) 4) s = .next (answer s f 4 (16 * v + 8) (.word (tgetD s.router.msixTable (f, v) (0, 0)).2)) ∧
    NextWith (exec (.registerWrite f 4 (16 * v + 8) 4 w.toNat) s) fun t => tgetD t.router.msixTable (f, v) (0, 0) = ((tgetD s.router.msixTable (f, v) (0, 0)).1, w.toNat) ∧ t = { s with router := { s.router with msixTable := t.router.msixTable } }) ∧
  (∀ s f (bar off width v : Nat), fnOk f = true → s.dev.st = .cold → bar = 0 ∨ bar = 4 → off < 2 ^ 24 → exec (.registerRead f bar off width) s = .next s ∧ exec (.registerWrite f bar off width v) s = .next s)

/-- DMA channels (R420, R424, R425, R454, R458 to R465): DMA_ADDR_WRITE, DMA_GO, DMA_STOP, DMA_DESCRIPTOR_END, DMA_BUS_ERROR, DMA_RETRY. A running channel refuses writes but STOP; new addresses start afresh. GO starts a well-formed descriptor whose device ranges are the dome's own, halts a
malformed one with FORMAT, and one that leaves the dome's pages with DENIED, which is a violation; no byte moves then. At its end a descriptor is counted and the channel ends, halts (STOP, an old generation) or loads the next one. A failed host read is repeated up to RETRY_LIMIT and then
halts the channel with DENIED or TIMEOUT, a poisoned one with POISON. A channel that the dome does not hold is a violation.
Every command named at the head completes: a clause concludes its own next state from conditions on the state and the operands alone. -/
def Obligations.DmaChannels : Prop :=
  let mine (s : State) (f : Fn) (d ch : Nat) : Prop := f.port < 4 ∧ f.vf < 65 ∧ ch < 8 ∧ s.plan.domeOf f = some d ∧ ch < s.plan.dmaChannels d
  (∀ s f d ch (w : Word), mine s f d ch → (dmaOf s f ch).busy = true → ∀ off ∈ [0, 4, 8, 0xC, 0x10, 0x18, 0x1C], exec (.dmaAddrWrite f ch off w) s = .next (onDma s f ch (fun c => { c with wrBusy := true }))) ∧
  (∀ s f d ch (w : Word), mine s f d ch → (dmaOf s f ch).busy = false → exec (.dmaAddrWrite f ch 0 w) s = .next (onDma s f ch (fun c => { c with src := c.src / 2 ^ 32 * 2 ^ 32 + w.toNat, done := 0, descs := 0, fetch := false })) ∧
    exec (.dmaAddrWrite f ch 4 w) s = .next (onDma s f ch (fun c => { c with src := c.src % 2 ^ 32 + w.toNat * 2 ^ 32, done := 0, descs := 0, fetch := false })) ∧
    exec (.dmaAddrWrite f ch 8 w) s = .next (onDma s f ch (fun c => { c with dst := c.dst / 2 ^ 32 * 2 ^ 32 + w.toNat, done := 0, descs := 0, fetch := false })) ∧
    exec (.dmaAddrWrite f ch 0xC w) s = .next (onDma s f ch (fun c => { c with dst := c.dst % 2 ^ 32 + w.toNat * 2 ^ 32, done := 0, descs := 0, fetch := false })) ∧
    exec (.dmaAddrWrite f ch 0x10 w) s = .next (onDma s f ch (fun c => { c with count := w.toNat, done := 0, descs := 0, fetch := false })) ∧
    exec (.dmaAddrWrite f ch 0x18 w) s = .next (onDma s f ch (fun c => { c with next := c.next / 2 ^ 32 * 2 ^ 32 + w.toNat })) ∧
    exec (.dmaAddrWrite f ch 0x1C w) s = .next (onDma s f ch (fun c => { c with next := c.next % 2 ^ 32 + w.toNat * 2 ^ 32 }))) ∧
  (∀ s f ch (w : Word), f.port < 4 → f.vf < 65 → ch < 8 → (s.plan.domeOf f = none ∨ ∃ d, s.plan.domeOf f = some d ∧ s.plan.dmaChannels d ≤ ch) → ∀ i ∈ [Instr.dmaAddrWrite f ch 0 w, .dmaGo f ch w, .dmaStop f ch w], NextWith (exec i s) fun t =>
    Raises s t 1348 (causeId 0x20 (if s.plan.domeOf f = none ∧ f.vf ≠ 0 then 5 else 4)) ∧ t = { s with log := t.log, router := t.router, out := t.out }) ∧
  (∀ s f d ch (w : Word), mine s f d ch → (dmaOf s f ch).busy = true → exec (.dmaGo f ch w) s = .next (onDma s f ch (fun c => { c with stop := c.stop || bit w.toNat 1, wrBusy := true })) ∧
    exec (.dmaStop f ch w) s = .next (onDma s f ch (fun c => { c with stop := true }))) ∧
  (∀ s f d ch (w : Word), mine s f d ch → (dmaOf s f ch).busy = false → exec (.dmaStop f ch w) s = .next (onDma s f ch (fun c => { c with ctrl := w.toNat &&& 0xC738 }))) ∧
  (∀ s f d ch (w : Word) (c : DmaCh), mine s f d ch → (dmaOf s f ch).busy = false → (dmaOf s f ch).fetch = false →
    c = { dmaOf s f ch with ctrl := w.toNat &&& 0xC738, halted := false, busy := true, stop := bit w.toNat 1, retry := false, retries := 0, gen := genOf s d } →
    (c.malformed = false → (c.srcDev = true → bar2Ok s d c.src c.count false = true) → (c.dstDev = true → bar2Ok s d c.dst c.count true = true) → NextWith (exec (.dmaGo f ch w) s) fun t => dmaOf t f ch = c ∧ t = { s with dma := t.dma }) ∧
    (c.malformed = true → NextWith (exec (.dmaGo f ch w) s) fun t => (dmaOf t f ch).busy = false ∧ (dmaOf t f ch).halted = true ∧ (dmaOf t f ch).code = Status.format.code ∧ (dmaOf t f ch).done = c.done ∧
      Raises s t (1224 + 4 * f.port + 1) (causeId 0x3F (17 + 4 * f.port)) ∧ t = { s with dma := t.dma, router := t.router, out := t.out }) ∧
    (c.malformed = false → ((c.srcDev = true ∧ bar2Ok s d c.src c.count false = false) ∨ (c.dstDev = true ∧ bar2Ok s d c.dst c.count true = false)) → NextWith (exec (.dmaGo f ch w) s) fun t =>
      (dmaOf t f ch).busy = false ∧ (dmaOf t f ch).halted = true ∧ (dmaOf t f ch).code = Status.denied.code ∧ (dmaOf t f ch).done = c.done ∧ Raises s t 1348 (causeId 0x20 8) ∧ Logged t 1 8 s.time.tick64 ∧
      t = { s with dma := t.dma, log := t.log, router := t.router, out := t.out })) ∧
  (∀ s f d ch h n e, mine s f d ch → ((dmaOf s f ch).busy = false ∨ (dmaOf s f ch).retry = true) → exec (.dmaDescriptorEnd f ch h n e) s = .next s ∧ ∀ k m, k < 3 → exec (.dmaBusError f ch k m h e) s = .next s) ∧
  (∀ s f d ch (c : DmaCh) h n e, mine s f d ch → c = dmaOf s f ch → c.busy = true → c.retry = false → c.fetch = false → c.srcDev = false → c.dstDev = false → c.done < c.count → c.count ≤ c.done + 4096 → h.length = c.count - c.done → c.gen = genOf s d →
    c.irqDesc = false → c.irqEnd = false → NextWith (exec (.dmaDescriptorEnd f ch h n e) s) fun t => t.out.hostWrites = s.out.hostWrites ++ [(f, c.dst + c.done, h, false)] ∧
      (c.chain = false → dmaOf t f ch = { c with done := c.count, descs := (c.descs + 1) % 2 ^ 32, busy := false, stop := false, doneF := true } ∧ t = { s with dma := t.dma, out := { s.out with hostWrites := t.out.hostWrites } }) ∧
      (c.chain = true → c.stop = true → (dmaOf t f ch).busy = false ∧ (dmaOf t f ch).halted = true ∧ (dmaOf t f ch).code = 0 ∧ (dmaOf t f ch).descs = (c.descs + 1) % 2 ^ 32 ∧ (dmaOf t f ch).fetch = true) ∧
      (c.chain = true → c.stop = false → bit c.next 0 = false → n.length = 32 → leField n 20 4 &&& 0xC738 = leField n 20 4 → leField n 20 4 &&& 0x38 = 0 → leField n 16 4 ≠ 0 →
        dmaOf t f ch = { c with src := leField n 0 8, dst := leField n 8 8, count := leField n 16 4, ctrl := leField n 20 4, next := leField n 24 8, done := 0, fetch := false, retries := 0, retry := false, descs := (c.descs + 1) % 2 ^ 32 }) ∧
      (c.chain = true → c.stop = false → bit c.next 0 = false → n.length = 32 → leField n 20 4 &&& 0xC738 ≠ leField n 20 4 → (dmaOf t f ch).halted = true ∧ (dmaOf t f ch).busy = false ∧ (dmaOf t f ch).code = Status.format.code)) ∧
  (∀ s f d ch (c : DmaCh) h n e, mine s f d ch → c = dmaOf s f ch → c.busy = true → c.retry = false → c.fetch = false → c.done = c.count → c.gen ≠ genOf s d → NextWith (exec (.dmaDescriptorEnd f ch h n e) s) fun t =>
    (dmaOf t f ch).busy = false ∧ (dmaOf t f ch).halted = true ∧ (dmaOf t f ch).code = Status.staleGen.code ∧ (dmaOf t f ch).descs = (c.descs + 1) % 2 ^ 32 ∧ t = { s with dma := t.dma, router := t.router, out := t.out }) ∧
  (∀ s f d ch (c : DmaCh) e (k : Nat), mine s f d ch → c = dmaOf s f ch → c.busy = true → c.retry = false → c.fetch = false → c.srcDev = false → k < 2 →
    (c.retries < c.retryLimit → NextWith (exec (.dmaBusError f ch k 0 [] e) s) fun t => dmaOf t f ch = { c with retries := c.retries + 1, retry := true } ∧ Raises s t (1224 + 4 * f.port) (causeId 0x3F (16 + 4 * f.port)) ∧ t = { s with dma := t.dma, router := t.router, out := t.out }) ∧
    (c.retryLimit ≤ c.retries → NextWith (exec (.dmaBusError f ch k 0 [] e) s) fun t => (dmaOf t f ch).busy = false ∧ (dmaOf t f ch).halted = true ∧ (dmaOf t f ch).code = (if k = 0 then Status.denied.code else Status.timeout.code) ∧ (dmaOf t f ch).done = c.done ∧
      Raises s t (1224 + 4 * f.port + 1) (causeId 0x3F (17 + 4 * f.port)) ∧ t = { s with dma := t.dma, router := t.router, out := t.out })) ∧
  (∀ s f d ch (c : DmaCh) h e, mine s f d ch → c = dmaOf s f ch → c.busy = true → c.retry = false → c.fetch = false → c.srcDev = false → c.dstDev = false → 0 < h.length → h.length ≤ 4096 → c.done + h.length ≤ c.count → NextWith (exec (.dmaBusError f ch 2 0 h e) s) fun t =>
    t.out.hostWrites = s.out.hostWrites ++ [(f, c.dst + c.done, h, true)] ∧ (dmaOf t f ch).done = c.done + h.length ∧ (dmaOf t f ch).halted = true ∧ (dmaOf t f ch).busy = false ∧ (dmaOf t f ch).code = Status.poison.code ∧
    Raises s t (1224 + 4 * f.port + 2) (causeId 0x3F (18 + 4 * f.port)) ∧ t = { s with dma := t.dma, router := t.router, out := t.out }) ∧
  (∀ s (f : Fn) ch, f.port < 4 → f.vf < 65 → ch < 8 → ((dmaOf s f ch).retry = true → exec (.dmaRetry f ch) s = .next (onDma s f ch (fun c => { c with retry := false }))) ∧ ((dmaOf s f ch).retry = false → exec (.dmaRetry f ch) s = .next s))

/-- Host access to HBM (R419, R420, R487, R497, R498): BAR2_READ, BAR2_WRITE. A read of a whole word of the dome's pages answers the bytes that memory holds and whether they are poisoned; a correctable error is counted, an uncorrectable one poisons the word. A write of a whole word stores it and
clears its poison, and every other byte stays. An access outside the dome's pages is a violation and is not performed, as is a write to a page that the device writes.
Every command named at the head completes: a clause concludes its own next state from conditions on the state and the operands alone. -/
def Obligations.HostAccessesToHbm : Prop :=
  (∀ s f (off len : Nat) b e, f.port < 4 → f.vf < 65 → s.plan.domeOf f = none → (NextWith (exec (.bar2Read f off len e) s) fun t => t.out.reads = s.out.reads ++ [(f, 2, off, .unsupportedRequest)] ∧
      Raises s t 1348 (causeId 0x20 (if f.vf = 0 then 6 else 5)) ∧ t = { s with log := t.log, router := t.router, out := t.out }) ∧
    NextWith (exec (.bar2Write f off b e) s) fun t => Raises s t 1348 (causeId 0x20 (if f.vf = 0 then 6 else 5)) ∧ t = { s with log := t.log, router := t.router, out := t.out }) ∧
  (∀ s f d (off len : Nat) e, f.port < 4 → f.vf < 65 → s.plan.domeOf f = some d → bar2Ok s d off len false = false → NextWith (exec (.bar2Read f off len e) s) fun t => t.out.reads = s.out.reads ++ [(f, 2, off, .unsupportedRequest)] ∧
    Raises s t 1348 (causeId 0x20 6) ∧ Logged t 1 6 s.time.tick64 ∧ t = { s with log := t.log, router := t.router, out := t.out }) ∧
  (∀ s f d (off : Nat) b e, f.port < 4 → f.vf < 65 → s.plan.domeOf f = some d → bar2Ok s d off b.length true = false → NextWith (exec (.bar2Write f off b e) s) fun t =>
    Raises s t 1348 (causeId 0x20 (if bar2Ok s d off b.length false then 3 else 6)) ∧ t = { s with log := t.log, router := t.router, out := t.out }) ∧
  (∀ s f d (off a : Nat), f.port < 4 → f.vf < 65 → s.plan.domeOf f = some d → off % 32 = 0 → bar2Addr s d off = some a → (poisonedAt s a = false → exec (.bar2Read f off 32 []) s = .next (answer s f 2 off (.data (memList s.hbm.mem a 32) false))) ∧
    (poisonedAt s a = true → NextWith (exec (.bar2Read f off 32 []) s) fun t => t.out.reads = s.out.reads ++ [(f, 2, off, .data (memList s.hbm.mem a 32) true)] ∧ t.hbm = (hbmCount s .poisonRd (stackOf a) 1).hbm ∧ t = { s with hbm := t.hbm, out := t.out }) ∧
    (poisonedAt s a = false → NextWith (exec (.bar2Read f off 32 [(off / 32, false)]) s) fun t => t.out.reads = s.out.reads ++ [(f, 2, off, .data (memList s.hbm.mem a 32) false)] ∧ t.hbm.mem = s.hbm.mem ∧ t.hbm.poison = s.hbm.poison ∧
      tgetD t.hbm.ceCount (pageOf a) 0 = tgetD s.hbm.ceCount (pageOf a) 0 + 1 ∧ t = { s with hbm := t.hbm, out := t.out, router := t.router }) ∧
    (poisonedAt s a = false → NextWith (exec (.bar2Read f off 32 [(off / 32, true)]) s) fun t => t.out.reads = s.out.reads ++ [(f, 2, off, .data (memList s.hbm.mem a 32) true)] ∧ t.hbm.mem = s.hbm.mem ∧ poisonedAt t a = true ∧
      (pageOf a ∈ t.hbm.due ∨ ∃ c ∈ s.hbm.copying, c.1 = (pageOf a).1 ∧ c.2.1 = (pageOf a).2))) ∧
  (∀ s f d (off a : Nat) b e, f.port < 4 → f.vf < 65 → s.plan.domeOf f = some d → off % 32 = 0 → b.length = 32 → bar2Ok s d off 32 true = true → bar2Addr s d off = some a → Memory.wf s.hbm.mem = true → NextWith (exec (.bar2Write f off b e) s) fun t =>
    memList t.hbm.mem a 32 = b ∧ (∀ x, (x < a ∨ a + 32 ≤ x) → memGet t.hbm.mem x = memGet s.hbm.mem x) ∧ poisonedAt t a = false ∧ Memory.wf t.hbm.mem = true ∧ (d ≠ 0 → t.eye = s.eye) ∧ t = { s with hbm := t.hbm, eye := t.eye })

/-- HBM events (R485, R490, R491, R492, R494, R495, R496, R500, R501, R503, R615): PAGE_RETIRE, RETIRE_COPY_END, HBM_STACK_FAIL, RT_PORT_PANIC, RT_PORT_OVERFLOW, HBM_REFRESH, SELF_REFRESH_ENTRY, SELF_REFRESH_EXIT, PATROL_SCRUB_READ, HBM_TEMPERATURE_LIMIT. The oldest retirement due copies its page to the
lowest free spare page; at the copy's end the page counts as retired and event k = 4 is raised. A stack that fails is counted as failed once and takes its retirements with it. A port enters panic at PANIC_HI and leaves it at PANIC_LO; words that overflow are poisoned and listed. A refresh is postponed at most
four times, in panic only; self-refresh begins on an idle stack without bookings; the patrol walks word by word and ends a pass after the last one. None of them changes a byte of memory.
Every command named at the head completes: a clause concludes its own next state from conditions on the state and the operands alone. -/
def Obligations.HbmControllerEvents : Prop :=
  (∀ s (h : Nat), h < 8 → (s.hbm.due.find? (fun e => e.1 == h) = none ∨ (∃ c ∈ s.hbm.copying, c.1 = h)) → exec (.pageRetire h) s = .next s) ∧
  (∀ s (h g p q : Nat), h < 8 → s.hbm.due.find? (fun e => e.1 == h) = some (g, p) → (∀ c ∈ s.hbm.copying, c.1 ≠ h) → freeSpare s h = some q → NextWith (exec (.pageRetire h) s) fun t => g = h ∧ 17152 ≤ q ∧ q ≤ 17165 ∧
    t.hbm.due = s.hbm.due.erase (h, p) ∧ t.hbm.copying = s.hbm.copying ++ [(h, p, q)] ∧ t.hbm.mem = s.hbm.mem ∧ t.hbm.pages = s.hbm.pages.filter (fun x => !(x.stack == h && x.page == q)) ∧ t = { s with hbm := t.hbm }) ∧
  (∀ s (h p q : Nat), h < 8 → s.hbm.due.find? (fun e => e.1 == h) = some (h, p) → (∀ c ∈ s.hbm.copying, c.1 ≠ h) → freeSpare s h = none → highFreePage s h = some q → NextWith (exec (.pageRetire h) s) fun t =>
    t.hbm.due = s.hbm.due.erase (h, p) ∧ t.hbm.copying = s.hbm.copying ++ [(h, p, q)] ∧ t.hbm.mem = s.hbm.mem ∧ t = { s with hbm := t.hbm }) ∧
  (∀ s (h : Nat), h < 8 → s.hbm.copying.find? (fun c => c.1 == h) = none → exec (.retireCopyEnd h) s = .next s) ∧
  (∀ s (h g p q : Nat), h < 8 → s.hbm.copying.find? (fun c => c.1 == h) = some (g, p, q) → NextWith (exec (.retireCopyEnd h) s) fun t => g = h ∧ t.hbm.copying = s.hbm.copying.erase (h, p, q) ∧ t.hbm.retired = s.hbm.retired ++ [(h, p, q)] ∧
    tget t.hbm.ceCount (h, p) = none ∧ t.hbm.mem = s.hbm.mem ∧ t.hbm.poison = s.hbm.poison ∧ tgetD t.hbm.cnt (.retired, h) 0 = (tgetD s.hbm.cnt (.retired, h) 0 + 1) % 2 ^ 64 ∧ Raises s t (1072 + 8 * h + 4) (causeId 0x3F (8 * h + 4)) ∧
    t = { s with hbm := t.hbm, care := t.care, router := t.router, out := t.out }) ∧
  (∀ s (h : Nat), h < 8 → s.hbm.failed.contains h = true → exec (.hbmStackFail h) s = .next s) ∧
  (∀ s (h : Nat), h < 8 → s.hbm.failed.contains h = false → NextWith (exec (.hbmStackFail h) s) fun t => t.hbm.failed = s.hbm.failed ++ [h] ∧ (∀ e ∈ t.hbm.due, e.1 ≠ h) ∧ (∀ c ∈ t.hbm.copying, c.1 ≠ h) ∧ t.dev.withdrawn = true ∧
    Raises s t 1314 (causeId 0x3F 2) ∧ (s.dev.st = .service → t.dev.st = .degraded) ∧ (s.dev.st ≠ .service → t.dev.st = s.dev.st)) ∧
  (∀ s (h p l : Nat), h < 8 → p < 4 → l ≤ 16 → s.hbm.panic.contains (h, p) = true → (l ≤ (s.plan.hbmCfg h).nat (3 + 2 * p) → exec (.rtPortPanic h p l) s = .next { s with hbm := { s.hbm with panic := s.hbm.panic.erase (h, p) } }) ∧
    ((s.plan.hbmCfg h).nat (3 + 2 * p) < l → exec (.rtPortPanic h p l) s = .next s)) ∧
  (∀ s (h p l : Nat), h < 8 → p < 4 → l ≤ 16 → s.hbm.panic.contains (h, p) = false → (l < (s.plan.hbmCfg h).nat (2 + 2 * p) → exec (.rtPortPanic h p l) s = .next s) ∧
    ((s.plan.hbmCfg h).nat (2 + 2 * p) ≤ l → NextWith (exec (.rtPortPanic h p l) s) fun t => t.hbm.panic = s.hbm.panic ++ [(h, p)] ∧ tgetD t.hbm.cnt (.panicEntries p, h) 0 = (tgetD s.hbm.cnt (.panicEntries p, h) 0 + 1) % 2 ^ 64 ∧
      Raises s t (1072 + 8 * h + 2) (causeId 0x3F (8 * h + 2)) ∧ t.hbm.mem = s.hbm.mem ∧ t = { s with hbm := t.hbm, router := t.router, out := t.out })) ∧
  (∀ s (h p w d k : Nat), h < 8 → p < 2 → (s.hbm.listed.filter (fun x => x / 2 ^ 31 == h && s.hbm.poison.contains x)).length < 4096 → NextWith (exec (.rtPortOverflow h p [w] d k) s) fun t => poisonedAt t (32 * (h * 2 ^ 31 + w % 2 ^ 31)) = true ∧
    h * 2 ^ 31 + w % 2 ^ 31 ∈ t.hbm.listed ∧ tgetD t.hbm.cnt (.rtOvf p, h) 0 = (tgetD s.hbm.cnt (.rtOvf p, h) 0 + 1) % 2 ^ 64 ∧ t.hbm.mem = s.hbm.mem ∧ t = { s with hbm := t.hbm }) ∧
  (∀ s (h p d k : Nat) ws, h < 8 → p < 2 → (s.hbm.listed.filter (fun x => x / 2 ^ 31 == h && s.hbm.poison.contains x)).length + ws.length ≤ 4096 → NextWith (exec (.rtPortOverflow h p ws d k) s) fun t =>
    (∀ w ∈ ws, poisonedAt t (32 * (h * 2 ^ 31 + w % 2 ^ 31)) = true ∧ h * 2 ^ 31 + w % 2 ^ 31 ∈ t.hbm.listed) ∧ tgetD t.hbm.cnt (.rtOvf p, h) 0 = (tgetD s.hbm.cnt (.rtOvf p, h) 0 + 1) % 2 ^ 64 ∧ t = { s with hbm := t.hbm }) ∧
  (∀ s (h w d k : Nat), h < 8 → NextWith (exec (.rtPortOverflow h 2 [w] d k) s) fun t => tgetD t.hbm.cnt (.rtOvf 2, h) 0 = (tgetD s.hbm.cnt (.rtOvf 2, h) 0 + 1) % 2 ^ 64 ∧ (s.plan.has .plateDefine d k = true → (plateRun t d k).snapDrop = (plateRun s d k).snapDrop + 1) ∧
    (s.plan.has .plateDefine d k = false → t.plates = s.plates) ∧ t = { s with hbm := t.hbm, plates := t.plates }) ∧
  (∀ s (h w d k : Nat), h < 8 → NextWith (exec (.rtPortOverflow h 3 [w] d k) s) fun t => t.eye = { s.eye with underrun := s.eye.underrun + 1, dirty := true } ∧ t = { s with hbm := t.hbm, eye := t.eye }) ∧
  (∀ s (h b : Nat) p, h < 8 → b < 512 → (p = true → tgetD s.hbm.postponed (h, b) 0 < 4 → (∃ e ∈ s.hbm.panic, e.1 = h) → exec (.hbmRefresh h b p) s = .next { s with hbm := { s.hbm with postponed := tset s.hbm.postponed (h, b) (tgetD s.hbm.postponed (h, b) 0 + 1) } }) ∧
    ((p = false ∨ 4 ≤ tgetD s.hbm.postponed (h, b) 0 ∨ (∀ e ∈ s.hbm.panic, e.1 ≠ h)) → exec (.hbmRefresh h b p) s = .next { s with hbm := { s.hbm with postponed := tdel s.hbm.postponed (h, b) } })) ∧
  (∀ s (h : Nat), h < 8 → (s.hbm.asleep.contains h = true ∨ s.hbm.failed.contains h = true ∨ (s.plan.hbmCfg h).nat 1 = 0 ∨ stackBooked s h = true ∨ ∃ c ∈ s.hbm.copying, c.1 = h) → exec (.selfRefreshEntry h) s = .next s) ∧
  (∀ s (h : Nat), h < 8 → s.hbm.asleep.contains h = false → s.hbm.failed.contains h = false → (s.plan.hbmCfg h).nat 1 ≠ 0 → stackBooked s h = false → (∀ c ∈ s.hbm.copying, c.1 ≠ h) → NextWith (exec (.selfRefreshEntry h) s) fun t =>
    t.hbm.asleep = s.hbm.asleep ++ [h] ∧ tgetD t.hbm.cnt (.srEntries, h) 0 = (tgetD s.hbm.cnt (.srEntries, h) 0 + 1) % 2 ^ 64 ∧ Raises s t (1072 + 8 * h + 5) (causeId 0x3F (8 * h + 5)) ∧ t = { s with hbm := t.hbm, router := t.router, out := t.out }) ∧
  (∀ s (h us : Nat), h < 8 → (s.hbm.asleep.contains h = false → exec (.selfRefreshExit h us) s = .next s) ∧ (s.hbm.asleep.contains h = true → NextWith (exec (.selfRefreshExit h us) s) fun t => t.hbm.asleep = s.hbm.asleep.erase h ∧
    tgetD t.hbm.cnt (.srTimeUs, h) 0 = (tgetD s.hbm.cnt (.srTimeUs, h) 0 + us) % 2 ^ 64 ∧ Raises s t (1072 + 8 * h + 5) (causeId 0x3F (8 * h + 5)) ∧ t = { s with hbm := t.hbm, router := t.router, out := t.out })) ∧
  (∀ s (h : Nat), h < 8 → (s.hbm.failed.contains h = true → ∀ e, exec (.patrolScrubRead h e) s = .next s) ∧ (s.hbm.failed.contains h = false → tgetD s.hbm.scrubAt h 0 + 1 < scrubWords → poisonedAt s (h * 2 ^ 36 + 32 * tgetD s.hbm.scrubAt h 0) = false →
      exec (.patrolScrubRead h none) s = .next { s with hbm := { s.hbm with scrubAt := tset s.hbm.scrubAt h (tgetD s.hbm.scrubAt h 0 + 1) } } ∧
      NextWith (exec (.patrolScrubRead h (some true)) s) fun t => tgetD t.hbm.scrubAt h 0 = tgetD s.hbm.scrubAt h 0 + 1 ∧ poisonedAt t (h * 2 ^ 36 + 32 * tgetD s.hbm.scrubAt h 0) = true ∧ t.hbm.mem = s.hbm.mem ∧ t = { s with hbm := t.hbm, router := t.router, out := t.out }) ∧
    (s.hbm.failed.contains h = false → scrubWords ≤ tgetD s.hbm.scrubAt h 0 + 1 → ∀ e, NextWith (exec (.patrolScrubRead h e) s) fun t => tgetD t.hbm.scrubAt h 0 = 0 ∧ (∀ c ∈ t.hbm.ceCount, c.1.1 ≠ h) ∧ t.hbm.mem = s.hbm.mem ∧
      t = { s with hbm := t.hbm, router := t.router, out := t.out })) ∧
  (∀ s (h : Nat), h < 8 → NextWith (exec (.hbmTemperatureLimit h) s) fun t => Raises s t (1072 + 8 * h + 6) (causeId 0x3F (8 * h + 6)) ∧ t = { s with router := t.router, out := t.out })

/-- Router, LUT cells, pins and host registers (R455, R468, R470, R473, R475, R476, R478, R480, R481): EVENT_DELIVER, EV_PIN_EDGE, EV_PULSE_END, LUT_STRETCH_END, LUT_FILTER_EXPIRY, SUPPRESS_WINDOW_END, EVT_PUB_WRITE, EVT_MASK_WRITE. An event of the current generation sets its pending bit at a host
function, or the overrun bit and count if it is still pending, and sends a message where the mask lets it; one of an old generation vanishes. An input pin publishes the edge it selects after its filter; an output pulse, a stretched input and a filter end in their cycles. A host may
publish on a channel that its dome holds, else PUB_REFUSED counts; unmasking a pending channel sends its message.
Every command named at the head completes: a clause concludes its own next state from conditions on the state and the operands alone. -/
def Obligations.RouterAndHostEvents : Prop :=
  let noCells (s : State) : Prop := ∀ e ∈ s.plan.objs .lutConfig, e.2.1 < 256 ∨ 384 ≤ e.2.1
  let oneCell (s : State) (n : Nat) (b : Block) : Prop := n < 128 ∧ s.plan.objs .lutConfig = [(devDome, 256 + n, b)] ∧ s.plan.cell n = some b ∧ cellClocked b = true ∧ b.is 13 0 = true ∧ s.router.queue = [] ∧ s.router.pins = [] ∧ s.plan.objs .eventRoute = []
  (∀ s, s.router.queue = [] → exec .eventDeliver s = .next s) ∧
  (∀ s e f, noCells s → s.router.pins = [] → s.router.queue = [e] → s.router.cycle ≤ e.due → e.dest = [.host f] → (s.plan.domeOf f).isSome = true → NextWith (exec .eventDeliver s) fun t => t.router.queue = [] ∧ t.router.cycle = e.due + 1 ∧
    (e.gen ≠ genOf s e.dome → t = { s with router := { s.router with queue := [], cycle := e.due + 1 } }) ∧
    (e.gen = genOf s e.dome → (evtOf t f).pend.testBit e.chan = true ∧ (∀ c, c ≠ e.chan → (evtOf t f).pend.testBit c = (evtOf s f).pend.testBit c) ∧ (tgetD t.router.chans e.chan ChanCnt.reset).events = (tgetD s.router.chans e.chan ChanCnt.reset).events + 1 ∧
      ((evtOf s f).pend.testBit e.chan = true → (evtOf t f).ovr.testBit e.chan = true ∧ (tgetD t.router.chans e.chan ChanCnt.reset).ovrHost = (tgetD s.router.chans e.chan ChanCnt.reset).ovrHost + 1 ∧ t.out = s.out) ∧
      ((evtOf s f).pend.testBit e.chan = false → (evtOf s f).mask.testBit e.chan = true → s.router.msixMask.contains (f, s.plan.eventVector ((s.plan.domeOf f).getD 0) e.chan) = false →
        t.out.msix = s.out.msix ++ [(f, s.plan.eventVector ((s.plan.domeOf f).getD 0) e.chan)]) ∧
      ((evtOf s f).mask.testBit e.chan = false → t.out = s.out) ∧ t = { s with router := t.router, out := t.out })) ∧
  (∀ s (n c : Nat) l, n < 16 → noCells s → s.router.queue = [] → (∀ x ∈ s.router.pins, x.2.pulse = none) → s.plan.pin n = none → NextWith (exec (.evPinEdge n l c) s) fun t => t = { s with router := { s.router with cycle := Nat.max s.router.cycle (tickCycle s + c) } }) ∧
  (∀ s (n c k : Nat) b l, n < 16 → noCells s → s.router.queue = [] → (∀ x ∈ s.router.pins, x.2.pulse = none) → s.plan.pin n = some b → b.is 2 1 = true → s.plan.unclocked (b.nat 3) = false → (pinRun s n).level ≠ l → (pinRun s n).filt = (pinRun s n).level →
    k = Nat.max s.router.cycle (tickCycle s + c) → NextWith (exec (.evPinEdge n l c) s) fun t => (pinRun t n).level = l ∧ (pinRun t n).edge = k ∧
      (edgeTakes b 4 l = true → ∃ e, t.router.queue = [e] ∧ e.chan = b.nat 3 ∧ e.cycle = k + 2 + b.nat 5 ∧ e.due = k + 18 + b.nat 5 ∧ e.cause = causeId 0x3F n ∧ e.dest = consumersOf s.plan (b.nat 3)) ∧
      (edgeTakes b 4 l = false → t.router.queue = []) ∧ t = { s with router := t.router }) ∧
  (∀ s e (m : Nat) f, (s.router.queue.map (fun x => x.due)).min? = some m → s.router.cycle ≤ m → e ∈ s.router.queue → e.due = m → e.gen = genOf s e.dome → .host f ∈ e.dest → (s.plan.domeOf f).isSome = true →
    (∀ x ∈ s.router.queue, x.chan = e.chan → x.cycle = e.cycle → x.dest = e.dest) →
    NextWith (exec .eventDeliver s) fun t => t.router.cycle = m + 1 ∧ (∀ x ∈ t.router.queue, m < x.due) ∧ (evtOf t f).pend.testBit e.chan = true) ∧
  (∀ s (n c k : Nat) l b u, n < 16 → k = Nat.max s.router.cycle (tickCycle s + c) → u = routerRun s k → s.plan.pin n = some b → b.is 2 1 = true → (pinRun u n).level ≠ l → s.plan.unclocked (b.nat 3) = false →
    ((pinRun u n).level = (pinRun u n).filt ∨ (pinRun u n).edge + b.nat 5 ≤ k) → NextWith (exec (.evPinEdge n l c) s) fun t => (pinRun t n).level = l ∧ (pinRun t n).filt = (pinRun u n).level ∧ (pinRun t n).edge = k ∧
      (edgeTakes b 4 l = true → ∃ e, t.router.queue = u.router.queue ++ [e] ∧ e.chan = b.nat 3 ∧ e.cycle = k + 2 + b.nat 5 ∧ e.due = k + 18 + b.nat 5 ∧ e.cause = causeId 0x3F n) ∧
      (edgeTakes b 4 l = false → t.router.queue = u.router.queue)) ∧
  (∀ s (n c k : Nat) l b u, n < 16 → k = Nat.max s.router.cycle (tickCycle s + c) → u = routerRun s k → s.plan.pin n = some b → b.is 2 1 = true → (pinRun u n).level ≠ l → s.plan.unclocked (b.nat 3) = true →
    NextWith (exec (.evPinEdge n l c) s) fun t => (pinRun t n).level = l ∧ (pinRun t n).filt = l ∧ (pinRun t n).edge = k) ∧
  (∀ s (n x : Nat), n < 16 → noCells s → (∀ e ∈ s.router.queue, x < e.due) → (pinRun s n).pulse = some x → s.router.cycle ≤ x → NextWith (exec (.evPulseEnd n) s) fun t =>
    (pinRun t n).pulse = none ∧ (pinRun t n).level = false ∧ t.router.cycle = x + 1) ∧
  (∀ s (n i : Nat), n < 128 → i < 4 → NextWith (exec (.lutStretchEnd n i) s) fun t => t.router.cycle = Nat.max s.router.cycle ((cellRun s n).ends.getD i 0 + 1)) ∧
  (∀ s (n : Nat) b, n < 128 → s.plan.cell n = some b → 0 < (cellRun s n).diff → NextWith (exec (.lutFilterExpiry n) s) fun t => t.router.cycle = s.router.cycle + (b.nat 14 - (cellRun s n).diff)) ∧
  (∀ s (n : Nat), n < 16 → (pinRun s n).pulse = none → exec (.evPulseEnd n) s = .next s) ∧
  (∀ s (n x : Nat) r, n < 16 → noCells s → s.router.queue = [] → s.router.pins = [(n, r)] → r.pulse = some x → s.router.cycle ≤ x → NextWith (exec (.evPulseEnd n) s) fun t =>
    (pinRun t n).pulse = none ∧ (pinRun t n).level = false ∧ t.router.cycle = x + 1 ∧ t = { s with router := t.router }) ∧
  (∀ s (n i m : Nat) b, oneCell s n b → i < 4 → (∃ x, b.at (4 + i) = .num x) → (∀ j, j < 4 → j ≠ i → ∀ x, b.at (4 + j) ≠ .num x) → b.nat 14 = 0 → (cellRun s n).ends.getD i 0 = m → s.router.cycle ≤ m → NextWith (exec (.lutStretchEnd n i) s) fun t =>
    (cellRun t n).out = (b.nat 12).testBit (cellIndex b (cellRun s n) m) ∧ t.router.cycle = m + 1 ∧ t = { s with router := t.router, out := t.out }) ∧
  (∀ s (n : Nat), n < 128 → (s.plan.cell n = none ∨ (cellRun s n).diff = 0) → exec (.lutFilterExpiry n) s = .next s) ∧
  (∀ s (n : Nat) b, oneCell s n b → (∀ j, j < 4 → ∀ x, b.at (4 + j) ≠ .num x) → 0 < (cellRun s n).diff → (cellRun s n).diff < b.nat 14 → (b.nat 12).testBit (cellIndex b (cellRun s n) 0) ≠ (cellRun s n).out → NextWith (exec (.lutFilterExpiry n) s) fun t =>
    (cellRun t n).out = !(cellRun s n).out ∧ (cellRun t n).diff = 0 ∧ t.router.cycle = s.router.cycle + (b.nat 14 - (cellRun s n).diff) ∧ (edgeTakes b 15 (!(cellRun s n).out) = true → Raises s t (1368 + n) (causeId 0x3F n)) ∧
    t = { s with router := t.router, out := t.out }) ∧
  (∀ s, s.router.windowLeft ≠ 0 → exec .suppressWindowEnd s = .next s) ∧
  (∀ s, s.router.windowLeft = 0 → NextWith (exec .suppressWindowEnd s) fun t => (s.router.ownerRecs = [] → t.router.window = []) ∧ (∀ x ∈ t.router.window, x = (1217, causeId 0x1C 0)) ∧ t.router.ownerRecs = [] ∧ t.router.windowLeft = s.plan.suppress ∧ t = { s with mbx := t.mbx, router := t.router, out := t.out }) ∧
  (∀ s f d (w : Word), f.port < 4 → f.vf < 65 → s.plan.domeOf f = some d → (s.plan.holdsChan d (w.toNat % 256) = true → s.plan.unclocked (w.toNat % 256) = false → NextWith (exec (.evtPubWrite f w) s) fun t =>
      ∃ e, t.router.queue = s.router.queue ++ [e] ∧ e.chan = w.toNat % 256 ∧ e.dome = d ∧ e.gen = genOf s d ∧ e.due = s.router.cycle + 16 ∧ e.dest = consumersOf s.plan (w.toNat % 256) ∧ t = { s with router := { s.router with queue := t.router.queue } }) ∧
    (s.plan.holdsChan d (w.toNat % 256) = false ∨ s.plan.unclocked (w.toNat % 256) = true → exec (.evtPubWrite f w) s = .next { s with router := { s.router with pubRefused := tmod s.router.pubRefused d 0 (fun n => n + 1) } })) ∧
  (∀ s f d (k : Nat) (w : Word), f.port < 4 → f.vf < 65 → k < 8 → s.plan.domeOf f = some d → NextWith (exec (.evtMaskWrite f k w) s) fun t =>
    (∀ c, (evtOf t f).mask.testBit c = if c / 32 = k then (evtSeen s f).testBit c && w.toNat.testBit (c % 32) else (evtOf s f).mask.testBit c) ∧ (evtOf t f).pend = (evtOf s f).pend ∧
    (∀ c, c / 32 = k → (evtSeen s f).testBit c = true → w.toNat.testBit (c % 32) = true → (evtOf s f).mask.testBit c = false → (evtOf s f).pend.testBit c = true → s.router.msixMask.contains (f, s.plan.eventVector d c) = false → (f, s.plan.eventVector d c) ∈ t.out.msix) ∧
    t = { s with router := t.router, out := { s.out with msix := t.out.msix } }) ∧
  (∀ s f (k : Nat) (w : Word), f.port < 4 → f.vf < 65 → k < 8 → s.plan.domeOf f = none → ∀ i ∈ [Instr.evtPubWrite f w, .evtMaskWrite f k w], NextWith (exec i s) fun t => Raises s t 1348 (causeId 0x20 (if f.vf = 0 then 4 else 5)) ∧ t = { s with log := t.log, router := t.router, out := t.out })

/-- Tile health, swaps and SRAM (R506 to R516, R527, R615): TILE_STATUS_MISSING, TILE_CONTROL_FAULT, RO_MEASUREMENT, HEALTH_SAMPLE, RESERVE_SELFTEST, THERMAL_WARNING, THERMAL_CRITICAL, SWAP_RECORDS_WRITE, SWAP_CRC_MATCH, SWAP_SWITCH, TILE_WITHDRAW, SRAM_PATROL_READ, SRAM_ROW_REPAIR. A tile that fails is FAILED for good and a cold
swap begins where its sector's reserve is free. A measurement keeps the last five degradations, and their median makes a tile WARN or WORN. A swap goes through its stages and ends with the reserve in the old tile's place; three failed rewrites retire the reserve. A tile withdrawn is gone for good. A row with four correctable errors within 24 h, or an
uncorrectable one, is repaired from the spare rows, and a tile without one is WORN.
Every command named at the head completes: a clause concludes its own next state from conditions on the state and the operands alone. -/
def Obligations.TilesSwapsAndRows : Prop :=
  let sized (s : State) : Prop := s.care.tiles.length = 68
  (∀ s (t : Nat), t < 68 → (tileOf s t).st = .failed ∨ (tileOf s t).st = .retired → exec (.tileStatusMissing t) s = .next s ∧ exec (.tileControlFault t) s = .next s) ∧
  (∀ s (t : Nat), t < 68 → sized s → (tileOf s t).st ≠ .failed → (tileOf s t).st ≠ .retired → ∀ i ∈ [Instr.tileStatusMissing t, .tileControlFault t], NextWith (exec i s) fun u => (tileOf u t).st = .failed ∧
    (∀ l, logicalOf s t = some l → t ≠ reserveTile (t / 17) → tget s.care.swaps (t / 17) = none → (tileOf s (reserveTile (t / 17))).st = .reserve → l ∈ u.care.dead ∧ Logged u 2 (Config.logType 1) s.time.tick64 ∧
      ∃ w, tget u.care.swaps (t / 17) = some w ∧ w.old = t ∧ w.logical = l ∧ w.cold = true ∧ w.d = s.time.tick64 ∧ w.stage = .decided) ∧
    u = { s with care := u.care, feeds := u.feeds, log := u.log, router := u.router, out := u.out }) ∧
  (∀ s (t a r : Nat), t < 68 → ephFind s 0x05 t = none → exec (.roMeasurement t a r) s = .next s) ∧
  (∀ s (t a r : Nat) p d, t < 68 → sized s → ephFind s 0x05 t = some p → degradation (leField p 0 4) a r = some d → NextWith (exec (.roMeasurement t a r) s) fun u => (tileOf u t).degr = (d :: (tileOf s t).degr).take 5 ∧
    (∃ f, tget u.care.figs (7, t) = some f ∧ f.value = d ∧ f.stale = false) ∧ ((tileOf s t).degr.length < 4 → (tileOf u t).st = (tileOf s t).st) ∧
    (4 ≤ (tileOf s t).degr.length → (tileOf s t).st = .active → 450 ≤ median5 ((d :: (tileOf s t).degr).take 5) → (tileOf u t).st = .worn ∧ Raises s u 1312 (causeId 0x3F t)) ∧
    (4 ≤ (tileOf s t).degr.length → (tileOf s t).st = .active → 300 ≤ median5 ((d :: (tileOf s t).degr).take 5) → median5 ((d :: (tileOf s t).degr).take 5) < 450 → (tileOf u t).st = .warn ∧ Raises s u 1312 (causeId 0x3F t)) ∧
    u = { s with care := u.care, log := u.log, router := u.router, out := u.out }) ∧
  (∀ s l m, l.length = 68 → m.length = 4 → sized s → NextWith (exec (.healthSample l m) s) fun u => u.care.supply = m ∧ (∀ t, t < 68 → (tileOf u t).temp = l.getD t 0 ∧ (tileOf u t).st = (tileOf s t).st) ∧
    (∀ t, t < 68 → tjMax - 80 ≤ l.getD t 0 → Raises s u 1319 (causeId 0x3F t)) ∧ (∀ t, t < 68 → tjMax + 80 ≤ l.getD t 0 → Raises s u 1320 (causeId 0x3F t) ∧ u.care.therm = true) ∧ ((∀ t, t < 68 → l.getD t 0 < tjMax) → u.care.therm = false) ∧
    (∀ k, k < 4 → m.getD k 0 ≠ 0 → Raises s u 1321 (causeId 0x3F k)) ∧ (s.time.holdover = false → u.clk = s.clk) ∧ u = { s with care := u.care, clk := { s.clk with coreWord := u.clk.coreWord }, router := u.router, out := u.out, free := u.free }) ∧
  (∀ s (k : Nat) b, k < 4 → (b = true ∨ reserveSt s k ≠ .reserve) → exec (.reserveSelftest k b) s = .next s) ∧
  (∀ s (k : Nat), k < 4 → sized s → reserveSt s k = .reserve → NextWith (exec (.reserveSelftest k false) s) fun u => reserveSt u k = .retired ∧ Raises s u 1312 (causeId 0x3F (17 * k + 16)) ∧ u = { s with care := u.care, router := u.router, out := u.out }) ∧
  (∀ s (t : Nat), t < 68 → (NextWith (exec (.thermalWarning t) s) fun u => Raises s u 1319 (causeId 0x3F t) ∧ u = { s with router := u.router, out := u.out }) ∧
    NextWith (exec (.thermalCritical t) s) fun u => Raises s u 1320 (causeId 0x3F t) ∧ u.care = { s.care with therm := true } ∧ u = { s with care := u.care, router := u.router, out := u.out }) ∧
  (∀ s (k : Nat) b, k < 4 → tget s.care.swaps k = none → exec (.swapRecordsWrite k) s = .next s ∧ exec (.swapCrcMatch k b) s = .next s ∧ exec (.swapSwitch k) s = .next s) ∧
  (∀ s (k : Nat) w, k < 4 → sized s → tget s.care.swaps k = some w → (w.stage ≠ .decided ∨ s.time.tick64 ≤ w.d → exec (.swapRecordsWrite k) s = .next s) ∧ (w.stage = .decided → w.d < s.time.tick64 → NextWith (exec (.swapRecordsWrite k) s) fun u =>
    tget u.care.swaps k = some { w with stage := .records } ∧ reserveSt u k = .quarantined ∧ Raises s u 1315 (causeId 0x3F (17 * k + 16)) ∧ u = { s with care := u.care, router := u.router, out := u.out })) ∧
  (∀ s (k : Nat) w b, k < 4 → sized s → tget s.care.swaps k = some w → (w.stage ≠ .records → exec (.swapCrcMatch k b) s = .next s) ∧ (w.stage = .records → NextWith (exec (.swapCrcMatch k b) s) fun u =>
    (b = true → tget u.care.swaps k = some { w with stage := .matched, q := s.time.tick64 }) ∧ (b = false → w.rewrites < 3 → tget u.care.swaps k = some { w with rewrites := w.rewrites + 1 }) ∧
    (b = false → 3 ≤ w.rewrites → tget u.care.swaps k = none ∧ reserveSt u k = .retired ∧ (w.old, w.cold) ∈ u.care.waits) ∧ u = { s with care := u.care })) ∧
  (∀ s (k : Nat) w, k < 4 → sized s → tget s.care.swaps k = some w → (w.stage ≠ .matched ∨ s.time.tick64 < switchTick s.plan.m w → exec (.swapSwitch k) s = .next s) ∧ (w.stage = .matched → switchTick s.plan.m w ≤ s.time.tick64 → NextWith (exec (.swapSwitch k) s) fun u =>
    u.dev.tileMap = s.dev.tileMap.set w.logical (reserveTile k) ∧ tget u.care.swaps k = none ∧ reserveSt u k = .active ∧ (w.old ≠ reserveTile k → w.old < 68 → (tileOf u w.old).st = .retired) ∧ w.logical ∈ u.dev.stale ∧
    Raises s u 1313 (causeId 0x3F (17 * k + 16)) ∧ Raises s u 1316 (causeId 0x3F (17 * k + 16)) ∧ u.plan = s.plan)) ∧
  (∀ s (t : Nat), t < 68 → (logicalOf s t = none ∨ withdrawDue s t = false) → exec (.tileWithdraw t) s = .next s) ∧
  (∀ s (t l : Nat), t < 68 → sized s → logicalOf s t = some l → withdrawDue s t = true → NextWith (exec (.tileWithdraw t) s) fun u => l ∈ u.dev.goneTiles ∧ logicalOf u t ≠ some l ∧ (tileOf u t).st = .retired ∧ u.dev.withdrawn = true ∧
    (s.dev.st = .service → u.dev.st = .degraded) ∧ Raises s u 1314 (causeId 0x3F 2) ∧ Logged u 2 (Config.logType 2) s.time.tick64) ∧
  (∀ s (t m r : Nat) use, t < 68 → m < 96 → r < 256 → exec (.sramPatrolRead t m r none use) s = .next s) ∧
  (∀ s (t m r : Nat) use, t < 68 → m < 96 → r < 256 → sized s → NextWith (exec (.sramPatrolRead t m r (some false) use) s) fun u => tgetD (tileOf u t).rowCe (m, r) [] = houseCt64 s :: (tgetD (tileOf s t).rowCe (m, r) []).filter (fun x => ct64Earlier (houseCt64 s) (day64 x)) ∧
    (3 ≤ ((tgetD (tileOf s t).rowCe (m, r) []).filter (fun x => ct64Earlier (houseCt64 s) (day64 x))).length → (m, r) ∈ (tileOf u t).dueRows) ∧ u = { s with care := u.care }) ∧
  (∀ s (t m r : Nat) use, t < 68 → m < 96 → r < 256 → sized s → NextWith (exec (.sramPatrolRead t m r (some true) use) s) fun u => (tileOf u t).ue = ((tileOf s t).ue + 1) % 2 ^ 32 ∧ (m, r) ∈ (tileOf u t).dueRows ∧
    (∀ n, n ≠ t → tileOf u n = tileOf s n) ∧ u.plan = s.plan ∧ u.time = s.time) ∧
  (∀ s (t m r : Nat), t < 68 → m < 96 → r < 256 → sized s → NextWith (exec (.sramPatrolRead t m r (some true) .other) s) fun u => (tileOf u t).ue = ((tileOf s t).ue + 1) % 2 ^ 32 ∧ (m, r) ∈ (tileOf u t).dueRows ∧ u = { s with care := u.care }) ∧
  (∀ s (t m r : Nat), t < 68 → m < 96 → r < 256 → (tileOf s t).dueRows.contains (m, r) = false → exec (.sramRowRepair t m r) s = .next s) ∧
  (∀ s (t m r : Nat), t < 68 → m < 96 → r < 256 → sized s → (tileOf s t).dueRows.contains (m, r) = true → NextWith (exec (.sramRowRepair t m r) s) fun u => (tileOf u t).dueRows = (tileOf s t).dueRows.erase (m, r) ∧
    (tgetD (tileOf s t).spares m 0 < 4 → tgetD (tileOf u t).spares m 0 = tgetD (tileOf s t).spares m 0 + 1 ∧ (tileOf u t).st = (tileOf s t).st ∧ Raises s u 1324 (causeId 0x3F t)) ∧
    (4 ≤ tgetD (tileOf s t).spares m 0 → (tileOf s t).st = .active → (tileOf u t).st = .worn) ∧ u = { s with care := u.care, log := u.log, router := u.router, out := u.out })

/-- Control processors, core rails and calibration (R507, R518, R519, R520, R521, R525, R527, R528, R529, R611): CP_HEARTBEAT, HEARTBEAT_TIMEOUT, CP_FAULT_REPORT, STANDBY_TAKEOVER, STANDBY_BOOT_DONE, VCORE_ADJUST, CALIBRATION_END, PFB_SELFTEST_END, EYE_MONITOR. A lost active processor gives way to its standby at the next boundary, and
without one the device enters RECOVERY. The standby takes the role and the next dormant processor boots as standby. The end of a calibration releases what it held, stores its figures, and a DEVICE calibration leaves CALIBRATE; a figure outside its limit raises source 1325 once.
Every command named at the head completes: a clause concludes its own next state from conditions on the state and the operands alone. -/
def Obligations.ProcessorsRailsAndCalibration : Prop :=
  (∀ s, exec .cpHeartbeat s = .next { s with care := { s.care with beat := houseCt64 s } }) ∧
  (∀ s, (cpIn s .standby).isSome = true → exec .heartbeatTimeout s = .next { s with care := { s.care with takeover := true } } ∧ NextWith (exec .cpFaultReport s) fun t => t.care = { s.care with takeover := true } ∧
    Raises s t 1323 (causeId 0x3F ((cpIn s .active).getD 0)) ∧ t = { s with care := t.care, router := t.router, out := t.out }) ∧
  (∀ s, (cpIn s .standby).isSome = false → s.dev.st = .cold ∨ s.dev.st = .recovery ∨ s.dev.st = .halted → exec .heartbeatTimeout s = .next s) ∧
  (∀ s, (cpIn s .standby).isSome = false → s.dev.st ≠ .cold → s.dev.st ≠ .recovery → s.dev.st ≠ .halted → ∀ i ∈ [Instr.heartbeatTimeout, .cpFaultReport], NextWith (exec i s) fun t => t.dev.st = .recovery ∧ t.boot.running = none ∧ t.plan = s.plan ∧ Logged t 2 6 s.time.tick64) ∧
  (∀ s, s.care.takeover = false → exec .standbyTakeover s = .next s) ∧
  (∀ s a b, s.care.takeover = true → s.care.cps.length = 4 → cpIn s .active = some a → cpIn s .standby = some b → NextWith (exec .standbyTakeover s) fun t => t.care.cps.getD a .dormant = .failed ∧ t.care.cps.getD b .dormant = .active ∧ t.care.takeover = false ∧ t.regs.copies = [] ∧
    Raises s t 1322 (causeId 0x3F b) ∧ (s.care.cps.getD 1 .failed = .dormant → t.care.cps.getD 1 .failed = .quarantined ∧ Raises s t 1315 (causeId 0x3F 1)) ∧ t = { s with care := t.care, regs := { s.regs with copies := [] }, router := t.router, out := t.out }) ∧
  (∀ s, (cpIn s .quarantined = none ∨ s.boot.hand.isSome = true) → exec .standbyBootDone s = .next s) ∧
  (∀ s k, cpIn s .quarantined = some k → s.boot.hand = none → NextWith (exec .standbyBootDone s) fun t => t.care = { s.care with cps := s.care.cps.set k .standby } ∧ Raises s t 1316 (causeId 0x3F k) ∧ t = { s with care := t.care, router := t.router, out := t.out }) ∧
  (∀ s (k : Nat) b, k < 4 → s.care.vfault.getD k false = true → s.care.vcore.getD k 0 ≠ 75000 → exec (.vcoreAdjust k b) s = .next s) ∧
  (∀ s (k : Nat), k < 4 → s.care.vfault.getD k false = false → exec (.vcoreAdjust k true) s = .next { s with care := { s.care with vcore := s.care.vcore.set k (setPoint s k) } }) ∧
  (∀ s (k : Nat), k < 4 → s.care.vfault.length = 4 → s.care.vfault.getD k false = false → NextWith (exec (.vcoreAdjust k false) s) fun t => t.care.vfault.getD k false = true ∧ t.care.vcore = s.care.vcore ∧ Raises s t 1321 (causeId 0x3F k) ∧
    (s.care.vcore.getD k 0 ≠ 75000 → t = { s with care := t.care, router := t.router, out := t.out })) ∧
  (∀ s (c u : Nat) f r, c < 6 → u < 128 → s.care.cals.contains (c, u) = false → exec (.calibrationEnd c u f r) s = .next s) ∧
  (∀ s (c u : Nat) fs rs, c < 6 → u < 128 → s.care.cals.contains (c, u) = true → NextWith (exec (.calibrationEnd c u fs rs) s) fun t => t.care.cals = s.care.cals.erase (c, u) ∧ Raises s t 1318 (causeId 0x3F (128 * c + u)) ∧
    ∀ f ∈ fs, calKeeps s f.1 f.2.1 = true → (∀ g ∈ fs, g.1 = f.1 → g.2.1 = f.2.1 → g = f) → ∃ x, tget t.care.figs (f.1, f.2.1) = some x ∧ x.value = f.2.2 ∧ x.stale = false ∧ x.out = figOut f.1 f.2.2) ∧
  (∀ s (c u g n : Nat) v, c < 6 → u < 128 → g ≠ 6 → s.care.cals.contains (c, u) = true → NextWith (exec (.calibrationEnd c u [(g, n, v)] []) s) fun t => t.care.cals = s.care.cals.erase (c, u) ∧ (∃ x, tget t.care.figs (g, n) = some x ∧ x.value = v ∧ x.stale = false ∧ x.out = figOut g v) ∧
    Raises s t 1318 (causeId 0x3F (128 * c + u)) ∧ (figOut g v = true → tget s.care.figs (g, n) = none → Raises s t 1325 (causeId 0x3F n)) ∧
    (c = 0 → s.dev.st = .calibrate → t.dev.st = (if s.dev.withdrawn then .degraded else .service)) ∧ (c ≠ 0 ∨ s.dev.st ≠ .calibrate → t.dev.st = s.dev.st) ∧ (c ≠ 0 → t = { s with care := t.care, router := t.router, out := t.out })) ∧
  (∀ s (k : Nat) v, k < 4 → s.care.pfbTest.contains k = false → exec (.pfbSelftestEnd k v) s = .next s) ∧
  (∀ s (k : Nat) v, k < 4 → s.care.pfbTest.contains k = true → NextWith (exec (.pfbSelftestEnd k v) s) fun t => t.care.pfbTest = s.care.pfbTest.filter (fun x => x != k) ∧ (∃ x, tget t.care.figs (6, 17 * k + 16) = some x ∧ x.value = v ∧ x.out = decide (25 < v)) ∧
    t = { s with care := t.care, router := t.router, out := t.out }) ∧
  (∀ s (l : Nat) w h, l < 128 → NextWith (exec (.eyeMonitor l w h) s) fun t => (∃ x, tget t.care.figs (1, l) = some x ∧ x.value = w ∧ x.out = decide (w < 150)) ∧ (∃ x, tget t.care.figs (2, l) = some x ∧ x.value = h ∧ x.out = decide (h < 12)) ∧
    t = { s with care := t.care, router := t.router, out := t.out })

/-- Housekeeping ADC and DACs (R532 to R546): ADC_SEQUENCE_START, ADC_CONVERSION_DONE, ADC_CAL_DONE, DAC_PACER_STEP, DAC_SHORT_DETECT. A trigger starts a sequence with its own configuration, or is counted as missed; a conversion is corrected, clamped and summed, the last one of an entry gives its result, and the last entry ends the
sequence. Measured factors within range apply and are recorded, others leave the calibration failed and the old factors in force. A DAC plays its entries for their dwell and runs empty with an event; a short circuit is flagged once.
Every command named at the head completes: a clause concludes its own next state from conditions on the state and the operands alone. -/
def Obligations.AdcAndDacs : Prop :=
  (∀ s, s.adc.cfg = none → exec .adcSequenceStart s = .next s) ∧
  (∀ s b, s.adc.cfg = some b → (ticking s = false ∨ (b.is 3 0 = true ∧ s.time.tick64 % Nat.max 1 (b.nat 4) ≠ 0)) → exec .adcSequenceStart s = .next s) ∧
  (∀ s b, s.adc.cfg = some b → ticking s = true → (b.is 3 0 = true → s.time.tick64 % Nat.max 1 (b.nat 4) = 0) →
    (s.adc.seq = none → s.adc.cal ≠ 1 → exec .adcSequenceStart s = .next { s with adc := { s.adc with down := false, seq := some { cfg := b, entry := 0, conv := 0, sum := 0, past := false } } }) ∧
    (s.adc.seq.isSome = true → b.is 3 2 = true → exec .adcSequenceStart s = .next s) ∧
    ((s.adc.seq.isSome = true ∨ s.adc.cal = 1) → b.is 3 2 = false → exec .adcSequenceStart s = .next { s with adc := { s.adc with missed := (s.adc.missed + 1) % 2 ^ 64 } })) ∧
  (∀ s (r : Int), -65536 ≤ r → r ≤ 65535 → s.adc.seq = none → exec (.adcConversionDone r) s = .next s) ∧
  (∀ s q (r : Int) c v, -65536 ≤ r → r ≤ 65535 → s.adc.seq = some q → c = (q.cfg.nats 0).getD q.entry 0 → v = adcCode s.adc.gain s.adc.offset r → NextWith (exec (.adcConversionDone r) s) fun t =>
    ((v < 0 ∨ 4095 < v) → Raises s t 1289 (causeId 0x3F c) ∧ (adcRes t c).ovr = true) ∧
    (q.conv + 1 < q.cfg.nat 1 → t.adc.seq = some { q with sum := q.sum + (clampInt 0 4095 v).toNat, past := q.past || decide (v < 0) || decide (4095 < v), conv := q.conv + 1 }) ∧
    (q.cfg.nat 1 ≤ q.conv + 1 → (adcRes t c).result = (rneShift (q.sum + (clampInt 0 4095 v).toNat : Nat) (q.cfg.nat 2)).toNat % 2 ^ 32 ∧ (adcRes t c).some = true ∧ (adcRes t c).tsn = tsnOf s.time.tick64 ∧
      (q.entry + 1 < (q.cfg.rows 0).length → t.adc.seq = some { q with entry := q.entry + 1, conv := 0, sum := 0, past := false }) ∧
      ((q.cfg.rows 0).length ≤ q.entry + 1 → t.adc.seq = none ∧ t.adc.sequences = (s.adc.sequences + 1) % 2 ^ 64 ∧ Raises s t 1290 (causeId 0x3F 2) ∧ (s.adc.calDue = true → t.adc.cal = 1))) ∧
    t = { s with adc := t.adc, router := t.router, out := t.out }) ∧
  (∀ s (g : Nat) o, g < 65536 → -32768 ≤ o → o ≤ 32767 → s.adc.cal ≠ 1 → exec (.adcCalDone g o) s = .next s) ∧
  (∀ s (g : Nat) o, g < 65536 → -32768 ≤ o → o ≤ 32767 → s.adc.cal = 1 → NextWith (exec (.adcCalDone g o) s) fun t => Raises s t 1288 (causeId 0x3F 0) ∧
    (9 * 2 ^ 15 ≤ 10 * g → 10 * g ≤ 11 * 2 ^ 15 → o.natAbs ≤ 2048 → t.adc = { s.adc with gain := g, offset := o, cal := 0 }) ∧
    ((10 * g < 9 * 2 ^ 15 ∨ 11 * 2 ^ 15 < 10 * g ∨ 2048 < o.natAbs) → t.adc = { s.adc with cal := 2 } ∧ (∃ f, tget t.care.figs (5, 0) = some f ∧ f.out = true)) ∧ t = { s with adc := t.adc, care := t.care, router := t.router, out := t.out }) ∧
  (∀ s (n : Nat), n < 8 → s.plan.dac n = none → exec (.dacPacerStep n) s = .next s) ∧
  (∀ s (n : Nat) b, n < 8 → s.plan.dac n = some b → (ticking s = false ∨ b.flag 1 = false ∨ dacCal s n = true ∨ s.time.tick64 % Nat.max 1 (b.nat 4) ≠ 0) → exec (.dacPacerStep n) s = .next s) ∧
  (∀ s (n : Nat) b (r : DacRun), n < 8 → s.plan.dac n = some b → ticking s = true → b.flag 1 = true → dacCal s n = false → s.time.tick64 % Nat.max 1 (b.nat 4) = 0 → r = dacRun s n → r.waiting = [] → NextWith (exec (.dacPacerStep n) s) fun t =>
    (r.queue = [] → dacRun t n = { r with playing := false, left := 0 }) ∧ (1 < r.left → r.queue ≠ [] → (dacRun t n).left = r.left - 1 ∧ (dacRun t n).code = r.code ∧ (dacRun t n).queue = r.queue) ∧
    (∀ x y l, r.left = 0 → r.pos = 0 → r.queue = (x, y) :: l → (dacRun t n).code = x ∧ (dacRun t n).left = y ∧ (dacRun t n).playing = true ∧ (dacRun t n).stale = false) ∧
    (∀ x y z l, b.is 5 1 = false → r.ending = false → r.left = 1 → r.pos = 0 → r.queue = z :: (x, y) :: l → (dacRun t n).code = x ∧ (dacRun t n).left = y ∧ (dacRun t n).queue = (x, y) :: l ∧ (dacRun t n).played = (r.played + 1) % 2 ^ 32) ∧
    (∀ z, b.is 5 1 = false → r.ending = false → r.left = 1 → r.queue = [z] → (dacRun t n).queue = [] ∧ (dacRun t n).code = r.code ∧ (dacRun t n).playing = false ∧ (dacRun t n).emptyTime = houseCt64 s ∧ Raises s t (1272 + n) (causeId 0x3F n)) ∧
    (∀ m, m ≠ n → dacRun t m = dacRun s m) ∧ t = { s with dacs := t.dacs, router := t.router, out := t.out }) ∧
  (∀ s (n : Nat), n < 8 → exec (.dacShortDetect n false) s = .next (onDac s n (fun r => { r with scNow := false })) ∧ NextWith (exec (.dacShortDetect n true) s) fun t => dacRun t n = { dacRun s n with scNow := true, sc := true } ∧
    ((dacRun s n).sc = false → Raises s t (1280 + n) (causeId 0x3F (8 + n))) ∧ ((dacRun s n).sc = true → t.out = s.out) ∧ t = { s with dacs := t.dacs, router := t.router, out := t.out })

/-- Eyepiece (R552 to R557): FRAME_START, FRAME_END, DP_HPD_CHANGE, IRQ_HPD, DP_TRAIN_DONE, DP_TRAIN_RETRY. A frame starts video once the link is trained and latches the newest snapshots; its end compares the rectangles, counts the frame and writes the status page. Hot plug reads the EDID and trains an enabled link, and unplugging stops it; a failed training is
counted, and is tried again while DP_HPD stays high.
Every command named at the head completes: a clause concludes its own next state from conditions on the state and the operands alone. -/
def Obligations.EyepieceFramesAndLink : Prop :=
  (∀ s, s.plan.eyepiece = none → exec .frameStart s = .next s ∧ exec .frameEnd s = .next s) ∧
  (∀ s b, s.plan.eyepiece = some b → (b.flag 0 = false ∨ s.eye.trained = false) → exec .frameStart s = .next s) ∧
  (∀ s b, s.plan.eyepiece = some b → b.flag 0 = true → s.eye.trained = true → NextWith (exec .frameStart s) fun t => t.eye = { s.eye with video := true, latched := t.eye.latched, dirty := false } ∧ t.eye.latched.length = 4 ∧
    (∀ k q pb g, k < 4 → b.at (17 + 10 * k) = .num q → s.plan.plate 0 q.toNat = some pb → (plateRun s 0 q.toNat).ring = some g → 0 < g.written → t.eye.latched.getD k none = some ((g.written - 1) % Nat.max 1 g.slots, (plateRun s 0 q.toNat).snapSeq)) ∧
    (∀ k, k < 4 → (∀ q, b.at (17 + 10 * k) ≠ .num q) → t.eye.latched.getD k none = none) ∧ Raises s t 1304 (causeId 0x3F 0) ∧ t = { s with eye := t.eye, router := t.router, out := t.out }) ∧
  (∀ s b, s.plan.eyepiece = some b → s.eye.video = false → exec .frameEnd s = .next s) ∧
  (∀ s b, s.plan.eyepiece = some b → s.eye.video = true → NextWith (exec .frameEnd s) fun t => t.eye.frames = (s.eye.frames + 1) % 2 ^ 64 ∧ t.eye.palette = s.eye.palette ∧
    ((∀ k, k < 8 → s.plan.find .rectConfig devDome k = none) → t.eye.rects = s.eye.rects ∧ t.out = s.out ∧ t.free = s.free) ∧
    (∀ k r, k < 8 → s.eye.rects.length = 8 → s.eye.dirty = false → s.plan.find .rectConfig devDome k = some r → r.flag 1 = true → (t.eye.rects.getD k (0, 0)).1 = rectCrc s b r ∧
      (rectCrc s b r ≠ r.nat 6 → (t.eye.rects.getD k (0, 0)).2 = ((s.eye.rects.getD k (0, 0)).2 + 1) % 2 ^ 32 ∧ Raises s t 1307 (causeId 0x3F k)) ∧ (rectCrc s b r = r.nat 6 → (t.eye.rects.getD k (0, 0)).2 = (s.eye.rects.getD k (0, 0)).2)) ∧
    t = { s with eye := t.eye, hbm := t.hbm, free := t.free, router := t.router, out := t.out }) ∧
  (∀ s l, l.length ≤ 512 → exec (.dpHpdChange s.eye.hpd l) s = .next s) ∧
  (∀ s l, l.length ≤ 512 → s.eye.hpd = false → NextWith (exec (.dpHpdChange true l) s) fun t => t.eye = { s.eye with hpd := true, edid := l, training := eyeEnabled s } ∧ Raises s t 1305 (causeId 0x3F 1) ∧ t = { s with eye := t.eye, hbm := t.hbm, router := t.router, out := t.out }) ∧
  (∀ s l, l.length ≤ 512 → s.eye.hpd = true → NextWith (exec (.dpHpdChange false l) s) fun t => t.eye = { s.eye with hpd := false, trained := false, training := false, video := false } ∧ Raises s t 1305 (causeId 0x3F 1) ∧ t = { s with eye := t.eye, router := t.router, out := t.out }) ∧
  (∀ s b, (s.eye.hpd = false ∨ b = false) → exec (.irqHpd b) s = .next s) ∧
  (∀ s, s.eye.hpd = true → exec (.irqHpd true) s = .next { s with eye := { s.eye with trained := false, video := false, training := eyeEnabled s } }) ∧
  (∀ s b, s.eye.training = false → exec (.dpTrainDone b) s = .next s) ∧
  (∀ s, s.eye.training = true → exec (.dpTrainDone true) s = .next { s with eye := { s.eye with training := false, trained := true } } ∧ NextWith (exec (.dpTrainDone false) s) fun t =>
    t.eye = { s.eye with training := false, trained := false, trainFail := (s.eye.trainFail + 1) % 2 ^ 32 } ∧ Raises s t 1306 (causeId 0x3F 2) ∧ t = { s with eye := t.eye, router := t.router, out := t.out }) ∧
  (∀ s, (s.eye.hpd = true → eyeEnabled s = true → s.eye.trained = false → s.eye.training = false → exec .dpTrainRetry s = .next { s with eye := { s.eye with training := true } }) ∧
    ((s.eye.hpd = false ∨ eyeEnabled s = false ∨ s.eye.trained = true ∨ s.eye.training = true) → exec .dpTrainRetry s = .next s))

/-- Resets and boot (R28, R443, R564, R565, R582, R591, R609, R610, R613, R618): RST_N_ASSERT, RST_N_RELEASE, SUPPLY_LOSS, BROWN_OUT, SUPPLY_RETURN, BOOT_STEP_LIMIT_EXPIRY, BOOT_FIRMWARE_FAULT, SW_RESET_EXPIRY, DEADLINE_RESET, THERMAL_TRIP, FLUSH_END, BOOT_COMPLETE. A reset takes the configuration, the mailboxes and every run to their reset values and keeps
what flash and fuses hold; a flush that runs holds it off, but for a supply loss and a brown-out. The device boots again unless RST_N, a rail or a thermal trip holds it in COLD: in BOOT with an image that verifies, in RECOVERY without. A flush that completes writes the SECURITY entries and closed records. The end of boot begins the first calibration, or RECOVERY without
a control processor.
Every command named at the head completes: a clause concludes its own next state from conditions on the state and the operands alone. -/
def Obligations.ResetsFlushesAndBoot : Prop :=
  let fresh (s t : State) (c : ResetCause) : Prop := t.dev.st = .cold ∧ t.plan = State.reset.plan ∧ t.psets = [] ∧ t.inflight = [] ∧ t.instrs = [] ∧ t.streams = [] ∧ t.feeds = [] ∧ t.sextants = State.reset.sextants ∧ t.apertures = [] ∧ t.mbx = State.reset.mbx ∧ t.domes = [] ∧
    t.regs = State.reset.regs ∧ t.dma = [] ∧ t.hbm.mem = [] ∧ t.hbm.retired = s.hbm.retired ∧ t.log.flash = s.log.flash ∧ t.log.seq = s.log.seq ∧ t.log.ram = [] ∧ t.meter.ring = s.meter.ring ∧ t.meter.seqs = s.meter.seqs ∧ t.meter.checkpoints = s.meter.checkpoints ∧
    t.time.house = s.time.houseCheckpoint ∧ t.time.tick64 = 0 ∧ t.boot.lastReset = c ∧ t.boot.ctl = s.boot.ctl ∧ t.boot.slots = s.boot.slots ∧ t.dev.goneTiles = s.dev.goneTiles ∧ t.dev.tileMap = s.dev.tileMap ∧ t.care.halves = s.care.halves ∧ t.out = s.out ∧ t.pending = s.pending
  let held (s : State) : Prop := s.boot.rstLow = true ∨ s.boot.supplies = false ∨ s.boot.brown = true ∨ s.care.tripped = true
  let up (t : State) : Prop := t.dev.st = .boot ∨ t.dev.st = .recovery
  (∀ s, s.dev.st = .cold → exec .rstNAssert s = .next { s with boot := { s.boot with rstLow := true } }) ∧
  (∀ s, s.dev.st ≠ .cold → s.boot.flush = true → exec .rstNAssert s = .next { s with boot := { s.boot with rstLow := true, heldReset := some .rstN } }) ∧
  (∀ s, s.dev.st ≠ .cold → s.boot.flush = false → NextWith (exec .rstNAssert s) fun t => fresh s t .rstN ∧ t.boot.rstLow = true) ∧
  (∀ s (f : Nat) b, s.boot.rstLow = false → exec (.rstNRelease f b) s = .next s) ∧
  (∀ s (f : Nat) b, s.boot.rstLow = true → (s.dev.st ≠ .cold ∨ s.boot.supplies = false ∨ s.boot.brown = true ∨ s.care.tripped = true) → exec (.rstNRelease f b) s =
    .next { s with boot := { s.boot with rstLow := false, flash := f }, dbg := { s.dbg with tap := .idcode, pins := .normal } }) ∧
  (∀ s (f : Nat) b, s.boot.rstLow = true → s.dev.st = .cold → s.boot.supplies = true → s.boot.brown = false → s.care.tripped = false → NextWith (exec (.rstNRelease f b) s) fun t => up t ∧ t.boot.rstLow = false ∧ t.dbg.tap = .idcode ∧ t.dbg.pins = .normal ∧ t.boot.flash = f ∧
    (f < 512 → t.dev.st = .recovery) ∧ (∀ r, 512 ≤ f → s.boot.ctl = some r → r.states.getD r.active .empty = .confirmed → s.boot.lastReset ≠ .bootFault → verifies { s with boot := { s.boot with flash := f } } r.active b = true → t.dev.st = .boot ∧ t.boot.running = some r.active)) ∧
  (∀ s, NextWith (exec .supplyLoss s) fun t => fresh s t .power ∧ t.boot.supplies = false ∧ t.care.tripped = false ∧ t.care.vcore = [75000, 75000, 75000, 75000]) ∧
  (∀ s, NextWith (exec .brownOut s) fun t => fresh s t .brownOut ∧ t.boot.brown = true) ∧
  (∀ s (f : Nat) b, (s.dev.st ≠ .cold ∨ s.boot.rstLow = true ∨ s.care.tripped = true) → exec (.supplyReturn f b) s = .next { s with boot := { s.boot with supplies := true, brown := false } }) ∧
  (∀ s (f : Nat) b, s.dev.st = .cold → s.boot.rstLow = false → s.care.tripped = false → NextWith (exec (.supplyReturn f b) s) fun t => up t ∧ t.boot.supplies = true ∧ t.boot.brown = false ∧ t.boot.flash = f ∧ (f < 512 → t.dev.st = .recovery)) ∧
  (∀ s b, s.dev.st ≠ .boot → exec (.bootStepLimitExpiry b) s = .next s ∧ exec (.bootFirmwareFault b) s = .next s) ∧
  (∀ s b, s.boot.swReset = false → exec (.swResetExpiry b) s = .next s) ∧ (∀ s b, s.boot.deadline = false → exec (.deadlineReset b) s = .next s) ∧
  (∀ s b i c, ((i = Instr.bootStepLimitExpiry b ∨ i = .bootFirmwareFault b) ∧ s.dev.st = .boot ∧ c = ResetCause.bootFault) ∨ (i = .swResetExpiry b ∧ s.boot.swReset = true ∧ c = .swReset) ∨ (i = .deadlineReset b ∧ s.boot.deadline = true ∧ c = .swReset) →
    (s.boot.flush = true → exec i s = .next { s with boot := { s.boot with heldReset := some c } }) ∧ (s.boot.flush = false → held s → NextWith (exec i s) fun t => fresh s t c) ∧
    (s.boot.flush = false → ¬held s → NextWith (exec i s) fun t => up t ∧ t.boot.lastReset = c ∧ t.instrs = [] ∧ t.psets = [] ∧ t.inflight = [] ∧ t.mbx = [] ∧ t.hbm.mem = [] ∧ (s.boot.flash < 512 → t.dev.st = .recovery))) ∧
  (∀ s, s.dev.st = .cold → exec .thermalTrip s = .next s) ∧
  (∀ s, s.dev.st ≠ .cold → exec .thermalTrip s = .next { s with care := { s.care with tripped := true }, boot := { s.boot with tripMark := true, flush := true, heldReset := some .thermalTrip } }) ∧
  (∀ s b, s.boot.flush = false → exec (.flushEnd b) s = .next s) ∧
  (∀ s, s.boot.flush = true → s.boot.heldReset = none → s.boot.folioQ = [] → exec (.flushEnd false) s = .next { s with boot := { s.boot with flush := false } } ∧ NextWith (exec (.flushEnd true) s) fun t => t.boot = { s.boot with flush := false } ∧ t.meter.closed = [] ∧
    t.time.houseCheckpoint = s.time.house ∧ (∀ e ∈ t.log.ram, e.eflags.testBit 0 = true → e.eflags.testBit 1 = true) ∧ t.log.ram.length = s.log.ram.length ∧
    (s.log.flash.length + s.log.ram.length ≤ flashRing → t.log.flash = s.log.flash ++ s.log.ram.filter (fun e => e.eflags.testBit 0 && !e.eflags.testBit 1)) ∧
    (s.meter.ring.length + s.meter.closed.length ≤ meterRing → t.meter.ring = s.meter.ring ++ s.meter.closed) ∧ t = { s with boot := t.boot, log := t.log, meter := t.meter, time := t.time }) ∧
  (∀ s b c, s.boot.flush = true → s.boot.heldReset = some c → held s → NextWith (exec (.flushEnd b) s) fun t => t.dev.st = .cold ∧ t.boot.lastReset = c ∧ t.boot.flush = false ∧ t.boot.heldReset = none ∧ t.instrs = [] ∧ t.psets = []) ∧
  (∀ s b c, s.boot.flush = true → s.boot.heldReset = some c → ¬held s → NextWith (exec (.flushEnd b) s) fun t => up t ∧ t.boot.lastReset = c ∧ t.boot.flush = false ∧ t.instrs = [] ∧ t.psets = []) ∧
  (∀ s r l c, (s.boot.running = none ∨ s.dev.st ≠ .boot) → exec (.bootComplete r l c) s = .next s) ∧
  (∀ s r l c k, s.boot.running = some k → s.dev.st = .boot → s.care.cps.length = 4 → c = [0, 1, 2, 3] → NextWith (exec (.bootComplete r l c) s) fun t => t.dev.st = .recovery ∧ t.boot.running = none) ∧
  (∀ s k, s.boot.running = some k → s.dev.st = .boot → (cpIn s .active).isSome = true → NextWith (exec (.bootComplete [] [] []) s) fun t => t.dev.st = .calibrate ∧ (0, 0) ∈ t.care.cals ∧ Raises s t 1317 (causeId 0x3F 0) ∧ t.boot.running = some k ∧ t.plan = s.plan ∧
    (slotSt s k = .trial → flashOk s = true → (∀ x, s.boot.ctl = some x → k < x.states.length) → slotSt t k = .unconfirmed ∧ Raises s t 1365 (causeId 0x3F 5)) ∧ (s.boot.fellBack = true → Raises s t 1364 (causeId 0x3F 4)) ∧ (s.boot.verFail = true → Raises s t 1362 (causeId 0x3F 2)))

/-- Updates (R573, R579, R580, R581, R582): TRANSFER_HEADER_WRITE, HANDOVER_VERIFY_DONE, HANDOVER_READY, HANDOVER_TAKEOVER, OUTGOING_REBOOT_DONE, CONFIRM_WARNING, CONFIRM_DEADLINE. An opened transfer has its header written; a handover whose target verifies goes on, one that does not leaves the target FAILED; its record makes the target ACTIVE and UNCONFIRMED; the takeover changes the
running image and nothing of the datapath, the configuration or the mailboxes, and completes the UPDATE_ACTIVATE that asked for it; in RECOVERY it takes the device to BOOT. A deadline that passes unconfirmed warns once before, and then fails the running slot.
Every command named at the head completes: a clause concludes its own next state from conditions on the state and the operands alone. -/
def Obligations.UpdatesAndHandovers : Prop :=
  (∀ s, s.boot.opening = none → exec .transferHeaderWrite s = .next s) ∧
  (∀ s x, s.boot.opening = some x → s.boot.folioQ = [] → exec .transferHeaderWrite s = .next { s with boot := { s.boot with xfer := some x, opening := none } }) ∧
  (∀ s b, s.boot.hand = none → exec (.handoverVerifyDone b) s = .next s ∧ exec .handoverReady s = .next s ∧ exec .handoverTakeover s = .next s ∧ exec .outgoingRebootDone s = .next s) ∧
  (∀ s h b, s.boot.hand = some h → (h.stage ≠ 0 → exec (.handoverVerifyDone b) s = .next s) ∧ (h.stage ≠ 1 → exec .handoverReady s = .next s) ∧ (h.stage ≠ 2 → exec .handoverTakeover s = .next s) ∧ (h.stage ≠ 3 → exec .outgoingRebootDone s = .next s)) ∧
  (∀ s h b, s.boot.hand = some h → h.stage = 0 → slotCause s h.target b = none → NextWith (exec (.handoverVerifyDone b) s) fun t => t.boot = { s.boot with hand := some { h with stage := 1 } } ∧ Logged t 5 (Config.logType 4) s.time.tick64 ∧
    t = { s with boot := t.boot, log := t.log, router := t.router, out := t.out }) ∧
  (∀ s h b c, s.boot.hand = some h → h.stage = 0 → slotCause s h.target b = some c → NextWith (exec (.handoverVerifyDone b) s) fun t => t.boot.hand = none ∧ (flashOk s = true → (∀ x, s.boot.ctl = some x → h.target < x.states.length) → s.boot.ctl.isSome = true → slotSt t h.target = .failed ∧ (ctlOf t).cause = c.1) ∧
    Raises s t 1362 (causeId 0x3F 2) ∧ t.plan = s.plan ∧ t.dev = s.dev ∧ t.instrs = s.instrs ∧ (h.req = none → t.mbx = s.mbx)) ∧
  (∀ s h, s.boot.hand = some h → h.stage = 1 → h.back = true → exec .handoverReady s = .next { s with boot := { s.boot with hand := some { h with stage := 2 } } }) ∧
  (∀ s h, s.boot.hand = some h → h.stage = 1 → h.back = false → NextWith (exec .handoverReady s) fun t => t.boot.hand = some { h with stage := 2 } ∧ (flashOk s = true → (∀ x, s.boot.ctl = some x → h.target < x.states.length) → s.boot.ctl.isSome = true →
    slotSt t h.target = .unconfirmed ∧ (ctlOf t).active = h.target ∧ (ctlOf t).tries = 1 ∧ (ctlOf t).confirmBy = confirmFrom s) ∧ t = { s with boot := t.boot }) ∧
  (∀ s h q, s.boot.hand = some h → h.stage = 2 → s.dev.st ≠ .recovery → h.back = false → h.req = some q → isWin q = false → s.writes q = true → NextWith (exec .handoverTakeover s) fun t => t.boot.running = some h.target ∧ t.boot.hand = some { h with stage := 3 } ∧
    ∃ c, t.out.completions.getLast? = some c ∧ c.tag = q.tag.toNat ∧ c.status = 0 ∧ c.opcode = Op.updateActivate.info.code) ∧
  (∀ s h, s.boot.hand = some h → h.stage = 2 → s.dev.st ≠ .recovery → h.back = true → NextWith (exec .handoverTakeover s) fun t => t.boot.running = some h.target ∧ t.boot.hand = some { h with stage := 3 } ∧ t.boot.fellBack = true ∧ t.plan = s.plan ∧
    Raises s t 1364 (causeId 0x3F 4)) ∧
  (∀ s h, s.boot.hand = some h → h.stage = 2 → s.dev.st = .recovery → NextWith (exec .handoverTakeover s) fun t => t.dev.st = .boot ∧ t.boot.hand = some { h with stage := 3 } ∧ t.boot.fellBack = h.back) ∧
  (∀ s h, s.boot.hand = some h → h.stage = 2 → s.dev.st ≠ .recovery → h.back = false → h.req = none → NextWith (exec .handoverTakeover s) fun t => t.boot.running = some h.target ∧ t.boot.hand = some { h with stage := 3 } ∧ t.boot.fellBack = false ∧ Raises s t 1363 (causeId 0x3F 3) ∧ Raises s t 1365 (causeId 0x3F 5) ∧
    (∀ a b, s.care.cps.length = 4 → cpIn s .active = some a → cpIn s .quarantined = some b → t.care.cps.getD b .failed = .active ∧ t.care.cps.getD a .failed = .quarantined ∧ Raises s t 1315 (causeId 0x3F a)) ∧
    t = { s with boot := t.boot, care := t.care, regs := { s.regs with copies := [] }, log := t.log, mbx := t.mbx, router := t.router, out := t.out }) ∧
  (∀ s h, s.boot.hand = some h → h.stage = 3 → NextWith (exec .outgoingRebootDone s) fun t => t.boot = { s.boot with hand := none } ∧ Logged t 5 (Config.logType 4) s.time.tick64 ∧ t = { s with boot := t.boot, log := t.log, router := t.router, out := t.out }) ∧
  (∀ s, (runsUnconfirmed s = false ∨ (ctlOf s).confirmBy = 0 ∨ s.boot.warned = true ∨ ct64Earlier (ctMinutes (houseCt64 s) 60) (ctlOf s).confirmBy = true ∨ s.dev.st = .halted) → exec .confirmWarning s = .next s) ∧
  (∀ s, runsUnconfirmed s = true → (ctlOf s).confirmBy ≠ 0 → s.boot.warned = false → ct64Earlier (ctMinutes (houseCt64 s) 60) (ctlOf s).confirmBy = false → s.dev.st ≠ .halted → NextWith (exec .confirmWarning s) fun t => t.boot = { s.boot with warned := true } ∧ Raises s t 1365 (causeId 0x3F 5) ∧
    t = { s with boot := t.boot, mbx := t.mbx, router := t.router, out := t.out }) ∧
  (∀ s, (s.boot.running = none ∨ runsUnconfirmed s = false ∨ (ctlOf s).confirmBy = 0 ∨ ct64Earlier (ctlOf s).confirmBy (houseCt64 s) = false ∨ s.dev.st = .halted ∨ handing s = true) → exec .confirmDeadline s = .next s) ∧
  (∀ s k x, s.boot.running = some k → k < 2 → runsUnconfirmed s = true → s.boot.ctl = some x → x.states.length = 2 → flashOk s = true → x.confirmBy ≠ 0 → ct64Earlier x.confirmBy (houseCt64 s) = true → s.dev.st ≠ .halted → handing s = false → NextWith (exec .confirmDeadline s) fun t =>
    slotSt t k = .failed ∧ (ctlOf t).active = 1 - k ∧ (ctlOf t).cause = 11 ∧ (ctlOf t).confirmBy = 0 ∧ t.boot.fallDue = true ∧ (handing t = false → t.boot.deadline = true) ∧ ((slotSt s (1 - k)).bootable = false → t.boot.deadline = true) ∧
    t = { s with boot := t.boot, care := t.care, log := t.log, router := t.router, out := t.out })

/-- Boundary scan and the Serial Debug Port (R388, R590, R591, R592, R593, R596, R597, R598, R599, R600, R601): JTAG_EXTEST, JTAG_SAMPLE_PRELOAD, JTAG_IDCODE, JTAG_CLAMP, JTAG_HIGHZ, JTAG_BYPASS, TRST_ASSERT, SDP_TRANSACTION, SDP_LINE_RESET, TOKEN_DATA_WRITE, TOKEN_GO_WRITE, TOKEN_CHECK_DONE, SDP_LOCK_WRITE, TOKEN_EXPIRY, DBG_HALT, DBG_RESUME, DBG_STEP,
HALTED_ITEM_ABORT. While TRST_N is low the TAP keeps IDCODE; EXTEST, CLAMP and HIGHZ reach the pins only while RST_N is low. A locked port denies every target but the control map, WAIT answers during a check, a parity error is answered by nothing. A valid token unlocks for its scope and time, any other is refused and logged; locking lets every engine resume. Halting the active control
processor takes the device to HALTED, and its resume back. A word of a halted Sextant in scope is read and, under the write bit of SCOPE, written; a step leaves its engine halted.
Every command named at the head completes: a clause concludes its own next state from conditions on the state and the operands alone. -/
def Obligations.BoundaryScanAndDebugPort : Prop :=
  (∀ s l, s.dbg.trst = true → ∀ i ∈ [Instr.jtagExtest l, .jtagSamplePreload l, .jtagIdcode, .jtagClamp, .jtagHighz, .jtagBypass], exec i s = .next s) ∧
  (∀ s l, s.dbg.trst = false → s.boot.rstLow = true → exec (.jtagExtest l) s = .next { s with dbg := { s.dbg with tap := .boundary, pins := .extest, boundary := l } } ∧ exec .jtagClamp s = .next { s with dbg := { s.dbg with tap := .bypass, pins := .clamp } } ∧
    exec .jtagHighz s = .next { s with dbg := { s.dbg with tap := .bypass, pins := .highz } }) ∧
  (∀ s l, s.dbg.trst = false → s.boot.rstLow = false → ∀ i ∈ [Instr.jtagExtest l, .jtagClamp, .jtagHighz], exec i s = .next { s with dbg := { s.dbg with tap := .bypass, pins := .normal } }) ∧
  (∀ s l, s.dbg.trst = false → exec (.jtagSamplePreload l) s = .next { s with dbg := { s.dbg with tap := .boundary, pins := .normal, boundary := l } } ∧ exec .jtagIdcode s = .next { s with dbg := { s.dbg with tap := .idcode, pins := .normal } } ∧
    exec .jtagBypass s = .next { s with dbg := { s.dbg with tap := .bypass, pins := .normal } }) ∧
  (∀ s, exec (.trstAssert true) s = .next { s with dbg := { s.dbg with trst := true, tap := .idcode, pins := .normal } } ∧ exec (.trstAssert false) s = .next { s with dbg := { s.dbg with trst := false } }) ∧
  (∀ s, exec .sdpLineReset s = .next s) ∧
  (∀ s r (t a : Nat) w d, t < 128 → a < 2 ^ 16 → exec (.sdpTransaction r t a false w d) s = .next s ∧ (s.dev.st = .cold → exec (.sdpTransaction r t a true w d) s = .next s)) ∧
  (∀ s r (t a : Nat) w d, t < 128 → a < 2 ^ 16 → s.dev.st ≠ .cold → (s.dev.st ≠ .halted ∨ s.held = []) → (s.dbg.checking = true → exec (.sdpTransaction r t a true w d) s = .next { s with dbg := { s.dbg with acks := s.dbg.acks ++ [(2, none)] } }) ∧
    (s.dbg.checking = false → t ≠ 127 → s.dbg.locked = true → exec (.sdpTransaction r t a true w d) s = .next { s with dbg := { s.dbg with acks := s.dbg.acks ++ [(7, none)] } }) ∧
    (s.dbg.checking = false → t ≠ 127 → s.dbg.locked = false → isEngine t = false → exec (.sdpTransaction r t a true w d) s = .next { s with dbg := { s.dbg with acks := s.dbg.acks ++ [(4, none)] } }) ∧
    (s.dbg.checking = false → t ≠ 127 → s.dbg.locked = false → isEngine t = true → inScope s t = false → exec (.sdpTransaction r t a true w d) s = .next { s with dbg := { s.dbg with acks := s.dbg.acks ++ [(7, none)] } }) ∧
    (s.dbg.checking = false → exec (.sdpTransaction true 127 0 true w d) s = .next { s with dbg := { s.dbg with acks := s.dbg.acks ++ [(1, some 0x56466428#32)] } })) ∧
  (∀ s (w : Word), s.dev.st = .cold → ∀ i ∈ [Instr.tokenDataWrite w, .tokenGoWrite w, .tokenCheckDone, .sdpLockWrite w, .tokenExpiry, .dbgHalt 96, .dbgResume 96, .dbgStep 96], exec i s = .next s) ∧
  (∀ s (w : Word), s.dev.st ≠ .cold → (s.dev.st ≠ .halted ∨ s.held = []) → (s.dbg.checking = true → ∀ i ∈ [Instr.tokenDataWrite w, .tokenGoWrite w, .sdpLockWrite w], exec i s = .next s) ∧
    (s.dbg.checking = false → exec (.tokenDataWrite w) s = .next { s with dbg := { s.dbg with words := s.dbg.words ++ [w] } } ∧ exec .tokenCheckDone s = .next s ∧ (w = 1 → exec (.tokenGoWrite w) s = .next { s with dbg := { s.dbg with checking := true } }) ∧
      (w ≠ 1 → exec (.tokenGoWrite w) s = .next s ∧ exec (.sdpLockWrite w) s = .next s))) ∧
  (∀ s l, s.dev.st ≠ .cold → (s.dev.st ≠ .halted ∨ s.held = []) → s.dbg.checking = true → l = s.dbg.words.flatMap (fun w => leBytes 4 w.toNat) → NextWith (exec .tokenCheckDone s) fun t => t.dbg.checking = false ∧ t.dbg.words = [] ∧
    (tokenForm l = true → tokenOk s l = true → t.dbg.locked = false ∧ t.dbg.scope = leField l 6 2 ∧ t.dbg.expires = leField l 36 8 ∧ Raises s t 1351 (causeId 0x3F 7)) ∧
    (tokenForm l = false ∨ tokenOk s l = false → t.dbg.locked = s.dbg.locked ∧ t.dbg.tokenFail = true ∧ Logged t 6 (Config.logType 10) s.time.tick64) ∧ t = { s with dbg := t.dbg, log := t.log, router := t.router, out := t.out }) ∧
  (∀ s, s.dev.st ≠ .cold → (s.dev.st ≠ .halted ∨ s.held = []) → (s.dbg.locked = true ∨ ct64Earlier s.dbg.expires (houseCt64 s) = false → exec .tokenExpiry s = .next s) ∧
    (∀ i, (i = .sdpLockWrite 1#32 ∧ s.dbg.checking = false) ∨ (i = .tokenExpiry ∧ s.dbg.locked = false ∧ ct64Earlier s.dbg.expires (houseCt64 s) = true) → NextWith (exec i s) fun t => t.dbg.locked = true ∧ t.dbg.scope = 0 ∧ t.dbg.words = [] ∧ t.dbg.challenge.length = 4 ∧ t.free = s.free + 4 ∧
      (∀ e ∈ t.sextants, e.2.halted = false ∧ e.2.haltReq = false) ∧ (∀ k, k < 4 → (cpOf t k).halted = false) ∧ ((s.dev.st = .halted → passedSets s = []) → Logged t 6 (Config.logType 8) s.time.tick64))) ∧
  (∀ s (k : Nat), k < 4 → s.dbg.cps.length = 4 → s.dev.st ≠ .cold → s.dev.st ≠ .halted → (cpOf s k).halted = false → NextWith (exec (.dbgHalt (96 + k)) s) fun t => (cpOf t k).halted = true ∧ (cpOf t k).cause = 1 ∧ Logged t 6 (Config.logType 6) s.time.tick64 ∧
    (cpIn s .active = some k → t.dev.st = .halted ∧ t.dev.left = s.dev.st) ∧ (cpIn s .active ≠ some k → t.dev = s.dev) ∧ t.plan = s.plan ∧ t.sextants = s.sextants) ∧
  (∀ s (k : Nat), k < 4 → s.dev.st ≠ .cold → (s.dev.st ≠ .halted ∨ s.held = []) → (cpOf s k).halted = true → exec (.dbgHalt (96 + k)) s = .next s) ∧
  (∀ s (t a : Nat) w d v, t < 68 → a < 2 ^ 16 → s.dev.st ≠ .cold → (s.dev.st ≠ .halted ∨ s.held = []) → s.dbg.checking = false → s.dbg.locked = false → inScope s t = true → 0x100 ≤ 4 * a → (sxOf s t).halted = true →
    sxPeek (sxOf s t) (4 * a) = some v → NextWith (exec (.sdpTransaction true t a true w d) s) (fun u => u.dbg.acks = s.dbg.acks ++ [(1, some v)] ∧ u.sextants = s.sextants) ∧
    (s.dbg.scope.testBit 3 = true → NextWith (exec (.sdpTransaction false t a true w true) s) fun u => u.dbg.acks = s.dbg.acks ++ [(1, none)] ∧ sxOf u t = sxPoke (sxOf s t) (4 * a) w ∧ ∀ n, n ≠ t → sxOf u n = sxOf s n)) ∧
  (∀ s (n : Nat), n < 68 → s.dev.st ≠ .cold → (s.dev.st ≠ .halted ∨ s.held = []) → (sxOf s n).run = .running → NextWith (exec (.dbgStep n) s) fun t => ((sxOf t n).halted = true ∨ ∃ x, (sxOf t n).run = .waiting x) ∧ (∀ u, u ≠ n → sxOf t u = sxOf s u)) ∧
  (∀ s (k : Nat), k < 4 → s.dbg.cps.length = 4 → s.dev.st = .halted → s.held = [] → (cpOf s k).halted = true → NextWith (exec (.dbgResume (96 + k)) s) fun t => (cpOf t k).halted = false ∧ (passedSets s = [] → Logged t 6 (Config.logType 7) s.time.tick64) ∧
    (cpIn s .active = some k → t.dev.st = s.dev.left) ∧ (cpIn s .active ≠ some k → t.dev = s.dev)) ∧
  (∀ s (k : Nat), k < 4 → s.dbg.cps.length = 4 → s.dev.st = .halted → s.held = [] → (cpOf s k).halted = true → NextWith (exec (.dbgStep (96 + k)) s) fun t => (cpOf t k).halted = true ∧ (cpOf t k).cause = 2 ∧ t = { s with dbg := t.dbg }) ∧
  (∀ s (n : Nat), n < 68 → s.dev.st ≠ .cold → (s.dev.st ≠ .halted ∨ s.held = []) → exec (.dbgHalt n) s = .next (sxHaltReq s n) ∧ exec (.dbgResume n) s = .next (onSx s n (fun e => { e with halted := false, haltReq := false, stepping := false })) ∧
    ((sxOf s n).run = .idle → NextWith (exec (.dbgStep n) s) fun t => (sxOf t n).halted = true ∧ (sxOf t n).cause = 2 ∧ t = { s with sextants := t.sextants }) ∧
    ((sxOf s n).halted = false → (sxOf s n).run = .idle → (sxOf (sxHaltReq s n) n).halted = true ∧ (sxOf (sxHaltReq s n) n).cause = 1) ∧ ((sxOf s n).halted = false → (sxOf s n).run = .running → (sxOf (sxHaltReq s n) n).haltReq = true ∧ (sxOf (sxHaltReq s n) n).halted = false)) ∧
  (∀ s (n : Nat), n < 68 → ((sxOf s n).halted = false ∨ itemLate (sxOf s n) s.time.tick64 = false) → exec (.haltedItemAbort n) s = .next s) ∧
  (∀ s (n : Nat) x, n < 68 → (sxOf s n).halted = true → (sxOf s n).item = some x → x.m < s.time.tick64 → NextWith (exec (.haltedItemAbort n) s) fun t => (sxOf t n).item = none ∧ (sxOf t n).run = .idle ∧ (sxOf t n).halted = true ∧ (sxOf t n).cause = 5 ∧
    (∀ g, (sxOf s n).image = some g → (sxOf t n).pc = g.entry) ∧ t.plan = s.plan)
end

