-- ==== Sys2Proof/Laws/State.lean ====
section
/-! SUPPORT. State.lean: the laws of keyed tables, and what each named update of the state changes: one lemma for each field that it leaves alone. -/
namespace Sys2Proof.Machine

/-! ### Keyed tables -/

section Tables
variable {κ α : Type} [DecidableEq κ]

/-- An entry that was set is the entry read. -/
@[simp] theorem tget_tset_same (t : Tab κ α) (k : κ) (v : α) : tget (tset t k v) k = some v := by
  induction t with
  | nil => simp [tset, tget]
  | cons e r ih =>
    obtain ⟨k', v'⟩ := e
    by_cases h : k' = k <;> simp [tset, tget, h, ih]

/-- Setting an entry leaves the others alone. -/
theorem tget_tset_ne (t : Tab κ α) (k j : κ) (v : α) (h : j ≠ k) : tget (tset t k v) j = tget t j := by
  induction t with
  | nil => simp [tset, tget, Ne.symm h]
  | cons e r ih =>
    obtain ⟨k', v'⟩ := e
    by_cases h1 : k' = k
    · subst h1; simp [tset, tget, Ne.symm h]
    · by_cases h2 : k' = j <;> simp [tset, tget, h1, h2, ih]
      subst h2; simp [h1, tget]

/-- A changed entry is the entry read. -/
@[simp] theorem tgetD_tmod_same (t : Tab κ α) (k : κ) (d : α) (f : α → α) : tgetD (tmod t k d f) k d = f (tgetD t k d) := by
  simp [tgetD, tmod]

/-- Changing an entry leaves the others alone. -/
theorem tgetD_tmod_ne (t : Tab κ α) (k j : κ) (d : α) (f : α → α) (h : j ≠ k) : tgetD (tmod t k d f) j d = tgetD t j d := by
  simp [tgetD, tmod, tget_tset_ne t k j _ h]

/-- Every entry of a table after a change is the changed one or was there before. -/
theorem mem_tset {t : Tab κ α} {k : κ} {v : α} {e : κ × α} (h : e ∈ tset t k v) : e = (k, v) ∨ e ∈ t := by
  induction t with
  | nil => simpa [tset] using h
  | cons x r ih =>
    obtain ⟨k', v'⟩ := x
    by_cases hk : k' = k
    · simp [tset, hk] at h
      rcases h with h | h
      · exact .inl h
      · exact .inr (List.mem_cons_of_mem _ h)
    · simp [tset, hk] at h
      rcases h with h | h
      · exact .inr (h ▸ List.mem_cons_self)
      · rcases ih h with h | h
        · exact .inl h
        · exact .inr (List.mem_cons_of_mem _ h)

/-- An entry that is read stands in the table. -/
theorem mem_of_tget {t : Tab κ α} {k : κ} {v : α} (h : tget t k = some v) : (k, v) ∈ t := by
  induction t with
  | nil => simp [tget] at h
  | cons x r ih =>
    obtain ⟨k', v'⟩ := x
    by_cases hk : k' = k
    · simp [tget, hk] at h; subst hk; subst h; exact List.mem_cons_self
    · simp [tget, hk] at h; exact List.mem_cons_of_mem _ (ih h)

end Tables

/-! ### Named updates -/

@[simp] theorem onAdc_dev (s : State) (f : AdcSt → AdcSt) : (onAdc s f).dev = s.dev := rfl
@[simp] theorem onAdc_time (s : State) (f : AdcSt → AdcSt) : (onAdc s f).time = s.time := rfl
@[simp] theorem onAdc_tdc (s : State) (f : AdcSt → AdcSt) : (onAdc s f).tdc = s.tdc := rfl
@[simp] theorem onAdc_pairs (s : State) (f : AdcSt → AdcSt) : (onAdc s f).pairs = s.pairs := rfl
@[simp] theorem onAdc_clk (s : State) (f : AdcSt → AdcSt) : (onAdc s f).clk = s.clk := rfl
@[simp] theorem onAdc_ports (s : State) (f : AdcSt → AdcSt) : (onAdc s f).ports = s.ports := rfl
@[simp] theorem onAdc_feeds (s : State) (f : AdcSt → AdcSt) : (onAdc s f).feeds = s.feeds := rfl
@[simp] theorem onAdc_coarse (s : State) (f : AdcSt → AdcSt) : (onAdc s f).coarse = s.coarse := rfl
@[simp] theorem onAdc_coefSets (s : State) (f : AdcSt → AdcSt) : (onAdc s f).coefSets = s.coefSets := rfl
@[simp] theorem onAdc_zooms (s : State) (f : AdcSt → AdcSt) : (onAdc s f).zooms = s.zooms := rfl
@[simp] theorem onAdc_sks (s : State) (f : AdcSt → AdcSt) : (onAdc s f).sks = s.sks := rfl
@[simp] theorem onAdc_instrs (s : State) (f : AdcSt → AdcSt) : (onAdc s f).instrs = s.instrs := rfl
@[simp] theorem onAdc_masks (s : State) (f : AdcSt → AdcSt) : (onAdc s f).masks = s.masks := rfl
@[simp] theorem onAdc_plates (s : State) (f : AdcSt → AdcSt) : (onAdc s f).plates = s.plates := rfl
@[simp] theorem onAdc_streams (s : State) (f : AdcSt → AdcSt) : (onAdc s f).streams = s.streams := rfl
@[simp] theorem onAdc_flows (s : State) (f : AdcSt → AdcSt) : (onAdc s f).flows = s.flows := rfl
@[simp] theorem onAdc_apertures (s : State) (f : AdcSt → AdcSt) : (onAdc s f).apertures = s.apertures := rfl
@[simp] theorem onAdc_sextants (s : State) (f : AdcSt → AdcSt) : (onAdc s f).sextants = s.sextants := rfl
@[simp] theorem onAdc_dacs (s : State) (f : AdcSt → AdcSt) : (onAdc s f).dacs = s.dacs := rfl
@[simp] theorem onAdc_eye (s : State) (f : AdcSt → AdcSt) : (onAdc s f).eye = s.eye := rfl
@[simp] theorem onAdc_hbm (s : State) (f : AdcSt → AdcSt) : (onAdc s f).hbm = s.hbm := rfl
@[simp] theorem onAdc_sheds (s : State) (f : AdcSt → AdcSt) : (onAdc s f).sheds = s.sheds := rfl
@[simp] theorem onAdc_handoff (s : State) (f : AdcSt → AdcSt) : (onAdc s f).handoff = s.handoff := rfl
@[simp] theorem onAdc_made (s : State) (f : AdcSt → AdcSt) : (onAdc s f).made = s.made := rfl
@[simp] theorem onAdc_taken (s : State) (f : AdcSt → AdcSt) : (onAdc s f).taken = s.taken := rfl
@[simp] theorem onAdc_plan (s : State) (f : AdcSt → AdcSt) : (onAdc s f).plan = s.plan := rfl
@[simp] theorem onAdc_psets (s : State) (f : AdcSt → AdcSt) : (onAdc s f).psets = s.psets := rfl
@[simp] theorem onAdc_admits (s : State) (f : AdcSt → AdcSt) : (onAdc s f).admits = s.admits := rfl
@[simp] theorem onAdc_mbx (s : State) (f : AdcSt → AdcSt) : (onAdc s f).mbx = s.mbx := rfl
@[simp] theorem onAdc_domes (s : State) (f : AdcSt → AdcSt) : (onAdc s f).domes = s.domes := rfl
@[simp] theorem onAdc_inflight (s : State) (f : AdcSt → AdcSt) : (onAdc s f).inflight = s.inflight := rfl
@[simp] theorem onAdc_held (s : State) (f : AdcSt → AdcSt) : (onAdc s f).held = s.held := rfl
@[simp] theorem onAdc_resolving (s : State) (f : AdcSt → AdcSt) : (onAdc s f).resolving = s.resolving := rfl
@[simp] theorem onAdc_capReads (s : State) (f : AdcSt → AdcSt) : (onAdc s f).capReads = s.capReads := rfl
@[simp] theorem onAdc_hostPorts (s : State) (f : AdcSt → AdcSt) : (onAdc s f).hostPorts = s.hostPorts := rfl
@[simp] theorem onAdc_router (s : State) (f : AdcSt → AdcSt) : (onAdc s f).router = s.router := rfl
@[simp] theorem onAdc_log (s : State) (f : AdcSt → AdcSt) : (onAdc s f).log = s.log := rfl
@[simp] theorem onAdc_meter (s : State) (f : AdcSt → AdcSt) : (onAdc s f).meter = s.meter := rfl
@[simp] theorem onAdc_regs (s : State) (f : AdcSt → AdcSt) : (onAdc s f).regs = s.regs := rfl
@[simp] theorem onAdc_dma (s : State) (f : AdcSt → AdcSt) : (onAdc s f).dma = s.dma := rfl
@[simp] theorem onAdc_out (s : State) (f : AdcSt → AdcSt) : (onAdc s f).out = s.out := rfl
@[simp] theorem onAdc_care (s : State) (f : AdcSt → AdcSt) : (onAdc s f).care = s.care := rfl
@[simp] theorem onAdc_boot (s : State) (f : AdcSt → AdcSt) : (onAdc s f).boot = s.boot := rfl
@[simp] theorem onAdc_dbg (s : State) (f : AdcSt → AdcSt) : (onAdc s f).dbg = s.dbg := rfl
@[simp] theorem onAdc_free (s : State) (f : AdcSt → AdcSt) : (onAdc s f).free = s.free := rfl
@[simp] theorem onAdc_pending (s : State) (f : AdcSt → AdcSt) : (onAdc s f).pending = s.pending := rfl

@[simp] theorem onRes_dev (s : State) (c : Nat) (f : AdcRes → AdcRes) : (onRes s c f).dev = s.dev := rfl
@[simp] theorem onRes_time (s : State) (c : Nat) (f : AdcRes → AdcRes) : (onRes s c f).time = s.time := rfl
@[simp] theorem onRes_tdc (s : State) (c : Nat) (f : AdcRes → AdcRes) : (onRes s c f).tdc = s.tdc := rfl
@[simp] theorem onRes_pairs (s : State) (c : Nat) (f : AdcRes → AdcRes) : (onRes s c f).pairs = s.pairs := rfl
@[simp] theorem onRes_clk (s : State) (c : Nat) (f : AdcRes → AdcRes) : (onRes s c f).clk = s.clk := rfl
@[simp] theorem onRes_ports (s : State) (c : Nat) (f : AdcRes → AdcRes) : (onRes s c f).ports = s.ports := rfl
@[simp] theorem onRes_feeds (s : State) (c : Nat) (f : AdcRes → AdcRes) : (onRes s c f).feeds = s.feeds := rfl
@[simp] theorem onRes_coarse (s : State) (c : Nat) (f : AdcRes → AdcRes) : (onRes s c f).coarse = s.coarse := rfl
@[simp] theorem onRes_coefSets (s : State) (c : Nat) (f : AdcRes → AdcRes) : (onRes s c f).coefSets = s.coefSets := rfl
@[simp] theorem onRes_zooms (s : State) (c : Nat) (f : AdcRes → AdcRes) : (onRes s c f).zooms = s.zooms := rfl
@[simp] theorem onRes_sks (s : State) (c : Nat) (f : AdcRes → AdcRes) : (onRes s c f).sks = s.sks := rfl
@[simp] theorem onRes_instrs (s : State) (c : Nat) (f : AdcRes → AdcRes) : (onRes s c f).instrs = s.instrs := rfl
@[simp] theorem onRes_masks (s : State) (c : Nat) (f : AdcRes → AdcRes) : (onRes s c f).masks = s.masks := rfl
@[simp] theorem onRes_plates (s : State) (c : Nat) (f : AdcRes → AdcRes) : (onRes s c f).plates = s.plates := rfl
@[simp] theorem onRes_streams (s : State) (c : Nat) (f : AdcRes → AdcRes) : (onRes s c f).streams = s.streams := rfl
@[simp] theorem onRes_flows (s : State) (c : Nat) (f : AdcRes → AdcRes) : (onRes s c f).flows = s.flows := rfl
@[simp] theorem onRes_apertures (s : State) (c : Nat) (f : AdcRes → AdcRes) : (onRes s c f).apertures = s.apertures := rfl
@[simp] theorem onRes_sextants (s : State) (c : Nat) (f : AdcRes → AdcRes) : (onRes s c f).sextants = s.sextants := rfl
@[simp] theorem onRes_dacs (s : State) (c : Nat) (f : AdcRes → AdcRes) : (onRes s c f).dacs = s.dacs := rfl
@[simp] theorem onRes_eye (s : State) (c : Nat) (f : AdcRes → AdcRes) : (onRes s c f).eye = s.eye := rfl
@[simp] theorem onRes_hbm (s : State) (c : Nat) (f : AdcRes → AdcRes) : (onRes s c f).hbm = s.hbm := rfl
@[simp] theorem onRes_sheds (s : State) (c : Nat) (f : AdcRes → AdcRes) : (onRes s c f).sheds = s.sheds := rfl
@[simp] theorem onRes_handoff (s : State) (c : Nat) (f : AdcRes → AdcRes) : (onRes s c f).handoff = s.handoff := rfl
@[simp] theorem onRes_made (s : State) (c : Nat) (f : AdcRes → AdcRes) : (onRes s c f).made = s.made := rfl
@[simp] theorem onRes_taken (s : State) (c : Nat) (f : AdcRes → AdcRes) : (onRes s c f).taken = s.taken := rfl
@[simp] theorem onRes_plan (s : State) (c : Nat) (f : AdcRes → AdcRes) : (onRes s c f).plan = s.plan := rfl
@[simp] theorem onRes_psets (s : State) (c : Nat) (f : AdcRes → AdcRes) : (onRes s c f).psets = s.psets := rfl
@[simp] theorem onRes_admits (s : State) (c : Nat) (f : AdcRes → AdcRes) : (onRes s c f).admits = s.admits := rfl
@[simp] theorem onRes_mbx (s : State) (c : Nat) (f : AdcRes → AdcRes) : (onRes s c f).mbx = s.mbx := rfl
@[simp] theorem onRes_domes (s : State) (c : Nat) (f : AdcRes → AdcRes) : (onRes s c f).domes = s.domes := rfl
@[simp] theorem onRes_inflight (s : State) (c : Nat) (f : AdcRes → AdcRes) : (onRes s c f).inflight = s.inflight := rfl
@[simp] theorem onRes_held (s : State) (c : Nat) (f : AdcRes → AdcRes) : (onRes s c f).held = s.held := rfl
@[simp] theorem onRes_resolving (s : State) (c : Nat) (f : AdcRes → AdcRes) : (onRes s c f).resolving = s.resolving := rfl
@[simp] theorem onRes_capReads (s : State) (c : Nat) (f : AdcRes → AdcRes) : (onRes s c f).capReads = s.capReads := rfl
@[simp] theorem onRes_hostPorts (s : State) (c : Nat) (f : AdcRes → AdcRes) : (onRes s c f).hostPorts = s.hostPorts := rfl
@[simp] theorem onRes_router (s : State) (c : Nat) (f : AdcRes → AdcRes) : (onRes s c f).router = s.router := rfl
@[simp] theorem onRes_log (s : State) (c : Nat) (f : AdcRes → AdcRes) : (onRes s c f).log = s.log := rfl
@[simp] theorem onRes_meter (s : State) (c : Nat) (f : AdcRes → AdcRes) : (onRes s c f).meter = s.meter := rfl
@[simp] theorem onRes_regs (s : State) (c : Nat) (f : AdcRes → AdcRes) : (onRes s c f).regs = s.regs := rfl
@[simp] theorem onRes_dma (s : State) (c : Nat) (f : AdcRes → AdcRes) : (onRes s c f).dma = s.dma := rfl
@[simp] theorem onRes_out (s : State) (c : Nat) (f : AdcRes → AdcRes) : (onRes s c f).out = s.out := rfl
@[simp] theorem onRes_care (s : State) (c : Nat) (f : AdcRes → AdcRes) : (onRes s c f).care = s.care := rfl
@[simp] theorem onRes_boot (s : State) (c : Nat) (f : AdcRes → AdcRes) : (onRes s c f).boot = s.boot := rfl
@[simp] theorem onRes_dbg (s : State) (c : Nat) (f : AdcRes → AdcRes) : (onRes s c f).dbg = s.dbg := rfl
@[simp] theorem onRes_free (s : State) (c : Nat) (f : AdcRes → AdcRes) : (onRes s c f).free = s.free := rfl
@[simp] theorem onRes_pending (s : State) (c : Nat) (f : AdcRes → AdcRes) : (onRes s c f).pending = s.pending := rfl

@[simp] theorem onAp_dev (s : State) (a : Nat) (f : ApertureRun → ApertureRun) : (onAp s a f).dev = s.dev := rfl
@[simp] theorem onAp_time (s : State) (a : Nat) (f : ApertureRun → ApertureRun) : (onAp s a f).time = s.time := rfl
@[simp] theorem onAp_tdc (s : State) (a : Nat) (f : ApertureRun → ApertureRun) : (onAp s a f).tdc = s.tdc := rfl
@[simp] theorem onAp_pairs (s : State) (a : Nat) (f : ApertureRun → ApertureRun) : (onAp s a f).pairs = s.pairs := rfl
@[simp] theorem onAp_clk (s : State) (a : Nat) (f : ApertureRun → ApertureRun) : (onAp s a f).clk = s.clk := rfl
@[simp] theorem onAp_ports (s : State) (a : Nat) (f : ApertureRun → ApertureRun) : (onAp s a f).ports = s.ports := rfl
@[simp] theorem onAp_feeds (s : State) (a : Nat) (f : ApertureRun → ApertureRun) : (onAp s a f).feeds = s.feeds := rfl
@[simp] theorem onAp_coarse (s : State) (a : Nat) (f : ApertureRun → ApertureRun) : (onAp s a f).coarse = s.coarse := rfl
@[simp] theorem onAp_coefSets (s : State) (a : Nat) (f : ApertureRun → ApertureRun) : (onAp s a f).coefSets = s.coefSets := rfl
@[simp] theorem onAp_zooms (s : State) (a : Nat) (f : ApertureRun → ApertureRun) : (onAp s a f).zooms = s.zooms := rfl
@[simp] theorem onAp_sks (s : State) (a : Nat) (f : ApertureRun → ApertureRun) : (onAp s a f).sks = s.sks := rfl
@[simp] theorem onAp_instrs (s : State) (a : Nat) (f : ApertureRun → ApertureRun) : (onAp s a f).instrs = s.instrs := rfl
@[simp] theorem onAp_masks (s : State) (a : Nat) (f : ApertureRun → ApertureRun) : (onAp s a f).masks = s.masks := rfl
@[simp] theorem onAp_plates (s : State) (a : Nat) (f : ApertureRun → ApertureRun) : (onAp s a f).plates = s.plates := rfl
@[simp] theorem onAp_streams (s : State) (a : Nat) (f : ApertureRun → ApertureRun) : (onAp s a f).streams = s.streams := rfl
@[simp] theorem onAp_flows (s : State) (a : Nat) (f : ApertureRun → ApertureRun) : (onAp s a f).flows = s.flows := rfl
@[simp] theorem onAp_sextants (s : State) (a : Nat) (f : ApertureRun → ApertureRun) : (onAp s a f).sextants = s.sextants := rfl
@[simp] theorem onAp_adc (s : State) (a : Nat) (f : ApertureRun → ApertureRun) : (onAp s a f).adc = s.adc := rfl
@[simp] theorem onAp_dacs (s : State) (a : Nat) (f : ApertureRun → ApertureRun) : (onAp s a f).dacs = s.dacs := rfl
@[simp] theorem onAp_eye (s : State) (a : Nat) (f : ApertureRun → ApertureRun) : (onAp s a f).eye = s.eye := rfl
@[simp] theorem onAp_hbm (s : State) (a : Nat) (f : ApertureRun → ApertureRun) : (onAp s a f).hbm = s.hbm := rfl
@[simp] theorem onAp_sheds (s : State) (a : Nat) (f : ApertureRun → ApertureRun) : (onAp s a f).sheds = s.sheds := rfl
@[simp] theorem onAp_handoff (s : State) (a : Nat) (f : ApertureRun → ApertureRun) : (onAp s a f).handoff = s.handoff := rfl
@[simp] theorem onAp_made (s : State) (a : Nat) (f : ApertureRun → ApertureRun) : (onAp s a f).made = s.made := rfl
@[simp] theorem onAp_taken (s : State) (a : Nat) (f : ApertureRun → ApertureRun) : (onAp s a f).taken = s.taken := rfl
@[simp] theorem onAp_plan (s : State) (a : Nat) (f : ApertureRun → ApertureRun) : (onAp s a f).plan = s.plan := rfl
@[simp] theorem onAp_psets (s : State) (a : Nat) (f : ApertureRun → ApertureRun) : (onAp s a f).psets = s.psets := rfl
@[simp] theorem onAp_admits (s : State) (a : Nat) (f : ApertureRun → ApertureRun) : (onAp s a f).admits = s.admits := rfl
@[simp] theorem onAp_mbx (s : State) (a : Nat) (f : ApertureRun → ApertureRun) : (onAp s a f).mbx = s.mbx := rfl
@[simp] theorem onAp_domes (s : State) (a : Nat) (f : ApertureRun → ApertureRun) : (onAp s a f).domes = s.domes := rfl
@[simp] theorem onAp_inflight (s : State) (a : Nat) (f : ApertureRun → ApertureRun) : (onAp s a f).inflight = s.inflight := rfl
@[simp] theorem onAp_held (s : State) (a : Nat) (f : ApertureRun → ApertureRun) : (onAp s a f).held = s.held := rfl
@[simp] theorem onAp_resolving (s : State) (a : Nat) (f : ApertureRun → ApertureRun) : (onAp s a f).resolving = s.resolving := rfl
@[simp] theorem onAp_capReads (s : State) (a : Nat) (f : ApertureRun → ApertureRun) : (onAp s a f).capReads = s.capReads := rfl
@[simp] theorem onAp_hostPorts (s : State) (a : Nat) (f : ApertureRun → ApertureRun) : (onAp s a f).hostPorts = s.hostPorts := rfl
@[simp] theorem onAp_router (s : State) (a : Nat) (f : ApertureRun → ApertureRun) : (onAp s a f).router = s.router := rfl
@[simp] theorem onAp_log (s : State) (a : Nat) (f : ApertureRun → ApertureRun) : (onAp s a f).log = s.log := rfl
@[simp] theorem onAp_meter (s : State) (a : Nat) (f : ApertureRun → ApertureRun) : (onAp s a f).meter = s.meter := rfl
@[simp] theorem onAp_regs (s : State) (a : Nat) (f : ApertureRun → ApertureRun) : (onAp s a f).regs = s.regs := rfl
@[simp] theorem onAp_dma (s : State) (a : Nat) (f : ApertureRun → ApertureRun) : (onAp s a f).dma = s.dma := rfl
@[simp] theorem onAp_out (s : State) (a : Nat) (f : ApertureRun → ApertureRun) : (onAp s a f).out = s.out := rfl
@[simp] theorem onAp_care (s : State) (a : Nat) (f : ApertureRun → ApertureRun) : (onAp s a f).care = s.care := rfl
@[simp] theorem onAp_boot (s : State) (a : Nat) (f : ApertureRun → ApertureRun) : (onAp s a f).boot = s.boot := rfl
@[simp] theorem onAp_dbg (s : State) (a : Nat) (f : ApertureRun → ApertureRun) : (onAp s a f).dbg = s.dbg := rfl
@[simp] theorem onAp_free (s : State) (a : Nat) (f : ApertureRun → ApertureRun) : (onAp s a f).free = s.free := rfl
@[simp] theorem onAp_pending (s : State) (a : Nat) (f : ApertureRun → ApertureRun) : (onAp s a f).pending = s.pending := rfl

@[simp] theorem onCap_dev (s : State) (d i : Nat) (f : CapRun → CapRun) : (onCap s d i f).dev = s.dev := rfl
@[simp] theorem onCap_time (s : State) (d i : Nat) (f : CapRun → CapRun) : (onCap s d i f).time = s.time := rfl
@[simp] theorem onCap_tdc (s : State) (d i : Nat) (f : CapRun → CapRun) : (onCap s d i f).tdc = s.tdc := rfl
@[simp] theorem onCap_pairs (s : State) (d i : Nat) (f : CapRun → CapRun) : (onCap s d i f).pairs = s.pairs := rfl
@[simp] theorem onCap_clk (s : State) (d i : Nat) (f : CapRun → CapRun) : (onCap s d i f).clk = s.clk := rfl
@[simp] theorem onCap_ports (s : State) (d i : Nat) (f : CapRun → CapRun) : (onCap s d i f).ports = s.ports := rfl
@[simp] theorem onCap_feeds (s : State) (d i : Nat) (f : CapRun → CapRun) : (onCap s d i f).feeds = s.feeds := rfl
@[simp] theorem onCap_coarse (s : State) (d i : Nat) (f : CapRun → CapRun) : (onCap s d i f).coarse = s.coarse := rfl
@[simp] theorem onCap_coefSets (s : State) (d i : Nat) (f : CapRun → CapRun) : (onCap s d i f).coefSets = s.coefSets := rfl
@[simp] theorem onCap_zooms (s : State) (d i : Nat) (f : CapRun → CapRun) : (onCap s d i f).zooms = s.zooms := rfl
@[simp] theorem onCap_sks (s : State) (d i : Nat) (f : CapRun → CapRun) : (onCap s d i f).sks = s.sks := rfl
@[simp] theorem onCap_masks (s : State) (d i : Nat) (f : CapRun → CapRun) : (onCap s d i f).masks = s.masks := rfl
@[simp] theorem onCap_plates (s : State) (d i : Nat) (f : CapRun → CapRun) : (onCap s d i f).plates = s.plates := rfl
@[simp] theorem onCap_streams (s : State) (d i : Nat) (f : CapRun → CapRun) : (onCap s d i f).streams = s.streams := rfl
@[simp] theorem onCap_flows (s : State) (d i : Nat) (f : CapRun → CapRun) : (onCap s d i f).flows = s.flows := rfl
@[simp] theorem onCap_apertures (s : State) (d i : Nat) (f : CapRun → CapRun) : (onCap s d i f).apertures = s.apertures := rfl
@[simp] theorem onCap_sextants (s : State) (d i : Nat) (f : CapRun → CapRun) : (onCap s d i f).sextants = s.sextants := rfl
@[simp] theorem onCap_adc (s : State) (d i : Nat) (f : CapRun → CapRun) : (onCap s d i f).adc = s.adc := rfl
@[simp] theorem onCap_dacs (s : State) (d i : Nat) (f : CapRun → CapRun) : (onCap s d i f).dacs = s.dacs := rfl
@[simp] theorem onCap_eye (s : State) (d i : Nat) (f : CapRun → CapRun) : (onCap s d i f).eye = s.eye := rfl
@[simp] theorem onCap_hbm (s : State) (d i : Nat) (f : CapRun → CapRun) : (onCap s d i f).hbm = s.hbm := rfl
@[simp] theorem onCap_sheds (s : State) (d i : Nat) (f : CapRun → CapRun) : (onCap s d i f).sheds = s.sheds := rfl
@[simp] theorem onCap_handoff (s : State) (d i : Nat) (f : CapRun → CapRun) : (onCap s d i f).handoff = s.handoff := rfl
@[simp] theorem onCap_made (s : State) (d i : Nat) (f : CapRun → CapRun) : (onCap s d i f).made = s.made := rfl
@[simp] theorem onCap_taken (s : State) (d i : Nat) (f : CapRun → CapRun) : (onCap s d i f).taken = s.taken := rfl
@[simp] theorem onCap_plan (s : State) (d i : Nat) (f : CapRun → CapRun) : (onCap s d i f).plan = s.plan := rfl
@[simp] theorem onCap_psets (s : State) (d i : Nat) (f : CapRun → CapRun) : (onCap s d i f).psets = s.psets := rfl
@[simp] theorem onCap_admits (s : State) (d i : Nat) (f : CapRun → CapRun) : (onCap s d i f).admits = s.admits := rfl
@[simp] theorem onCap_mbx (s : State) (d i : Nat) (f : CapRun → CapRun) : (onCap s d i f).mbx = s.mbx := rfl
@[simp] theorem onCap_domes (s : State) (d i : Nat) (f : CapRun → CapRun) : (onCap s d i f).domes = s.domes := rfl
@[simp] theorem onCap_inflight (s : State) (d i : Nat) (f : CapRun → CapRun) : (onCap s d i f).inflight = s.inflight := rfl
@[simp] theorem onCap_held (s : State) (d i : Nat) (f : CapRun → CapRun) : (onCap s d i f).held = s.held := rfl
@[simp] theorem onCap_resolving (s : State) (d i : Nat) (f : CapRun → CapRun) : (onCap s d i f).resolving = s.resolving := rfl
@[simp] theorem onCap_capReads (s : State) (d i : Nat) (f : CapRun → CapRun) : (onCap s d i f).capReads = s.capReads := rfl
@[simp] theorem onCap_hostPorts (s : State) (d i : Nat) (f : CapRun → CapRun) : (onCap s d i f).hostPorts = s.hostPorts := rfl
@[simp] theorem onCap_router (s : State) (d i : Nat) (f : CapRun → CapRun) : (onCap s d i f).router = s.router := rfl
@[simp] theorem onCap_log (s : State) (d i : Nat) (f : CapRun → CapRun) : (onCap s d i f).log = s.log := rfl
@[simp] theorem onCap_meter (s : State) (d i : Nat) (f : CapRun → CapRun) : (onCap s d i f).meter = s.meter := rfl
@[simp] theorem onCap_regs (s : State) (d i : Nat) (f : CapRun → CapRun) : (onCap s d i f).regs = s.regs := rfl
@[simp] theorem onCap_dma (s : State) (d i : Nat) (f : CapRun → CapRun) : (onCap s d i f).dma = s.dma := rfl
@[simp] theorem onCap_out (s : State) (d i : Nat) (f : CapRun → CapRun) : (onCap s d i f).out = s.out := rfl
@[simp] theorem onCap_care (s : State) (d i : Nat) (f : CapRun → CapRun) : (onCap s d i f).care = s.care := rfl
@[simp] theorem onCap_boot (s : State) (d i : Nat) (f : CapRun → CapRun) : (onCap s d i f).boot = s.boot := rfl
@[simp] theorem onCap_dbg (s : State) (d i : Nat) (f : CapRun → CapRun) : (onCap s d i f).dbg = s.dbg := rfl
@[simp] theorem onCap_free (s : State) (d i : Nat) (f : CapRun → CapRun) : (onCap s d i f).free = s.free := rfl
@[simp] theorem onCap_pending (s : State) (d i : Nat) (f : CapRun → CapRun) : (onCap s d i f).pending = s.pending := rfl

@[simp] theorem onSk_dev (s : State) (k : Nat × Nat) (f : SkRun → SkRun) : (onSk s k f).dev = s.dev := rfl
@[simp] theorem onSk_time (s : State) (k : Nat × Nat) (f : SkRun → SkRun) : (onSk s k f).time = s.time := rfl
@[simp] theorem onSk_tdc (s : State) (k : Nat × Nat) (f : SkRun → SkRun) : (onSk s k f).tdc = s.tdc := rfl
@[simp] theorem onSk_pairs (s : State) (k : Nat × Nat) (f : SkRun → SkRun) : (onSk s k f).pairs = s.pairs := rfl
@[simp] theorem onSk_clk (s : State) (k : Nat × Nat) (f : SkRun → SkRun) : (onSk s k f).clk = s.clk := rfl
@[simp] theorem onSk_ports (s : State) (k : Nat × Nat) (f : SkRun → SkRun) : (onSk s k f).ports = s.ports := rfl
@[simp] theorem onSk_feeds (s : State) (k : Nat × Nat) (f : SkRun → SkRun) : (onSk s k f).feeds = s.feeds := rfl
@[simp] theorem onSk_coarse (s : State) (k : Nat × Nat) (f : SkRun → SkRun) : (onSk s k f).coarse = s.coarse := rfl
@[simp] theorem onSk_coefSets (s : State) (k : Nat × Nat) (f : SkRun → SkRun) : (onSk s k f).coefSets = s.coefSets := rfl
@[simp] theorem onSk_zooms (s : State) (k : Nat × Nat) (f : SkRun → SkRun) : (onSk s k f).zooms = s.zooms := rfl
@[simp] theorem onSk_instrs (s : State) (k : Nat × Nat) (f : SkRun → SkRun) : (onSk s k f).instrs = s.instrs := rfl
@[simp] theorem onSk_masks (s : State) (k : Nat × Nat) (f : SkRun → SkRun) : (onSk s k f).masks = s.masks := rfl
@[simp] theorem onSk_plates (s : State) (k : Nat × Nat) (f : SkRun → SkRun) : (onSk s k f).plates = s.plates := rfl
@[simp] theorem onSk_streams (s : State) (k : Nat × Nat) (f : SkRun → SkRun) : (onSk s k f).streams = s.streams := rfl
@[simp] theorem onSk_flows (s : State) (k : Nat × Nat) (f : SkRun → SkRun) : (onSk s k f).flows = s.flows := rfl
@[simp] theorem onSk_apertures (s : State) (k : Nat × Nat) (f : SkRun → SkRun) : (onSk s k f).apertures = s.apertures := rfl
@[simp] theorem onSk_sextants (s : State) (k : Nat × Nat) (f : SkRun → SkRun) : (onSk s k f).sextants = s.sextants := rfl
@[simp] theorem onSk_adc (s : State) (k : Nat × Nat) (f : SkRun → SkRun) : (onSk s k f).adc = s.adc := rfl
@[simp] theorem onSk_dacs (s : State) (k : Nat × Nat) (f : SkRun → SkRun) : (onSk s k f).dacs = s.dacs := rfl
@[simp] theorem onSk_eye (s : State) (k : Nat × Nat) (f : SkRun → SkRun) : (onSk s k f).eye = s.eye := rfl
@[simp] theorem onSk_hbm (s : State) (k : Nat × Nat) (f : SkRun → SkRun) : (onSk s k f).hbm = s.hbm := rfl
@[simp] theorem onSk_sheds (s : State) (k : Nat × Nat) (f : SkRun → SkRun) : (onSk s k f).sheds = s.sheds := rfl
@[simp] theorem onSk_handoff (s : State) (k : Nat × Nat) (f : SkRun → SkRun) : (onSk s k f).handoff = s.handoff := rfl
@[simp] theorem onSk_made (s : State) (k : Nat × Nat) (f : SkRun → SkRun) : (onSk s k f).made = s.made := rfl
@[simp] theorem onSk_taken (s : State) (k : Nat × Nat) (f : SkRun → SkRun) : (onSk s k f).taken = s.taken := rfl
@[simp] theorem onSk_plan (s : State) (k : Nat × Nat) (f : SkRun → SkRun) : (onSk s k f).plan = s.plan := rfl
@[simp] theorem onSk_psets (s : State) (k : Nat × Nat) (f : SkRun → SkRun) : (onSk s k f).psets = s.psets := rfl
@[simp] theorem onSk_admits (s : State) (k : Nat × Nat) (f : SkRun → SkRun) : (onSk s k f).admits = s.admits := rfl
@[simp] theorem onSk_mbx (s : State) (k : Nat × Nat) (f : SkRun → SkRun) : (onSk s k f).mbx = s.mbx := rfl
@[simp] theorem onSk_domes (s : State) (k : Nat × Nat) (f : SkRun → SkRun) : (onSk s k f).domes = s.domes := rfl
@[simp] theorem onSk_inflight (s : State) (k : Nat × Nat) (f : SkRun → SkRun) : (onSk s k f).inflight = s.inflight := rfl
@[simp] theorem onSk_held (s : State) (k : Nat × Nat) (f : SkRun → SkRun) : (onSk s k f).held = s.held := rfl
@[simp] theorem onSk_resolving (s : State) (k : Nat × Nat) (f : SkRun → SkRun) : (onSk s k f).resolving = s.resolving := rfl
@[simp] theorem onSk_capReads (s : State) (k : Nat × Nat) (f : SkRun → SkRun) : (onSk s k f).capReads = s.capReads := rfl
@[simp] theorem onSk_hostPorts (s : State) (k : Nat × Nat) (f : SkRun → SkRun) : (onSk s k f).hostPorts = s.hostPorts := rfl
@[simp] theorem onSk_router (s : State) (k : Nat × Nat) (f : SkRun → SkRun) : (onSk s k f).router = s.router := rfl
@[simp] theorem onSk_log (s : State) (k : Nat × Nat) (f : SkRun → SkRun) : (onSk s k f).log = s.log := rfl
@[simp] theorem onSk_meter (s : State) (k : Nat × Nat) (f : SkRun → SkRun) : (onSk s k f).meter = s.meter := rfl
@[simp] theorem onSk_regs (s : State) (k : Nat × Nat) (f : SkRun → SkRun) : (onSk s k f).regs = s.regs := rfl
@[simp] theorem onSk_dma (s : State) (k : Nat × Nat) (f : SkRun → SkRun) : (onSk s k f).dma = s.dma := rfl
@[simp] theorem onSk_out (s : State) (k : Nat × Nat) (f : SkRun → SkRun) : (onSk s k f).out = s.out := rfl
@[simp] theorem onSk_care (s : State) (k : Nat × Nat) (f : SkRun → SkRun) : (onSk s k f).care = s.care := rfl
@[simp] theorem onSk_boot (s : State) (k : Nat × Nat) (f : SkRun → SkRun) : (onSk s k f).boot = s.boot := rfl
@[simp] theorem onSk_dbg (s : State) (k : Nat × Nat) (f : SkRun → SkRun) : (onSk s k f).dbg = s.dbg := rfl
@[simp] theorem onSk_free (s : State) (k : Nat × Nat) (f : SkRun → SkRun) : (onSk s k f).free = s.free := rfl
@[simp] theorem onSk_pending (s : State) (k : Nat × Nat) (f : SkRun → SkRun) : (onSk s k f).pending = s.pending := rfl

@[simp] theorem onDebug_dev (s : State) (f : DebugSt → DebugSt) : (onDebug s f).dev = s.dev := rfl
@[simp] theorem onDebug_time (s : State) (f : DebugSt → DebugSt) : (onDebug s f).time = s.time := rfl
@[simp] theorem onDebug_tdc (s : State) (f : DebugSt → DebugSt) : (onDebug s f).tdc = s.tdc := rfl
@[simp] theorem onDebug_pairs (s : State) (f : DebugSt → DebugSt) : (onDebug s f).pairs = s.pairs := rfl
@[simp] theorem onDebug_clk (s : State) (f : DebugSt → DebugSt) : (onDebug s f).clk = s.clk := rfl
@[simp] theorem onDebug_ports (s : State) (f : DebugSt → DebugSt) : (onDebug s f).ports = s.ports := rfl
@[simp] theorem onDebug_feeds (s : State) (f : DebugSt → DebugSt) : (onDebug s f).feeds = s.feeds := rfl
@[simp] theorem onDebug_coarse (s : State) (f : DebugSt → DebugSt) : (onDebug s f).coarse = s.coarse := rfl
@[simp] theorem onDebug_coefSets (s : State) (f : DebugSt → DebugSt) : (onDebug s f).coefSets = s.coefSets := rfl
@[simp] theorem onDebug_zooms (s : State) (f : DebugSt → DebugSt) : (onDebug s f).zooms = s.zooms := rfl
@[simp] theorem onDebug_sks (s : State) (f : DebugSt → DebugSt) : (onDebug s f).sks = s.sks := rfl
@[simp] theorem onDebug_instrs (s : State) (f : DebugSt → DebugSt) : (onDebug s f).instrs = s.instrs := rfl
@[simp] theorem onDebug_masks (s : State) (f : DebugSt → DebugSt) : (onDebug s f).masks = s.masks := rfl
@[simp] theorem onDebug_plates (s : State) (f : DebugSt → DebugSt) : (onDebug s f).plates = s.plates := rfl
@[simp] theorem onDebug_streams (s : State) (f : DebugSt → DebugSt) : (onDebug s f).streams = s.streams := rfl
@[simp] theorem onDebug_flows (s : State) (f : DebugSt → DebugSt) : (onDebug s f).flows = s.flows := rfl
@[simp] theorem onDebug_apertures (s : State) (f : DebugSt → DebugSt) : (onDebug s f).apertures = s.apertures := rfl
@[simp] theorem onDebug_sextants (s : State) (f : DebugSt → DebugSt) : (onDebug s f).sextants = s.sextants := rfl
@[simp] theorem onDebug_adc (s : State) (f : DebugSt → DebugSt) : (onDebug s f).adc = s.adc := rfl
@[simp] theorem onDebug_dacs (s : State) (f : DebugSt → DebugSt) : (onDebug s f).dacs = s.dacs := rfl
@[simp] theorem onDebug_eye (s : State) (f : DebugSt → DebugSt) : (onDebug s f).eye = s.eye := rfl
@[simp] theorem onDebug_hbm (s : State) (f : DebugSt → DebugSt) : (onDebug s f).hbm = s.hbm := rfl
@[simp] theorem onDebug_sheds (s : State) (f : DebugSt → DebugSt) : (onDebug s f).sheds = s.sheds := rfl
@[simp] theorem onDebug_handoff (s : State) (f : DebugSt → DebugSt) : (onDebug s f).handoff = s.handoff := rfl
@[simp] theorem onDebug_made (s : State) (f : DebugSt → DebugSt) : (onDebug s f).made = s.made := rfl
@[simp] theorem onDebug_taken (s : State) (f : DebugSt → DebugSt) : (onDebug s f).taken = s.taken := rfl
@[simp] theorem onDebug_plan (s : State) (f : DebugSt → DebugSt) : (onDebug s f).plan = s.plan := rfl
@[simp] theorem onDebug_psets (s : State) (f : DebugSt → DebugSt) : (onDebug s f).psets = s.psets := rfl
@[simp] theorem onDebug_admits (s : State) (f : DebugSt → DebugSt) : (onDebug s f).admits = s.admits := rfl
@[simp] theorem onDebug_mbx (s : State) (f : DebugSt → DebugSt) : (onDebug s f).mbx = s.mbx := rfl
@[simp] theorem onDebug_domes (s : State) (f : DebugSt → DebugSt) : (onDebug s f).domes = s.domes := rfl
@[simp] theorem onDebug_inflight (s : State) (f : DebugSt → DebugSt) : (onDebug s f).inflight = s.inflight := rfl
@[simp] theorem onDebug_held (s : State) (f : DebugSt → DebugSt) : (onDebug s f).held = s.held := rfl
@[simp] theorem onDebug_resolving (s : State) (f : DebugSt → DebugSt) : (onDebug s f).resolving = s.resolving := rfl
@[simp] theorem onDebug_capReads (s : State) (f : DebugSt → DebugSt) : (onDebug s f).capReads = s.capReads := rfl
@[simp] theorem onDebug_hostPorts (s : State) (f : DebugSt → DebugSt) : (onDebug s f).hostPorts = s.hostPorts := rfl
@[simp] theorem onDebug_router (s : State) (f : DebugSt → DebugSt) : (onDebug s f).router = s.router := rfl
@[simp] theorem onDebug_log (s : State) (f : DebugSt → DebugSt) : (onDebug s f).log = s.log := rfl
@[simp] theorem onDebug_meter (s : State) (f : DebugSt → DebugSt) : (onDebug s f).meter = s.meter := rfl
@[simp] theorem onDebug_regs (s : State) (f : DebugSt → DebugSt) : (onDebug s f).regs = s.regs := rfl
@[simp] theorem onDebug_dma (s : State) (f : DebugSt → DebugSt) : (onDebug s f).dma = s.dma := rfl
@[simp] theorem onDebug_out (s : State) (f : DebugSt → DebugSt) : (onDebug s f).out = s.out := rfl
@[simp] theorem onDebug_care (s : State) (f : DebugSt → DebugSt) : (onDebug s f).care = s.care := rfl
@[simp] theorem onDebug_boot (s : State) (f : DebugSt → DebugSt) : (onDebug s f).boot = s.boot := rfl
@[simp] theorem onDebug_free (s : State) (f : DebugSt → DebugSt) : (onDebug s f).free = s.free := rfl
@[simp] theorem onDebug_pending (s : State) (f : DebugSt → DebugSt) : (onDebug s f).pending = s.pending := rfl

@[simp] theorem onCp_dev (s : State) (k : Nat) (f : CpDebug → CpDebug) : (onCp s k f).dev = s.dev := rfl
@[simp] theorem onCp_time (s : State) (k : Nat) (f : CpDebug → CpDebug) : (onCp s k f).time = s.time := rfl
@[simp] theorem onCp_tdc (s : State) (k : Nat) (f : CpDebug → CpDebug) : (onCp s k f).tdc = s.tdc := rfl
@[simp] theorem onCp_pairs (s : State) (k : Nat) (f : CpDebug → CpDebug) : (onCp s k f).pairs = s.pairs := rfl
@[simp] theorem onCp_clk (s : State) (k : Nat) (f : CpDebug → CpDebug) : (onCp s k f).clk = s.clk := rfl
@[simp] theorem onCp_ports (s : State) (k : Nat) (f : CpDebug → CpDebug) : (onCp s k f).ports = s.ports := rfl
@[simp] theorem onCp_feeds (s : State) (k : Nat) (f : CpDebug → CpDebug) : (onCp s k f).feeds = s.feeds := rfl
@[simp] theorem onCp_coarse (s : State) (k : Nat) (f : CpDebug → CpDebug) : (onCp s k f).coarse = s.coarse := rfl
@[simp] theorem onCp_coefSets (s : State) (k : Nat) (f : CpDebug → CpDebug) : (onCp s k f).coefSets = s.coefSets := rfl
@[simp] theorem onCp_zooms (s : State) (k : Nat) (f : CpDebug → CpDebug) : (onCp s k f).zooms = s.zooms := rfl
@[simp] theorem onCp_sks (s : State) (k : Nat) (f : CpDebug → CpDebug) : (onCp s k f).sks = s.sks := rfl
@[simp] theorem onCp_instrs (s : State) (k : Nat) (f : CpDebug → CpDebug) : (onCp s k f).instrs = s.instrs := rfl
@[simp] theorem onCp_masks (s : State) (k : Nat) (f : CpDebug → CpDebug) : (onCp s k f).masks = s.masks := rfl
@[simp] theorem onCp_plates (s : State) (k : Nat) (f : CpDebug → CpDebug) : (onCp s k f).plates = s.plates := rfl
@[simp] theorem onCp_streams (s : State) (k : Nat) (f : CpDebug → CpDebug) : (onCp s k f).streams = s.streams := rfl
@[simp] theorem onCp_flows (s : State) (k : Nat) (f : CpDebug → CpDebug) : (onCp s k f).flows = s.flows := rfl
@[simp] theorem onCp_apertures (s : State) (k : Nat) (f : CpDebug → CpDebug) : (onCp s k f).apertures = s.apertures := rfl
@[simp] theorem onCp_sextants (s : State) (k : Nat) (f : CpDebug → CpDebug) : (onCp s k f).sextants = s.sextants := rfl
@[simp] theorem onCp_adc (s : State) (k : Nat) (f : CpDebug → CpDebug) : (onCp s k f).adc = s.adc := rfl
@[simp] theorem onCp_dacs (s : State) (k : Nat) (f : CpDebug → CpDebug) : (onCp s k f).dacs = s.dacs := rfl
@[simp] theorem onCp_eye (s : State) (k : Nat) (f : CpDebug → CpDebug) : (onCp s k f).eye = s.eye := rfl
@[simp] theorem onCp_hbm (s : State) (k : Nat) (f : CpDebug → CpDebug) : (onCp s k f).hbm = s.hbm := rfl
@[simp] theorem onCp_sheds (s : State) (k : Nat) (f : CpDebug → CpDebug) : (onCp s k f).sheds = s.sheds := rfl
@[simp] theorem onCp_handoff (s : State) (k : Nat) (f : CpDebug → CpDebug) : (onCp s k f).handoff = s.handoff := rfl
@[simp] theorem onCp_made (s : State) (k : Nat) (f : CpDebug → CpDebug) : (onCp s k f).made = s.made := rfl
@[simp] theorem onCp_taken (s : State) (k : Nat) (f : CpDebug → CpDebug) : (onCp s k f).taken = s.taken := rfl
@[simp] theorem onCp_plan (s : State) (k : Nat) (f : CpDebug → CpDebug) : (onCp s k f).plan = s.plan := rfl
@[simp] theorem onCp_psets (s : State) (k : Nat) (f : CpDebug → CpDebug) : (onCp s k f).psets = s.psets := rfl
@[simp] theorem onCp_admits (s : State) (k : Nat) (f : CpDebug → CpDebug) : (onCp s k f).admits = s.admits := rfl
@[simp] theorem onCp_mbx (s : State) (k : Nat) (f : CpDebug → CpDebug) : (onCp s k f).mbx = s.mbx := rfl
@[simp] theorem onCp_domes (s : State) (k : Nat) (f : CpDebug → CpDebug) : (onCp s k f).domes = s.domes := rfl
@[simp] theorem onCp_inflight (s : State) (k : Nat) (f : CpDebug → CpDebug) : (onCp s k f).inflight = s.inflight := rfl
@[simp] theorem onCp_held (s : State) (k : Nat) (f : CpDebug → CpDebug) : (onCp s k f).held = s.held := rfl
@[simp] theorem onCp_resolving (s : State) (k : Nat) (f : CpDebug → CpDebug) : (onCp s k f).resolving = s.resolving := rfl
@[simp] theorem onCp_capReads (s : State) (k : Nat) (f : CpDebug → CpDebug) : (onCp s k f).capReads = s.capReads := rfl
@[simp] theorem onCp_hostPorts (s : State) (k : Nat) (f : CpDebug → CpDebug) : (onCp s k f).hostPorts = s.hostPorts := rfl
@[simp] theorem onCp_router (s : State) (k : Nat) (f : CpDebug → CpDebug) : (onCp s k f).router = s.router := rfl
@[simp] theorem onCp_log (s : State) (k : Nat) (f : CpDebug → CpDebug) : (onCp s k f).log = s.log := rfl
@[simp] theorem onCp_meter (s : State) (k : Nat) (f : CpDebug → CpDebug) : (onCp s k f).meter = s.meter := rfl
@[simp] theorem onCp_regs (s : State) (k : Nat) (f : CpDebug → CpDebug) : (onCp s k f).regs = s.regs := rfl
@[simp] theorem onCp_dma (s : State) (k : Nat) (f : CpDebug → CpDebug) : (onCp s k f).dma = s.dma := rfl
@[simp] theorem onCp_out (s : State) (k : Nat) (f : CpDebug → CpDebug) : (onCp s k f).out = s.out := rfl
@[simp] theorem onCp_care (s : State) (k : Nat) (f : CpDebug → CpDebug) : (onCp s k f).care = s.care := rfl
@[simp] theorem onCp_boot (s : State) (k : Nat) (f : CpDebug → CpDebug) : (onCp s k f).boot = s.boot := rfl
@[simp] theorem onCp_free (s : State) (k : Nat) (f : CpDebug → CpDebug) : (onCp s k f).free = s.free := rfl
@[simp] theorem onCp_pending (s : State) (k : Nat) (f : CpDebug → CpDebug) : (onCp s k f).pending = s.pending := rfl

@[simp] theorem onDma_dev (s : State) (f : Fn) (ch : Nat) (g : DmaCh → DmaCh) : (onDma s f ch g).dev = s.dev := rfl
@[simp] theorem onDma_time (s : State) (f : Fn) (ch : Nat) (g : DmaCh → DmaCh) : (onDma s f ch g).time = s.time := rfl
@[simp] theorem onDma_tdc (s : State) (f : Fn) (ch : Nat) (g : DmaCh → DmaCh) : (onDma s f ch g).tdc = s.tdc := rfl
@[simp] theorem onDma_pairs (s : State) (f : Fn) (ch : Nat) (g : DmaCh → DmaCh) : (onDma s f ch g).pairs = s.pairs := rfl
@[simp] theorem onDma_clk (s : State) (f : Fn) (ch : Nat) (g : DmaCh → DmaCh) : (onDma s f ch g).clk = s.clk := rfl
@[simp] theorem onDma_ports (s : State) (f : Fn) (ch : Nat) (g : DmaCh → DmaCh) : (onDma s f ch g).ports = s.ports := rfl
@[simp] theorem onDma_feeds (s : State) (f : Fn) (ch : Nat) (g : DmaCh → DmaCh) : (onDma s f ch g).feeds = s.feeds := rfl
@[simp] theorem onDma_coarse (s : State) (f : Fn) (ch : Nat) (g : DmaCh → DmaCh) : (onDma s f ch g).coarse = s.coarse := rfl
@[simp] theorem onDma_coefSets (s : State) (f : Fn) (ch : Nat) (g : DmaCh → DmaCh) : (onDma s f ch g).coefSets = s.coefSets := rfl
@[simp] theorem onDma_zooms (s : State) (f : Fn) (ch : Nat) (g : DmaCh → DmaCh) : (onDma s f ch g).zooms = s.zooms := rfl
@[simp] theorem onDma_sks (s : State) (f : Fn) (ch : Nat) (g : DmaCh → DmaCh) : (onDma s f ch g).sks = s.sks := rfl
@[simp] theorem onDma_instrs (s : State) (f : Fn) (ch : Nat) (g : DmaCh → DmaCh) : (onDma s f ch g).instrs = s.instrs := rfl
@[simp] theorem onDma_masks (s : State) (f : Fn) (ch : Nat) (g : DmaCh → DmaCh) : (onDma s f ch g).masks = s.masks := rfl
@[simp] theorem onDma_plates (s : State) (f : Fn) (ch : Nat) (g : DmaCh → DmaCh) : (onDma s f ch g).plates = s.plates := rfl
@[simp] theorem onDma_streams (s : State) (f : Fn) (ch : Nat) (g : DmaCh → DmaCh) : (onDma s f ch g).streams = s.streams := rfl
@[simp] theorem onDma_flows (s : State) (f : Fn) (ch : Nat) (g : DmaCh → DmaCh) : (onDma s f ch g).flows = s.flows := rfl
@[simp] theorem onDma_apertures (s : State) (f : Fn) (ch : Nat) (g : DmaCh → DmaCh) : (onDma s f ch g).apertures = s.apertures := rfl
@[simp] theorem onDma_sextants (s : State) (f : Fn) (ch : Nat) (g : DmaCh → DmaCh) : (onDma s f ch g).sextants = s.sextants := rfl
@[simp] theorem onDma_adc (s : State) (f : Fn) (ch : Nat) (g : DmaCh → DmaCh) : (onDma s f ch g).adc = s.adc := rfl
@[simp] theorem onDma_dacs (s : State) (f : Fn) (ch : Nat) (g : DmaCh → DmaCh) : (onDma s f ch g).dacs = s.dacs := rfl
@[simp] theorem onDma_eye (s : State) (f : Fn) (ch : Nat) (g : DmaCh → DmaCh) : (onDma s f ch g).eye = s.eye := rfl
@[simp] theorem onDma_hbm (s : State) (f : Fn) (ch : Nat) (g : DmaCh → DmaCh) : (onDma s f ch g).hbm = s.hbm := rfl
@[simp] theorem onDma_sheds (s : State) (f : Fn) (ch : Nat) (g : DmaCh → DmaCh) : (onDma s f ch g).sheds = s.sheds := rfl
@[simp] theorem onDma_handoff (s : State) (f : Fn) (ch : Nat) (g : DmaCh → DmaCh) : (onDma s f ch g).handoff = s.handoff := rfl
@[simp] theorem onDma_made (s : State) (f : Fn) (ch : Nat) (g : DmaCh → DmaCh) : (onDma s f ch g).made = s.made := rfl
@[simp] theorem onDma_taken (s : State) (f : Fn) (ch : Nat) (g : DmaCh → DmaCh) : (onDma s f ch g).taken = s.taken := rfl
@[simp] theorem onDma_plan (s : State) (f : Fn) (ch : Nat) (g : DmaCh → DmaCh) : (onDma s f ch g).plan = s.plan := rfl
@[simp] theorem onDma_psets (s : State) (f : Fn) (ch : Nat) (g : DmaCh → DmaCh) : (onDma s f ch g).psets = s.psets := rfl
@[simp] theorem onDma_admits (s : State) (f : Fn) (ch : Nat) (g : DmaCh → DmaCh) : (onDma s f ch g).admits = s.admits := rfl
@[simp] theorem onDma_mbx (s : State) (f : Fn) (ch : Nat) (g : DmaCh → DmaCh) : (onDma s f ch g).mbx = s.mbx := rfl
@[simp] theorem onDma_domes (s : State) (f : Fn) (ch : Nat) (g : DmaCh → DmaCh) : (onDma s f ch g).domes = s.domes := rfl
@[simp] theorem onDma_inflight (s : State) (f : Fn) (ch : Nat) (g : DmaCh → DmaCh) : (onDma s f ch g).inflight = s.inflight := rfl
@[simp] theorem onDma_held (s : State) (f : Fn) (ch : Nat) (g : DmaCh → DmaCh) : (onDma s f ch g).held = s.held := rfl
@[simp] theorem onDma_resolving (s : State) (f : Fn) (ch : Nat) (g : DmaCh → DmaCh) : (onDma s f ch g).resolving = s.resolving := rfl
@[simp] theorem onDma_capReads (s : State) (f : Fn) (ch : Nat) (g : DmaCh → DmaCh) : (onDma s f ch g).capReads = s.capReads := rfl
@[simp] theorem onDma_hostPorts (s : State) (f : Fn) (ch : Nat) (g : DmaCh → DmaCh) : (onDma s f ch g).hostPorts = s.hostPorts := rfl
@[simp] theorem onDma_router (s : State) (f : Fn) (ch : Nat) (g : DmaCh → DmaCh) : (onDma s f ch g).router = s.router := rfl
@[simp] theorem onDma_log (s : State) (f : Fn) (ch : Nat) (g : DmaCh → DmaCh) : (onDma s f ch g).log = s.log := rfl
@[simp] theorem onDma_meter (s : State) (f : Fn) (ch : Nat) (g : DmaCh → DmaCh) : (onDma s f ch g).meter = s.meter := rfl
@[simp] theorem onDma_regs (s : State) (f : Fn) (ch : Nat) (g : DmaCh → DmaCh) : (onDma s f ch g).regs = s.regs := rfl
@[simp] theorem onDma_out (s : State) (f : Fn) (ch : Nat) (g : DmaCh → DmaCh) : (onDma s f ch g).out = s.out := rfl
@[simp] theorem onDma_care (s : State) (f : Fn) (ch : Nat) (g : DmaCh → DmaCh) : (onDma s f ch g).care = s.care := rfl
@[simp] theorem onDma_boot (s : State) (f : Fn) (ch : Nat) (g : DmaCh → DmaCh) : (onDma s f ch g).boot = s.boot := rfl
@[simp] theorem onDma_dbg (s : State) (f : Fn) (ch : Nat) (g : DmaCh → DmaCh) : (onDma s f ch g).dbg = s.dbg := rfl
@[simp] theorem onDma_free (s : State) (f : Fn) (ch : Nat) (g : DmaCh → DmaCh) : (onDma s f ch g).free = s.free := rfl
@[simp] theorem onDma_pending (s : State) (f : Fn) (ch : Nat) (g : DmaCh → DmaCh) : (onDma s f ch g).pending = s.pending := rfl

@[simp] theorem onHost_dev (s : State) (h : Nat) (f : HostPort → HostPort) : (onHost s h f).dev = s.dev := rfl
@[simp] theorem onHost_time (s : State) (h : Nat) (f : HostPort → HostPort) : (onHost s h f).time = s.time := rfl
@[simp] theorem onHost_tdc (s : State) (h : Nat) (f : HostPort → HostPort) : (onHost s h f).tdc = s.tdc := rfl
@[simp] theorem onHost_pairs (s : State) (h : Nat) (f : HostPort → HostPort) : (onHost s h f).pairs = s.pairs := rfl
@[simp] theorem onHost_clk (s : State) (h : Nat) (f : HostPort → HostPort) : (onHost s h f).clk = s.clk := rfl
@[simp] theorem onHost_ports (s : State) (h : Nat) (f : HostPort → HostPort) : (onHost s h f).ports = s.ports := rfl
@[simp] theorem onHost_feeds (s : State) (h : Nat) (f : HostPort → HostPort) : (onHost s h f).feeds = s.feeds := rfl
@[simp] theorem onHost_coarse (s : State) (h : Nat) (f : HostPort → HostPort) : (onHost s h f).coarse = s.coarse := rfl
@[simp] theorem onHost_coefSets (s : State) (h : Nat) (f : HostPort → HostPort) : (onHost s h f).coefSets = s.coefSets := rfl
@[simp] theorem onHost_zooms (s : State) (h : Nat) (f : HostPort → HostPort) : (onHost s h f).zooms = s.zooms := rfl
@[simp] theorem onHost_sks (s : State) (h : Nat) (f : HostPort → HostPort) : (onHost s h f).sks = s.sks := rfl
@[simp] theorem onHost_instrs (s : State) (h : Nat) (f : HostPort → HostPort) : (onHost s h f).instrs = s.instrs := rfl
@[simp] theorem onHost_masks (s : State) (h : Nat) (f : HostPort → HostPort) : (onHost s h f).masks = s.masks := rfl
@[simp] theorem onHost_plates (s : State) (h : Nat) (f : HostPort → HostPort) : (onHost s h f).plates = s.plates := rfl
@[simp] theorem onHost_streams (s : State) (h : Nat) (f : HostPort → HostPort) : (onHost s h f).streams = s.streams := rfl
@[simp] theorem onHost_flows (s : State) (h : Nat) (f : HostPort → HostPort) : (onHost s h f).flows = s.flows := rfl
@[simp] theorem onHost_apertures (s : State) (h : Nat) (f : HostPort → HostPort) : (onHost s h f).apertures = s.apertures := rfl
@[simp] theorem onHost_sextants (s : State) (h : Nat) (f : HostPort → HostPort) : (onHost s h f).sextants = s.sextants := rfl
@[simp] theorem onHost_adc (s : State) (h : Nat) (f : HostPort → HostPort) : (onHost s h f).adc = s.adc := rfl
@[simp] theorem onHost_dacs (s : State) (h : Nat) (f : HostPort → HostPort) : (onHost s h f).dacs = s.dacs := rfl
@[simp] theorem onHost_eye (s : State) (h : Nat) (f : HostPort → HostPort) : (onHost s h f).eye = s.eye := rfl
@[simp] theorem onHost_hbm (s : State) (h : Nat) (f : HostPort → HostPort) : (onHost s h f).hbm = s.hbm := rfl
@[simp] theorem onHost_sheds (s : State) (h : Nat) (f : HostPort → HostPort) : (onHost s h f).sheds = s.sheds := rfl
@[simp] theorem onHost_handoff (s : State) (h : Nat) (f : HostPort → HostPort) : (onHost s h f).handoff = s.handoff := rfl
@[simp] theorem onHost_made (s : State) (h : Nat) (f : HostPort → HostPort) : (onHost s h f).made = s.made := rfl
@[simp] theorem onHost_taken (s : State) (h : Nat) (f : HostPort → HostPort) : (onHost s h f).taken = s.taken := rfl
@[simp] theorem onHost_plan (s : State) (h : Nat) (f : HostPort → HostPort) : (onHost s h f).plan = s.plan := rfl
@[simp] theorem onHost_psets (s : State) (h : Nat) (f : HostPort → HostPort) : (onHost s h f).psets = s.psets := rfl
@[simp] theorem onHost_admits (s : State) (h : Nat) (f : HostPort → HostPort) : (onHost s h f).admits = s.admits := rfl
@[simp] theorem onHost_mbx (s : State) (h : Nat) (f : HostPort → HostPort) : (onHost s h f).mbx = s.mbx := rfl
@[simp] theorem onHost_domes (s : State) (h : Nat) (f : HostPort → HostPort) : (onHost s h f).domes = s.domes := rfl
@[simp] theorem onHost_inflight (s : State) (h : Nat) (f : HostPort → HostPort) : (onHost s h f).inflight = s.inflight := rfl
@[simp] theorem onHost_held (s : State) (h : Nat) (f : HostPort → HostPort) : (onHost s h f).held = s.held := rfl
@[simp] theorem onHost_resolving (s : State) (h : Nat) (f : HostPort → HostPort) : (onHost s h f).resolving = s.resolving := rfl
@[simp] theorem onHost_capReads (s : State) (h : Nat) (f : HostPort → HostPort) : (onHost s h f).capReads = s.capReads := rfl
@[simp] theorem onHost_router (s : State) (h : Nat) (f : HostPort → HostPort) : (onHost s h f).router = s.router := rfl
@[simp] theorem onHost_log (s : State) (h : Nat) (f : HostPort → HostPort) : (onHost s h f).log = s.log := rfl
@[simp] theorem onHost_meter (s : State) (h : Nat) (f : HostPort → HostPort) : (onHost s h f).meter = s.meter := rfl
@[simp] theorem onHost_regs (s : State) (h : Nat) (f : HostPort → HostPort) : (onHost s h f).regs = s.regs := rfl
@[simp] theorem onHost_dma (s : State) (h : Nat) (f : HostPort → HostPort) : (onHost s h f).dma = s.dma := rfl
@[simp] theorem onHost_out (s : State) (h : Nat) (f : HostPort → HostPort) : (onHost s h f).out = s.out := rfl
@[simp] theorem onHost_care (s : State) (h : Nat) (f : HostPort → HostPort) : (onHost s h f).care = s.care := rfl
@[simp] theorem onHost_boot (s : State) (h : Nat) (f : HostPort → HostPort) : (onHost s h f).boot = s.boot := rfl
@[simp] theorem onHost_dbg (s : State) (h : Nat) (f : HostPort → HostPort) : (onHost s h f).dbg = s.dbg := rfl
@[simp] theorem onHost_free (s : State) (h : Nat) (f : HostPort → HostPort) : (onHost s h f).free = s.free := rfl
@[simp] theorem onHost_pending (s : State) (h : Nat) (f : HostPort → HostPort) : (onHost s h f).pending = s.pending := rfl

@[simp] theorem onDrain_dev (s : State) (d : Nat) (f : Drain → Drain) : (onDrain s d f).dev = s.dev := rfl
@[simp] theorem onDrain_time (s : State) (d : Nat) (f : Drain → Drain) : (onDrain s d f).time = s.time := rfl
@[simp] theorem onDrain_tdc (s : State) (d : Nat) (f : Drain → Drain) : (onDrain s d f).tdc = s.tdc := rfl
@[simp] theorem onDrain_pairs (s : State) (d : Nat) (f : Drain → Drain) : (onDrain s d f).pairs = s.pairs := rfl
@[simp] theorem onDrain_clk (s : State) (d : Nat) (f : Drain → Drain) : (onDrain s d f).clk = s.clk := rfl
@[simp] theorem onDrain_ports (s : State) (d : Nat) (f : Drain → Drain) : (onDrain s d f).ports = s.ports := rfl
@[simp] theorem onDrain_feeds (s : State) (d : Nat) (f : Drain → Drain) : (onDrain s d f).feeds = s.feeds := rfl
@[simp] theorem onDrain_coarse (s : State) (d : Nat) (f : Drain → Drain) : (onDrain s d f).coarse = s.coarse := rfl
@[simp] theorem onDrain_coefSets (s : State) (d : Nat) (f : Drain → Drain) : (onDrain s d f).coefSets = s.coefSets := rfl
@[simp] theorem onDrain_zooms (s : State) (d : Nat) (f : Drain → Drain) : (onDrain s d f).zooms = s.zooms := rfl
@[simp] theorem onDrain_sks (s : State) (d : Nat) (f : Drain → Drain) : (onDrain s d f).sks = s.sks := rfl
@[simp] theorem onDrain_instrs (s : State) (d : Nat) (f : Drain → Drain) : (onDrain s d f).instrs = s.instrs := rfl
@[simp] theorem onDrain_masks (s : State) (d : Nat) (f : Drain → Drain) : (onDrain s d f).masks = s.masks := rfl
@[simp] theorem onDrain_plates (s : State) (d : Nat) (f : Drain → Drain) : (onDrain s d f).plates = s.plates := rfl
@[simp] theorem onDrain_streams (s : State) (d : Nat) (f : Drain → Drain) : (onDrain s d f).streams = s.streams := rfl
@[simp] theorem onDrain_flows (s : State) (d : Nat) (f : Drain → Drain) : (onDrain s d f).flows = s.flows := rfl
@[simp] theorem onDrain_apertures (s : State) (d : Nat) (f : Drain → Drain) : (onDrain s d f).apertures = s.apertures := rfl
@[simp] theorem onDrain_sextants (s : State) (d : Nat) (f : Drain → Drain) : (onDrain s d f).sextants = s.sextants := rfl
@[simp] theorem onDrain_adc (s : State) (d : Nat) (f : Drain → Drain) : (onDrain s d f).adc = s.adc := rfl
@[simp] theorem onDrain_dacs (s : State) (d : Nat) (f : Drain → Drain) : (onDrain s d f).dacs = s.dacs := rfl
@[simp] theorem onDrain_eye (s : State) (d : Nat) (f : Drain → Drain) : (onDrain s d f).eye = s.eye := rfl
@[simp] theorem onDrain_hbm (s : State) (d : Nat) (f : Drain → Drain) : (onDrain s d f).hbm = s.hbm := rfl
@[simp] theorem onDrain_sheds (s : State) (d : Nat) (f : Drain → Drain) : (onDrain s d f).sheds = s.sheds := rfl
@[simp] theorem onDrain_handoff (s : State) (d : Nat) (f : Drain → Drain) : (onDrain s d f).handoff = s.handoff := rfl
@[simp] theorem onDrain_made (s : State) (d : Nat) (f : Drain → Drain) : (onDrain s d f).made = s.made := rfl
@[simp] theorem onDrain_taken (s : State) (d : Nat) (f : Drain → Drain) : (onDrain s d f).taken = s.taken := rfl
@[simp] theorem onDrain_plan (s : State) (d : Nat) (f : Drain → Drain) : (onDrain s d f).plan = s.plan := rfl
@[simp] theorem onDrain_psets (s : State) (d : Nat) (f : Drain → Drain) : (onDrain s d f).psets = s.psets := rfl
@[simp] theorem onDrain_admits (s : State) (d : Nat) (f : Drain → Drain) : (onDrain s d f).admits = s.admits := rfl
@[simp] theorem onDrain_mbx (s : State) (d : Nat) (f : Drain → Drain) : (onDrain s d f).mbx = s.mbx := rfl
@[simp] theorem onDrain_inflight (s : State) (d : Nat) (f : Drain → Drain) : (onDrain s d f).inflight = s.inflight := rfl
@[simp] theorem onDrain_held (s : State) (d : Nat) (f : Drain → Drain) : (onDrain s d f).held = s.held := rfl
@[simp] theorem onDrain_resolving (s : State) (d : Nat) (f : Drain → Drain) : (onDrain s d f).resolving = s.resolving := rfl
@[simp] theorem onDrain_capReads (s : State) (d : Nat) (f : Drain → Drain) : (onDrain s d f).capReads = s.capReads := rfl
@[simp] theorem onDrain_hostPorts (s : State) (d : Nat) (f : Drain → Drain) : (onDrain s d f).hostPorts = s.hostPorts := rfl
@[simp] theorem onDrain_router (s : State) (d : Nat) (f : Drain → Drain) : (onDrain s d f).router = s.router := rfl
@[simp] theorem onDrain_log (s : State) (d : Nat) (f : Drain → Drain) : (onDrain s d f).log = s.log := rfl
@[simp] theorem onDrain_meter (s : State) (d : Nat) (f : Drain → Drain) : (onDrain s d f).meter = s.meter := rfl
@[simp] theorem onDrain_regs (s : State) (d : Nat) (f : Drain → Drain) : (onDrain s d f).regs = s.regs := rfl
@[simp] theorem onDrain_dma (s : State) (d : Nat) (f : Drain → Drain) : (onDrain s d f).dma = s.dma := rfl
@[simp] theorem onDrain_out (s : State) (d : Nat) (f : Drain → Drain) : (onDrain s d f).out = s.out := rfl
@[simp] theorem onDrain_care (s : State) (d : Nat) (f : Drain → Drain) : (onDrain s d f).care = s.care := rfl
@[simp] theorem onDrain_boot (s : State) (d : Nat) (f : Drain → Drain) : (onDrain s d f).boot = s.boot := rfl
@[simp] theorem onDrain_dbg (s : State) (d : Nat) (f : Drain → Drain) : (onDrain s d f).dbg = s.dbg := rfl
@[simp] theorem onDrain_free (s : State) (d : Nat) (f : Drain → Drain) : (onDrain s d f).free = s.free := rfl
@[simp] theorem onDrain_pending (s : State) (d : Nat) (f : Drain → Drain) : (onDrain s d f).pending = s.pending := rfl

@[simp] theorem onStream_dev (s : State) (d k : Nat) (f : StreamRun → StreamRun) : (onStream s d k f).dev = s.dev := rfl
@[simp] theorem onStream_time (s : State) (d k : Nat) (f : StreamRun → StreamRun) : (onStream s d k f).time = s.time := rfl
@[simp] theorem onStream_tdc (s : State) (d k : Nat) (f : StreamRun → StreamRun) : (onStream s d k f).tdc = s.tdc := rfl
@[simp] theorem onStream_pairs (s : State) (d k : Nat) (f : StreamRun → StreamRun) : (onStream s d k f).pairs = s.pairs := rfl
@[simp] theorem onStream_clk (s : State) (d k : Nat) (f : StreamRun → StreamRun) : (onStream s d k f).clk = s.clk := rfl
@[simp] theorem onStream_ports (s : State) (d k : Nat) (f : StreamRun → StreamRun) : (onStream s d k f).ports = s.ports := rfl
@[simp] theorem onStream_feeds (s : State) (d k : Nat) (f : StreamRun → StreamRun) : (onStream s d k f).feeds = s.feeds := rfl
@[simp] theorem onStream_coarse (s : State) (d k : Nat) (f : StreamRun → StreamRun) : (onStream s d k f).coarse = s.coarse := rfl
@[simp] theorem onStream_coefSets (s : State) (d k : Nat) (f : StreamRun → StreamRun) : (onStream s d k f).coefSets = s.coefSets := rfl
@[simp] theorem onStream_zooms (s : State) (d k : Nat) (f : StreamRun → StreamRun) : (onStream s d k f).zooms = s.zooms := rfl
@[simp] theorem onStream_sks (s : State) (d k : Nat) (f : StreamRun → StreamRun) : (onStream s d k f).sks = s.sks := rfl
@[simp] theorem onStream_instrs (s : State) (d k : Nat) (f : StreamRun → StreamRun) : (onStream s d k f).instrs = s.instrs := rfl
@[simp] theorem onStream_masks (s : State) (d k : Nat) (f : StreamRun → StreamRun) : (onStream s d k f).masks = s.masks := rfl
@[simp] theorem onStream_plates (s : State) (d k : Nat) (f : StreamRun → StreamRun) : (onStream s d k f).plates = s.plates := rfl
@[simp] theorem onStream_flows (s : State) (d k : Nat) (f : StreamRun → StreamRun) : (onStream s d k f).flows = s.flows := rfl
@[simp] theorem onStream_apertures (s : State) (d k : Nat) (f : StreamRun → StreamRun) : (onStream s d k f).apertures = s.apertures := rfl
@[simp] theorem onStream_sextants (s : State) (d k : Nat) (f : StreamRun → StreamRun) : (onStream s d k f).sextants = s.sextants := rfl
@[simp] theorem onStream_adc (s : State) (d k : Nat) (f : StreamRun → StreamRun) : (onStream s d k f).adc = s.adc := rfl
@[simp] theorem onStream_dacs (s : State) (d k : Nat) (f : StreamRun → StreamRun) : (onStream s d k f).dacs = s.dacs := rfl
@[simp] theorem onStream_eye (s : State) (d k : Nat) (f : StreamRun → StreamRun) : (onStream s d k f).eye = s.eye := rfl
@[simp] theorem onStream_hbm (s : State) (d k : Nat) (f : StreamRun → StreamRun) : (onStream s d k f).hbm = s.hbm := rfl
@[simp] theorem onStream_sheds (s : State) (d k : Nat) (f : StreamRun → StreamRun) : (onStream s d k f).sheds = s.sheds := rfl
@[simp] theorem onStream_handoff (s : State) (d k : Nat) (f : StreamRun → StreamRun) : (onStream s d k f).handoff = s.handoff := rfl
@[simp] theorem onStream_made (s : State) (d k : Nat) (f : StreamRun → StreamRun) : (onStream s d k f).made = s.made := rfl
@[simp] theorem onStream_taken (s : State) (d k : Nat) (f : StreamRun → StreamRun) : (onStream s d k f).taken = s.taken := rfl
@[simp] theorem onStream_plan (s : State) (d k : Nat) (f : StreamRun → StreamRun) : (onStream s d k f).plan = s.plan := rfl
@[simp] theorem onStream_psets (s : State) (d k : Nat) (f : StreamRun → StreamRun) : (onStream s d k f).psets = s.psets := rfl
@[simp] theorem onStream_admits (s : State) (d k : Nat) (f : StreamRun → StreamRun) : (onStream s d k f).admits = s.admits := rfl
@[simp] theorem onStream_mbx (s : State) (d k : Nat) (f : StreamRun → StreamRun) : (onStream s d k f).mbx = s.mbx := rfl
@[simp] theorem onStream_domes (s : State) (d k : Nat) (f : StreamRun → StreamRun) : (onStream s d k f).domes = s.domes := rfl
@[simp] theorem onStream_inflight (s : State) (d k : Nat) (f : StreamRun → StreamRun) : (onStream s d k f).inflight = s.inflight := rfl
@[simp] theorem onStream_held (s : State) (d k : Nat) (f : StreamRun → StreamRun) : (onStream s d k f).held = s.held := rfl
@[simp] theorem onStream_resolving (s : State) (d k : Nat) (f : StreamRun → StreamRun) : (onStream s d k f).resolving = s.resolving := rfl
@[simp] theorem onStream_capReads (s : State) (d k : Nat) (f : StreamRun → StreamRun) : (onStream s d k f).capReads = s.capReads := rfl
@[simp] theorem onStream_hostPorts (s : State) (d k : Nat) (f : StreamRun → StreamRun) : (onStream s d k f).hostPorts = s.hostPorts := rfl
@[simp] theorem onStream_router (s : State) (d k : Nat) (f : StreamRun → StreamRun) : (onStream s d k f).router = s.router := rfl
@[simp] theorem onStream_log (s : State) (d k : Nat) (f : StreamRun → StreamRun) : (onStream s d k f).log = s.log := rfl
@[simp] theorem onStream_meter (s : State) (d k : Nat) (f : StreamRun → StreamRun) : (onStream s d k f).meter = s.meter := rfl
@[simp] theorem onStream_regs (s : State) (d k : Nat) (f : StreamRun → StreamRun) : (onStream s d k f).regs = s.regs := rfl
@[simp] theorem onStream_dma (s : State) (d k : Nat) (f : StreamRun → StreamRun) : (onStream s d k f).dma = s.dma := rfl
@[simp] theorem onStream_out (s : State) (d k : Nat) (f : StreamRun → StreamRun) : (onStream s d k f).out = s.out := rfl
@[simp] theorem onStream_care (s : State) (d k : Nat) (f : StreamRun → StreamRun) : (onStream s d k f).care = s.care := rfl
@[simp] theorem onStream_boot (s : State) (d k : Nat) (f : StreamRun → StreamRun) : (onStream s d k f).boot = s.boot := rfl
@[simp] theorem onStream_dbg (s : State) (d k : Nat) (f : StreamRun → StreamRun) : (onStream s d k f).dbg = s.dbg := rfl
@[simp] theorem onStream_free (s : State) (d k : Nat) (f : StreamRun → StreamRun) : (onStream s d k f).free = s.free := rfl
@[simp] theorem onStream_pending (s : State) (d k : Nat) (f : StreamRun → StreamRun) : (onStream s d k f).pending = s.pending := rfl

@[simp] theorem onEye_dev (s : State) (f : EyeSt → EyeSt) : (onEye s f).dev = s.dev := rfl
@[simp] theorem onEye_time (s : State) (f : EyeSt → EyeSt) : (onEye s f).time = s.time := rfl
@[simp] theorem onEye_tdc (s : State) (f : EyeSt → EyeSt) : (onEye s f).tdc = s.tdc := rfl
@[simp] theorem onEye_pairs (s : State) (f : EyeSt → EyeSt) : (onEye s f).pairs = s.pairs := rfl
@[simp] theorem onEye_clk (s : State) (f : EyeSt → EyeSt) : (onEye s f).clk = s.clk := rfl
@[simp] theorem onEye_ports (s : State) (f : EyeSt → EyeSt) : (onEye s f).ports = s.ports := rfl
@[simp] theorem onEye_feeds (s : State) (f : EyeSt → EyeSt) : (onEye s f).feeds = s.feeds := rfl
@[simp] theorem onEye_coarse (s : State) (f : EyeSt → EyeSt) : (onEye s f).coarse = s.coarse := rfl
@[simp] theorem onEye_coefSets (s : State) (f : EyeSt → EyeSt) : (onEye s f).coefSets = s.coefSets := rfl
@[simp] theorem onEye_zooms (s : State) (f : EyeSt → EyeSt) : (onEye s f).zooms = s.zooms := rfl
@[simp] theorem onEye_sks (s : State) (f : EyeSt → EyeSt) : (onEye s f).sks = s.sks := rfl
@[simp] theorem onEye_instrs (s : State) (f : EyeSt → EyeSt) : (onEye s f).instrs = s.instrs := rfl
@[simp] theorem onEye_masks (s : State) (f : EyeSt → EyeSt) : (onEye s f).masks = s.masks := rfl
@[simp] theorem onEye_plates (s : State) (f : EyeSt → EyeSt) : (onEye s f).plates = s.plates := rfl
@[simp] theorem onEye_streams (s : State) (f : EyeSt → EyeSt) : (onEye s f).streams = s.streams := rfl
@[simp] theorem onEye_flows (s : State) (f : EyeSt → EyeSt) : (onEye s f).flows = s.flows := rfl
@[simp] theorem onEye_apertures (s : State) (f : EyeSt → EyeSt) : (onEye s f).apertures = s.apertures := rfl
@[simp] theorem onEye_sextants (s : State) (f : EyeSt → EyeSt) : (onEye s f).sextants = s.sextants := rfl
@[simp] theorem onEye_adc (s : State) (f : EyeSt → EyeSt) : (onEye s f).adc = s.adc := rfl
@[simp] theorem onEye_dacs (s : State) (f : EyeSt → EyeSt) : (onEye s f).dacs = s.dacs := rfl
@[simp] theorem onEye_hbm (s : State) (f : EyeSt → EyeSt) : (onEye s f).hbm = s.hbm := rfl
@[simp] theorem onEye_sheds (s : State) (f : EyeSt → EyeSt) : (onEye s f).sheds = s.sheds := rfl
@[simp] theorem onEye_handoff (s : State) (f : EyeSt → EyeSt) : (onEye s f).handoff = s.handoff := rfl
@[simp] theorem onEye_made (s : State) (f : EyeSt → EyeSt) : (onEye s f).made = s.made := rfl
@[simp] theorem onEye_taken (s : State) (f : EyeSt → EyeSt) : (onEye s f).taken = s.taken := rfl
@[simp] theorem onEye_plan (s : State) (f : EyeSt → EyeSt) : (onEye s f).plan = s.plan := rfl
@[simp] theorem onEye_psets (s : State) (f : EyeSt → EyeSt) : (onEye s f).psets = s.psets := rfl
@[simp] theorem onEye_admits (s : State) (f : EyeSt → EyeSt) : (onEye s f).admits = s.admits := rfl
@[simp] theorem onEye_mbx (s : State) (f : EyeSt → EyeSt) : (onEye s f).mbx = s.mbx := rfl
@[simp] theorem onEye_domes (s : State) (f : EyeSt → EyeSt) : (onEye s f).domes = s.domes := rfl
@[simp] theorem onEye_inflight (s : State) (f : EyeSt → EyeSt) : (onEye s f).inflight = s.inflight := rfl
@[simp] theorem onEye_held (s : State) (f : EyeSt → EyeSt) : (onEye s f).held = s.held := rfl
@[simp] theorem onEye_resolving (s : State) (f : EyeSt → EyeSt) : (onEye s f).resolving = s.resolving := rfl
@[simp] theorem onEye_capReads (s : State) (f : EyeSt → EyeSt) : (onEye s f).capReads = s.capReads := rfl
@[simp] theorem onEye_hostPorts (s : State) (f : EyeSt → EyeSt) : (onEye s f).hostPorts = s.hostPorts := rfl
@[simp] theorem onEye_router (s : State) (f : EyeSt → EyeSt) : (onEye s f).router = s.router := rfl
@[simp] theorem onEye_log (s : State) (f : EyeSt → EyeSt) : (onEye s f).log = s.log := rfl
@[simp] theorem onEye_meter (s : State) (f : EyeSt → EyeSt) : (onEye s f).meter = s.meter := rfl
@[simp] theorem onEye_regs (s : State) (f : EyeSt → EyeSt) : (onEye s f).regs = s.regs := rfl
@[simp] theorem onEye_dma (s : State) (f : EyeSt → EyeSt) : (onEye s f).dma = s.dma := rfl
@[simp] theorem onEye_out (s : State) (f : EyeSt → EyeSt) : (onEye s f).out = s.out := rfl
@[simp] theorem onEye_care (s : State) (f : EyeSt → EyeSt) : (onEye s f).care = s.care := rfl
@[simp] theorem onEye_boot (s : State) (f : EyeSt → EyeSt) : (onEye s f).boot = s.boot := rfl
@[simp] theorem onEye_dbg (s : State) (f : EyeSt → EyeSt) : (onEye s f).dbg = s.dbg := rfl
@[simp] theorem onEye_free (s : State) (f : EyeSt → EyeSt) : (onEye s f).free = s.free := rfl
@[simp] theorem onEye_pending (s : State) (f : EyeSt → EyeSt) : (onEye s f).pending = s.pending := rfl

@[simp] theorem onHbm_dev (s : State) (f : HbmSt → HbmSt) : (onHbm s f).dev = s.dev := rfl
@[simp] theorem onHbm_time (s : State) (f : HbmSt → HbmSt) : (onHbm s f).time = s.time := rfl
@[simp] theorem onHbm_tdc (s : State) (f : HbmSt → HbmSt) : (onHbm s f).tdc = s.tdc := rfl
@[simp] theorem onHbm_pairs (s : State) (f : HbmSt → HbmSt) : (onHbm s f).pairs = s.pairs := rfl
@[simp] theorem onHbm_clk (s : State) (f : HbmSt → HbmSt) : (onHbm s f).clk = s.clk := rfl
@[simp] theorem onHbm_ports (s : State) (f : HbmSt → HbmSt) : (onHbm s f).ports = s.ports := rfl
@[simp] theorem onHbm_feeds (s : State) (f : HbmSt → HbmSt) : (onHbm s f).feeds = s.feeds := rfl
@[simp] theorem onHbm_coarse (s : State) (f : HbmSt → HbmSt) : (onHbm s f).coarse = s.coarse := rfl
@[simp] theorem onHbm_coefSets (s : State) (f : HbmSt → HbmSt) : (onHbm s f).coefSets = s.coefSets := rfl
@[simp] theorem onHbm_zooms (s : State) (f : HbmSt → HbmSt) : (onHbm s f).zooms = s.zooms := rfl
@[simp] theorem onHbm_sks (s : State) (f : HbmSt → HbmSt) : (onHbm s f).sks = s.sks := rfl
@[simp] theorem onHbm_instrs (s : State) (f : HbmSt → HbmSt) : (onHbm s f).instrs = s.instrs := rfl
@[simp] theorem onHbm_masks (s : State) (f : HbmSt → HbmSt) : (onHbm s f).masks = s.masks := rfl
@[simp] theorem onHbm_plates (s : State) (f : HbmSt → HbmSt) : (onHbm s f).plates = s.plates := rfl
@[simp] theorem onHbm_streams (s : State) (f : HbmSt → HbmSt) : (onHbm s f).streams = s.streams := rfl
@[simp] theorem onHbm_flows (s : State) (f : HbmSt → HbmSt) : (onHbm s f).flows = s.flows := rfl
@[simp] theorem onHbm_apertures (s : State) (f : HbmSt → HbmSt) : (onHbm s f).apertures = s.apertures := rfl
@[simp] theorem onHbm_sextants (s : State) (f : HbmSt → HbmSt) : (onHbm s f).sextants = s.sextants := rfl
@[simp] theorem onHbm_adc (s : State) (f : HbmSt → HbmSt) : (onHbm s f).adc = s.adc := rfl
@[simp] theorem onHbm_dacs (s : State) (f : HbmSt → HbmSt) : (onHbm s f).dacs = s.dacs := rfl
@[simp] theorem onHbm_eye (s : State) (f : HbmSt → HbmSt) : (onHbm s f).eye = s.eye := rfl
@[simp] theorem onHbm_sheds (s : State) (f : HbmSt → HbmSt) : (onHbm s f).sheds = s.sheds := rfl
@[simp] theorem onHbm_handoff (s : State) (f : HbmSt → HbmSt) : (onHbm s f).handoff = s.handoff := rfl
@[simp] theorem onHbm_made (s : State) (f : HbmSt → HbmSt) : (onHbm s f).made = s.made := rfl
@[simp] theorem onHbm_taken (s : State) (f : HbmSt → HbmSt) : (onHbm s f).taken = s.taken := rfl
@[simp] theorem onHbm_plan (s : State) (f : HbmSt → HbmSt) : (onHbm s f).plan = s.plan := rfl
@[simp] theorem onHbm_psets (s : State) (f : HbmSt → HbmSt) : (onHbm s f).psets = s.psets := rfl
@[simp] theorem onHbm_admits (s : State) (f : HbmSt → HbmSt) : (onHbm s f).admits = s.admits := rfl
@[simp] theorem onHbm_mbx (s : State) (f : HbmSt → HbmSt) : (onHbm s f).mbx = s.mbx := rfl
@[simp] theorem onHbm_domes (s : State) (f : HbmSt → HbmSt) : (onHbm s f).domes = s.domes := rfl
@[simp] theorem onHbm_inflight (s : State) (f : HbmSt → HbmSt) : (onHbm s f).inflight = s.inflight := rfl
@[simp] theorem onHbm_held (s : State) (f : HbmSt → HbmSt) : (onHbm s f).held = s.held := rfl
@[simp] theorem onHbm_resolving (s : State) (f : HbmSt → HbmSt) : (onHbm s f).resolving = s.resolving := rfl
@[simp] theorem onHbm_capReads (s : State) (f : HbmSt → HbmSt) : (onHbm s f).capReads = s.capReads := rfl
@[simp] theorem onHbm_hostPorts (s : State) (f : HbmSt → HbmSt) : (onHbm s f).hostPorts = s.hostPorts := rfl
@[simp] theorem onHbm_router (s : State) (f : HbmSt → HbmSt) : (onHbm s f).router = s.router := rfl
@[simp] theorem onHbm_log (s : State) (f : HbmSt → HbmSt) : (onHbm s f).log = s.log := rfl
@[simp] theorem onHbm_meter (s : State) (f : HbmSt → HbmSt) : (onHbm s f).meter = s.meter := rfl
@[simp] theorem onHbm_regs (s : State) (f : HbmSt → HbmSt) : (onHbm s f).regs = s.regs := rfl
@[simp] theorem onHbm_dma (s : State) (f : HbmSt → HbmSt) : (onHbm s f).dma = s.dma := rfl
@[simp] theorem onHbm_out (s : State) (f : HbmSt → HbmSt) : (onHbm s f).out = s.out := rfl
@[simp] theorem onHbm_care (s : State) (f : HbmSt → HbmSt) : (onHbm s f).care = s.care := rfl
@[simp] theorem onHbm_boot (s : State) (f : HbmSt → HbmSt) : (onHbm s f).boot = s.boot := rfl
@[simp] theorem onHbm_dbg (s : State) (f : HbmSt → HbmSt) : (onHbm s f).dbg = s.dbg := rfl
@[simp] theorem onHbm_free (s : State) (f : HbmSt → HbmSt) : (onHbm s f).free = s.free := rfl
@[simp] theorem onHbm_pending (s : State) (f : HbmSt → HbmSt) : (onHbm s f).pending = s.pending := rfl

@[simp] theorem onTile_dev (s : State) (t : Nat) (f : TileHealth → TileHealth) : (onTile s t f).dev = s.dev := rfl
@[simp] theorem onTile_time (s : State) (t : Nat) (f : TileHealth → TileHealth) : (onTile s t f).time = s.time := rfl
@[simp] theorem onTile_tdc (s : State) (t : Nat) (f : TileHealth → TileHealth) : (onTile s t f).tdc = s.tdc := rfl
@[simp] theorem onTile_pairs (s : State) (t : Nat) (f : TileHealth → TileHealth) : (onTile s t f).pairs = s.pairs := rfl
@[simp] theorem onTile_clk (s : State) (t : Nat) (f : TileHealth → TileHealth) : (onTile s t f).clk = s.clk := rfl
@[simp] theorem onTile_ports (s : State) (t : Nat) (f : TileHealth → TileHealth) : (onTile s t f).ports = s.ports := rfl
@[simp] theorem onTile_feeds (s : State) (t : Nat) (f : TileHealth → TileHealth) : (onTile s t f).feeds = s.feeds := rfl
@[simp] theorem onTile_coarse (s : State) (t : Nat) (f : TileHealth → TileHealth) : (onTile s t f).coarse = s.coarse := rfl
@[simp] theorem onTile_coefSets (s : State) (t : Nat) (f : TileHealth → TileHealth) : (onTile s t f).coefSets = s.coefSets := rfl
@[simp] theorem onTile_zooms (s : State) (t : Nat) (f : TileHealth → TileHealth) : (onTile s t f).zooms = s.zooms := rfl
@[simp] theorem onTile_sks (s : State) (t : Nat) (f : TileHealth → TileHealth) : (onTile s t f).sks = s.sks := rfl
@[simp] theorem onTile_instrs (s : State) (t : Nat) (f : TileHealth → TileHealth) : (onTile s t f).instrs = s.instrs := rfl
@[simp] theorem onTile_masks (s : State) (t : Nat) (f : TileHealth → TileHealth) : (onTile s t f).masks = s.masks := rfl
@[simp] theorem onTile_plates (s : State) (t : Nat) (f : TileHealth → TileHealth) : (onTile s t f).plates = s.plates := rfl
@[simp] theorem onTile_streams (s : State) (t : Nat) (f : TileHealth → TileHealth) : (onTile s t f).streams = s.streams := rfl
@[simp] theorem onTile_flows (s : State) (t : Nat) (f : TileHealth → TileHealth) : (onTile s t f).flows = s.flows := rfl
@[simp] theorem onTile_apertures (s : State) (t : Nat) (f : TileHealth → TileHealth) : (onTile s t f).apertures = s.apertures := rfl
@[simp] theorem onTile_sextants (s : State) (t : Nat) (f : TileHealth → TileHealth) : (onTile s t f).sextants = s.sextants := rfl
@[simp] theorem onTile_adc (s : State) (t : Nat) (f : TileHealth → TileHealth) : (onTile s t f).adc = s.adc := rfl
@[simp] theorem onTile_dacs (s : State) (t : Nat) (f : TileHealth → TileHealth) : (onTile s t f).dacs = s.dacs := rfl
@[simp] theorem onTile_eye (s : State) (t : Nat) (f : TileHealth → TileHealth) : (onTile s t f).eye = s.eye := rfl
@[simp] theorem onTile_hbm (s : State) (t : Nat) (f : TileHealth → TileHealth) : (onTile s t f).hbm = s.hbm := rfl
@[simp] theorem onTile_sheds (s : State) (t : Nat) (f : TileHealth → TileHealth) : (onTile s t f).sheds = s.sheds := rfl
@[simp] theorem onTile_handoff (s : State) (t : Nat) (f : TileHealth → TileHealth) : (onTile s t f).handoff = s.handoff := rfl
@[simp] theorem onTile_made (s : State) (t : Nat) (f : TileHealth → TileHealth) : (onTile s t f).made = s.made := rfl
@[simp] theorem onTile_taken (s : State) (t : Nat) (f : TileHealth → TileHealth) : (onTile s t f).taken = s.taken := rfl
@[simp] theorem onTile_plan (s : State) (t : Nat) (f : TileHealth → TileHealth) : (onTile s t f).plan = s.plan := rfl
@[simp] theorem onTile_psets (s : State) (t : Nat) (f : TileHealth → TileHealth) : (onTile s t f).psets = s.psets := rfl
@[simp] theorem onTile_admits (s : State) (t : Nat) (f : TileHealth → TileHealth) : (onTile s t f).admits = s.admits := rfl
@[simp] theorem onTile_mbx (s : State) (t : Nat) (f : TileHealth → TileHealth) : (onTile s t f).mbx = s.mbx := rfl
@[simp] theorem onTile_domes (s : State) (t : Nat) (f : TileHealth → TileHealth) : (onTile s t f).domes = s.domes := rfl
@[simp] theorem onTile_inflight (s : State) (t : Nat) (f : TileHealth → TileHealth) : (onTile s t f).inflight = s.inflight := rfl
@[simp] theorem onTile_held (s : State) (t : Nat) (f : TileHealth → TileHealth) : (onTile s t f).held = s.held := rfl
@[simp] theorem onTile_resolving (s : State) (t : Nat) (f : TileHealth → TileHealth) : (onTile s t f).resolving = s.resolving := rfl
@[simp] theorem onTile_capReads (s : State) (t : Nat) (f : TileHealth → TileHealth) : (onTile s t f).capReads = s.capReads := rfl
@[simp] theorem onTile_hostPorts (s : State) (t : Nat) (f : TileHealth → TileHealth) : (onTile s t f).hostPorts = s.hostPorts := rfl
@[simp] theorem onTile_router (s : State) (t : Nat) (f : TileHealth → TileHealth) : (onTile s t f).router = s.router := rfl
@[simp] theorem onTile_log (s : State) (t : Nat) (f : TileHealth → TileHealth) : (onTile s t f).log = s.log := rfl
@[simp] theorem onTile_meter (s : State) (t : Nat) (f : TileHealth → TileHealth) : (onTile s t f).meter = s.meter := rfl
@[simp] theorem onTile_regs (s : State) (t : Nat) (f : TileHealth → TileHealth) : (onTile s t f).regs = s.regs := rfl
@[simp] theorem onTile_dma (s : State) (t : Nat) (f : TileHealth → TileHealth) : (onTile s t f).dma = s.dma := rfl
@[simp] theorem onTile_out (s : State) (t : Nat) (f : TileHealth → TileHealth) : (onTile s t f).out = s.out := rfl
@[simp] theorem onTile_boot (s : State) (t : Nat) (f : TileHealth → TileHealth) : (onTile s t f).boot = s.boot := rfl
@[simp] theorem onTile_dbg (s : State) (t : Nat) (f : TileHealth → TileHealth) : (onTile s t f).dbg = s.dbg := rfl
@[simp] theorem onTile_free (s : State) (t : Nat) (f : TileHealth → TileHealth) : (onTile s t f).free = s.free := rfl
@[simp] theorem onTile_pending (s : State) (t : Nat) (f : TileHealth → TileHealth) : (onTile s t f).pending = s.pending := rfl

@[simp] theorem onPort_dev (s : State) (n : Nat) (f : PortRun → PortRun) : (onPort s n f).dev = s.dev := rfl
@[simp] theorem onPort_time (s : State) (n : Nat) (f : PortRun → PortRun) : (onPort s n f).time = s.time := rfl
@[simp] theorem onPort_tdc (s : State) (n : Nat) (f : PortRun → PortRun) : (onPort s n f).tdc = s.tdc := rfl
@[simp] theorem onPort_pairs (s : State) (n : Nat) (f : PortRun → PortRun) : (onPort s n f).pairs = s.pairs := rfl
@[simp] theorem onPort_clk (s : State) (n : Nat) (f : PortRun → PortRun) : (onPort s n f).clk = s.clk := rfl
@[simp] theorem onPort_feeds (s : State) (n : Nat) (f : PortRun → PortRun) : (onPort s n f).feeds = s.feeds := rfl
@[simp] theorem onPort_coarse (s : State) (n : Nat) (f : PortRun → PortRun) : (onPort s n f).coarse = s.coarse := rfl
@[simp] theorem onPort_coefSets (s : State) (n : Nat) (f : PortRun → PortRun) : (onPort s n f).coefSets = s.coefSets := rfl
@[simp] theorem onPort_zooms (s : State) (n : Nat) (f : PortRun → PortRun) : (onPort s n f).zooms = s.zooms := rfl
@[simp] theorem onPort_sks (s : State) (n : Nat) (f : PortRun → PortRun) : (onPort s n f).sks = s.sks := rfl
@[simp] theorem onPort_instrs (s : State) (n : Nat) (f : PortRun → PortRun) : (onPort s n f).instrs = s.instrs := rfl
@[simp] theorem onPort_masks (s : State) (n : Nat) (f : PortRun → PortRun) : (onPort s n f).masks = s.masks := rfl
@[simp] theorem onPort_plates (s : State) (n : Nat) (f : PortRun → PortRun) : (onPort s n f).plates = s.plates := rfl
@[simp] theorem onPort_streams (s : State) (n : Nat) (f : PortRun → PortRun) : (onPort s n f).streams = s.streams := rfl
@[simp] theorem onPort_flows (s : State) (n : Nat) (f : PortRun → PortRun) : (onPort s n f).flows = s.flows := rfl
@[simp] theorem onPort_apertures (s : State) (n : Nat) (f : PortRun → PortRun) : (onPort s n f).apertures = s.apertures := rfl
@[simp] theorem onPort_sextants (s : State) (n : Nat) (f : PortRun → PortRun) : (onPort s n f).sextants = s.sextants := rfl
@[simp] theorem onPort_adc (s : State) (n : Nat) (f : PortRun → PortRun) : (onPort s n f).adc = s.adc := rfl
@[simp] theorem onPort_dacs (s : State) (n : Nat) (f : PortRun → PortRun) : (onPort s n f).dacs = s.dacs := rfl
@[simp] theorem onPort_eye (s : State) (n : Nat) (f : PortRun → PortRun) : (onPort s n f).eye = s.eye := rfl
@[simp] theorem onPort_hbm (s : State) (n : Nat) (f : PortRun → PortRun) : (onPort s n f).hbm = s.hbm := rfl
@[simp] theorem onPort_sheds (s : State) (n : Nat) (f : PortRun → PortRun) : (onPort s n f).sheds = s.sheds := rfl
@[simp] theorem onPort_handoff (s : State) (n : Nat) (f : PortRun → PortRun) : (onPort s n f).handoff = s.handoff := rfl
@[simp] theorem onPort_made (s : State) (n : Nat) (f : PortRun → PortRun) : (onPort s n f).made = s.made := rfl
@[simp] theorem onPort_taken (s : State) (n : Nat) (f : PortRun → PortRun) : (onPort s n f).taken = s.taken := rfl
@[simp] theorem onPort_plan (s : State) (n : Nat) (f : PortRun → PortRun) : (onPort s n f).plan = s.plan := rfl
@[simp] theorem onPort_psets (s : State) (n : Nat) (f : PortRun → PortRun) : (onPort s n f).psets = s.psets := rfl
@[simp] theorem onPort_admits (s : State) (n : Nat) (f : PortRun → PortRun) : (onPort s n f).admits = s.admits := rfl
@[simp] theorem onPort_mbx (s : State) (n : Nat) (f : PortRun → PortRun) : (onPort s n f).mbx = s.mbx := rfl
@[simp] theorem onPort_domes (s : State) (n : Nat) (f : PortRun → PortRun) : (onPort s n f).domes = s.domes := rfl
@[simp] theorem onPort_inflight (s : State) (n : Nat) (f : PortRun → PortRun) : (onPort s n f).inflight = s.inflight := rfl
@[simp] theorem onPort_held (s : State) (n : Nat) (f : PortRun → PortRun) : (onPort s n f).held = s.held := rfl
@[simp] theorem onPort_resolving (s : State) (n : Nat) (f : PortRun → PortRun) : (onPort s n f).resolving = s.resolving := rfl
@[simp] theorem onPort_capReads (s : State) (n : Nat) (f : PortRun → PortRun) : (onPort s n f).capReads = s.capReads := rfl
@[simp] theorem onPort_hostPorts (s : State) (n : Nat) (f : PortRun → PortRun) : (onPort s n f).hostPorts = s.hostPorts := rfl
@[simp] theorem onPort_router (s : State) (n : Nat) (f : PortRun → PortRun) : (onPort s n f).router = s.router := rfl
@[simp] theorem onPort_log (s : State) (n : Nat) (f : PortRun → PortRun) : (onPort s n f).log = s.log := rfl
@[simp] theorem onPort_meter (s : State) (n : Nat) (f : PortRun → PortRun) : (onPort s n f).meter = s.meter := rfl
@[simp] theorem onPort_regs (s : State) (n : Nat) (f : PortRun → PortRun) : (onPort s n f).regs = s.regs := rfl
@[simp] theorem onPort_dma (s : State) (n : Nat) (f : PortRun → PortRun) : (onPort s n f).dma = s.dma := rfl
@[simp] theorem onPort_out (s : State) (n : Nat) (f : PortRun → PortRun) : (onPort s n f).out = s.out := rfl
@[simp] theorem onPort_care (s : State) (n : Nat) (f : PortRun → PortRun) : (onPort s n f).care = s.care := rfl
@[simp] theorem onPort_boot (s : State) (n : Nat) (f : PortRun → PortRun) : (onPort s n f).boot = s.boot := rfl
@[simp] theorem onPort_dbg (s : State) (n : Nat) (f : PortRun → PortRun) : (onPort s n f).dbg = s.dbg := rfl
@[simp] theorem onPort_free (s : State) (n : Nat) (f : PortRun → PortRun) : (onPort s n f).free = s.free := rfl
@[simp] theorem onPort_pending (s : State) (n : Nat) (f : PortRun → PortRun) : (onPort s n f).pending = s.pending := rfl

@[simp] theorem onFeed_dev (s : State) (f : Nat) (g : FeedRun → FeedRun) : (onFeed s f g).dev = s.dev := rfl
@[simp] theorem onFeed_time (s : State) (f : Nat) (g : FeedRun → FeedRun) : (onFeed s f g).time = s.time := rfl
@[simp] theorem onFeed_tdc (s : State) (f : Nat) (g : FeedRun → FeedRun) : (onFeed s f g).tdc = s.tdc := rfl
@[simp] theorem onFeed_pairs (s : State) (f : Nat) (g : FeedRun → FeedRun) : (onFeed s f g).pairs = s.pairs := rfl
@[simp] theorem onFeed_clk (s : State) (f : Nat) (g : FeedRun → FeedRun) : (onFeed s f g).clk = s.clk := rfl
@[simp] theorem onFeed_ports (s : State) (f : Nat) (g : FeedRun → FeedRun) : (onFeed s f g).ports = s.ports := rfl
@[simp] theorem onFeed_coarse (s : State) (f : Nat) (g : FeedRun → FeedRun) : (onFeed s f g).coarse = s.coarse := rfl
@[simp] theorem onFeed_coefSets (s : State) (f : Nat) (g : FeedRun → FeedRun) : (onFeed s f g).coefSets = s.coefSets := rfl
@[simp] theorem onFeed_zooms (s : State) (f : Nat) (g : FeedRun → FeedRun) : (onFeed s f g).zooms = s.zooms := rfl
@[simp] theorem onFeed_sks (s : State) (f : Nat) (g : FeedRun → FeedRun) : (onFeed s f g).sks = s.sks := rfl
@[simp] theorem onFeed_instrs (s : State) (f : Nat) (g : FeedRun → FeedRun) : (onFeed s f g).instrs = s.instrs := rfl
@[simp] theorem onFeed_masks (s : State) (f : Nat) (g : FeedRun → FeedRun) : (onFeed s f g).masks = s.masks := rfl
@[simp] theorem onFeed_plates (s : State) (f : Nat) (g : FeedRun → FeedRun) : (onFeed s f g).plates = s.plates := rfl
@[simp] theorem onFeed_streams (s : State) (f : Nat) (g : FeedRun → FeedRun) : (onFeed s f g).streams = s.streams := rfl
@[simp] theorem onFeed_flows (s : State) (f : Nat) (g : FeedRun → FeedRun) : (onFeed s f g).flows = s.flows := rfl
@[simp] theorem onFeed_apertures (s : State) (f : Nat) (g : FeedRun → FeedRun) : (onFeed s f g).apertures = s.apertures := rfl
@[simp] theorem onFeed_sextants (s : State) (f : Nat) (g : FeedRun → FeedRun) : (onFeed s f g).sextants = s.sextants := rfl
@[simp] theorem onFeed_adc (s : State) (f : Nat) (g : FeedRun → FeedRun) : (onFeed s f g).adc = s.adc := rfl
@[simp] theorem onFeed_dacs (s : State) (f : Nat) (g : FeedRun → FeedRun) : (onFeed s f g).dacs = s.dacs := rfl
@[simp] theorem onFeed_eye (s : State) (f : Nat) (g : FeedRun → FeedRun) : (onFeed s f g).eye = s.eye := rfl
@[simp] theorem onFeed_hbm (s : State) (f : Nat) (g : FeedRun → FeedRun) : (onFeed s f g).hbm = s.hbm := rfl
@[simp] theorem onFeed_sheds (s : State) (f : Nat) (g : FeedRun → FeedRun) : (onFeed s f g).sheds = s.sheds := rfl
@[simp] theorem onFeed_handoff (s : State) (f : Nat) (g : FeedRun → FeedRun) : (onFeed s f g).handoff = s.handoff := rfl
@[simp] theorem onFeed_made (s : State) (f : Nat) (g : FeedRun → FeedRun) : (onFeed s f g).made = s.made := rfl
@[simp] theorem onFeed_taken (s : State) (f : Nat) (g : FeedRun → FeedRun) : (onFeed s f g).taken = s.taken := rfl
@[simp] theorem onFeed_plan (s : State) (f : Nat) (g : FeedRun → FeedRun) : (onFeed s f g).plan = s.plan := rfl
@[simp] theorem onFeed_psets (s : State) (f : Nat) (g : FeedRun → FeedRun) : (onFeed s f g).psets = s.psets := rfl
@[simp] theorem onFeed_admits (s : State) (f : Nat) (g : FeedRun → FeedRun) : (onFeed s f g).admits = s.admits := rfl
@[simp] theorem onFeed_mbx (s : State) (f : Nat) (g : FeedRun → FeedRun) : (onFeed s f g).mbx = s.mbx := rfl
@[simp] theorem onFeed_domes (s : State) (f : Nat) (g : FeedRun → FeedRun) : (onFeed s f g).domes = s.domes := rfl
@[simp] theorem onFeed_inflight (s : State) (f : Nat) (g : FeedRun → FeedRun) : (onFeed s f g).inflight = s.inflight := rfl
@[simp] theorem onFeed_held (s : State) (f : Nat) (g : FeedRun → FeedRun) : (onFeed s f g).held = s.held := rfl
@[simp] theorem onFeed_resolving (s : State) (f : Nat) (g : FeedRun → FeedRun) : (onFeed s f g).resolving = s.resolving := rfl
@[simp] theorem onFeed_capReads (s : State) (f : Nat) (g : FeedRun → FeedRun) : (onFeed s f g).capReads = s.capReads := rfl
@[simp] theorem onFeed_hostPorts (s : State) (f : Nat) (g : FeedRun → FeedRun) : (onFeed s f g).hostPorts = s.hostPorts := rfl
@[simp] theorem onFeed_router (s : State) (f : Nat) (g : FeedRun → FeedRun) : (onFeed s f g).router = s.router := rfl
@[simp] theorem onFeed_log (s : State) (f : Nat) (g : FeedRun → FeedRun) : (onFeed s f g).log = s.log := rfl
@[simp] theorem onFeed_meter (s : State) (f : Nat) (g : FeedRun → FeedRun) : (onFeed s f g).meter = s.meter := rfl
@[simp] theorem onFeed_regs (s : State) (f : Nat) (g : FeedRun → FeedRun) : (onFeed s f g).regs = s.regs := rfl
@[simp] theorem onFeed_dma (s : State) (f : Nat) (g : FeedRun → FeedRun) : (onFeed s f g).dma = s.dma := rfl
@[simp] theorem onFeed_out (s : State) (f : Nat) (g : FeedRun → FeedRun) : (onFeed s f g).out = s.out := rfl
@[simp] theorem onFeed_care (s : State) (f : Nat) (g : FeedRun → FeedRun) : (onFeed s f g).care = s.care := rfl
@[simp] theorem onFeed_boot (s : State) (f : Nat) (g : FeedRun → FeedRun) : (onFeed s f g).boot = s.boot := rfl
@[simp] theorem onFeed_dbg (s : State) (f : Nat) (g : FeedRun → FeedRun) : (onFeed s f g).dbg = s.dbg := rfl
@[simp] theorem onFeed_free (s : State) (f : Nat) (g : FeedRun → FeedRun) : (onFeed s f g).free = s.free := rfl
@[simp] theorem onFeed_pending (s : State) (f : Nat) (g : FeedRun → FeedRun) : (onFeed s f g).pending = s.pending := rfl

@[simp] theorem onLane_dev (s : State) (port lane : Nat) (f : LaneRun → LaneRun) : (onLane s port lane f).dev = s.dev := rfl
@[simp] theorem onLane_time (s : State) (port lane : Nat) (f : LaneRun → LaneRun) : (onLane s port lane f).time = s.time := rfl
@[simp] theorem onLane_tdc (s : State) (port lane : Nat) (f : LaneRun → LaneRun) : (onLane s port lane f).tdc = s.tdc := rfl
@[simp] theorem onLane_pairs (s : State) (port lane : Nat) (f : LaneRun → LaneRun) : (onLane s port lane f).pairs = s.pairs := rfl
@[simp] theorem onLane_clk (s : State) (port lane : Nat) (f : LaneRun → LaneRun) : (onLane s port lane f).clk = s.clk := rfl
@[simp] theorem onLane_feeds (s : State) (port lane : Nat) (f : LaneRun → LaneRun) : (onLane s port lane f).feeds = s.feeds := rfl
@[simp] theorem onLane_coarse (s : State) (port lane : Nat) (f : LaneRun → LaneRun) : (onLane s port lane f).coarse = s.coarse := rfl
@[simp] theorem onLane_coefSets (s : State) (port lane : Nat) (f : LaneRun → LaneRun) : (onLane s port lane f).coefSets = s.coefSets := rfl
@[simp] theorem onLane_zooms (s : State) (port lane : Nat) (f : LaneRun → LaneRun) : (onLane s port lane f).zooms = s.zooms := rfl
@[simp] theorem onLane_sks (s : State) (port lane : Nat) (f : LaneRun → LaneRun) : (onLane s port lane f).sks = s.sks := rfl
@[simp] theorem onLane_instrs (s : State) (port lane : Nat) (f : LaneRun → LaneRun) : (onLane s port lane f).instrs = s.instrs := rfl
@[simp] theorem onLane_masks (s : State) (port lane : Nat) (f : LaneRun → LaneRun) : (onLane s port lane f).masks = s.masks := rfl
@[simp] theorem onLane_plates (s : State) (port lane : Nat) (f : LaneRun → LaneRun) : (onLane s port lane f).plates = s.plates := rfl
@[simp] theorem onLane_streams (s : State) (port lane : Nat) (f : LaneRun → LaneRun) : (onLane s port lane f).streams = s.streams := rfl
@[simp] theorem onLane_flows (s : State) (port lane : Nat) (f : LaneRun → LaneRun) : (onLane s port lane f).flows = s.flows := rfl
@[simp] theorem onLane_apertures (s : State) (port lane : Nat) (f : LaneRun → LaneRun) : (onLane s port lane f).apertures = s.apertures := rfl
@[simp] theorem onLane_sextants (s : State) (port lane : Nat) (f : LaneRun → LaneRun) : (onLane s port lane f).sextants = s.sextants := rfl
@[simp] theorem onLane_adc (s : State) (port lane : Nat) (f : LaneRun → LaneRun) : (onLane s port lane f).adc = s.adc := rfl
@[simp] theorem onLane_dacs (s : State) (port lane : Nat) (f : LaneRun → LaneRun) : (onLane s port lane f).dacs = s.dacs := rfl
@[simp] theorem onLane_eye (s : State) (port lane : Nat) (f : LaneRun → LaneRun) : (onLane s port lane f).eye = s.eye := rfl
@[simp] theorem onLane_hbm (s : State) (port lane : Nat) (f : LaneRun → LaneRun) : (onLane s port lane f).hbm = s.hbm := rfl
@[simp] theorem onLane_sheds (s : State) (port lane : Nat) (f : LaneRun → LaneRun) : (onLane s port lane f).sheds = s.sheds := rfl
@[simp] theorem onLane_handoff (s : State) (port lane : Nat) (f : LaneRun → LaneRun) : (onLane s port lane f).handoff = s.handoff := rfl
@[simp] theorem onLane_made (s : State) (port lane : Nat) (f : LaneRun → LaneRun) : (onLane s port lane f).made = s.made := rfl
@[simp] theorem onLane_taken (s : State) (port lane : Nat) (f : LaneRun → LaneRun) : (onLane s port lane f).taken = s.taken := rfl
@[simp] theorem onLane_plan (s : State) (port lane : Nat) (f : LaneRun → LaneRun) : (onLane s port lane f).plan = s.plan := rfl
@[simp] theorem onLane_psets (s : State) (port lane : Nat) (f : LaneRun → LaneRun) : (onLane s port lane f).psets = s.psets := rfl
@[simp] theorem onLane_admits (s : State) (port lane : Nat) (f : LaneRun → LaneRun) : (onLane s port lane f).admits = s.admits := rfl
@[simp] theorem onLane_mbx (s : State) (port lane : Nat) (f : LaneRun → LaneRun) : (onLane s port lane f).mbx = s.mbx := rfl
@[simp] theorem onLane_domes (s : State) (port lane : Nat) (f : LaneRun → LaneRun) : (onLane s port lane f).domes = s.domes := rfl
@[simp] theorem onLane_inflight (s : State) (port lane : Nat) (f : LaneRun → LaneRun) : (onLane s port lane f).inflight = s.inflight := rfl
@[simp] theorem onLane_held (s : State) (port lane : Nat) (f : LaneRun → LaneRun) : (onLane s port lane f).held = s.held := rfl
@[simp] theorem onLane_resolving (s : State) (port lane : Nat) (f : LaneRun → LaneRun) : (onLane s port lane f).resolving = s.resolving := rfl
@[simp] theorem onLane_capReads (s : State) (port lane : Nat) (f : LaneRun → LaneRun) : (onLane s port lane f).capReads = s.capReads := rfl
@[simp] theorem onLane_hostPorts (s : State) (port lane : Nat) (f : LaneRun → LaneRun) : (onLane s port lane f).hostPorts = s.hostPorts := rfl
@[simp] theorem onLane_router (s : State) (port lane : Nat) (f : LaneRun → LaneRun) : (onLane s port lane f).router = s.router := rfl
@[simp] theorem onLane_log (s : State) (port lane : Nat) (f : LaneRun → LaneRun) : (onLane s port lane f).log = s.log := rfl
@[simp] theorem onLane_meter (s : State) (port lane : Nat) (f : LaneRun → LaneRun) : (onLane s port lane f).meter = s.meter := rfl
@[simp] theorem onLane_regs (s : State) (port lane : Nat) (f : LaneRun → LaneRun) : (onLane s port lane f).regs = s.regs := rfl
@[simp] theorem onLane_dma (s : State) (port lane : Nat) (f : LaneRun → LaneRun) : (onLane s port lane f).dma = s.dma := rfl
@[simp] theorem onLane_out (s : State) (port lane : Nat) (f : LaneRun → LaneRun) : (onLane s port lane f).out = s.out := rfl
@[simp] theorem onLane_care (s : State) (port lane : Nat) (f : LaneRun → LaneRun) : (onLane s port lane f).care = s.care := rfl
@[simp] theorem onLane_boot (s : State) (port lane : Nat) (f : LaneRun → LaneRun) : (onLane s port lane f).boot = s.boot := rfl
@[simp] theorem onLane_dbg (s : State) (port lane : Nat) (f : LaneRun → LaneRun) : (onLane s port lane f).dbg = s.dbg := rfl
@[simp] theorem onLane_free (s : State) (port lane : Nat) (f : LaneRun → LaneRun) : (onLane s port lane f).free = s.free := rfl
@[simp] theorem onLane_pending (s : State) (port lane : Nat) (f : LaneRun → LaneRun) : (onLane s port lane f).pending = s.pending := rfl

@[simp] theorem onInstr_dev (s : State) (d i : Nat) (f : InstrRun → InstrRun) : (onInstr s d i f).dev = s.dev := rfl
@[simp] theorem onInstr_time (s : State) (d i : Nat) (f : InstrRun → InstrRun) : (onInstr s d i f).time = s.time := rfl
@[simp] theorem onInstr_tdc (s : State) (d i : Nat) (f : InstrRun → InstrRun) : (onInstr s d i f).tdc = s.tdc := rfl
@[simp] theorem onInstr_pairs (s : State) (d i : Nat) (f : InstrRun → InstrRun) : (onInstr s d i f).pairs = s.pairs := rfl
@[simp] theorem onInstr_clk (s : State) (d i : Nat) (f : InstrRun → InstrRun) : (onInstr s d i f).clk = s.clk := rfl
@[simp] theorem onInstr_ports (s : State) (d i : Nat) (f : InstrRun → InstrRun) : (onInstr s d i f).ports = s.ports := rfl
@[simp] theorem onInstr_feeds (s : State) (d i : Nat) (f : InstrRun → InstrRun) : (onInstr s d i f).feeds = s.feeds := rfl
@[simp] theorem onInstr_coarse (s : State) (d i : Nat) (f : InstrRun → InstrRun) : (onInstr s d i f).coarse = s.coarse := rfl
@[simp] theorem onInstr_coefSets (s : State) (d i : Nat) (f : InstrRun → InstrRun) : (onInstr s d i f).coefSets = s.coefSets := rfl
@[simp] theorem onInstr_zooms (s : State) (d i : Nat) (f : InstrRun → InstrRun) : (onInstr s d i f).zooms = s.zooms := rfl
@[simp] theorem onInstr_sks (s : State) (d i : Nat) (f : InstrRun → InstrRun) : (onInstr s d i f).sks = s.sks := rfl
@[simp] theorem onInstr_masks (s : State) (d i : Nat) (f : InstrRun → InstrRun) : (onInstr s d i f).masks = s.masks := rfl
@[simp] theorem onInstr_plates (s : State) (d i : Nat) (f : InstrRun → InstrRun) : (onInstr s d i f).plates = s.plates := rfl
@[simp] theorem onInstr_streams (s : State) (d i : Nat) (f : InstrRun → InstrRun) : (onInstr s d i f).streams = s.streams := rfl
@[simp] theorem onInstr_flows (s : State) (d i : Nat) (f : InstrRun → InstrRun) : (onInstr s d i f).flows = s.flows := rfl
@[simp] theorem onInstr_apertures (s : State) (d i : Nat) (f : InstrRun → InstrRun) : (onInstr s d i f).apertures = s.apertures := rfl
@[simp] theorem onInstr_sextants (s : State) (d i : Nat) (f : InstrRun → InstrRun) : (onInstr s d i f).sextants = s.sextants := rfl
@[simp] theorem onInstr_adc (s : State) (d i : Nat) (f : InstrRun → InstrRun) : (onInstr s d i f).adc = s.adc := rfl
@[simp] theorem onInstr_dacs (s : State) (d i : Nat) (f : InstrRun → InstrRun) : (onInstr s d i f).dacs = s.dacs := rfl
@[simp] theorem onInstr_eye (s : State) (d i : Nat) (f : InstrRun → InstrRun) : (onInstr s d i f).eye = s.eye := rfl
@[simp] theorem onInstr_hbm (s : State) (d i : Nat) (f : InstrRun → InstrRun) : (onInstr s d i f).hbm = s.hbm := rfl
@[simp] theorem onInstr_sheds (s : State) (d i : Nat) (f : InstrRun → InstrRun) : (onInstr s d i f).sheds = s.sheds := rfl
@[simp] theorem onInstr_handoff (s : State) (d i : Nat) (f : InstrRun → InstrRun) : (onInstr s d i f).handoff = s.handoff := rfl
@[simp] theorem onInstr_made (s : State) (d i : Nat) (f : InstrRun → InstrRun) : (onInstr s d i f).made = s.made := rfl
@[simp] theorem onInstr_taken (s : State) (d i : Nat) (f : InstrRun → InstrRun) : (onInstr s d i f).taken = s.taken := rfl
@[simp] theorem onInstr_plan (s : State) (d i : Nat) (f : InstrRun → InstrRun) : (onInstr s d i f).plan = s.plan := rfl
@[simp] theorem onInstr_psets (s : State) (d i : Nat) (f : InstrRun → InstrRun) : (onInstr s d i f).psets = s.psets := rfl
@[simp] theorem onInstr_admits (s : State) (d i : Nat) (f : InstrRun → InstrRun) : (onInstr s d i f).admits = s.admits := rfl
@[simp] theorem onInstr_mbx (s : State) (d i : Nat) (f : InstrRun → InstrRun) : (onInstr s d i f).mbx = s.mbx := rfl
@[simp] theorem onInstr_domes (s : State) (d i : Nat) (f : InstrRun → InstrRun) : (onInstr s d i f).domes = s.domes := rfl
@[simp] theorem onInstr_inflight (s : State) (d i : Nat) (f : InstrRun → InstrRun) : (onInstr s d i f).inflight = s.inflight := rfl
@[simp] theorem onInstr_held (s : State) (d i : Nat) (f : InstrRun → InstrRun) : (onInstr s d i f).held = s.held := rfl
@[simp] theorem onInstr_resolving (s : State) (d i : Nat) (f : InstrRun → InstrRun) : (onInstr s d i f).resolving = s.resolving := rfl
@[simp] theorem onInstr_capReads (s : State) (d i : Nat) (f : InstrRun → InstrRun) : (onInstr s d i f).capReads = s.capReads := rfl
@[simp] theorem onInstr_hostPorts (s : State) (d i : Nat) (f : InstrRun → InstrRun) : (onInstr s d i f).hostPorts = s.hostPorts := rfl
@[simp] theorem onInstr_router (s : State) (d i : Nat) (f : InstrRun → InstrRun) : (onInstr s d i f).router = s.router := rfl
@[simp] theorem onInstr_log (s : State) (d i : Nat) (f : InstrRun → InstrRun) : (onInstr s d i f).log = s.log := rfl
@[simp] theorem onInstr_meter (s : State) (d i : Nat) (f : InstrRun → InstrRun) : (onInstr s d i f).meter = s.meter := rfl
@[simp] theorem onInstr_regs (s : State) (d i : Nat) (f : InstrRun → InstrRun) : (onInstr s d i f).regs = s.regs := rfl
@[simp] theorem onInstr_dma (s : State) (d i : Nat) (f : InstrRun → InstrRun) : (onInstr s d i f).dma = s.dma := rfl
@[simp] theorem onInstr_out (s : State) (d i : Nat) (f : InstrRun → InstrRun) : (onInstr s d i f).out = s.out := rfl
@[simp] theorem onInstr_care (s : State) (d i : Nat) (f : InstrRun → InstrRun) : (onInstr s d i f).care = s.care := rfl
@[simp] theorem onInstr_boot (s : State) (d i : Nat) (f : InstrRun → InstrRun) : (onInstr s d i f).boot = s.boot := rfl
@[simp] theorem onInstr_dbg (s : State) (d i : Nat) (f : InstrRun → InstrRun) : (onInstr s d i f).dbg = s.dbg := rfl
@[simp] theorem onInstr_free (s : State) (d i : Nat) (f : InstrRun → InstrRun) : (onInstr s d i f).free = s.free := rfl
@[simp] theorem onInstr_pending (s : State) (d i : Nat) (f : InstrRun → InstrRun) : (onInstr s d i f).pending = s.pending := rfl

@[simp] theorem onCare_dev (s : State) (f : CareSt → CareSt) : (onCare s f).dev = s.dev := rfl
@[simp] theorem onCare_time (s : State) (f : CareSt → CareSt) : (onCare s f).time = s.time := rfl
@[simp] theorem onCare_tdc (s : State) (f : CareSt → CareSt) : (onCare s f).tdc = s.tdc := rfl
@[simp] theorem onCare_pairs (s : State) (f : CareSt → CareSt) : (onCare s f).pairs = s.pairs := rfl
@[simp] theorem onCare_clk (s : State) (f : CareSt → CareSt) : (onCare s f).clk = s.clk := rfl
@[simp] theorem onCare_ports (s : State) (f : CareSt → CareSt) : (onCare s f).ports = s.ports := rfl
@[simp] theorem onCare_feeds (s : State) (f : CareSt → CareSt) : (onCare s f).feeds = s.feeds := rfl
@[simp] theorem onCare_coarse (s : State) (f : CareSt → CareSt) : (onCare s f).coarse = s.coarse := rfl
@[simp] theorem onCare_coefSets (s : State) (f : CareSt → CareSt) : (onCare s f).coefSets = s.coefSets := rfl
@[simp] theorem onCare_zooms (s : State) (f : CareSt → CareSt) : (onCare s f).zooms = s.zooms := rfl
@[simp] theorem onCare_sks (s : State) (f : CareSt → CareSt) : (onCare s f).sks = s.sks := rfl
@[simp] theorem onCare_instrs (s : State) (f : CareSt → CareSt) : (onCare s f).instrs = s.instrs := rfl
@[simp] theorem onCare_masks (s : State) (f : CareSt → CareSt) : (onCare s f).masks = s.masks := rfl
@[simp] theorem onCare_plates (s : State) (f : CareSt → CareSt) : (onCare s f).plates = s.plates := rfl
@[simp] theorem onCare_streams (s : State) (f : CareSt → CareSt) : (onCare s f).streams = s.streams := rfl
@[simp] theorem onCare_flows (s : State) (f : CareSt → CareSt) : (onCare s f).flows = s.flows := rfl
@[simp] theorem onCare_apertures (s : State) (f : CareSt → CareSt) : (onCare s f).apertures = s.apertures := rfl
@[simp] theorem onCare_sextants (s : State) (f : CareSt → CareSt) : (onCare s f).sextants = s.sextants := rfl
@[simp] theorem onCare_adc (s : State) (f : CareSt → CareSt) : (onCare s f).adc = s.adc := rfl
@[simp] theorem onCare_dacs (s : State) (f : CareSt → CareSt) : (onCare s f).dacs = s.dacs := rfl
@[simp] theorem onCare_eye (s : State) (f : CareSt → CareSt) : (onCare s f).eye = s.eye := rfl
@[simp] theorem onCare_hbm (s : State) (f : CareSt → CareSt) : (onCare s f).hbm = s.hbm := rfl
@[simp] theorem onCare_sheds (s : State) (f : CareSt → CareSt) : (onCare s f).sheds = s.sheds := rfl
@[simp] theorem onCare_handoff (s : State) (f : CareSt → CareSt) : (onCare s f).handoff = s.handoff := rfl
@[simp] theorem onCare_made (s : State) (f : CareSt → CareSt) : (onCare s f).made = s.made := rfl
@[simp] theorem onCare_taken (s : State) (f : CareSt → CareSt) : (onCare s f).taken = s.taken := rfl
@[simp] theorem onCare_plan (s : State) (f : CareSt → CareSt) : (onCare s f).plan = s.plan := rfl
@[simp] theorem onCare_psets (s : State) (f : CareSt → CareSt) : (onCare s f).psets = s.psets := rfl
@[simp] theorem onCare_admits (s : State) (f : CareSt → CareSt) : (onCare s f).admits = s.admits := rfl
@[simp] theorem onCare_mbx (s : State) (f : CareSt → CareSt) : (onCare s f).mbx = s.mbx := rfl
@[simp] theorem onCare_domes (s : State) (f : CareSt → CareSt) : (onCare s f).domes = s.domes := rfl
@[simp] theorem onCare_inflight (s : State) (f : CareSt → CareSt) : (onCare s f).inflight = s.inflight := rfl
@[simp] theorem onCare_held (s : State) (f : CareSt → CareSt) : (onCare s f).held = s.held := rfl
@[simp] theorem onCare_resolving (s : State) (f : CareSt → CareSt) : (onCare s f).resolving = s.resolving := rfl
@[simp] theorem onCare_capReads (s : State) (f : CareSt → CareSt) : (onCare s f).capReads = s.capReads := rfl
@[simp] theorem onCare_hostPorts (s : State) (f : CareSt → CareSt) : (onCare s f).hostPorts = s.hostPorts := rfl
@[simp] theorem onCare_router (s : State) (f : CareSt → CareSt) : (onCare s f).router = s.router := rfl
@[simp] theorem onCare_log (s : State) (f : CareSt → CareSt) : (onCare s f).log = s.log := rfl
@[simp] theorem onCare_meter (s : State) (f : CareSt → CareSt) : (onCare s f).meter = s.meter := rfl
@[simp] theorem onCare_regs (s : State) (f : CareSt → CareSt) : (onCare s f).regs = s.regs := rfl
@[simp] theorem onCare_dma (s : State) (f : CareSt → CareSt) : (onCare s f).dma = s.dma := rfl
@[simp] theorem onCare_out (s : State) (f : CareSt → CareSt) : (onCare s f).out = s.out := rfl
@[simp] theorem onCare_boot (s : State) (f : CareSt → CareSt) : (onCare s f).boot = s.boot := rfl
@[simp] theorem onCare_dbg (s : State) (f : CareSt → CareSt) : (onCare s f).dbg = s.dbg := rfl
@[simp] theorem onCare_free (s : State) (f : CareSt → CareSt) : (onCare s f).free = s.free := rfl
@[simp] theorem onCare_pending (s : State) (f : CareSt → CareSt) : (onCare s f).pending = s.pending := rfl

@[simp] theorem onBoot_dev (s : State) (f : BootSt → BootSt) : (onBoot s f).dev = s.dev := rfl
@[simp] theorem onBoot_time (s : State) (f : BootSt → BootSt) : (onBoot s f).time = s.time := rfl
@[simp] theorem onBoot_tdc (s : State) (f : BootSt → BootSt) : (onBoot s f).tdc = s.tdc := rfl
@[simp] theorem onBoot_pairs (s : State) (f : BootSt → BootSt) : (onBoot s f).pairs = s.pairs := rfl
@[simp] theorem onBoot_clk (s : State) (f : BootSt → BootSt) : (onBoot s f).clk = s.clk := rfl
@[simp] theorem onBoot_ports (s : State) (f : BootSt → BootSt) : (onBoot s f).ports = s.ports := rfl
@[simp] theorem onBoot_feeds (s : State) (f : BootSt → BootSt) : (onBoot s f).feeds = s.feeds := rfl
@[simp] theorem onBoot_coarse (s : State) (f : BootSt → BootSt) : (onBoot s f).coarse = s.coarse := rfl
@[simp] theorem onBoot_coefSets (s : State) (f : BootSt → BootSt) : (onBoot s f).coefSets = s.coefSets := rfl
@[simp] theorem onBoot_zooms (s : State) (f : BootSt → BootSt) : (onBoot s f).zooms = s.zooms := rfl
@[simp] theorem onBoot_sks (s : State) (f : BootSt → BootSt) : (onBoot s f).sks = s.sks := rfl
@[simp] theorem onBoot_instrs (s : State) (f : BootSt → BootSt) : (onBoot s f).instrs = s.instrs := rfl
@[simp] theorem onBoot_masks (s : State) (f : BootSt → BootSt) : (onBoot s f).masks = s.masks := rfl
@[simp] theorem onBoot_plates (s : State) (f : BootSt → BootSt) : (onBoot s f).plates = s.plates := rfl
@[simp] theorem onBoot_streams (s : State) (f : BootSt → BootSt) : (onBoot s f).streams = s.streams := rfl
@[simp] theorem onBoot_flows (s : State) (f : BootSt → BootSt) : (onBoot s f).flows = s.flows := rfl
@[simp] theorem onBoot_apertures (s : State) (f : BootSt → BootSt) : (onBoot s f).apertures = s.apertures := rfl
@[simp] theorem onBoot_sextants (s : State) (f : BootSt → BootSt) : (onBoot s f).sextants = s.sextants := rfl
@[simp] theorem onBoot_adc (s : State) (f : BootSt → BootSt) : (onBoot s f).adc = s.adc := rfl
@[simp] theorem onBoot_dacs (s : State) (f : BootSt → BootSt) : (onBoot s f).dacs = s.dacs := rfl
@[simp] theorem onBoot_eye (s : State) (f : BootSt → BootSt) : (onBoot s f).eye = s.eye := rfl
@[simp] theorem onBoot_hbm (s : State) (f : BootSt → BootSt) : (onBoot s f).hbm = s.hbm := rfl
@[simp] theorem onBoot_sheds (s : State) (f : BootSt → BootSt) : (onBoot s f).sheds = s.sheds := rfl
@[simp] theorem onBoot_handoff (s : State) (f : BootSt → BootSt) : (onBoot s f).handoff = s.handoff := rfl
@[simp] theorem onBoot_made (s : State) (f : BootSt → BootSt) : (onBoot s f).made = s.made := rfl
@[simp] theorem onBoot_taken (s : State) (f : BootSt → BootSt) : (onBoot s f).taken = s.taken := rfl
@[simp] theorem onBoot_plan (s : State) (f : BootSt → BootSt) : (onBoot s f).plan = s.plan := rfl
@[simp] theorem onBoot_psets (s : State) (f : BootSt → BootSt) : (onBoot s f).psets = s.psets := rfl
@[simp] theorem onBoot_admits (s : State) (f : BootSt → BootSt) : (onBoot s f).admits = s.admits := rfl
@[simp] theorem onBoot_mbx (s : State) (f : BootSt → BootSt) : (onBoot s f).mbx = s.mbx := rfl
@[simp] theorem onBoot_domes (s : State) (f : BootSt → BootSt) : (onBoot s f).domes = s.domes := rfl
@[simp] theorem onBoot_inflight (s : State) (f : BootSt → BootSt) : (onBoot s f).inflight = s.inflight := rfl
@[simp] theorem onBoot_held (s : State) (f : BootSt → BootSt) : (onBoot s f).held = s.held := rfl
@[simp] theorem onBoot_resolving (s : State) (f : BootSt → BootSt) : (onBoot s f).resolving = s.resolving := rfl
@[simp] theorem onBoot_capReads (s : State) (f : BootSt → BootSt) : (onBoot s f).capReads = s.capReads := rfl
@[simp] theorem onBoot_hostPorts (s : State) (f : BootSt → BootSt) : (onBoot s f).hostPorts = s.hostPorts := rfl
@[simp] theorem onBoot_router (s : State) (f : BootSt → BootSt) : (onBoot s f).router = s.router := rfl
@[simp] theorem onBoot_log (s : State) (f : BootSt → BootSt) : (onBoot s f).log = s.log := rfl
@[simp] theorem onBoot_meter (s : State) (f : BootSt → BootSt) : (onBoot s f).meter = s.meter := rfl
@[simp] theorem onBoot_regs (s : State) (f : BootSt → BootSt) : (onBoot s f).regs = s.regs := rfl
@[simp] theorem onBoot_dma (s : State) (f : BootSt → BootSt) : (onBoot s f).dma = s.dma := rfl
@[simp] theorem onBoot_out (s : State) (f : BootSt → BootSt) : (onBoot s f).out = s.out := rfl
@[simp] theorem onBoot_care (s : State) (f : BootSt → BootSt) : (onBoot s f).care = s.care := rfl
@[simp] theorem onBoot_dbg (s : State) (f : BootSt → BootSt) : (onBoot s f).dbg = s.dbg := rfl
@[simp] theorem onBoot_free (s : State) (f : BootSt → BootSt) : (onBoot s f).free = s.free := rfl
@[simp] theorem onBoot_pending (s : State) (f : BootSt → BootSt) : (onBoot s f).pending = s.pending := rfl

@[simp] theorem onDome_dev (s : State) (d : Nat) (f : DomeRun → DomeRun) : (onDome s d f).dev = s.dev := rfl
@[simp] theorem onDome_time (s : State) (d : Nat) (f : DomeRun → DomeRun) : (onDome s d f).time = s.time := rfl
@[simp] theorem onDome_tdc (s : State) (d : Nat) (f : DomeRun → DomeRun) : (onDome s d f).tdc = s.tdc := rfl
@[simp] theorem onDome_pairs (s : State) (d : Nat) (f : DomeRun → DomeRun) : (onDome s d f).pairs = s.pairs := rfl
@[simp] theorem onDome_clk (s : State) (d : Nat) (f : DomeRun → DomeRun) : (onDome s d f).clk = s.clk := rfl
@[simp] theorem onDome_ports (s : State) (d : Nat) (f : DomeRun → DomeRun) : (onDome s d f).ports = s.ports := rfl
@[simp] theorem onDome_feeds (s : State) (d : Nat) (f : DomeRun → DomeRun) : (onDome s d f).feeds = s.feeds := rfl
@[simp] theorem onDome_coarse (s : State) (d : Nat) (f : DomeRun → DomeRun) : (onDome s d f).coarse = s.coarse := rfl
@[simp] theorem onDome_coefSets (s : State) (d : Nat) (f : DomeRun → DomeRun) : (onDome s d f).coefSets = s.coefSets := rfl
@[simp] theorem onDome_zooms (s : State) (d : Nat) (f : DomeRun → DomeRun) : (onDome s d f).zooms = s.zooms := rfl
@[simp] theorem onDome_sks (s : State) (d : Nat) (f : DomeRun → DomeRun) : (onDome s d f).sks = s.sks := rfl
@[simp] theorem onDome_instrs (s : State) (d : Nat) (f : DomeRun → DomeRun) : (onDome s d f).instrs = s.instrs := rfl
@[simp] theorem onDome_masks (s : State) (d : Nat) (f : DomeRun → DomeRun) : (onDome s d f).masks = s.masks := rfl
@[simp] theorem onDome_plates (s : State) (d : Nat) (f : DomeRun → DomeRun) : (onDome s d f).plates = s.plates := rfl
@[simp] theorem onDome_streams (s : State) (d : Nat) (f : DomeRun → DomeRun) : (onDome s d f).streams = s.streams := rfl
@[simp] theorem onDome_flows (s : State) (d : Nat) (f : DomeRun → DomeRun) : (onDome s d f).flows = s.flows := rfl
@[simp] theorem onDome_apertures (s : State) (d : Nat) (f : DomeRun → DomeRun) : (onDome s d f).apertures = s.apertures := rfl
@[simp] theorem onDome_sextants (s : State) (d : Nat) (f : DomeRun → DomeRun) : (onDome s d f).sextants = s.sextants := rfl
@[simp] theorem onDome_adc (s : State) (d : Nat) (f : DomeRun → DomeRun) : (onDome s d f).adc = s.adc := rfl
@[simp] theorem onDome_dacs (s : State) (d : Nat) (f : DomeRun → DomeRun) : (onDome s d f).dacs = s.dacs := rfl
@[simp] theorem onDome_eye (s : State) (d : Nat) (f : DomeRun → DomeRun) : (onDome s d f).eye = s.eye := rfl
@[simp] theorem onDome_hbm (s : State) (d : Nat) (f : DomeRun → DomeRun) : (onDome s d f).hbm = s.hbm := rfl
@[simp] theorem onDome_sheds (s : State) (d : Nat) (f : DomeRun → DomeRun) : (onDome s d f).sheds = s.sheds := rfl
@[simp] theorem onDome_handoff (s : State) (d : Nat) (f : DomeRun → DomeRun) : (onDome s d f).handoff = s.handoff := rfl
@[simp] theorem onDome_made (s : State) (d : Nat) (f : DomeRun → DomeRun) : (onDome s d f).made = s.made := rfl
@[simp] theorem onDome_taken (s : State) (d : Nat) (f : DomeRun → DomeRun) : (onDome s d f).taken = s.taken := rfl
@[simp] theorem onDome_plan (s : State) (d : Nat) (f : DomeRun → DomeRun) : (onDome s d f).plan = s.plan := rfl
@[simp] theorem onDome_psets (s : State) (d : Nat) (f : DomeRun → DomeRun) : (onDome s d f).psets = s.psets := rfl
@[simp] theorem onDome_admits (s : State) (d : Nat) (f : DomeRun → DomeRun) : (onDome s d f).admits = s.admits := rfl
@[simp] theorem onDome_mbx (s : State) (d : Nat) (f : DomeRun → DomeRun) : (onDome s d f).mbx = s.mbx := rfl
@[simp] theorem onDome_inflight (s : State) (d : Nat) (f : DomeRun → DomeRun) : (onDome s d f).inflight = s.inflight := rfl
@[simp] theorem onDome_held (s : State) (d : Nat) (f : DomeRun → DomeRun) : (onDome s d f).held = s.held := rfl
@[simp] theorem onDome_resolving (s : State) (d : Nat) (f : DomeRun → DomeRun) : (onDome s d f).resolving = s.resolving := rfl
@[simp] theorem onDome_capReads (s : State) (d : Nat) (f : DomeRun → DomeRun) : (onDome s d f).capReads = s.capReads := rfl
@[simp] theorem onDome_hostPorts (s : State) (d : Nat) (f : DomeRun → DomeRun) : (onDome s d f).hostPorts = s.hostPorts := rfl
@[simp] theorem onDome_router (s : State) (d : Nat) (f : DomeRun → DomeRun) : (onDome s d f).router = s.router := rfl
@[simp] theorem onDome_log (s : State) (d : Nat) (f : DomeRun → DomeRun) : (onDome s d f).log = s.log := rfl
@[simp] theorem onDome_meter (s : State) (d : Nat) (f : DomeRun → DomeRun) : (onDome s d f).meter = s.meter := rfl
@[simp] theorem onDome_regs (s : State) (d : Nat) (f : DomeRun → DomeRun) : (onDome s d f).regs = s.regs := rfl
@[simp] theorem onDome_dma (s : State) (d : Nat) (f : DomeRun → DomeRun) : (onDome s d f).dma = s.dma := rfl
@[simp] theorem onDome_out (s : State) (d : Nat) (f : DomeRun → DomeRun) : (onDome s d f).out = s.out := rfl
@[simp] theorem onDome_care (s : State) (d : Nat) (f : DomeRun → DomeRun) : (onDome s d f).care = s.care := rfl
@[simp] theorem onDome_boot (s : State) (d : Nat) (f : DomeRun → DomeRun) : (onDome s d f).boot = s.boot := rfl
@[simp] theorem onDome_dbg (s : State) (d : Nat) (f : DomeRun → DomeRun) : (onDome s d f).dbg = s.dbg := rfl
@[simp] theorem onDome_free (s : State) (d : Nat) (f : DomeRun → DomeRun) : (onDome s d f).free = s.free := rfl
@[simp] theorem onDome_pending (s : State) (d : Nat) (f : DomeRun → DomeRun) : (onDome s d f).pending = s.pending := rfl

@[simp] theorem onMbx_dev (s : State) (f : Fn) (g : Mbx → Mbx) : (onMbx s f g).dev = s.dev := rfl
@[simp] theorem onMbx_time (s : State) (f : Fn) (g : Mbx → Mbx) : (onMbx s f g).time = s.time := rfl
@[simp] theorem onMbx_tdc (s : State) (f : Fn) (g : Mbx → Mbx) : (onMbx s f g).tdc = s.tdc := rfl
@[simp] theorem onMbx_pairs (s : State) (f : Fn) (g : Mbx → Mbx) : (onMbx s f g).pairs = s.pairs := rfl
@[simp] theorem onMbx_clk (s : State) (f : Fn) (g : Mbx → Mbx) : (onMbx s f g).clk = s.clk := rfl
@[simp] theorem onMbx_ports (s : State) (f : Fn) (g : Mbx → Mbx) : (onMbx s f g).ports = s.ports := rfl
@[simp] theorem onMbx_feeds (s : State) (f : Fn) (g : Mbx → Mbx) : (onMbx s f g).feeds = s.feeds := rfl
@[simp] theorem onMbx_coarse (s : State) (f : Fn) (g : Mbx → Mbx) : (onMbx s f g).coarse = s.coarse := rfl
@[simp] theorem onMbx_coefSets (s : State) (f : Fn) (g : Mbx → Mbx) : (onMbx s f g).coefSets = s.coefSets := rfl
@[simp] theorem onMbx_zooms (s : State) (f : Fn) (g : Mbx → Mbx) : (onMbx s f g).zooms = s.zooms := rfl
@[simp] theorem onMbx_sks (s : State) (f : Fn) (g : Mbx → Mbx) : (onMbx s f g).sks = s.sks := rfl
@[simp] theorem onMbx_instrs (s : State) (f : Fn) (g : Mbx → Mbx) : (onMbx s f g).instrs = s.instrs := rfl
@[simp] theorem onMbx_masks (s : State) (f : Fn) (g : Mbx → Mbx) : (onMbx s f g).masks = s.masks := rfl
@[simp] theorem onMbx_plates (s : State) (f : Fn) (g : Mbx → Mbx) : (onMbx s f g).plates = s.plates := rfl
@[simp] theorem onMbx_streams (s : State) (f : Fn) (g : Mbx → Mbx) : (onMbx s f g).streams = s.streams := rfl
@[simp] theorem onMbx_flows (s : State) (f : Fn) (g : Mbx → Mbx) : (onMbx s f g).flows = s.flows := rfl
@[simp] theorem onMbx_apertures (s : State) (f : Fn) (g : Mbx → Mbx) : (onMbx s f g).apertures = s.apertures := rfl
@[simp] theorem onMbx_sextants (s : State) (f : Fn) (g : Mbx → Mbx) : (onMbx s f g).sextants = s.sextants := rfl
@[simp] theorem onMbx_adc (s : State) (f : Fn) (g : Mbx → Mbx) : (onMbx s f g).adc = s.adc := rfl
@[simp] theorem onMbx_dacs (s : State) (f : Fn) (g : Mbx → Mbx) : (onMbx s f g).dacs = s.dacs := rfl
@[simp] theorem onMbx_eye (s : State) (f : Fn) (g : Mbx → Mbx) : (onMbx s f g).eye = s.eye := rfl
@[simp] theorem onMbx_hbm (s : State) (f : Fn) (g : Mbx → Mbx) : (onMbx s f g).hbm = s.hbm := rfl
@[simp] theorem onMbx_sheds (s : State) (f : Fn) (g : Mbx → Mbx) : (onMbx s f g).sheds = s.sheds := rfl
@[simp] theorem onMbx_handoff (s : State) (f : Fn) (g : Mbx → Mbx) : (onMbx s f g).handoff = s.handoff := rfl
@[simp] theorem onMbx_made (s : State) (f : Fn) (g : Mbx → Mbx) : (onMbx s f g).made = s.made := rfl
@[simp] theorem onMbx_taken (s : State) (f : Fn) (g : Mbx → Mbx) : (onMbx s f g).taken = s.taken := rfl
@[simp] theorem onMbx_plan (s : State) (f : Fn) (g : Mbx → Mbx) : (onMbx s f g).plan = s.plan := rfl
@[simp] theorem onMbx_psets (s : State) (f : Fn) (g : Mbx → Mbx) : (onMbx s f g).psets = s.psets := rfl
@[simp] theorem onMbx_admits (s : State) (f : Fn) (g : Mbx → Mbx) : (onMbx s f g).admits = s.admits := rfl
@[simp] theorem onMbx_domes (s : State) (f : Fn) (g : Mbx → Mbx) : (onMbx s f g).domes = s.domes := rfl
@[simp] theorem onMbx_inflight (s : State) (f : Fn) (g : Mbx → Mbx) : (onMbx s f g).inflight = s.inflight := rfl
@[simp] theorem onMbx_held (s : State) (f : Fn) (g : Mbx → Mbx) : (onMbx s f g).held = s.held := rfl
@[simp] theorem onMbx_resolving (s : State) (f : Fn) (g : Mbx → Mbx) : (onMbx s f g).resolving = s.resolving := rfl
@[simp] theorem onMbx_capReads (s : State) (f : Fn) (g : Mbx → Mbx) : (onMbx s f g).capReads = s.capReads := rfl
@[simp] theorem onMbx_hostPorts (s : State) (f : Fn) (g : Mbx → Mbx) : (onMbx s f g).hostPorts = s.hostPorts := rfl
@[simp] theorem onMbx_router (s : State) (f : Fn) (g : Mbx → Mbx) : (onMbx s f g).router = s.router := rfl
@[simp] theorem onMbx_log (s : State) (f : Fn) (g : Mbx → Mbx) : (onMbx s f g).log = s.log := rfl
@[simp] theorem onMbx_meter (s : State) (f : Fn) (g : Mbx → Mbx) : (onMbx s f g).meter = s.meter := rfl
@[simp] theorem onMbx_regs (s : State) (f : Fn) (g : Mbx → Mbx) : (onMbx s f g).regs = s.regs := rfl
@[simp] theorem onMbx_dma (s : State) (f : Fn) (g : Mbx → Mbx) : (onMbx s f g).dma = s.dma := rfl
@[simp] theorem onMbx_out (s : State) (f : Fn) (g : Mbx → Mbx) : (onMbx s f g).out = s.out := rfl
@[simp] theorem onMbx_care (s : State) (f : Fn) (g : Mbx → Mbx) : (onMbx s f g).care = s.care := rfl
@[simp] theorem onMbx_boot (s : State) (f : Fn) (g : Mbx → Mbx) : (onMbx s f g).boot = s.boot := rfl
@[simp] theorem onMbx_dbg (s : State) (f : Fn) (g : Mbx → Mbx) : (onMbx s f g).dbg = s.dbg := rfl
@[simp] theorem onMbx_free (s : State) (f : Fn) (g : Mbx → Mbx) : (onMbx s f g).free = s.free := rfl
@[simp] theorem onMbx_pending (s : State) (f : Fn) (g : Mbx → Mbx) : (onMbx s f g).pending = s.pending := rfl

@[simp] theorem onCommit_dev (s : State) (f : Fn) (g : CommitWin → CommitWin) : (onCommit s f g).dev = s.dev := rfl
@[simp] theorem onCommit_time (s : State) (f : Fn) (g : CommitWin → CommitWin) : (onCommit s f g).time = s.time := rfl
@[simp] theorem onCommit_tdc (s : State) (f : Fn) (g : CommitWin → CommitWin) : (onCommit s f g).tdc = s.tdc := rfl
@[simp] theorem onCommit_pairs (s : State) (f : Fn) (g : CommitWin → CommitWin) : (onCommit s f g).pairs = s.pairs := rfl
@[simp] theorem onCommit_clk (s : State) (f : Fn) (g : CommitWin → CommitWin) : (onCommit s f g).clk = s.clk := rfl
@[simp] theorem onCommit_ports (s : State) (f : Fn) (g : CommitWin → CommitWin) : (onCommit s f g).ports = s.ports := rfl
@[simp] theorem onCommit_feeds (s : State) (f : Fn) (g : CommitWin → CommitWin) : (onCommit s f g).feeds = s.feeds := rfl
@[simp] theorem onCommit_coarse (s : State) (f : Fn) (g : CommitWin → CommitWin) : (onCommit s f g).coarse = s.coarse := rfl
@[simp] theorem onCommit_coefSets (s : State) (f : Fn) (g : CommitWin → CommitWin) : (onCommit s f g).coefSets = s.coefSets := rfl
@[simp] theorem onCommit_zooms (s : State) (f : Fn) (g : CommitWin → CommitWin) : (onCommit s f g).zooms = s.zooms := rfl
@[simp] theorem onCommit_sks (s : State) (f : Fn) (g : CommitWin → CommitWin) : (onCommit s f g).sks = s.sks := rfl
@[simp] theorem onCommit_instrs (s : State) (f : Fn) (g : CommitWin → CommitWin) : (onCommit s f g).instrs = s.instrs := rfl
@[simp] theorem onCommit_masks (s : State) (f : Fn) (g : CommitWin → CommitWin) : (onCommit s f g).masks = s.masks := rfl
@[simp] theorem onCommit_plates (s : State) (f : Fn) (g : CommitWin → CommitWin) : (onCommit s f g).plates = s.plates := rfl
@[simp] theorem onCommit_streams (s : State) (f : Fn) (g : CommitWin → CommitWin) : (onCommit s f g).streams = s.streams := rfl
@[simp] theorem onCommit_flows (s : State) (f : Fn) (g : CommitWin → CommitWin) : (onCommit s f g).flows = s.flows := rfl
@[simp] theorem onCommit_apertures (s : State) (f : Fn) (g : CommitWin → CommitWin) : (onCommit s f g).apertures = s.apertures := rfl
@[simp] theorem onCommit_sextants (s : State) (f : Fn) (g : CommitWin → CommitWin) : (onCommit s f g).sextants = s.sextants := rfl
@[simp] theorem onCommit_adc (s : State) (f : Fn) (g : CommitWin → CommitWin) : (onCommit s f g).adc = s.adc := rfl
@[simp] theorem onCommit_dacs (s : State) (f : Fn) (g : CommitWin → CommitWin) : (onCommit s f g).dacs = s.dacs := rfl
@[simp] theorem onCommit_eye (s : State) (f : Fn) (g : CommitWin → CommitWin) : (onCommit s f g).eye = s.eye := rfl
@[simp] theorem onCommit_hbm (s : State) (f : Fn) (g : CommitWin → CommitWin) : (onCommit s f g).hbm = s.hbm := rfl
@[simp] theorem onCommit_sheds (s : State) (f : Fn) (g : CommitWin → CommitWin) : (onCommit s f g).sheds = s.sheds := rfl
@[simp] theorem onCommit_handoff (s : State) (f : Fn) (g : CommitWin → CommitWin) : (onCommit s f g).handoff = s.handoff := rfl
@[simp] theorem onCommit_made (s : State) (f : Fn) (g : CommitWin → CommitWin) : (onCommit s f g).made = s.made := rfl
@[simp] theorem onCommit_taken (s : State) (f : Fn) (g : CommitWin → CommitWin) : (onCommit s f g).taken = s.taken := rfl
@[simp] theorem onCommit_plan (s : State) (f : Fn) (g : CommitWin → CommitWin) : (onCommit s f g).plan = s.plan := rfl
@[simp] theorem onCommit_psets (s : State) (f : Fn) (g : CommitWin → CommitWin) : (onCommit s f g).psets = s.psets := rfl
@[simp] theorem onCommit_admits (s : State) (f : Fn) (g : CommitWin → CommitWin) : (onCommit s f g).admits = s.admits := rfl
@[simp] theorem onCommit_mbx (s : State) (f : Fn) (g : CommitWin → CommitWin) : (onCommit s f g).mbx = s.mbx := rfl
@[simp] theorem onCommit_domes (s : State) (f : Fn) (g : CommitWin → CommitWin) : (onCommit s f g).domes = s.domes := rfl
@[simp] theorem onCommit_inflight (s : State) (f : Fn) (g : CommitWin → CommitWin) : (onCommit s f g).inflight = s.inflight := rfl
@[simp] theorem onCommit_held (s : State) (f : Fn) (g : CommitWin → CommitWin) : (onCommit s f g).held = s.held := rfl
@[simp] theorem onCommit_resolving (s : State) (f : Fn) (g : CommitWin → CommitWin) : (onCommit s f g).resolving = s.resolving := rfl
@[simp] theorem onCommit_capReads (s : State) (f : Fn) (g : CommitWin → CommitWin) : (onCommit s f g).capReads = s.capReads := rfl
@[simp] theorem onCommit_hostPorts (s : State) (f : Fn) (g : CommitWin → CommitWin) : (onCommit s f g).hostPorts = s.hostPorts := rfl
@[simp] theorem onCommit_router (s : State) (f : Fn) (g : CommitWin → CommitWin) : (onCommit s f g).router = s.router := rfl
@[simp] theorem onCommit_log (s : State) (f : Fn) (g : CommitWin → CommitWin) : (onCommit s f g).log = s.log := rfl
@[simp] theorem onCommit_meter (s : State) (f : Fn) (g : CommitWin → CommitWin) : (onCommit s f g).meter = s.meter := rfl
@[simp] theorem onCommit_dma (s : State) (f : Fn) (g : CommitWin → CommitWin) : (onCommit s f g).dma = s.dma := rfl
@[simp] theorem onCommit_out (s : State) (f : Fn) (g : CommitWin → CommitWin) : (onCommit s f g).out = s.out := rfl
@[simp] theorem onCommit_care (s : State) (f : Fn) (g : CommitWin → CommitWin) : (onCommit s f g).care = s.care := rfl
@[simp] theorem onCommit_boot (s : State) (f : Fn) (g : CommitWin → CommitWin) : (onCommit s f g).boot = s.boot := rfl
@[simp] theorem onCommit_dbg (s : State) (f : Fn) (g : CommitWin → CommitWin) : (onCommit s f g).dbg = s.dbg := rfl
@[simp] theorem onCommit_free (s : State) (f : Fn) (g : CommitWin → CommitWin) : (onCommit s f g).free = s.free := rfl
@[simp] theorem onCommit_pending (s : State) (f : Fn) (g : CommitWin → CommitWin) : (onCommit s f g).pending = s.pending := rfl

@[simp] theorem onCell_dev (s : State) (n : Nat) (f : CellRun → CellRun) : (onCell s n f).dev = s.dev := rfl
@[simp] theorem onCell_time (s : State) (n : Nat) (f : CellRun → CellRun) : (onCell s n f).time = s.time := rfl
@[simp] theorem onCell_tdc (s : State) (n : Nat) (f : CellRun → CellRun) : (onCell s n f).tdc = s.tdc := rfl
@[simp] theorem onCell_pairs (s : State) (n : Nat) (f : CellRun → CellRun) : (onCell s n f).pairs = s.pairs := rfl
@[simp] theorem onCell_clk (s : State) (n : Nat) (f : CellRun → CellRun) : (onCell s n f).clk = s.clk := rfl
@[simp] theorem onCell_ports (s : State) (n : Nat) (f : CellRun → CellRun) : (onCell s n f).ports = s.ports := rfl
@[simp] theorem onCell_feeds (s : State) (n : Nat) (f : CellRun → CellRun) : (onCell s n f).feeds = s.feeds := rfl
@[simp] theorem onCell_coarse (s : State) (n : Nat) (f : CellRun → CellRun) : (onCell s n f).coarse = s.coarse := rfl
@[simp] theorem onCell_coefSets (s : State) (n : Nat) (f : CellRun → CellRun) : (onCell s n f).coefSets = s.coefSets := rfl
@[simp] theorem onCell_zooms (s : State) (n : Nat) (f : CellRun → CellRun) : (onCell s n f).zooms = s.zooms := rfl
@[simp] theorem onCell_sks (s : State) (n : Nat) (f : CellRun → CellRun) : (onCell s n f).sks = s.sks := rfl
@[simp] theorem onCell_instrs (s : State) (n : Nat) (f : CellRun → CellRun) : (onCell s n f).instrs = s.instrs := rfl
@[simp] theorem onCell_masks (s : State) (n : Nat) (f : CellRun → CellRun) : (onCell s n f).masks = s.masks := rfl
@[simp] theorem onCell_plates (s : State) (n : Nat) (f : CellRun → CellRun) : (onCell s n f).plates = s.plates := rfl
@[simp] theorem onCell_streams (s : State) (n : Nat) (f : CellRun → CellRun) : (onCell s n f).streams = s.streams := rfl
@[simp] theorem onCell_flows (s : State) (n : Nat) (f : CellRun → CellRun) : (onCell s n f).flows = s.flows := rfl
@[simp] theorem onCell_apertures (s : State) (n : Nat) (f : CellRun → CellRun) : (onCell s n f).apertures = s.apertures := rfl
@[simp] theorem onCell_sextants (s : State) (n : Nat) (f : CellRun → CellRun) : (onCell s n f).sextants = s.sextants := rfl
@[simp] theorem onCell_adc (s : State) (n : Nat) (f : CellRun → CellRun) : (onCell s n f).adc = s.adc := rfl
@[simp] theorem onCell_dacs (s : State) (n : Nat) (f : CellRun → CellRun) : (onCell s n f).dacs = s.dacs := rfl
@[simp] theorem onCell_eye (s : State) (n : Nat) (f : CellRun → CellRun) : (onCell s n f).eye = s.eye := rfl
@[simp] theorem onCell_hbm (s : State) (n : Nat) (f : CellRun → CellRun) : (onCell s n f).hbm = s.hbm := rfl
@[simp] theorem onCell_sheds (s : State) (n : Nat) (f : CellRun → CellRun) : (onCell s n f).sheds = s.sheds := rfl
@[simp] theorem onCell_handoff (s : State) (n : Nat) (f : CellRun → CellRun) : (onCell s n f).handoff = s.handoff := rfl
@[simp] theorem onCell_made (s : State) (n : Nat) (f : CellRun → CellRun) : (onCell s n f).made = s.made := rfl
@[simp] theorem onCell_taken (s : State) (n : Nat) (f : CellRun → CellRun) : (onCell s n f).taken = s.taken := rfl
@[simp] theorem onCell_plan (s : State) (n : Nat) (f : CellRun → CellRun) : (onCell s n f).plan = s.plan := rfl
@[simp] theorem onCell_psets (s : State) (n : Nat) (f : CellRun → CellRun) : (onCell s n f).psets = s.psets := rfl
@[simp] theorem onCell_admits (s : State) (n : Nat) (f : CellRun → CellRun) : (onCell s n f).admits = s.admits := rfl
@[simp] theorem onCell_mbx (s : State) (n : Nat) (f : CellRun → CellRun) : (onCell s n f).mbx = s.mbx := rfl
@[simp] theorem onCell_domes (s : State) (n : Nat) (f : CellRun → CellRun) : (onCell s n f).domes = s.domes := rfl
@[simp] theorem onCell_inflight (s : State) (n : Nat) (f : CellRun → CellRun) : (onCell s n f).inflight = s.inflight := rfl
@[simp] theorem onCell_held (s : State) (n : Nat) (f : CellRun → CellRun) : (onCell s n f).held = s.held := rfl
@[simp] theorem onCell_resolving (s : State) (n : Nat) (f : CellRun → CellRun) : (onCell s n f).resolving = s.resolving := rfl
@[simp] theorem onCell_capReads (s : State) (n : Nat) (f : CellRun → CellRun) : (onCell s n f).capReads = s.capReads := rfl
@[simp] theorem onCell_hostPorts (s : State) (n : Nat) (f : CellRun → CellRun) : (onCell s n f).hostPorts = s.hostPorts := rfl
@[simp] theorem onCell_log (s : State) (n : Nat) (f : CellRun → CellRun) : (onCell s n f).log = s.log := rfl
@[simp] theorem onCell_meter (s : State) (n : Nat) (f : CellRun → CellRun) : (onCell s n f).meter = s.meter := rfl
@[simp] theorem onCell_regs (s : State) (n : Nat) (f : CellRun → CellRun) : (onCell s n f).regs = s.regs := rfl
@[simp] theorem onCell_dma (s : State) (n : Nat) (f : CellRun → CellRun) : (onCell s n f).dma = s.dma := rfl
@[simp] theorem onCell_out (s : State) (n : Nat) (f : CellRun → CellRun) : (onCell s n f).out = s.out := rfl
@[simp] theorem onCell_care (s : State) (n : Nat) (f : CellRun → CellRun) : (onCell s n f).care = s.care := rfl
@[simp] theorem onCell_boot (s : State) (n : Nat) (f : CellRun → CellRun) : (onCell s n f).boot = s.boot := rfl
@[simp] theorem onCell_dbg (s : State) (n : Nat) (f : CellRun → CellRun) : (onCell s n f).dbg = s.dbg := rfl
@[simp] theorem onCell_free (s : State) (n : Nat) (f : CellRun → CellRun) : (onCell s n f).free = s.free := rfl
@[simp] theorem onCell_pending (s : State) (n : Nat) (f : CellRun → CellRun) : (onCell s n f).pending = s.pending := rfl

@[simp] theorem onPin_dev (s : State) (n : Nat) (f : PinRun → PinRun) : (onPin s n f).dev = s.dev := rfl
@[simp] theorem onPin_time (s : State) (n : Nat) (f : PinRun → PinRun) : (onPin s n f).time = s.time := rfl
@[simp] theorem onPin_tdc (s : State) (n : Nat) (f : PinRun → PinRun) : (onPin s n f).tdc = s.tdc := rfl
@[simp] theorem onPin_pairs (s : State) (n : Nat) (f : PinRun → PinRun) : (onPin s n f).pairs = s.pairs := rfl
@[simp] theorem onPin_clk (s : State) (n : Nat) (f : PinRun → PinRun) : (onPin s n f).clk = s.clk := rfl
@[simp] theorem onPin_ports (s : State) (n : Nat) (f : PinRun → PinRun) : (onPin s n f).ports = s.ports := rfl
@[simp] theorem onPin_feeds (s : State) (n : Nat) (f : PinRun → PinRun) : (onPin s n f).feeds = s.feeds := rfl
@[simp] theorem onPin_coarse (s : State) (n : Nat) (f : PinRun → PinRun) : (onPin s n f).coarse = s.coarse := rfl
@[simp] theorem onPin_coefSets (s : State) (n : Nat) (f : PinRun → PinRun) : (onPin s n f).coefSets = s.coefSets := rfl
@[simp] theorem onPin_zooms (s : State) (n : Nat) (f : PinRun → PinRun) : (onPin s n f).zooms = s.zooms := rfl
@[simp] theorem onPin_sks (s : State) (n : Nat) (f : PinRun → PinRun) : (onPin s n f).sks = s.sks := rfl
@[simp] theorem onPin_instrs (s : State) (n : Nat) (f : PinRun → PinRun) : (onPin s n f).instrs = s.instrs := rfl
@[simp] theorem onPin_masks (s : State) (n : Nat) (f : PinRun → PinRun) : (onPin s n f).masks = s.masks := rfl
@[simp] theorem onPin_plates (s : State) (n : Nat) (f : PinRun → PinRun) : (onPin s n f).plates = s.plates := rfl
@[simp] theorem onPin_streams (s : State) (n : Nat) (f : PinRun → PinRun) : (onPin s n f).streams = s.streams := rfl
@[simp] theorem onPin_flows (s : State) (n : Nat) (f : PinRun → PinRun) : (onPin s n f).flows = s.flows := rfl
@[simp] theorem onPin_apertures (s : State) (n : Nat) (f : PinRun → PinRun) : (onPin s n f).apertures = s.apertures := rfl
@[simp] theorem onPin_sextants (s : State) (n : Nat) (f : PinRun → PinRun) : (onPin s n f).sextants = s.sextants := rfl
@[simp] theorem onPin_adc (s : State) (n : Nat) (f : PinRun → PinRun) : (onPin s n f).adc = s.adc := rfl
@[simp] theorem onPin_dacs (s : State) (n : Nat) (f : PinRun → PinRun) : (onPin s n f).dacs = s.dacs := rfl
@[simp] theorem onPin_eye (s : State) (n : Nat) (f : PinRun → PinRun) : (onPin s n f).eye = s.eye := rfl
@[simp] theorem onPin_hbm (s : State) (n : Nat) (f : PinRun → PinRun) : (onPin s n f).hbm = s.hbm := rfl
@[simp] theorem onPin_sheds (s : State) (n : Nat) (f : PinRun → PinRun) : (onPin s n f).sheds = s.sheds := rfl
@[simp] theorem onPin_handoff (s : State) (n : Nat) (f : PinRun → PinRun) : (onPin s n f).handoff = s.handoff := rfl
@[simp] theorem onPin_made (s : State) (n : Nat) (f : PinRun → PinRun) : (onPin s n f).made = s.made := rfl
@[simp] theorem onPin_taken (s : State) (n : Nat) (f : PinRun → PinRun) : (onPin s n f).taken = s.taken := rfl
@[simp] theorem onPin_plan (s : State) (n : Nat) (f : PinRun → PinRun) : (onPin s n f).plan = s.plan := rfl
@[simp] theorem onPin_psets (s : State) (n : Nat) (f : PinRun → PinRun) : (onPin s n f).psets = s.psets := rfl
@[simp] theorem onPin_admits (s : State) (n : Nat) (f : PinRun → PinRun) : (onPin s n f).admits = s.admits := rfl
@[simp] theorem onPin_mbx (s : State) (n : Nat) (f : PinRun → PinRun) : (onPin s n f).mbx = s.mbx := rfl
@[simp] theorem onPin_domes (s : State) (n : Nat) (f : PinRun → PinRun) : (onPin s n f).domes = s.domes := rfl
@[simp] theorem onPin_inflight (s : State) (n : Nat) (f : PinRun → PinRun) : (onPin s n f).inflight = s.inflight := rfl
@[simp] theorem onPin_held (s : State) (n : Nat) (f : PinRun → PinRun) : (onPin s n f).held = s.held := rfl
@[simp] theorem onPin_resolving (s : State) (n : Nat) (f : PinRun → PinRun) : (onPin s n f).resolving = s.resolving := rfl
@[simp] theorem onPin_capReads (s : State) (n : Nat) (f : PinRun → PinRun) : (onPin s n f).capReads = s.capReads := rfl
@[simp] theorem onPin_hostPorts (s : State) (n : Nat) (f : PinRun → PinRun) : (onPin s n f).hostPorts = s.hostPorts := rfl
@[simp] theorem onPin_log (s : State) (n : Nat) (f : PinRun → PinRun) : (onPin s n f).log = s.log := rfl
@[simp] theorem onPin_meter (s : State) (n : Nat) (f : PinRun → PinRun) : (onPin s n f).meter = s.meter := rfl
@[simp] theorem onPin_regs (s : State) (n : Nat) (f : PinRun → PinRun) : (onPin s n f).regs = s.regs := rfl
@[simp] theorem onPin_dma (s : State) (n : Nat) (f : PinRun → PinRun) : (onPin s n f).dma = s.dma := rfl
@[simp] theorem onPin_out (s : State) (n : Nat) (f : PinRun → PinRun) : (onPin s n f).out = s.out := rfl
@[simp] theorem onPin_care (s : State) (n : Nat) (f : PinRun → PinRun) : (onPin s n f).care = s.care := rfl
@[simp] theorem onPin_boot (s : State) (n : Nat) (f : PinRun → PinRun) : (onPin s n f).boot = s.boot := rfl
@[simp] theorem onPin_dbg (s : State) (n : Nat) (f : PinRun → PinRun) : (onPin s n f).dbg = s.dbg := rfl
@[simp] theorem onPin_free (s : State) (n : Nat) (f : PinRun → PinRun) : (onPin s n f).free = s.free := rfl
@[simp] theorem onPin_pending (s : State) (n : Nat) (f : PinRun → PinRun) : (onPin s n f).pending = s.pending := rfl

@[simp] theorem onEvt_dev (s : State) (f : Fn) (g : EvtRegs → EvtRegs) : (onEvt s f g).dev = s.dev := rfl
@[simp] theorem onEvt_time (s : State) (f : Fn) (g : EvtRegs → EvtRegs) : (onEvt s f g).time = s.time := rfl
@[simp] theorem onEvt_tdc (s : State) (f : Fn) (g : EvtRegs → EvtRegs) : (onEvt s f g).tdc = s.tdc := rfl
@[simp] theorem onEvt_pairs (s : State) (f : Fn) (g : EvtRegs → EvtRegs) : (onEvt s f g).pairs = s.pairs := rfl
@[simp] theorem onEvt_clk (s : State) (f : Fn) (g : EvtRegs → EvtRegs) : (onEvt s f g).clk = s.clk := rfl
@[simp] theorem onEvt_ports (s : State) (f : Fn) (g : EvtRegs → EvtRegs) : (onEvt s f g).ports = s.ports := rfl
@[simp] theorem onEvt_feeds (s : State) (f : Fn) (g : EvtRegs → EvtRegs) : (onEvt s f g).feeds = s.feeds := rfl
@[simp] theorem onEvt_coarse (s : State) (f : Fn) (g : EvtRegs → EvtRegs) : (onEvt s f g).coarse = s.coarse := rfl
@[simp] theorem onEvt_coefSets (s : State) (f : Fn) (g : EvtRegs → EvtRegs) : (onEvt s f g).coefSets = s.coefSets := rfl
@[simp] theorem onEvt_zooms (s : State) (f : Fn) (g : EvtRegs → EvtRegs) : (onEvt s f g).zooms = s.zooms := rfl
@[simp] theorem onEvt_sks (s : State) (f : Fn) (g : EvtRegs → EvtRegs) : (onEvt s f g).sks = s.sks := rfl
@[simp] theorem onEvt_instrs (s : State) (f : Fn) (g : EvtRegs → EvtRegs) : (onEvt s f g).instrs = s.instrs := rfl
@[simp] theorem onEvt_masks (s : State) (f : Fn) (g : EvtRegs → EvtRegs) : (onEvt s f g).masks = s.masks := rfl
@[simp] theorem onEvt_plates (s : State) (f : Fn) (g : EvtRegs → EvtRegs) : (onEvt s f g).plates = s.plates := rfl
@[simp] theorem onEvt_streams (s : State) (f : Fn) (g : EvtRegs → EvtRegs) : (onEvt s f g).streams = s.streams := rfl
@[simp] theorem onEvt_flows (s : State) (f : Fn) (g : EvtRegs → EvtRegs) : (onEvt s f g).flows = s.flows := rfl
@[simp] theorem onEvt_apertures (s : State) (f : Fn) (g : EvtRegs → EvtRegs) : (onEvt s f g).apertures = s.apertures := rfl
@[simp] theorem onEvt_sextants (s : State) (f : Fn) (g : EvtRegs → EvtRegs) : (onEvt s f g).sextants = s.sextants := rfl
@[simp] theorem onEvt_adc (s : State) (f : Fn) (g : EvtRegs → EvtRegs) : (onEvt s f g).adc = s.adc := rfl
@[simp] theorem onEvt_dacs (s : State) (f : Fn) (g : EvtRegs → EvtRegs) : (onEvt s f g).dacs = s.dacs := rfl
@[simp] theorem onEvt_eye (s : State) (f : Fn) (g : EvtRegs → EvtRegs) : (onEvt s f g).eye = s.eye := rfl
@[simp] theorem onEvt_hbm (s : State) (f : Fn) (g : EvtRegs → EvtRegs) : (onEvt s f g).hbm = s.hbm := rfl
@[simp] theorem onEvt_sheds (s : State) (f : Fn) (g : EvtRegs → EvtRegs) : (onEvt s f g).sheds = s.sheds := rfl
@[simp] theorem onEvt_handoff (s : State) (f : Fn) (g : EvtRegs → EvtRegs) : (onEvt s f g).handoff = s.handoff := rfl
@[simp] theorem onEvt_made (s : State) (f : Fn) (g : EvtRegs → EvtRegs) : (onEvt s f g).made = s.made := rfl
@[simp] theorem onEvt_taken (s : State) (f : Fn) (g : EvtRegs → EvtRegs) : (onEvt s f g).taken = s.taken := rfl
@[simp] theorem onEvt_plan (s : State) (f : Fn) (g : EvtRegs → EvtRegs) : (onEvt s f g).plan = s.plan := rfl
@[simp] theorem onEvt_psets (s : State) (f : Fn) (g : EvtRegs → EvtRegs) : (onEvt s f g).psets = s.psets := rfl
@[simp] theorem onEvt_admits (s : State) (f : Fn) (g : EvtRegs → EvtRegs) : (onEvt s f g).admits = s.admits := rfl
@[simp] theorem onEvt_mbx (s : State) (f : Fn) (g : EvtRegs → EvtRegs) : (onEvt s f g).mbx = s.mbx := rfl
@[simp] theorem onEvt_domes (s : State) (f : Fn) (g : EvtRegs → EvtRegs) : (onEvt s f g).domes = s.domes := rfl
@[simp] theorem onEvt_inflight (s : State) (f : Fn) (g : EvtRegs → EvtRegs) : (onEvt s f g).inflight = s.inflight := rfl
@[simp] theorem onEvt_held (s : State) (f : Fn) (g : EvtRegs → EvtRegs) : (onEvt s f g).held = s.held := rfl
@[simp] theorem onEvt_resolving (s : State) (f : Fn) (g : EvtRegs → EvtRegs) : (onEvt s f g).resolving = s.resolving := rfl
@[simp] theorem onEvt_capReads (s : State) (f : Fn) (g : EvtRegs → EvtRegs) : (onEvt s f g).capReads = s.capReads := rfl
@[simp] theorem onEvt_hostPorts (s : State) (f : Fn) (g : EvtRegs → EvtRegs) : (onEvt s f g).hostPorts = s.hostPorts := rfl
@[simp] theorem onEvt_log (s : State) (f : Fn) (g : EvtRegs → EvtRegs) : (onEvt s f g).log = s.log := rfl
@[simp] theorem onEvt_meter (s : State) (f : Fn) (g : EvtRegs → EvtRegs) : (onEvt s f g).meter = s.meter := rfl
@[simp] theorem onEvt_regs (s : State) (f : Fn) (g : EvtRegs → EvtRegs) : (onEvt s f g).regs = s.regs := rfl
@[simp] theorem onEvt_dma (s : State) (f : Fn) (g : EvtRegs → EvtRegs) : (onEvt s f g).dma = s.dma := rfl
@[simp] theorem onEvt_out (s : State) (f : Fn) (g : EvtRegs → EvtRegs) : (onEvt s f g).out = s.out := rfl
@[simp] theorem onEvt_care (s : State) (f : Fn) (g : EvtRegs → EvtRegs) : (onEvt s f g).care = s.care := rfl
@[simp] theorem onEvt_boot (s : State) (f : Fn) (g : EvtRegs → EvtRegs) : (onEvt s f g).boot = s.boot := rfl
@[simp] theorem onEvt_dbg (s : State) (f : Fn) (g : EvtRegs → EvtRegs) : (onEvt s f g).dbg = s.dbg := rfl
@[simp] theorem onEvt_free (s : State) (f : Fn) (g : EvtRegs → EvtRegs) : (onEvt s f g).free = s.free := rfl
@[simp] theorem onEvt_pending (s : State) (f : Fn) (g : EvtRegs → EvtRegs) : (onEvt s f g).pending = s.pending := rfl

@[simp] theorem onMask_dev (s : State) (d k : Nat) (f : MaskRun → MaskRun) : (onMask s d k f).dev = s.dev := rfl
@[simp] theorem onMask_time (s : State) (d k : Nat) (f : MaskRun → MaskRun) : (onMask s d k f).time = s.time := rfl
@[simp] theorem onMask_tdc (s : State) (d k : Nat) (f : MaskRun → MaskRun) : (onMask s d k f).tdc = s.tdc := rfl
@[simp] theorem onMask_pairs (s : State) (d k : Nat) (f : MaskRun → MaskRun) : (onMask s d k f).pairs = s.pairs := rfl
@[simp] theorem onMask_clk (s : State) (d k : Nat) (f : MaskRun → MaskRun) : (onMask s d k f).clk = s.clk := rfl
@[simp] theorem onMask_ports (s : State) (d k : Nat) (f : MaskRun → MaskRun) : (onMask s d k f).ports = s.ports := rfl
@[simp] theorem onMask_feeds (s : State) (d k : Nat) (f : MaskRun → MaskRun) : (onMask s d k f).feeds = s.feeds := rfl
@[simp] theorem onMask_coarse (s : State) (d k : Nat) (f : MaskRun → MaskRun) : (onMask s d k f).coarse = s.coarse := rfl
@[simp] theorem onMask_coefSets (s : State) (d k : Nat) (f : MaskRun → MaskRun) : (onMask s d k f).coefSets = s.coefSets := rfl
@[simp] theorem onMask_zooms (s : State) (d k : Nat) (f : MaskRun → MaskRun) : (onMask s d k f).zooms = s.zooms := rfl
@[simp] theorem onMask_sks (s : State) (d k : Nat) (f : MaskRun → MaskRun) : (onMask s d k f).sks = s.sks := rfl
@[simp] theorem onMask_instrs (s : State) (d k : Nat) (f : MaskRun → MaskRun) : (onMask s d k f).instrs = s.instrs := rfl
@[simp] theorem onMask_plates (s : State) (d k : Nat) (f : MaskRun → MaskRun) : (onMask s d k f).plates = s.plates := rfl
@[simp] theorem onMask_streams (s : State) (d k : Nat) (f : MaskRun → MaskRun) : (onMask s d k f).streams = s.streams := rfl
@[simp] theorem onMask_flows (s : State) (d k : Nat) (f : MaskRun → MaskRun) : (onMask s d k f).flows = s.flows := rfl
@[simp] theorem onMask_apertures (s : State) (d k : Nat) (f : MaskRun → MaskRun) : (onMask s d k f).apertures = s.apertures := rfl
@[simp] theorem onMask_sextants (s : State) (d k : Nat) (f : MaskRun → MaskRun) : (onMask s d k f).sextants = s.sextants := rfl
@[simp] theorem onMask_adc (s : State) (d k : Nat) (f : MaskRun → MaskRun) : (onMask s d k f).adc = s.adc := rfl
@[simp] theorem onMask_dacs (s : State) (d k : Nat) (f : MaskRun → MaskRun) : (onMask s d k f).dacs = s.dacs := rfl
@[simp] theorem onMask_eye (s : State) (d k : Nat) (f : MaskRun → MaskRun) : (onMask s d k f).eye = s.eye := rfl
@[simp] theorem onMask_hbm (s : State) (d k : Nat) (f : MaskRun → MaskRun) : (onMask s d k f).hbm = s.hbm := rfl
@[simp] theorem onMask_sheds (s : State) (d k : Nat) (f : MaskRun → MaskRun) : (onMask s d k f).sheds = s.sheds := rfl
@[simp] theorem onMask_handoff (s : State) (d k : Nat) (f : MaskRun → MaskRun) : (onMask s d k f).handoff = s.handoff := rfl
@[simp] theorem onMask_made (s : State) (d k : Nat) (f : MaskRun → MaskRun) : (onMask s d k f).made = s.made := rfl
@[simp] theorem onMask_taken (s : State) (d k : Nat) (f : MaskRun → MaskRun) : (onMask s d k f).taken = s.taken := rfl
@[simp] theorem onMask_plan (s : State) (d k : Nat) (f : MaskRun → MaskRun) : (onMask s d k f).plan = s.plan := rfl
@[simp] theorem onMask_psets (s : State) (d k : Nat) (f : MaskRun → MaskRun) : (onMask s d k f).psets = s.psets := rfl
@[simp] theorem onMask_admits (s : State) (d k : Nat) (f : MaskRun → MaskRun) : (onMask s d k f).admits = s.admits := rfl
@[simp] theorem onMask_mbx (s : State) (d k : Nat) (f : MaskRun → MaskRun) : (onMask s d k f).mbx = s.mbx := rfl
@[simp] theorem onMask_domes (s : State) (d k : Nat) (f : MaskRun → MaskRun) : (onMask s d k f).domes = s.domes := rfl
@[simp] theorem onMask_inflight (s : State) (d k : Nat) (f : MaskRun → MaskRun) : (onMask s d k f).inflight = s.inflight := rfl
@[simp] theorem onMask_held (s : State) (d k : Nat) (f : MaskRun → MaskRun) : (onMask s d k f).held = s.held := rfl
@[simp] theorem onMask_resolving (s : State) (d k : Nat) (f : MaskRun → MaskRun) : (onMask s d k f).resolving = s.resolving := rfl
@[simp] theorem onMask_capReads (s : State) (d k : Nat) (f : MaskRun → MaskRun) : (onMask s d k f).capReads = s.capReads := rfl
@[simp] theorem onMask_hostPorts (s : State) (d k : Nat) (f : MaskRun → MaskRun) : (onMask s d k f).hostPorts = s.hostPorts := rfl
@[simp] theorem onMask_router (s : State) (d k : Nat) (f : MaskRun → MaskRun) : (onMask s d k f).router = s.router := rfl
@[simp] theorem onMask_log (s : State) (d k : Nat) (f : MaskRun → MaskRun) : (onMask s d k f).log = s.log := rfl
@[simp] theorem onMask_meter (s : State) (d k : Nat) (f : MaskRun → MaskRun) : (onMask s d k f).meter = s.meter := rfl
@[simp] theorem onMask_regs (s : State) (d k : Nat) (f : MaskRun → MaskRun) : (onMask s d k f).regs = s.regs := rfl
@[simp] theorem onMask_dma (s : State) (d k : Nat) (f : MaskRun → MaskRun) : (onMask s d k f).dma = s.dma := rfl
@[simp] theorem onMask_out (s : State) (d k : Nat) (f : MaskRun → MaskRun) : (onMask s d k f).out = s.out := rfl
@[simp] theorem onMask_care (s : State) (d k : Nat) (f : MaskRun → MaskRun) : (onMask s d k f).care = s.care := rfl
@[simp] theorem onMask_boot (s : State) (d k : Nat) (f : MaskRun → MaskRun) : (onMask s d k f).boot = s.boot := rfl
@[simp] theorem onMask_dbg (s : State) (d k : Nat) (f : MaskRun → MaskRun) : (onMask s d k f).dbg = s.dbg := rfl
@[simp] theorem onMask_free (s : State) (d k : Nat) (f : MaskRun → MaskRun) : (onMask s d k f).free = s.free := rfl
@[simp] theorem onMask_pending (s : State) (d k : Nat) (f : MaskRun → MaskRun) : (onMask s d k f).pending = s.pending := rfl

@[simp] theorem onPlate_dev (s : State) (d k : Nat) (f : PlateRun → PlateRun) : (onPlate s d k f).dev = s.dev := rfl
@[simp] theorem onPlate_time (s : State) (d k : Nat) (f : PlateRun → PlateRun) : (onPlate s d k f).time = s.time := rfl
@[simp] theorem onPlate_tdc (s : State) (d k : Nat) (f : PlateRun → PlateRun) : (onPlate s d k f).tdc = s.tdc := rfl
@[simp] theorem onPlate_pairs (s : State) (d k : Nat) (f : PlateRun → PlateRun) : (onPlate s d k f).pairs = s.pairs := rfl
@[simp] theorem onPlate_clk (s : State) (d k : Nat) (f : PlateRun → PlateRun) : (onPlate s d k f).clk = s.clk := rfl
@[simp] theorem onPlate_ports (s : State) (d k : Nat) (f : PlateRun → PlateRun) : (onPlate s d k f).ports = s.ports := rfl
@[simp] theorem onPlate_feeds (s : State) (d k : Nat) (f : PlateRun → PlateRun) : (onPlate s d k f).feeds = s.feeds := rfl
@[simp] theorem onPlate_coarse (s : State) (d k : Nat) (f : PlateRun → PlateRun) : (onPlate s d k f).coarse = s.coarse := rfl
@[simp] theorem onPlate_coefSets (s : State) (d k : Nat) (f : PlateRun → PlateRun) : (onPlate s d k f).coefSets = s.coefSets := rfl
@[simp] theorem onPlate_zooms (s : State) (d k : Nat) (f : PlateRun → PlateRun) : (onPlate s d k f).zooms = s.zooms := rfl
@[simp] theorem onPlate_sks (s : State) (d k : Nat) (f : PlateRun → PlateRun) : (onPlate s d k f).sks = s.sks := rfl
@[simp] theorem onPlate_instrs (s : State) (d k : Nat) (f : PlateRun → PlateRun) : (onPlate s d k f).instrs = s.instrs := rfl
@[simp] theorem onPlate_masks (s : State) (d k : Nat) (f : PlateRun → PlateRun) : (onPlate s d k f).masks = s.masks := rfl
@[simp] theorem onPlate_streams (s : State) (d k : Nat) (f : PlateRun → PlateRun) : (onPlate s d k f).streams = s.streams := rfl
@[simp] theorem onPlate_flows (s : State) (d k : Nat) (f : PlateRun → PlateRun) : (onPlate s d k f).flows = s.flows := rfl
@[simp] theorem onPlate_apertures (s : State) (d k : Nat) (f : PlateRun → PlateRun) : (onPlate s d k f).apertures = s.apertures := rfl
@[simp] theorem onPlate_sextants (s : State) (d k : Nat) (f : PlateRun → PlateRun) : (onPlate s d k f).sextants = s.sextants := rfl
@[simp] theorem onPlate_adc (s : State) (d k : Nat) (f : PlateRun → PlateRun) : (onPlate s d k f).adc = s.adc := rfl
@[simp] theorem onPlate_dacs (s : State) (d k : Nat) (f : PlateRun → PlateRun) : (onPlate s d k f).dacs = s.dacs := rfl
@[simp] theorem onPlate_eye (s : State) (d k : Nat) (f : PlateRun → PlateRun) : (onPlate s d k f).eye = s.eye := rfl
@[simp] theorem onPlate_hbm (s : State) (d k : Nat) (f : PlateRun → PlateRun) : (onPlate s d k f).hbm = s.hbm := rfl
@[simp] theorem onPlate_sheds (s : State) (d k : Nat) (f : PlateRun → PlateRun) : (onPlate s d k f).sheds = s.sheds := rfl
@[simp] theorem onPlate_handoff (s : State) (d k : Nat) (f : PlateRun → PlateRun) : (onPlate s d k f).handoff = s.handoff := rfl
@[simp] theorem onPlate_made (s : State) (d k : Nat) (f : PlateRun → PlateRun) : (onPlate s d k f).made = s.made := rfl
@[simp] theorem onPlate_taken (s : State) (d k : Nat) (f : PlateRun → PlateRun) : (onPlate s d k f).taken = s.taken := rfl
@[simp] theorem onPlate_plan (s : State) (d k : Nat) (f : PlateRun → PlateRun) : (onPlate s d k f).plan = s.plan := rfl
@[simp] theorem onPlate_psets (s : State) (d k : Nat) (f : PlateRun → PlateRun) : (onPlate s d k f).psets = s.psets := rfl
@[simp] theorem onPlate_admits (s : State) (d k : Nat) (f : PlateRun → PlateRun) : (onPlate s d k f).admits = s.admits := rfl
@[simp] theorem onPlate_mbx (s : State) (d k : Nat) (f : PlateRun → PlateRun) : (onPlate s d k f).mbx = s.mbx := rfl
@[simp] theorem onPlate_domes (s : State) (d k : Nat) (f : PlateRun → PlateRun) : (onPlate s d k f).domes = s.domes := rfl
@[simp] theorem onPlate_inflight (s : State) (d k : Nat) (f : PlateRun → PlateRun) : (onPlate s d k f).inflight = s.inflight := rfl
@[simp] theorem onPlate_held (s : State) (d k : Nat) (f : PlateRun → PlateRun) : (onPlate s d k f).held = s.held := rfl
@[simp] theorem onPlate_resolving (s : State) (d k : Nat) (f : PlateRun → PlateRun) : (onPlate s d k f).resolving = s.resolving := rfl
@[simp] theorem onPlate_capReads (s : State) (d k : Nat) (f : PlateRun → PlateRun) : (onPlate s d k f).capReads = s.capReads := rfl
@[simp] theorem onPlate_hostPorts (s : State) (d k : Nat) (f : PlateRun → PlateRun) : (onPlate s d k f).hostPorts = s.hostPorts := rfl
@[simp] theorem onPlate_router (s : State) (d k : Nat) (f : PlateRun → PlateRun) : (onPlate s d k f).router = s.router := rfl
@[simp] theorem onPlate_log (s : State) (d k : Nat) (f : PlateRun → PlateRun) : (onPlate s d k f).log = s.log := rfl
@[simp] theorem onPlate_meter (s : State) (d k : Nat) (f : PlateRun → PlateRun) : (onPlate s d k f).meter = s.meter := rfl
@[simp] theorem onPlate_regs (s : State) (d k : Nat) (f : PlateRun → PlateRun) : (onPlate s d k f).regs = s.regs := rfl
@[simp] theorem onPlate_dma (s : State) (d k : Nat) (f : PlateRun → PlateRun) : (onPlate s d k f).dma = s.dma := rfl
@[simp] theorem onPlate_out (s : State) (d k : Nat) (f : PlateRun → PlateRun) : (onPlate s d k f).out = s.out := rfl
@[simp] theorem onPlate_care (s : State) (d k : Nat) (f : PlateRun → PlateRun) : (onPlate s d k f).care = s.care := rfl
@[simp] theorem onPlate_boot (s : State) (d k : Nat) (f : PlateRun → PlateRun) : (onPlate s d k f).boot = s.boot := rfl
@[simp] theorem onPlate_dbg (s : State) (d k : Nat) (f : PlateRun → PlateRun) : (onPlate s d k f).dbg = s.dbg := rfl
@[simp] theorem onPlate_free (s : State) (d k : Nat) (f : PlateRun → PlateRun) : (onPlate s d k f).free = s.free := rfl
@[simp] theorem onPlate_pending (s : State) (d k : Nat) (f : PlateRun → PlateRun) : (onPlate s d k f).pending = s.pending := rfl

@[simp] theorem onSx_dev (s : State) (t : Nat) (f : Sextant → Sextant) : (onSx s t f).dev = s.dev := rfl
@[simp] theorem onSx_time (s : State) (t : Nat) (f : Sextant → Sextant) : (onSx s t f).time = s.time := rfl
@[simp] theorem onSx_tdc (s : State) (t : Nat) (f : Sextant → Sextant) : (onSx s t f).tdc = s.tdc := rfl
@[simp] theorem onSx_pairs (s : State) (t : Nat) (f : Sextant → Sextant) : (onSx s t f).pairs = s.pairs := rfl
@[simp] theorem onSx_clk (s : State) (t : Nat) (f : Sextant → Sextant) : (onSx s t f).clk = s.clk := rfl
@[simp] theorem onSx_ports (s : State) (t : Nat) (f : Sextant → Sextant) : (onSx s t f).ports = s.ports := rfl
@[simp] theorem onSx_feeds (s : State) (t : Nat) (f : Sextant → Sextant) : (onSx s t f).feeds = s.feeds := rfl
@[simp] theorem onSx_coarse (s : State) (t : Nat) (f : Sextant → Sextant) : (onSx s t f).coarse = s.coarse := rfl
@[simp] theorem onSx_coefSets (s : State) (t : Nat) (f : Sextant → Sextant) : (onSx s t f).coefSets = s.coefSets := rfl
@[simp] theorem onSx_zooms (s : State) (t : Nat) (f : Sextant → Sextant) : (onSx s t f).zooms = s.zooms := rfl
@[simp] theorem onSx_sks (s : State) (t : Nat) (f : Sextant → Sextant) : (onSx s t f).sks = s.sks := rfl
@[simp] theorem onSx_instrs (s : State) (t : Nat) (f : Sextant → Sextant) : (onSx s t f).instrs = s.instrs := rfl
@[simp] theorem onSx_masks (s : State) (t : Nat) (f : Sextant → Sextant) : (onSx s t f).masks = s.masks := rfl
@[simp] theorem onSx_plates (s : State) (t : Nat) (f : Sextant → Sextant) : (onSx s t f).plates = s.plates := rfl
@[simp] theorem onSx_streams (s : State) (t : Nat) (f : Sextant → Sextant) : (onSx s t f).streams = s.streams := rfl
@[simp] theorem onSx_flows (s : State) (t : Nat) (f : Sextant → Sextant) : (onSx s t f).flows = s.flows := rfl
@[simp] theorem onSx_apertures (s : State) (t : Nat) (f : Sextant → Sextant) : (onSx s t f).apertures = s.apertures := rfl
@[simp] theorem onSx_adc (s : State) (t : Nat) (f : Sextant → Sextant) : (onSx s t f).adc = s.adc := rfl
@[simp] theorem onSx_dacs (s : State) (t : Nat) (f : Sextant → Sextant) : (onSx s t f).dacs = s.dacs := rfl
@[simp] theorem onSx_eye (s : State) (t : Nat) (f : Sextant → Sextant) : (onSx s t f).eye = s.eye := rfl
@[simp] theorem onSx_hbm (s : State) (t : Nat) (f : Sextant → Sextant) : (onSx s t f).hbm = s.hbm := rfl
@[simp] theorem onSx_sheds (s : State) (t : Nat) (f : Sextant → Sextant) : (onSx s t f).sheds = s.sheds := rfl
@[simp] theorem onSx_handoff (s : State) (t : Nat) (f : Sextant → Sextant) : (onSx s t f).handoff = s.handoff := rfl
@[simp] theorem onSx_made (s : State) (t : Nat) (f : Sextant → Sextant) : (onSx s t f).made = s.made := rfl
@[simp] theorem onSx_taken (s : State) (t : Nat) (f : Sextant → Sextant) : (onSx s t f).taken = s.taken := rfl
@[simp] theorem onSx_plan (s : State) (t : Nat) (f : Sextant → Sextant) : (onSx s t f).plan = s.plan := rfl
@[simp] theorem onSx_psets (s : State) (t : Nat) (f : Sextant → Sextant) : (onSx s t f).psets = s.psets := rfl
@[simp] theorem onSx_admits (s : State) (t : Nat) (f : Sextant → Sextant) : (onSx s t f).admits = s.admits := rfl
@[simp] theorem onSx_mbx (s : State) (t : Nat) (f : Sextant → Sextant) : (onSx s t f).mbx = s.mbx := rfl
@[simp] theorem onSx_domes (s : State) (t : Nat) (f : Sextant → Sextant) : (onSx s t f).domes = s.domes := rfl
@[simp] theorem onSx_inflight (s : State) (t : Nat) (f : Sextant → Sextant) : (onSx s t f).inflight = s.inflight := rfl
@[simp] theorem onSx_held (s : State) (t : Nat) (f : Sextant → Sextant) : (onSx s t f).held = s.held := rfl
@[simp] theorem onSx_resolving (s : State) (t : Nat) (f : Sextant → Sextant) : (onSx s t f).resolving = s.resolving := rfl
@[simp] theorem onSx_capReads (s : State) (t : Nat) (f : Sextant → Sextant) : (onSx s t f).capReads = s.capReads := rfl
@[simp] theorem onSx_hostPorts (s : State) (t : Nat) (f : Sextant → Sextant) : (onSx s t f).hostPorts = s.hostPorts := rfl
@[simp] theorem onSx_router (s : State) (t : Nat) (f : Sextant → Sextant) : (onSx s t f).router = s.router := rfl
@[simp] theorem onSx_log (s : State) (t : Nat) (f : Sextant → Sextant) : (onSx s t f).log = s.log := rfl
@[simp] theorem onSx_meter (s : State) (t : Nat) (f : Sextant → Sextant) : (onSx s t f).meter = s.meter := rfl
@[simp] theorem onSx_regs (s : State) (t : Nat) (f : Sextant → Sextant) : (onSx s t f).regs = s.regs := rfl
@[simp] theorem onSx_dma (s : State) (t : Nat) (f : Sextant → Sextant) : (onSx s t f).dma = s.dma := rfl
@[simp] theorem onSx_out (s : State) (t : Nat) (f : Sextant → Sextant) : (onSx s t f).out = s.out := rfl
@[simp] theorem onSx_care (s : State) (t : Nat) (f : Sextant → Sextant) : (onSx s t f).care = s.care := rfl
@[simp] theorem onSx_boot (s : State) (t : Nat) (f : Sextant → Sextant) : (onSx s t f).boot = s.boot := rfl
@[simp] theorem onSx_dbg (s : State) (t : Nat) (f : Sextant → Sextant) : (onSx s t f).dbg = s.dbg := rfl
@[simp] theorem onSx_free (s : State) (t : Nat) (f : Sextant → Sextant) : (onSx s t f).free = s.free := rfl
@[simp] theorem onSx_pending (s : State) (t : Nat) (f : Sextant → Sextant) : (onSx s t f).pending = s.pending := rfl

@[simp] theorem onDac_dev (s : State) (n : Nat) (f : DacRun → DacRun) : (onDac s n f).dev = s.dev := rfl
@[simp] theorem onDac_time (s : State) (n : Nat) (f : DacRun → DacRun) : (onDac s n f).time = s.time := rfl
@[simp] theorem onDac_tdc (s : State) (n : Nat) (f : DacRun → DacRun) : (onDac s n f).tdc = s.tdc := rfl
@[simp] theorem onDac_pairs (s : State) (n : Nat) (f : DacRun → DacRun) : (onDac s n f).pairs = s.pairs := rfl
@[simp] theorem onDac_clk (s : State) (n : Nat) (f : DacRun → DacRun) : (onDac s n f).clk = s.clk := rfl
@[simp] theorem onDac_ports (s : State) (n : Nat) (f : DacRun → DacRun) : (onDac s n f).ports = s.ports := rfl
@[simp] theorem onDac_feeds (s : State) (n : Nat) (f : DacRun → DacRun) : (onDac s n f).feeds = s.feeds := rfl
@[simp] theorem onDac_coarse (s : State) (n : Nat) (f : DacRun → DacRun) : (onDac s n f).coarse = s.coarse := rfl
@[simp] theorem onDac_coefSets (s : State) (n : Nat) (f : DacRun → DacRun) : (onDac s n f).coefSets = s.coefSets := rfl
@[simp] theorem onDac_zooms (s : State) (n : Nat) (f : DacRun → DacRun) : (onDac s n f).zooms = s.zooms := rfl
@[simp] theorem onDac_sks (s : State) (n : Nat) (f : DacRun → DacRun) : (onDac s n f).sks = s.sks := rfl
@[simp] theorem onDac_instrs (s : State) (n : Nat) (f : DacRun → DacRun) : (onDac s n f).instrs = s.instrs := rfl
@[simp] theorem onDac_masks (s : State) (n : Nat) (f : DacRun → DacRun) : (onDac s n f).masks = s.masks := rfl
@[simp] theorem onDac_plates (s : State) (n : Nat) (f : DacRun → DacRun) : (onDac s n f).plates = s.plates := rfl
@[simp] theorem onDac_streams (s : State) (n : Nat) (f : DacRun → DacRun) : (onDac s n f).streams = s.streams := rfl
@[simp] theorem onDac_flows (s : State) (n : Nat) (f : DacRun → DacRun) : (onDac s n f).flows = s.flows := rfl
@[simp] theorem onDac_apertures (s : State) (n : Nat) (f : DacRun → DacRun) : (onDac s n f).apertures = s.apertures := rfl
@[simp] theorem onDac_sextants (s : State) (n : Nat) (f : DacRun → DacRun) : (onDac s n f).sextants = s.sextants := rfl
@[simp] theorem onDac_adc (s : State) (n : Nat) (f : DacRun → DacRun) : (onDac s n f).adc = s.adc := rfl
@[simp] theorem onDac_eye (s : State) (n : Nat) (f : DacRun → DacRun) : (onDac s n f).eye = s.eye := rfl
@[simp] theorem onDac_hbm (s : State) (n : Nat) (f : DacRun → DacRun) : (onDac s n f).hbm = s.hbm := rfl
@[simp] theorem onDac_sheds (s : State) (n : Nat) (f : DacRun → DacRun) : (onDac s n f).sheds = s.sheds := rfl
@[simp] theorem onDac_handoff (s : State) (n : Nat) (f : DacRun → DacRun) : (onDac s n f).handoff = s.handoff := rfl
@[simp] theorem onDac_made (s : State) (n : Nat) (f : DacRun → DacRun) : (onDac s n f).made = s.made := rfl
@[simp] theorem onDac_taken (s : State) (n : Nat) (f : DacRun → DacRun) : (onDac s n f).taken = s.taken := rfl
@[simp] theorem onDac_plan (s : State) (n : Nat) (f : DacRun → DacRun) : (onDac s n f).plan = s.plan := rfl
@[simp] theorem onDac_psets (s : State) (n : Nat) (f : DacRun → DacRun) : (onDac s n f).psets = s.psets := rfl
@[simp] theorem onDac_admits (s : State) (n : Nat) (f : DacRun → DacRun) : (onDac s n f).admits = s.admits := rfl
@[simp] theorem onDac_mbx (s : State) (n : Nat) (f : DacRun → DacRun) : (onDac s n f).mbx = s.mbx := rfl
@[simp] theorem onDac_domes (s : State) (n : Nat) (f : DacRun → DacRun) : (onDac s n f).domes = s.domes := rfl
@[simp] theorem onDac_inflight (s : State) (n : Nat) (f : DacRun → DacRun) : (onDac s n f).inflight = s.inflight := rfl
@[simp] theorem onDac_held (s : State) (n : Nat) (f : DacRun → DacRun) : (onDac s n f).held = s.held := rfl
@[simp] theorem onDac_resolving (s : State) (n : Nat) (f : DacRun → DacRun) : (onDac s n f).resolving = s.resolving := rfl
@[simp] theorem onDac_capReads (s : State) (n : Nat) (f : DacRun → DacRun) : (onDac s n f).capReads = s.capReads := rfl
@[simp] theorem onDac_hostPorts (s : State) (n : Nat) (f : DacRun → DacRun) : (onDac s n f).hostPorts = s.hostPorts := rfl
@[simp] theorem onDac_router (s : State) (n : Nat) (f : DacRun → DacRun) : (onDac s n f).router = s.router := rfl
@[simp] theorem onDac_log (s : State) (n : Nat) (f : DacRun → DacRun) : (onDac s n f).log = s.log := rfl
@[simp] theorem onDac_meter (s : State) (n : Nat) (f : DacRun → DacRun) : (onDac s n f).meter = s.meter := rfl
@[simp] theorem onDac_regs (s : State) (n : Nat) (f : DacRun → DacRun) : (onDac s n f).regs = s.regs := rfl
@[simp] theorem onDac_dma (s : State) (n : Nat) (f : DacRun → DacRun) : (onDac s n f).dma = s.dma := rfl
@[simp] theorem onDac_out (s : State) (n : Nat) (f : DacRun → DacRun) : (onDac s n f).out = s.out := rfl
@[simp] theorem onDac_care (s : State) (n : Nat) (f : DacRun → DacRun) : (onDac s n f).care = s.care := rfl
@[simp] theorem onDac_boot (s : State) (n : Nat) (f : DacRun → DacRun) : (onDac s n f).boot = s.boot := rfl
@[simp] theorem onDac_dbg (s : State) (n : Nat) (f : DacRun → DacRun) : (onDac s n f).dbg = s.dbg := rfl
@[simp] theorem onDac_free (s : State) (n : Nat) (f : DacRun → DacRun) : (onDac s n f).free = s.free := rfl
@[simp] theorem onDac_pending (s : State) (n : Nat) (f : DacRun → DacRun) : (onDac s n f).pending = s.pending := rfl

@[simp] theorem onTdc_dev (s : State) (ch : Nat) (f : TdcCh → TdcCh) : (onTdc s ch f).dev = s.dev := rfl
@[simp] theorem onTdc_time (s : State) (ch : Nat) (f : TdcCh → TdcCh) : (onTdc s ch f).time = s.time := rfl
@[simp] theorem onTdc_pairs (s : State) (ch : Nat) (f : TdcCh → TdcCh) : (onTdc s ch f).pairs = s.pairs := rfl
@[simp] theorem onTdc_clk (s : State) (ch : Nat) (f : TdcCh → TdcCh) : (onTdc s ch f).clk = s.clk := rfl
@[simp] theorem onTdc_ports (s : State) (ch : Nat) (f : TdcCh → TdcCh) : (onTdc s ch f).ports = s.ports := rfl
@[simp] theorem onTdc_feeds (s : State) (ch : Nat) (f : TdcCh → TdcCh) : (onTdc s ch f).feeds = s.feeds := rfl
@[simp] theorem onTdc_coarse (s : State) (ch : Nat) (f : TdcCh → TdcCh) : (onTdc s ch f).coarse = s.coarse := rfl
@[simp] theorem onTdc_coefSets (s : State) (ch : Nat) (f : TdcCh → TdcCh) : (onTdc s ch f).coefSets = s.coefSets := rfl
@[simp] theorem onTdc_zooms (s : State) (ch : Nat) (f : TdcCh → TdcCh) : (onTdc s ch f).zooms = s.zooms := rfl
@[simp] theorem onTdc_sks (s : State) (ch : Nat) (f : TdcCh → TdcCh) : (onTdc s ch f).sks = s.sks := rfl
@[simp] theorem onTdc_instrs (s : State) (ch : Nat) (f : TdcCh → TdcCh) : (onTdc s ch f).instrs = s.instrs := rfl
@[simp] theorem onTdc_masks (s : State) (ch : Nat) (f : TdcCh → TdcCh) : (onTdc s ch f).masks = s.masks := rfl
@[simp] theorem onTdc_plates (s : State) (ch : Nat) (f : TdcCh → TdcCh) : (onTdc s ch f).plates = s.plates := rfl
@[simp] theorem onTdc_streams (s : State) (ch : Nat) (f : TdcCh → TdcCh) : (onTdc s ch f).streams = s.streams := rfl
@[simp] theorem onTdc_flows (s : State) (ch : Nat) (f : TdcCh → TdcCh) : (onTdc s ch f).flows = s.flows := rfl
@[simp] theorem onTdc_apertures (s : State) (ch : Nat) (f : TdcCh → TdcCh) : (onTdc s ch f).apertures = s.apertures := rfl
@[simp] theorem onTdc_sextants (s : State) (ch : Nat) (f : TdcCh → TdcCh) : (onTdc s ch f).sextants = s.sextants := rfl
@[simp] theorem onTdc_adc (s : State) (ch : Nat) (f : TdcCh → TdcCh) : (onTdc s ch f).adc = s.adc := rfl
@[simp] theorem onTdc_dacs (s : State) (ch : Nat) (f : TdcCh → TdcCh) : (onTdc s ch f).dacs = s.dacs := rfl
@[simp] theorem onTdc_eye (s : State) (ch : Nat) (f : TdcCh → TdcCh) : (onTdc s ch f).eye = s.eye := rfl
@[simp] theorem onTdc_hbm (s : State) (ch : Nat) (f : TdcCh → TdcCh) : (onTdc s ch f).hbm = s.hbm := rfl
@[simp] theorem onTdc_sheds (s : State) (ch : Nat) (f : TdcCh → TdcCh) : (onTdc s ch f).sheds = s.sheds := rfl
@[simp] theorem onTdc_handoff (s : State) (ch : Nat) (f : TdcCh → TdcCh) : (onTdc s ch f).handoff = s.handoff := rfl
@[simp] theorem onTdc_made (s : State) (ch : Nat) (f : TdcCh → TdcCh) : (onTdc s ch f).made = s.made := rfl
@[simp] theorem onTdc_taken (s : State) (ch : Nat) (f : TdcCh → TdcCh) : (onTdc s ch f).taken = s.taken := rfl
@[simp] theorem onTdc_plan (s : State) (ch : Nat) (f : TdcCh → TdcCh) : (onTdc s ch f).plan = s.plan := rfl
@[simp] theorem onTdc_psets (s : State) (ch : Nat) (f : TdcCh → TdcCh) : (onTdc s ch f).psets = s.psets := rfl
@[simp] theorem onTdc_admits (s : State) (ch : Nat) (f : TdcCh → TdcCh) : (onTdc s ch f).admits = s.admits := rfl
@[simp] theorem onTdc_mbx (s : State) (ch : Nat) (f : TdcCh → TdcCh) : (onTdc s ch f).mbx = s.mbx := rfl
@[simp] theorem onTdc_domes (s : State) (ch : Nat) (f : TdcCh → TdcCh) : (onTdc s ch f).domes = s.domes := rfl
@[simp] theorem onTdc_inflight (s : State) (ch : Nat) (f : TdcCh → TdcCh) : (onTdc s ch f).inflight = s.inflight := rfl
@[simp] theorem onTdc_held (s : State) (ch : Nat) (f : TdcCh → TdcCh) : (onTdc s ch f).held = s.held := rfl
@[simp] theorem onTdc_resolving (s : State) (ch : Nat) (f : TdcCh → TdcCh) : (onTdc s ch f).resolving = s.resolving := rfl
@[simp] theorem onTdc_capReads (s : State) (ch : Nat) (f : TdcCh → TdcCh) : (onTdc s ch f).capReads = s.capReads := rfl
@[simp] theorem onTdc_hostPorts (s : State) (ch : Nat) (f : TdcCh → TdcCh) : (onTdc s ch f).hostPorts = s.hostPorts := rfl
@[simp] theorem onTdc_router (s : State) (ch : Nat) (f : TdcCh → TdcCh) : (onTdc s ch f).router = s.router := rfl
@[simp] theorem onTdc_log (s : State) (ch : Nat) (f : TdcCh → TdcCh) : (onTdc s ch f).log = s.log := rfl
@[simp] theorem onTdc_meter (s : State) (ch : Nat) (f : TdcCh → TdcCh) : (onTdc s ch f).meter = s.meter := rfl
@[simp] theorem onTdc_regs (s : State) (ch : Nat) (f : TdcCh → TdcCh) : (onTdc s ch f).regs = s.regs := rfl
@[simp] theorem onTdc_dma (s : State) (ch : Nat) (f : TdcCh → TdcCh) : (onTdc s ch f).dma = s.dma := rfl
@[simp] theorem onTdc_out (s : State) (ch : Nat) (f : TdcCh → TdcCh) : (onTdc s ch f).out = s.out := rfl
@[simp] theorem onTdc_care (s : State) (ch : Nat) (f : TdcCh → TdcCh) : (onTdc s ch f).care = s.care := rfl
@[simp] theorem onTdc_boot (s : State) (ch : Nat) (f : TdcCh → TdcCh) : (onTdc s ch f).boot = s.boot := rfl
@[simp] theorem onTdc_dbg (s : State) (ch : Nat) (f : TdcCh → TdcCh) : (onTdc s ch f).dbg = s.dbg := rfl
@[simp] theorem onTdc_free (s : State) (ch : Nat) (f : TdcCh → TdcCh) : (onTdc s ch f).free = s.free := rfl
@[simp] theorem onTdc_pending (s : State) (ch : Nat) (f : TdcCh → TdcCh) : (onTdc s ch f).pending = s.pending := rfl

end Sys2Proof.Machine
end

