-- ==== Sys2Proof/Laws/Ops.lean ====
section
/-! SUPPORT. Ops.lean: for each shared operation, once, the parts of the state that it can change. A proof about a command names the operation's lemma and
need not unfold it. -/
namespace Sys2Proof.Machine

/-! ### Loops -/

/-- What every round of a loop keeps, the loop keeps. -/
theorem foldl_keep {α β : Type} (P : β → Prop) (f : β → α → β) (h : ∀ b a, P b → P (f b a)) : ∀ (l : List α) (b : β), P b → P (l.foldl f b)
  | [], _, hb => hb
  | a :: r, b, hb => foldl_keep P f h r (f b a) (h b a hb)

/-! ### Events and messages -/

/-- Changing a channel's counts changes the router alone. -/
theorem onChan_frame (s : State) (c : Nat) (f : ChanCnt → ChanCnt) : ∃ r, onChan s c f = { s with router := r } := ⟨_, rfl⟩

/-- Publishing changes the router alone. -/
theorem publishAt_frame (s : State) (a b c d e f : Nat) : ∃ r, publishAt s a b c d e f = { s with router := r } := ⟨_, rfl⟩

/-- Publishing in the present cycle changes the router alone. -/
theorem publish_frame (s : State) (a b c d : Nat) : ∃ r, publish s a b c d = { s with router := r } := ⟨_, rfl⟩

/-- A loop whose rounds change the router alone changes the router alone. -/
theorem foldl_router {α : Type} (f : State → α → State) (h : ∀ s a, ∃ r, f s a = { s with router := r }) (l : List α) (s : State) :
    ∃ r, l.foldl f s = { s with router := r } := by
  refine foldl_keep (fun t => ∃ r, t = { s with router := r }) f ?_ l s ⟨s.router, rfl⟩
  rintro _ a ⟨r, rfl⟩
  obtain ⟨r', h'⟩ := h { s with router := r } a
  exact ⟨r', h'⟩

/-- Raising a source changes the router and the list of raised sources alone. -/
theorem raise_frame (s : State) (src cause : Nat) (o : Origin) : ∃ r x, raise s src cause o = { s with router := r, out := x } := by
  unfold raise
  simp only
  split
  · obtain ⟨r, h⟩ := foldl_router (fun s c => onChan s c (fun k => { k with suppressed := k.suppressed + 1 })) (fun s c => onChan_frame s c _) (routesOf s.plan src cause o) s
    exact ⟨r, s.out, h⟩
  · obtain ⟨r, h⟩ := foldl_router (fun s c => publish s c (if 1368 ≤ src ∧ src ≤ 1495 then 1 else 2) cause o.domeNo) (fun s c => publish_frame s c _ _ _) (routesOf s.plan src cause o)
      { s with out := { s.out with raised := s.out.raised ++ [(src, cause)] }, router := { s.router with window := if neverSuppressed src then s.router.window else (src, cause) :: s.router.window } }
    exact ⟨r, _, h⟩

/-- Raising a source writes no completion, no message and no packet. -/
theorem raise_out (s : State) (src cause : Nat) (o : Origin) : ∃ r x, raise s src cause o = { s with router := r, out := { s.out with raised := x } } := by
  unfold raise
  simp only
  split
  · obtain ⟨r, h⟩ := foldl_router (fun s c => onChan s c (fun k => { k with suppressed := k.suppressed + 1 })) (fun s c => onChan_frame s c _) (routesOf s.plan src cause o) s
    exact ⟨r, s.out.raised, h⟩
  · obtain ⟨r, h⟩ := foldl_router (fun s c => publish s c (if 1368 ≤ src ∧ src ≤ 1495 then 1 else 2) cause o.domeNo) (fun s c => publish_frame s c _ _ _) (routesOf s.plan src cause o)
      { s with out := { s.out with raised := s.out.raised ++ [(src, cause)] }, router := { s.router with window := if neverSuppressed src then s.router.window else (src, cause) :: s.router.window } }
    exact ⟨r, _, h⟩

/-- Raising an event of Table 16-9 writes no completion, no message and no packet. -/
theorem raiseEv_out (s : State) (src base : Nat) : ∃ r x, raiseEv s src base = { s with router := r, out := { s.out with raised := x } } := raise_out s src _ _

/-- What raising a source adds: its event, unless the window holds it; and the window then holds nothing else that is new. -/
theorem raise_spec (s : State) (src cause : Nat) (o : Origin) :
    ∃ r y, raise s src cause o = { s with router := r, out := { s.out with raised := s.out.raised ++ y } } ∧
      ((src, cause) ∈ y ∨ (neverSuppressed src = false ∧ (src, cause) ∈ s.router.window)) ∧ ∀ p ∈ r.window, p = (src, cause) ∨ p ∈ s.router.window := by
  have win : ∀ (f : State → Nat → State), (∀ s c, ∃ r, f s c = { s with router := r } ∧ r.window = s.router.window) → ∀ (l : List Nat) (s : State),
      ∃ r, l.foldl f s = { s with router := r } ∧ r.window = s.router.window := by
    intro f h l s
    refine foldl_keep (fun t => ∃ r, t = { s with router := r } ∧ r.window = s.router.window) f ?_ l s ⟨s.router, rfl, rfl⟩
    rintro _ a ⟨r, rfl, hw⟩
    obtain ⟨r', h', hw'⟩ := h { s with router := r } a
    exact ⟨r', h', hw'.trans hw⟩
  unfold raise
  simp only
  split
  · rename_i hs
    simp only [Bool.and_eq_true, Bool.not_eq_true', List.contains_iff_mem] at hs
    obtain ⟨r, h, hw⟩ := win (fun s c => onChan s c (fun k => { k with suppressed := k.suppressed + 1 })) (fun s c => ⟨_, rfl, rfl⟩) (routesOf s.plan src cause o) s
    refine ⟨r, [], ?_, .inr hs, fun p hp => .inr (hw ▸ hp)⟩
    rw [h]; simp
  · obtain ⟨r, h, hw⟩ := win (fun s c => publish s c (if 1368 ≤ src ∧ src ≤ 1495 then 1 else 2) cause o.domeNo) (fun s c => ⟨_, rfl, rfl⟩) (routesOf s.plan src cause o)
      { s with out := { s.out with raised := s.out.raised ++ [(src, cause)] }, router := { s.router with window := if neverSuppressed src then s.router.window else (src, cause) :: s.router.window } }
    refine ⟨r, [(src, cause)], h, .inl (List.mem_singleton.2 rfl), fun p hp => ?_⟩
    rw [hw] at hp
    simp only at hp
    split at hp
    · exact .inr hp
    · rcases List.mem_cons.1 hp with h | h
      · exact .inl h
      · exact .inr h

/-- Raising one source raises it. -/
theorem raises_raise (s : State) (src cause : Nat) (o : Origin) : Raises s (raise s src cause o) src cause := by
  obtain ⟨r, y, h, hy, -⟩ := raise_spec s src cause o
  exact ⟨y, by rw [h], hy⟩

/-- What was raised stays raised through a later event. -/
theorem Raises.raise {s t : State} {a b : Nat} (h : Raises s t a b) (src cause : Nat) (o : Origin) : Raises s (raise t src cause o) a b := by
  obtain ⟨y, hy, m⟩ := h
  obtain ⟨r, z, hz, -, -⟩ := raise_spec t src cause o
  refine ⟨y ++ z, by rw [hz]; simp [hy], m.imp (fun k => List.mem_append_left z k) id⟩

/-- An event raised after others counts from the state before them, if none of those was the same. -/
theorem raises_trans {s t : State} {a b src cause : Nat} {o : Origin} (h : ∃ y, t.out.raised = s.out.raised ++ y)
    (w : ∀ p ∈ t.router.window, p = (a, b) ∨ p ∈ s.router.window) (n : (src, cause) ≠ (a, b)) : Raises s (Machine.raise t src cause o) src cause := by
  obtain ⟨y, hy⟩ := h
  obtain ⟨r, z, hz, m, -⟩ := raise_spec t src cause o
  refine ⟨y ++ z, by rw [hz]; simp [hy], m.imp (fun k => List.mem_append_right y k) (fun k => ⟨k.1, (w _ k.2).resolve_left n⟩)⟩

/-- An MSI-X message is sent or held pending. -/
theorem sendMsix_frame (s : State) (f : Fn) (v : Nat) : ∃ r x, sendMsix s f v = { s with router := r, out := { s.out with msix := x } } := by
  unfold sendMsix
  split
  · exact ⟨_, s.out.msix, rfl⟩
  · exact ⟨s.router, _, rfl⟩

/-! ### Logbook, completions, notices -/

/-- A Logbook entry changes the Logbook, and raises 1350 when the RAM ring is full. -/
theorem logAdd_frame (s : State) (a : LogArgs) : ∃ l r x, logAdd s a = { s with log := l, router := r, out := { s.out with raised := x } } := by
  unfold logAdd
  simp only
  split
  · exact ⟨_, s.router, s.out.raised, rfl⟩
  · split
    · obtain ⟨r, x, h⟩ := raiseEv_out s 1350 1344
      simp only [h]
      exact ⟨_, r, x, rfl⟩
    · exact ⟨_, s.router, s.out.raised, rfl⟩

/-- Merging a repeat keeps every entry's class, type and tick. -/
theorem mergeRepeat_keeps (p : LogEntry → Bool) (P : LogEntry → Prop) (hp : ∀ (e : LogEntry) a b, P e → P { e with rep := a, chain := b }) :
    ∀ (l : List LogEntry) (n : Nat), (∃ e ∈ l, P e) → ∃ e ∈ mergeRepeat p n l, P e := by
  have hr : ∀ (l : List LogEntry) (n : Nat), (∃ e ∈ l, P e) → ∃ e ∈ rechain n l, P e := by
    intro l
    induction l with
    | nil => rintro n ⟨e, h, -⟩; cases h
    | cons x r ih =>
      rintro n ⟨e, h, pe⟩
      rcases List.mem_cons.1 h with rfl | h
      · exact ⟨_, List.mem_cons_self, hp e e.rep _ pe⟩
      · obtain ⟨f, hf, pf⟩ := ih (x.chainAfter n) ⟨e, h, pe⟩
        exact ⟨f, List.mem_cons_of_mem _ hf, pf⟩
  intro l
  induction l with
  | nil => rintro n ⟨e, h, -⟩; cases h
  | cons x r ih =>
    rintro n ⟨e, h, pe⟩
    simp only [mergeRepeat]
    split
    · apply hr
      rcases List.mem_cons.1 h with rfl | h
      · exact ⟨_, List.mem_cons_self, hp e _ e.chain pe⟩
      · exact ⟨e, List.mem_cons_of_mem _ h, pe⟩
    · rcases List.mem_cons.1 h with rfl | h
      · exact ⟨e, List.mem_cons_self, pe⟩
      · obtain ⟨f, hf, pf⟩ := ih x.chain ⟨e, h, pe⟩
        exact ⟨f, List.mem_cons_of_mem _ hf, pf⟩

/-- A Logbook entry that was made, or merged, stands in the RAM ring. -/
theorem logAdd_logged (s : State) (a : LogArgs) : Logged (logAdd s a) a.cls a.typ (a.tick.getD s.time.tick64) := by
  unfold logAdd Logged
  simp only
  split
  · rename_i h
    obtain ⟨e, he, hs⟩ := List.any_eq_true.1 h
    have hk : e.cls = a.cls ∧ e.typ = a.typ ∧ e.tick = a.tick.getD s.time.tick64 := by
      simp only [LogEntry.same, Bool.and_eq_true, beq_iff_eq] at hs
      exact ⟨hs.1.1.1.1.1, hs.1.1.1.1.2, hs.2⟩
    exact mergeRepeat_keeps _ (fun e => e.cls = a.cls ∧ e.typ = a.typ ∧ e.tick = a.tick.getD s.time.tick64) (fun e a b h => h) _ _ ⟨e, he, hk⟩
  · exact ⟨_, List.mem_append_right _ (List.mem_singleton.2 rfl), rfl, rfl, rfl⟩

/-- What a Logbook entry raises beside it: nothing but a full ring. -/
theorem logAdd_raised (s : State) (a : LogArgs) : ∃ y, (logAdd s a).out.raised = s.out.raised ++ y := by
  unfold logAdd
  simp only
  split
  · exact ⟨[], by simp⟩
  · split
    · obtain ⟨r, y, h, -, -⟩ := raise_spec s 1350 (causeId 0x3F (1350 - 1344)) .device
      exact ⟨y, by simp only [raiseEv, h]⟩
    · exact ⟨[], by simp⟩

/-- What was raised stays raised through a Logbook entry. -/
theorem Raises.logAdd {s t : State} {a b : Nat} (h : Raises s t a b) (x : LogArgs) : Raises s (logAdd t x) a b := by
  obtain ⟨y, hy, m⟩ := h
  obtain ⟨z, hz⟩ := logAdd_raised t x
  exact ⟨y ++ z, by rw [hz]; simp [hy], m.imp (fun k => List.mem_append_left z k) id⟩

/-- A completion entry changes the mailbox's ring, and the host sees the entry and its message. -/
theorem writeCq_frame (s : State) (f : Fn) (a b c d e g h : Nat) (l : List Byte) :
    ∃ m r o, writeCq s f a b c d e g h l = { s with mbx := m, router := r, out := o } := by
  unfold writeCq
  simp only
  obtain ⟨r, x, hx⟩ := sendMsix_frame { (onMbx s f (fun m => { m with cqTail := if decide (ringEntries (mbxOf s f).cqSize ≤ (mbxOf s f).cqTail + 1) then 0 else m.cqTail + 1, phase := if decide (ringEntries (mbxOf s f).cqSize ≤ (mbxOf s f).cqTail + 1) then !m.phase else m.phase, cqUsed := m.cqUsed + 1 })) with out := { s.out with completions := s.out.completions ++ [{ fn := f, index := (mbxOf s f).cqTail, tag := a, status := b, cflags := c + b2n (mbxOf s f).phase, opcode := d, detail := e, tsn := g, cfgGen := cfgGenOf s f, result := h, time := houseCt64 s, resp := l }] } } f (mbxOf s f).vector
  exact ⟨_, r, _, hx⟩

/-- A notice is written, or counted lost. -/
theorem writeNotice_frame (s : State) (f : Fn) (a b c d : Nat) : ∃ m r o, writeNotice s f a b c d = { s with mbx := m, router := r, out := o } := by
  unfold writeNotice
  split
  · exact ⟨s.mbx, s.router, s.out, rfl⟩
  · split
    · obtain ⟨m, r, o, h⟩ := writeCq_frame s f 0xFFFF b 2 a c (tsnOf s.time.tick64) d []
      simp only [h]
      split
      · obtain ⟨r', o', h'⟩ := raise_frame { s with mbx := m, router := r, out := o } 1217 (causeId 0x1C _) (.dome _)
        exact ⟨m, r', o', h'⟩
      · exact ⟨m, r, o, rfl⟩
    · exact ⟨_, s.router, s.out, rfl⟩

/-- A notice to a dome. -/
theorem noticeDome_frame (s : State) (d a b c e : Nat) : ∃ m r o, noticeDome s d a b c e = { s with mbx := m, router := r, out := o } := by
  unfold noticeDome
  split
  · exact ⟨s.mbx, s.router, s.out, rfl⟩
  · split
    · exact ⟨s.mbx, s.router, s.out, rfl⟩
    · obtain ⟨m, r, o, h⟩ := writeNotice_frame { s with router := { s.router with noticed := (d, a, c) :: s.router.noticed } } _ a b c (e % 65536 + 2 ^ 32)
      exact ⟨m, r, o, h⟩

/-- A record for the owner waits in the router for the window's end. -/
theorem noticeOwner_frame (s : State) (a b c d e : Nat) : ∃ r, noticeOwner s a b c d e = { s with router := r } := ⟨_, rfl⟩

/-- A loop whose rounds change the mailboxes, the router and the output changes nothing else. -/
theorem foldl_mro {α : Type} (f : State → α → State) (h : ∀ s a, ∃ m r o, f s a = { s with mbx := m, router := r, out := o }) (l : List α) (s : State) :
    ∃ m r o, l.foldl f s = { s with mbx := m, router := r, out := o } := by
  refine foldl_keep (fun t => ∃ m r o, t = { s with mbx := m, router := r, out := o }) f ?_ l s ⟨s.mbx, s.router, s.out, rfl⟩
  rintro _ a ⟨m, r, o, rfl⟩
  obtain ⟨m', r', o', h'⟩ := h { s with mbx := m, router := r, out := o } a
  exact ⟨m', r', o', h'⟩

/-- A notice at once to the owner. -/
theorem noticeOwnerNow_frame (s : State) (a b c d : Nat) : ∃ m r o, noticeOwnerNow s a b c d = { s with mbx := m, router := r, out := o } :=
  writeNotice_frame s ownerFn a b c d

/-- The end of a suppression window. -/
theorem windowEnd_frame (s : State) : ∃ m r o, windowEnd s = { s with mbx := m, router := r, out := o } := by
  unfold windowEnd
  generalize hr : ({ s with router := { s.router with window := [], noticed := [], ownerRecs := [] } } : State) = s'
  obtain ⟨m, r, o, h⟩ := foldl_mro (fun (s : State) (r : Nat × Nat × Nat × Nat × List Nat) => noticeOwnerNow s r.1 r.2.1 r.2.2.1 (r.2.2.2.1 % 65536 + 2 ^ 32 * r.2.2.2.2.length))
    (fun s r => noticeOwnerNow_frame s _ _ _ _) s.router.ownerRecs s'
  subst hr
  exact ⟨m, r, o, h⟩

/-- A violation is a Logbook entry, a record for the owner, and source 1348. -/
theorem violation_frame (s : State) (code : Nat) (f : Fn) (addr : Nat) : ∃ l r o, violation s code f addr = { s with log := l, router := r, out := o } := by
  unfold violation
  simp only
  obtain ⟨l, r, x, h⟩ := logAdd_frame s { cls := 1, typ := code, fn := some f, dome := (s.plan.domeOf f).getD 0xFFFF, gen := if (s.plan.domeOf f).getD 0xFFFF = 0xFFFF then 0 else genOf s ((s.plan.domeOf f).getD 0xFFFF), status := 4, addr := addr }
  rw [h]
  obtain ⟨r1, h1⟩ := noticeOwner_frame { s with log := l, router := r, out := { s.out with raised := x } } 0x8009 4 (causeId 0x20 code) code (f.port * 65 + f.vf)
  rw [h1]
  obtain ⟨r2, o2, h2⟩ := raise_frame { s with log := l, router := r1, out := { s.out with raised := x } } 1348 (causeId 0x20 code) .device
  exact ⟨l, r2, o2, h2⟩

/-- Entering a state changes the state register, the Logbook, and the served mailboxes. -/
theorem enterState_frame (s : State) (d : DevState) :
    ∃ l m r o, enterState s d = { s with dev := { s.dev with st := d }, log := l, mbx := m, router := r, out := o } := by
  unfold enterState
  simp only
  obtain ⟨l, r, x, h⟩ := logAdd_frame { s with dev := { s.dev with st := d } } { cls := 2, typ := stateCode d, security := false }
  rw [h]
  obtain ⟨m, r', o, h'⟩ := foldl_mro (fun s f => writeNotice s f 0x8007 0 0 (stateCode d + 2 ^ 32)) (fun s f => writeNotice_frame s f 0x8007 0 0 _)
    (s.mbx.map (·.1)) { s with dev := { s.dev with st := d }, log := l, router := r, out := { s.out with raised := x } }
  exact ⟨l, m, r', o, h'⟩

/-- Drawing a free value advances the counter of draws alone. -/
theorem drawNat_frame (s : State) : drawNat s = (Config.freeNat s.free, { s with free := s.free + 1 }) := rfl

/-! ### Records of the boot flash -/

/-- An Ephemeris record changes the Ephemeris alone. -/
theorem ephWrite_frame (s : State) (a b : Nat) (l : List Byte) : ∃ c, ephWrite s a b l = { s with care := c } := by
  unfold ephWrite onCare
  simp only
  split <;> exact ⟨_, rfl⟩

/-- A health source raises its event. -/
theorem careEvent_frame (s : State) (a b : Nat) : ∃ r o, careEvent s a b = { s with router := r, out := o } := raise_frame s a _ _

/-- Storing a figure changes the figures, and raises 1325 when it leaves its limit. -/
theorem setFig_frame (s : State) (a b : Nat) (v : Int) (x : Bool) : ∃ c r o, setFig s a b v x = { s with care := c, router := r, out := o } := by
  unfold setFig
  have key : ∀ u : State, (∃ c, u = { s with care := c }) → ∀ k : Bool, ∃ c r o, (if k = true then careEvent u 1325 b else u) = { s with care := c, router := r, out := o } := by
    rintro _ ⟨c, rfl⟩ k
    split
    · obtain ⟨r, o, h⟩ := careEvent_frame { s with care := c } 1325 b
      exact ⟨c, r, o, h⟩
    · exact ⟨c, s.router, s.out, rfl⟩
  exact key _ ⟨_, rfl⟩ _

/-- Marking a figure changes the figures alone. -/
theorem staleFig_frame (s : State) (a b : Nat) : ∃ c, staleFig s a b = { s with care := c } := by
  unfold staleFig onCare
  split
  · exact ⟨_, rfl⟩
  · exact ⟨s.care, rfl⟩

/-- Saving a setting changes the boot flash alone. -/
theorem saveSetting_frame (s : State) (k : Nat) (f : Settings → Settings) : ∃ b, saveSetting s k f = { s with boot := b } := by
  unfold saveSetting onBoot
  split
  · exact ⟨s.boot, rfl⟩
  · simp only
    repeat' split
    all_goals exact ⟨_, rfl⟩

/-! ### Completions of requests -/

/-- Taking a request off the in-flight list changes that list alone. -/
theorem takeInFlight_frame (s : State) (q : Request) : ∃ i b, takeInFlight s q = ({ s with inflight := i }, b) := by
  unfold takeInFlight
  split
  · exact ⟨_, _, rfl⟩
  · exact ⟨s.inflight, false, rfl⟩

/-- A response into the dome's pages changes HBM alone. -/
theorem respStore_frame (s : State) (d off : Nat) (l : List Byte) : ∃ h, respStore s d off l = { s with hbm := h } := ⟨_, rfl⟩

/-- A completion changes the in-flight list, the mailbox, and what the host sees; with RBUF_HBM also HBM. -/
theorem finish_frame (s : State) (opc : Nat) (q : Request) (a b c d e : Nat) (body : Option (List Byte)) (high : Nat) :
    ∃ i h m r o, finish s opc q a b c d e body high = { s with inflight := i, hbm := h, mbx := m, router := r, out := o } := by
  unfold finish
  obtain ⟨i, g, hi⟩ := takeInFlight_frame s q
  simp only [hi]
  split
  · exact ⟨i, s.hbm, s.mbx, s.router, s.out, rfl⟩
  · have key : ∀ t : State, (∃ h, t = { s with inflight := i, hbm := h }) →
        ∀ x : State, (∃ m r o, x = { t with mbx := m, router := r, out := o }) →
        ∃ h m r o, (match x.plan.domeOf q.fn with | some d => raise x 1216 (causeId 0x1B d) (.dome d) | none => x) = { s with inflight := i, hbm := h, mbx := m, router := r, out := o } := by
      rintro _ ⟨h, rfl⟩ _ ⟨m, r, o, rfl⟩
      split
      · obtain ⟨r', o', h'⟩ := raise_frame { s with inflight := i, hbm := h, mbx := m, router := r, out := o } 1216 (causeId 0x1B _) (.dome _)
        exact ⟨h, m, r', o', h'⟩
      · exact ⟨h, m, r, o, rfl⟩
    have hrs : ∃ h, (if q.flags.toNat.testBit 6 = true then
        (match ({ s with inflight := i } : State).plan.domeOf q.fn with
          | some d => respStore { s with inflight := i } d q.rbufAddr.toNat (response q body high).1 | none => { s with inflight := i })
        else { s with inflight := i }) = { s with inflight := i, hbm := h } := by
      split
      · split
        · exact respStore_frame { s with inflight := i } _ _ _
        · exact ⟨s.hbm, rfl⟩
      · exact ⟨s.hbm, rfl⟩
    obtain ⟨h, m, r, o, hh⟩ := key _ hrs _ (writeCq_frame _ q.fn q.tag.toNat a (e + 4 * b2n (response q body high).2) opc b c d (response q body high).1)
    exact ⟨i, h, m, r, o, hh⟩

/-- A rejection completes the request. -/
theorem finishRej_frame (s : State) (opc : Nat) (q : Request) (x : Reject) :
    ∃ i h m r o, finishRej s opc q x = { s with inflight := i, hbm := h, mbx := m, router := r, out := o } := finish_frame s opc q _ _ _ _ _ _ _

end Sys2Proof.Machine
end

