-- ==== Sys2Proof/Laws/Frames.lean ====
section
/-! SUPPORT. Frames.lean: the fields that each shared operation leaves alone, one rewriting rule for each, and two states with equal fields. -/
namespace Sys2Proof.Machine

/-- Two states with the same fields are the same. -/
theorem State.eq_of_fields {s t : State} (h0 : s.dev = t.dev) (h1 : s.time = t.time) (h2 : s.tdc = t.tdc) (h3 : s.pairs = t.pairs) (h4 : s.clk = t.clk) (h5 : s.ports = t.ports) (h6 : s.feeds = t.feeds) (h7 : s.coarse = t.coarse) (h8 : s.coefSets = t.coefSets) (h9 : s.zooms = t.zooms) (h10 : s.sks = t.sks) (h11 : s.instrs = t.instrs) (h12 : s.masks = t.masks) (h13 : s.plates = t.plates) (h14 : s.streams = t.streams) (h15 : s.flows = t.flows) (h16 : s.apertures = t.apertures) (h17 : s.sextants = t.sextants) (h18 : s.adc = t.adc) (h19 : s.dacs = t.dacs) (h20 : s.eye = t.eye) (h21 : s.hbm = t.hbm) (h22 : s.sheds = t.sheds) (h23 : s.handoff = t.handoff) (h24 : s.made = t.made) (h25 : s.taken = t.taken) (h26 : s.plan = t.plan) (h27 : s.psets = t.psets) (h28 : s.admits = t.admits) (h29 : s.mbx = t.mbx) (h30 : s.domes = t.domes) (h31 : s.inflight = t.inflight) (h32 : s.held = t.held) (h33 : s.resolving = t.resolving) (h34 : s.capReads = t.capReads) (h35 : s.hostPorts = t.hostPorts) (h36 : s.router = t.router) (h37 : s.log = t.log) (h38 : s.meter = t.meter) (h39 : s.regs = t.regs) (h40 : s.dma = t.dma) (h41 : s.out = t.out) (h42 : s.care = t.care) (h43 : s.boot = t.boot) (h44 : s.dbg = t.dbg) (h45 : s.free = t.free) (h46 : s.pending = t.pending) : s = t := by
  cases s; cases t; simp only at *; subst_vars; rfl

@[simp] theorem raise_dev (s : State) (src cause : Nat) (o : Origin) : (raise s src cause o).dev = s.dev := by obtain ⟨_,_, h⟩ := raise_frame s src cause o; rw [h]
@[simp] theorem raise_time (s : State) (src cause : Nat) (o : Origin) : (raise s src cause o).time = s.time := by obtain ⟨_,_, h⟩ := raise_frame s src cause o; rw [h]
@[simp] theorem raise_tdc (s : State) (src cause : Nat) (o : Origin) : (raise s src cause o).tdc = s.tdc := by obtain ⟨_,_, h⟩ := raise_frame s src cause o; rw [h]
@[simp] theorem raise_pairs (s : State) (src cause : Nat) (o : Origin) : (raise s src cause o).pairs = s.pairs := by obtain ⟨_,_, h⟩ := raise_frame s src cause o; rw [h]
@[simp] theorem raise_clk (s : State) (src cause : Nat) (o : Origin) : (raise s src cause o).clk = s.clk := by obtain ⟨_,_, h⟩ := raise_frame s src cause o; rw [h]
@[simp] theorem raise_ports (s : State) (src cause : Nat) (o : Origin) : (raise s src cause o).ports = s.ports := by obtain ⟨_,_, h⟩ := raise_frame s src cause o; rw [h]
@[simp] theorem raise_feeds (s : State) (src cause : Nat) (o : Origin) : (raise s src cause o).feeds = s.feeds := by obtain ⟨_,_, h⟩ := raise_frame s src cause o; rw [h]
@[simp] theorem raise_coarse (s : State) (src cause : Nat) (o : Origin) : (raise s src cause o).coarse = s.coarse := by obtain ⟨_,_, h⟩ := raise_frame s src cause o; rw [h]
@[simp] theorem raise_coefSets (s : State) (src cause : Nat) (o : Origin) : (raise s src cause o).coefSets = s.coefSets := by obtain ⟨_,_, h⟩ := raise_frame s src cause o; rw [h]
@[simp] theorem raise_zooms (s : State) (src cause : Nat) (o : Origin) : (raise s src cause o).zooms = s.zooms := by obtain ⟨_,_, h⟩ := raise_frame s src cause o; rw [h]
@[simp] theorem raise_sks (s : State) (src cause : Nat) (o : Origin) : (raise s src cause o).sks = s.sks := by obtain ⟨_,_, h⟩ := raise_frame s src cause o; rw [h]
@[simp] theorem raise_instrs (s : State) (src cause : Nat) (o : Origin) : (raise s src cause o).instrs = s.instrs := by obtain ⟨_,_, h⟩ := raise_frame s src cause o; rw [h]
@[simp] theorem raise_masks (s : State) (src cause : Nat) (o : Origin) : (raise s src cause o).masks = s.masks := by obtain ⟨_,_, h⟩ := raise_frame s src cause o; rw [h]
@[simp] theorem raise_plates (s : State) (src cause : Nat) (o : Origin) : (raise s src cause o).plates = s.plates := by obtain ⟨_,_, h⟩ := raise_frame s src cause o; rw [h]
@[simp] theorem raise_streams (s : State) (src cause : Nat) (o : Origin) : (raise s src cause o).streams = s.streams := by obtain ⟨_,_, h⟩ := raise_frame s src cause o; rw [h]
@[simp] theorem raise_flows (s : State) (src cause : Nat) (o : Origin) : (raise s src cause o).flows = s.flows := by obtain ⟨_,_, h⟩ := raise_frame s src cause o; rw [h]
@[simp] theorem raise_apertures (s : State) (src cause : Nat) (o : Origin) : (raise s src cause o).apertures = s.apertures := by obtain ⟨_,_, h⟩ := raise_frame s src cause o; rw [h]
@[simp] theorem raise_sextants (s : State) (src cause : Nat) (o : Origin) : (raise s src cause o).sextants = s.sextants := by obtain ⟨_,_, h⟩ := raise_frame s src cause o; rw [h]
@[simp] theorem raise_adc (s : State) (src cause : Nat) (o : Origin) : (raise s src cause o).adc = s.adc := by obtain ⟨_,_, h⟩ := raise_frame s src cause o; rw [h]
@[simp] theorem raise_dacs (s : State) (src cause : Nat) (o : Origin) : (raise s src cause o).dacs = s.dacs := by obtain ⟨_,_, h⟩ := raise_frame s src cause o; rw [h]
@[simp] theorem raise_eye (s : State) (src cause : Nat) (o : Origin) : (raise s src cause o).eye = s.eye := by obtain ⟨_,_, h⟩ := raise_frame s src cause o; rw [h]
@[simp] theorem raise_hbm (s : State) (src cause : Nat) (o : Origin) : (raise s src cause o).hbm = s.hbm := by obtain ⟨_,_, h⟩ := raise_frame s src cause o; rw [h]
@[simp] theorem raise_sheds (s : State) (src cause : Nat) (o : Origin) : (raise s src cause o).sheds = s.sheds := by obtain ⟨_,_, h⟩ := raise_frame s src cause o; rw [h]
@[simp] theorem raise_handoff (s : State) (src cause : Nat) (o : Origin) : (raise s src cause o).handoff = s.handoff := by obtain ⟨_,_, h⟩ := raise_frame s src cause o; rw [h]
@[simp] theorem raise_made (s : State) (src cause : Nat) (o : Origin) : (raise s src cause o).made = s.made := by obtain ⟨_,_, h⟩ := raise_frame s src cause o; rw [h]
@[simp] theorem raise_taken (s : State) (src cause : Nat) (o : Origin) : (raise s src cause o).taken = s.taken := by obtain ⟨_,_, h⟩ := raise_frame s src cause o; rw [h]
@[simp] theorem raise_plan (s : State) (src cause : Nat) (o : Origin) : (raise s src cause o).plan = s.plan := by obtain ⟨_,_, h⟩ := raise_frame s src cause o; rw [h]
@[simp] theorem raise_psets (s : State) (src cause : Nat) (o : Origin) : (raise s src cause o).psets = s.psets := by obtain ⟨_,_, h⟩ := raise_frame s src cause o; rw [h]
@[simp] theorem raise_admits (s : State) (src cause : Nat) (o : Origin) : (raise s src cause o).admits = s.admits := by obtain ⟨_,_, h⟩ := raise_frame s src cause o; rw [h]
@[simp] theorem raise_mbx (s : State) (src cause : Nat) (o : Origin) : (raise s src cause o).mbx = s.mbx := by obtain ⟨_,_, h⟩ := raise_frame s src cause o; rw [h]
@[simp] theorem raise_domes (s : State) (src cause : Nat) (o : Origin) : (raise s src cause o).domes = s.domes := by obtain ⟨_,_, h⟩ := raise_frame s src cause o; rw [h]
@[simp] theorem raise_inflight (s : State) (src cause : Nat) (o : Origin) : (raise s src cause o).inflight = s.inflight := by obtain ⟨_,_, h⟩ := raise_frame s src cause o; rw [h]
@[simp] theorem raise_held (s : State) (src cause : Nat) (o : Origin) : (raise s src cause o).held = s.held := by obtain ⟨_,_, h⟩ := raise_frame s src cause o; rw [h]
@[simp] theorem raise_resolving (s : State) (src cause : Nat) (o : Origin) : (raise s src cause o).resolving = s.resolving := by obtain ⟨_,_, h⟩ := raise_frame s src cause o; rw [h]
@[simp] theorem raise_capReads (s : State) (src cause : Nat) (o : Origin) : (raise s src cause o).capReads = s.capReads := by obtain ⟨_,_, h⟩ := raise_frame s src cause o; rw [h]
@[simp] theorem raise_hostPorts (s : State) (src cause : Nat) (o : Origin) : (raise s src cause o).hostPorts = s.hostPorts := by obtain ⟨_,_, h⟩ := raise_frame s src cause o; rw [h]
@[simp] theorem raise_log (s : State) (src cause : Nat) (o : Origin) : (raise s src cause o).log = s.log := by obtain ⟨_,_, h⟩ := raise_frame s src cause o; rw [h]
@[simp] theorem raise_meter (s : State) (src cause : Nat) (o : Origin) : (raise s src cause o).meter = s.meter := by obtain ⟨_,_, h⟩ := raise_frame s src cause o; rw [h]
@[simp] theorem raise_regs (s : State) (src cause : Nat) (o : Origin) : (raise s src cause o).regs = s.regs := by obtain ⟨_,_, h⟩ := raise_frame s src cause o; rw [h]
@[simp] theorem raise_dma (s : State) (src cause : Nat) (o : Origin) : (raise s src cause o).dma = s.dma := by obtain ⟨_,_, h⟩ := raise_frame s src cause o; rw [h]
@[simp] theorem raise_care (s : State) (src cause : Nat) (o : Origin) : (raise s src cause o).care = s.care := by obtain ⟨_,_, h⟩ := raise_frame s src cause o; rw [h]
@[simp] theorem raise_boot (s : State) (src cause : Nat) (o : Origin) : (raise s src cause o).boot = s.boot := by obtain ⟨_,_, h⟩ := raise_frame s src cause o; rw [h]
@[simp] theorem raise_dbg (s : State) (src cause : Nat) (o : Origin) : (raise s src cause o).dbg = s.dbg := by obtain ⟨_,_, h⟩ := raise_frame s src cause o; rw [h]
@[simp] theorem raise_free (s : State) (src cause : Nat) (o : Origin) : (raise s src cause o).free = s.free := by obtain ⟨_,_, h⟩ := raise_frame s src cause o; rw [h]
@[simp] theorem raise_pending (s : State) (src cause : Nat) (o : Origin) : (raise s src cause o).pending = s.pending := by obtain ⟨_,_, h⟩ := raise_frame s src cause o; rw [h]

@[simp] theorem raiseEv_dev (s : State) (src base : Nat) : (raiseEv s src base).dev = s.dev := by obtain ⟨_,_, h⟩ := raiseEv_out s src base; rw [h]
@[simp] theorem raiseEv_time (s : State) (src base : Nat) : (raiseEv s src base).time = s.time := by obtain ⟨_,_, h⟩ := raiseEv_out s src base; rw [h]
@[simp] theorem raiseEv_tdc (s : State) (src base : Nat) : (raiseEv s src base).tdc = s.tdc := by obtain ⟨_,_, h⟩ := raiseEv_out s src base; rw [h]
@[simp] theorem raiseEv_pairs (s : State) (src base : Nat) : (raiseEv s src base).pairs = s.pairs := by obtain ⟨_,_, h⟩ := raiseEv_out s src base; rw [h]
@[simp] theorem raiseEv_clk (s : State) (src base : Nat) : (raiseEv s src base).clk = s.clk := by obtain ⟨_,_, h⟩ := raiseEv_out s src base; rw [h]
@[simp] theorem raiseEv_ports (s : State) (src base : Nat) : (raiseEv s src base).ports = s.ports := by obtain ⟨_,_, h⟩ := raiseEv_out s src base; rw [h]
@[simp] theorem raiseEv_feeds (s : State) (src base : Nat) : (raiseEv s src base).feeds = s.feeds := by obtain ⟨_,_, h⟩ := raiseEv_out s src base; rw [h]
@[simp] theorem raiseEv_coarse (s : State) (src base : Nat) : (raiseEv s src base).coarse = s.coarse := by obtain ⟨_,_, h⟩ := raiseEv_out s src base; rw [h]
@[simp] theorem raiseEv_coefSets (s : State) (src base : Nat) : (raiseEv s src base).coefSets = s.coefSets := by obtain ⟨_,_, h⟩ := raiseEv_out s src base; rw [h]
@[simp] theorem raiseEv_zooms (s : State) (src base : Nat) : (raiseEv s src base).zooms = s.zooms := by obtain ⟨_,_, h⟩ := raiseEv_out s src base; rw [h]
@[simp] theorem raiseEv_sks (s : State) (src base : Nat) : (raiseEv s src base).sks = s.sks := by obtain ⟨_,_, h⟩ := raiseEv_out s src base; rw [h]
@[simp] theorem raiseEv_instrs (s : State) (src base : Nat) : (raiseEv s src base).instrs = s.instrs := by obtain ⟨_,_, h⟩ := raiseEv_out s src base; rw [h]
@[simp] theorem raiseEv_masks (s : State) (src base : Nat) : (raiseEv s src base).masks = s.masks := by obtain ⟨_,_, h⟩ := raiseEv_out s src base; rw [h]
@[simp] theorem raiseEv_plates (s : State) (src base : Nat) : (raiseEv s src base).plates = s.plates := by obtain ⟨_,_, h⟩ := raiseEv_out s src base; rw [h]
@[simp] theorem raiseEv_streams (s : State) (src base : Nat) : (raiseEv s src base).streams = s.streams := by obtain ⟨_,_, h⟩ := raiseEv_out s src base; rw [h]
@[simp] theorem raiseEv_flows (s : State) (src base : Nat) : (raiseEv s src base).flows = s.flows := by obtain ⟨_,_, h⟩ := raiseEv_out s src base; rw [h]
@[simp] theorem raiseEv_apertures (s : State) (src base : Nat) : (raiseEv s src base).apertures = s.apertures := by obtain ⟨_,_, h⟩ := raiseEv_out s src base; rw [h]
@[simp] theorem raiseEv_sextants (s : State) (src base : Nat) : (raiseEv s src base).sextants = s.sextants := by obtain ⟨_,_, h⟩ := raiseEv_out s src base; rw [h]
@[simp] theorem raiseEv_adc (s : State) (src base : Nat) : (raiseEv s src base).adc = s.adc := by obtain ⟨_,_, h⟩ := raiseEv_out s src base; rw [h]
@[simp] theorem raiseEv_dacs (s : State) (src base : Nat) : (raiseEv s src base).dacs = s.dacs := by obtain ⟨_,_, h⟩ := raiseEv_out s src base; rw [h]
@[simp] theorem raiseEv_eye (s : State) (src base : Nat) : (raiseEv s src base).eye = s.eye := by obtain ⟨_,_, h⟩ := raiseEv_out s src base; rw [h]
@[simp] theorem raiseEv_hbm (s : State) (src base : Nat) : (raiseEv s src base).hbm = s.hbm := by obtain ⟨_,_, h⟩ := raiseEv_out s src base; rw [h]
@[simp] theorem raiseEv_sheds (s : State) (src base : Nat) : (raiseEv s src base).sheds = s.sheds := by obtain ⟨_,_, h⟩ := raiseEv_out s src base; rw [h]
@[simp] theorem raiseEv_handoff (s : State) (src base : Nat) : (raiseEv s src base).handoff = s.handoff := by obtain ⟨_,_, h⟩ := raiseEv_out s src base; rw [h]
@[simp] theorem raiseEv_made (s : State) (src base : Nat) : (raiseEv s src base).made = s.made := by obtain ⟨_,_, h⟩ := raiseEv_out s src base; rw [h]
@[simp] theorem raiseEv_taken (s : State) (src base : Nat) : (raiseEv s src base).taken = s.taken := by obtain ⟨_,_, h⟩ := raiseEv_out s src base; rw [h]
@[simp] theorem raiseEv_plan (s : State) (src base : Nat) : (raiseEv s src base).plan = s.plan := by obtain ⟨_,_, h⟩ := raiseEv_out s src base; rw [h]
@[simp] theorem raiseEv_psets (s : State) (src base : Nat) : (raiseEv s src base).psets = s.psets := by obtain ⟨_,_, h⟩ := raiseEv_out s src base; rw [h]
@[simp] theorem raiseEv_admits (s : State) (src base : Nat) : (raiseEv s src base).admits = s.admits := by obtain ⟨_,_, h⟩ := raiseEv_out s src base; rw [h]
@[simp] theorem raiseEv_mbx (s : State) (src base : Nat) : (raiseEv s src base).mbx = s.mbx := by obtain ⟨_,_, h⟩ := raiseEv_out s src base; rw [h]
@[simp] theorem raiseEv_domes (s : State) (src base : Nat) : (raiseEv s src base).domes = s.domes := by obtain ⟨_,_, h⟩ := raiseEv_out s src base; rw [h]
@[simp] theorem raiseEv_inflight (s : State) (src base : Nat) : (raiseEv s src base).inflight = s.inflight := by obtain ⟨_,_, h⟩ := raiseEv_out s src base; rw [h]
@[simp] theorem raiseEv_held (s : State) (src base : Nat) : (raiseEv s src base).held = s.held := by obtain ⟨_,_, h⟩ := raiseEv_out s src base; rw [h]
@[simp] theorem raiseEv_resolving (s : State) (src base : Nat) : (raiseEv s src base).resolving = s.resolving := by obtain ⟨_,_, h⟩ := raiseEv_out s src base; rw [h]
@[simp] theorem raiseEv_capReads (s : State) (src base : Nat) : (raiseEv s src base).capReads = s.capReads := by obtain ⟨_,_, h⟩ := raiseEv_out s src base; rw [h]
@[simp] theorem raiseEv_hostPorts (s : State) (src base : Nat) : (raiseEv s src base).hostPorts = s.hostPorts := by obtain ⟨_,_, h⟩ := raiseEv_out s src base; rw [h]
@[simp] theorem raiseEv_log (s : State) (src base : Nat) : (raiseEv s src base).log = s.log := by obtain ⟨_,_, h⟩ := raiseEv_out s src base; rw [h]
@[simp] theorem raiseEv_meter (s : State) (src base : Nat) : (raiseEv s src base).meter = s.meter := by obtain ⟨_,_, h⟩ := raiseEv_out s src base; rw [h]
@[simp] theorem raiseEv_regs (s : State) (src base : Nat) : (raiseEv s src base).regs = s.regs := by obtain ⟨_,_, h⟩ := raiseEv_out s src base; rw [h]
@[simp] theorem raiseEv_dma (s : State) (src base : Nat) : (raiseEv s src base).dma = s.dma := by obtain ⟨_,_, h⟩ := raiseEv_out s src base; rw [h]
@[simp] theorem raiseEv_care (s : State) (src base : Nat) : (raiseEv s src base).care = s.care := by obtain ⟨_,_, h⟩ := raiseEv_out s src base; rw [h]
@[simp] theorem raiseEv_boot (s : State) (src base : Nat) : (raiseEv s src base).boot = s.boot := by obtain ⟨_,_, h⟩ := raiseEv_out s src base; rw [h]
@[simp] theorem raiseEv_dbg (s : State) (src base : Nat) : (raiseEv s src base).dbg = s.dbg := by obtain ⟨_,_, h⟩ := raiseEv_out s src base; rw [h]
@[simp] theorem raiseEv_free (s : State) (src base : Nat) : (raiseEv s src base).free = s.free := by obtain ⟨_,_, h⟩ := raiseEv_out s src base; rw [h]
@[simp] theorem raiseEv_pending (s : State) (src base : Nat) : (raiseEv s src base).pending = s.pending := by obtain ⟨_,_, h⟩ := raiseEv_out s src base; rw [h]

@[simp] theorem publish_dev (s : State) (a b c d : Nat) : (publish s a b c d).dev = s.dev := by obtain ⟨_, h⟩ := publish_frame s a b c d; rw [h]
@[simp] theorem publish_time (s : State) (a b c d : Nat) : (publish s a b c d).time = s.time := by obtain ⟨_, h⟩ := publish_frame s a b c d; rw [h]
@[simp] theorem publish_tdc (s : State) (a b c d : Nat) : (publish s a b c d).tdc = s.tdc := by obtain ⟨_, h⟩ := publish_frame s a b c d; rw [h]
@[simp] theorem publish_pairs (s : State) (a b c d : Nat) : (publish s a b c d).pairs = s.pairs := by obtain ⟨_, h⟩ := publish_frame s a b c d; rw [h]
@[simp] theorem publish_clk (s : State) (a b c d : Nat) : (publish s a b c d).clk = s.clk := by obtain ⟨_, h⟩ := publish_frame s a b c d; rw [h]
@[simp] theorem publish_ports (s : State) (a b c d : Nat) : (publish s a b c d).ports = s.ports := by obtain ⟨_, h⟩ := publish_frame s a b c d; rw [h]
@[simp] theorem publish_feeds (s : State) (a b c d : Nat) : (publish s a b c d).feeds = s.feeds := by obtain ⟨_, h⟩ := publish_frame s a b c d; rw [h]
@[simp] theorem publish_coarse (s : State) (a b c d : Nat) : (publish s a b c d).coarse = s.coarse := by obtain ⟨_, h⟩ := publish_frame s a b c d; rw [h]
@[simp] theorem publish_coefSets (s : State) (a b c d : Nat) : (publish s a b c d).coefSets = s.coefSets := by obtain ⟨_, h⟩ := publish_frame s a b c d; rw [h]
@[simp] theorem publish_zooms (s : State) (a b c d : Nat) : (publish s a b c d).zooms = s.zooms := by obtain ⟨_, h⟩ := publish_frame s a b c d; rw [h]
@[simp] theorem publish_sks (s : State) (a b c d : Nat) : (publish s a b c d).sks = s.sks := by obtain ⟨_, h⟩ := publish_frame s a b c d; rw [h]
@[simp] theorem publish_instrs (s : State) (a b c d : Nat) : (publish s a b c d).instrs = s.instrs := by obtain ⟨_, h⟩ := publish_frame s a b c d; rw [h]
@[simp] theorem publish_masks (s : State) (a b c d : Nat) : (publish s a b c d).masks = s.masks := by obtain ⟨_, h⟩ := publish_frame s a b c d; rw [h]
@[simp] theorem publish_plates (s : State) (a b c d : Nat) : (publish s a b c d).plates = s.plates := by obtain ⟨_, h⟩ := publish_frame s a b c d; rw [h]
@[simp] theorem publish_streams (s : State) (a b c d : Nat) : (publish s a b c d).streams = s.streams := by obtain ⟨_, h⟩ := publish_frame s a b c d; rw [h]
@[simp] theorem publish_flows (s : State) (a b c d : Nat) : (publish s a b c d).flows = s.flows := by obtain ⟨_, h⟩ := publish_frame s a b c d; rw [h]
@[simp] theorem publish_apertures (s : State) (a b c d : Nat) : (publish s a b c d).apertures = s.apertures := by obtain ⟨_, h⟩ := publish_frame s a b c d; rw [h]
@[simp] theorem publish_sextants (s : State) (a b c d : Nat) : (publish s a b c d).sextants = s.sextants := by obtain ⟨_, h⟩ := publish_frame s a b c d; rw [h]
@[simp] theorem publish_adc (s : State) (a b c d : Nat) : (publish s a b c d).adc = s.adc := by obtain ⟨_, h⟩ := publish_frame s a b c d; rw [h]
@[simp] theorem publish_dacs (s : State) (a b c d : Nat) : (publish s a b c d).dacs = s.dacs := by obtain ⟨_, h⟩ := publish_frame s a b c d; rw [h]
@[simp] theorem publish_eye (s : State) (a b c d : Nat) : (publish s a b c d).eye = s.eye := by obtain ⟨_, h⟩ := publish_frame s a b c d; rw [h]
@[simp] theorem publish_hbm (s : State) (a b c d : Nat) : (publish s a b c d).hbm = s.hbm := by obtain ⟨_, h⟩ := publish_frame s a b c d; rw [h]
@[simp] theorem publish_sheds (s : State) (a b c d : Nat) : (publish s a b c d).sheds = s.sheds := by obtain ⟨_, h⟩ := publish_frame s a b c d; rw [h]
@[simp] theorem publish_handoff (s : State) (a b c d : Nat) : (publish s a b c d).handoff = s.handoff := by obtain ⟨_, h⟩ := publish_frame s a b c d; rw [h]
@[simp] theorem publish_made (s : State) (a b c d : Nat) : (publish s a b c d).made = s.made := by obtain ⟨_, h⟩ := publish_frame s a b c d; rw [h]
@[simp] theorem publish_taken (s : State) (a b c d : Nat) : (publish s a b c d).taken = s.taken := by obtain ⟨_, h⟩ := publish_frame s a b c d; rw [h]
@[simp] theorem publish_plan (s : State) (a b c d : Nat) : (publish s a b c d).plan = s.plan := by obtain ⟨_, h⟩ := publish_frame s a b c d; rw [h]
@[simp] theorem publish_psets (s : State) (a b c d : Nat) : (publish s a b c d).psets = s.psets := by obtain ⟨_, h⟩ := publish_frame s a b c d; rw [h]
@[simp] theorem publish_admits (s : State) (a b c d : Nat) : (publish s a b c d).admits = s.admits := by obtain ⟨_, h⟩ := publish_frame s a b c d; rw [h]
@[simp] theorem publish_mbx (s : State) (a b c d : Nat) : (publish s a b c d).mbx = s.mbx := by obtain ⟨_, h⟩ := publish_frame s a b c d; rw [h]
@[simp] theorem publish_domes (s : State) (a b c d : Nat) : (publish s a b c d).domes = s.domes := by obtain ⟨_, h⟩ := publish_frame s a b c d; rw [h]
@[simp] theorem publish_inflight (s : State) (a b c d : Nat) : (publish s a b c d).inflight = s.inflight := by obtain ⟨_, h⟩ := publish_frame s a b c d; rw [h]
@[simp] theorem publish_held (s : State) (a b c d : Nat) : (publish s a b c d).held = s.held := by obtain ⟨_, h⟩ := publish_frame s a b c d; rw [h]
@[simp] theorem publish_resolving (s : State) (a b c d : Nat) : (publish s a b c d).resolving = s.resolving := by obtain ⟨_, h⟩ := publish_frame s a b c d; rw [h]
@[simp] theorem publish_capReads (s : State) (a b c d : Nat) : (publish s a b c d).capReads = s.capReads := by obtain ⟨_, h⟩ := publish_frame s a b c d; rw [h]
@[simp] theorem publish_hostPorts (s : State) (a b c d : Nat) : (publish s a b c d).hostPorts = s.hostPorts := by obtain ⟨_, h⟩ := publish_frame s a b c d; rw [h]
@[simp] theorem publish_log (s : State) (a b c d : Nat) : (publish s a b c d).log = s.log := by obtain ⟨_, h⟩ := publish_frame s a b c d; rw [h]
@[simp] theorem publish_meter (s : State) (a b c d : Nat) : (publish s a b c d).meter = s.meter := by obtain ⟨_, h⟩ := publish_frame s a b c d; rw [h]
@[simp] theorem publish_regs (s : State) (a b c d : Nat) : (publish s a b c d).regs = s.regs := by obtain ⟨_, h⟩ := publish_frame s a b c d; rw [h]
@[simp] theorem publish_dma (s : State) (a b c d : Nat) : (publish s a b c d).dma = s.dma := by obtain ⟨_, h⟩ := publish_frame s a b c d; rw [h]
@[simp] theorem publish_out (s : State) (a b c d : Nat) : (publish s a b c d).out = s.out := by obtain ⟨_, h⟩ := publish_frame s a b c d; rw [h]
@[simp] theorem publish_care (s : State) (a b c d : Nat) : (publish s a b c d).care = s.care := by obtain ⟨_, h⟩ := publish_frame s a b c d; rw [h]
@[simp] theorem publish_boot (s : State) (a b c d : Nat) : (publish s a b c d).boot = s.boot := by obtain ⟨_, h⟩ := publish_frame s a b c d; rw [h]
@[simp] theorem publish_dbg (s : State) (a b c d : Nat) : (publish s a b c d).dbg = s.dbg := by obtain ⟨_, h⟩ := publish_frame s a b c d; rw [h]
@[simp] theorem publish_free (s : State) (a b c d : Nat) : (publish s a b c d).free = s.free := by obtain ⟨_, h⟩ := publish_frame s a b c d; rw [h]
@[simp] theorem publish_pending (s : State) (a b c d : Nat) : (publish s a b c d).pending = s.pending := by obtain ⟨_, h⟩ := publish_frame s a b c d; rw [h]

@[simp] theorem publishAt_dev (s : State) (a b c d e f : Nat) : (publishAt s a b c d e f).dev = s.dev := by obtain ⟨_, h⟩ := publishAt_frame s a b c d e f; rw [h]
@[simp] theorem publishAt_time (s : State) (a b c d e f : Nat) : (publishAt s a b c d e f).time = s.time := by obtain ⟨_, h⟩ := publishAt_frame s a b c d e f; rw [h]
@[simp] theorem publishAt_tdc (s : State) (a b c d e f : Nat) : (publishAt s a b c d e f).tdc = s.tdc := by obtain ⟨_, h⟩ := publishAt_frame s a b c d e f; rw [h]
@[simp] theorem publishAt_pairs (s : State) (a b c d e f : Nat) : (publishAt s a b c d e f).pairs = s.pairs := by obtain ⟨_, h⟩ := publishAt_frame s a b c d e f; rw [h]
@[simp] theorem publishAt_clk (s : State) (a b c d e f : Nat) : (publishAt s a b c d e f).clk = s.clk := by obtain ⟨_, h⟩ := publishAt_frame s a b c d e f; rw [h]
@[simp] theorem publishAt_ports (s : State) (a b c d e f : Nat) : (publishAt s a b c d e f).ports = s.ports := by obtain ⟨_, h⟩ := publishAt_frame s a b c d e f; rw [h]
@[simp] theorem publishAt_feeds (s : State) (a b c d e f : Nat) : (publishAt s a b c d e f).feeds = s.feeds := by obtain ⟨_, h⟩ := publishAt_frame s a b c d e f; rw [h]
@[simp] theorem publishAt_coarse (s : State) (a b c d e f : Nat) : (publishAt s a b c d e f).coarse = s.coarse := by obtain ⟨_, h⟩ := publishAt_frame s a b c d e f; rw [h]
@[simp] theorem publishAt_coefSets (s : State) (a b c d e f : Nat) : (publishAt s a b c d e f).coefSets = s.coefSets := by obtain ⟨_, h⟩ := publishAt_frame s a b c d e f; rw [h]
@[simp] theorem publishAt_zooms (s : State) (a b c d e f : Nat) : (publishAt s a b c d e f).zooms = s.zooms := by obtain ⟨_, h⟩ := publishAt_frame s a b c d e f; rw [h]
@[simp] theorem publishAt_sks (s : State) (a b c d e f : Nat) : (publishAt s a b c d e f).sks = s.sks := by obtain ⟨_, h⟩ := publishAt_frame s a b c d e f; rw [h]
@[simp] theorem publishAt_instrs (s : State) (a b c d e f : Nat) : (publishAt s a b c d e f).instrs = s.instrs := by obtain ⟨_, h⟩ := publishAt_frame s a b c d e f; rw [h]
@[simp] theorem publishAt_masks (s : State) (a b c d e f : Nat) : (publishAt s a b c d e f).masks = s.masks := by obtain ⟨_, h⟩ := publishAt_frame s a b c d e f; rw [h]
@[simp] theorem publishAt_plates (s : State) (a b c d e f : Nat) : (publishAt s a b c d e f).plates = s.plates := by obtain ⟨_, h⟩ := publishAt_frame s a b c d e f; rw [h]
@[simp] theorem publishAt_streams (s : State) (a b c d e f : Nat) : (publishAt s a b c d e f).streams = s.streams := by obtain ⟨_, h⟩ := publishAt_frame s a b c d e f; rw [h]
@[simp] theorem publishAt_flows (s : State) (a b c d e f : Nat) : (publishAt s a b c d e f).flows = s.flows := by obtain ⟨_, h⟩ := publishAt_frame s a b c d e f; rw [h]
@[simp] theorem publishAt_apertures (s : State) (a b c d e f : Nat) : (publishAt s a b c d e f).apertures = s.apertures := by obtain ⟨_, h⟩ := publishAt_frame s a b c d e f; rw [h]
@[simp] theorem publishAt_sextants (s : State) (a b c d e f : Nat) : (publishAt s a b c d e f).sextants = s.sextants := by obtain ⟨_, h⟩ := publishAt_frame s a b c d e f; rw [h]
@[simp] theorem publishAt_adc (s : State) (a b c d e f : Nat) : (publishAt s a b c d e f).adc = s.adc := by obtain ⟨_, h⟩ := publishAt_frame s a b c d e f; rw [h]
@[simp] theorem publishAt_dacs (s : State) (a b c d e f : Nat) : (publishAt s a b c d e f).dacs = s.dacs := by obtain ⟨_, h⟩ := publishAt_frame s a b c d e f; rw [h]
@[simp] theorem publishAt_eye (s : State) (a b c d e f : Nat) : (publishAt s a b c d e f).eye = s.eye := by obtain ⟨_, h⟩ := publishAt_frame s a b c d e f; rw [h]
@[simp] theorem publishAt_hbm (s : State) (a b c d e f : Nat) : (publishAt s a b c d e f).hbm = s.hbm := by obtain ⟨_, h⟩ := publishAt_frame s a b c d e f; rw [h]
@[simp] theorem publishAt_sheds (s : State) (a b c d e f : Nat) : (publishAt s a b c d e f).sheds = s.sheds := by obtain ⟨_, h⟩ := publishAt_frame s a b c d e f; rw [h]
@[simp] theorem publishAt_handoff (s : State) (a b c d e f : Nat) : (publishAt s a b c d e f).handoff = s.handoff := by obtain ⟨_, h⟩ := publishAt_frame s a b c d e f; rw [h]
@[simp] theorem publishAt_made (s : State) (a b c d e f : Nat) : (publishAt s a b c d e f).made = s.made := by obtain ⟨_, h⟩ := publishAt_frame s a b c d e f; rw [h]
@[simp] theorem publishAt_taken (s : State) (a b c d e f : Nat) : (publishAt s a b c d e f).taken = s.taken := by obtain ⟨_, h⟩ := publishAt_frame s a b c d e f; rw [h]
@[simp] theorem publishAt_plan (s : State) (a b c d e f : Nat) : (publishAt s a b c d e f).plan = s.plan := by obtain ⟨_, h⟩ := publishAt_frame s a b c d e f; rw [h]
@[simp] theorem publishAt_psets (s : State) (a b c d e f : Nat) : (publishAt s a b c d e f).psets = s.psets := by obtain ⟨_, h⟩ := publishAt_frame s a b c d e f; rw [h]
@[simp] theorem publishAt_admits (s : State) (a b c d e f : Nat) : (publishAt s a b c d e f).admits = s.admits := by obtain ⟨_, h⟩ := publishAt_frame s a b c d e f; rw [h]
@[simp] theorem publishAt_mbx (s : State) (a b c d e f : Nat) : (publishAt s a b c d e f).mbx = s.mbx := by obtain ⟨_, h⟩ := publishAt_frame s a b c d e f; rw [h]
@[simp] theorem publishAt_domes (s : State) (a b c d e f : Nat) : (publishAt s a b c d e f).domes = s.domes := by obtain ⟨_, h⟩ := publishAt_frame s a b c d e f; rw [h]
@[simp] theorem publishAt_inflight (s : State) (a b c d e f : Nat) : (publishAt s a b c d e f).inflight = s.inflight := by obtain ⟨_, h⟩ := publishAt_frame s a b c d e f; rw [h]
@[simp] theorem publishAt_held (s : State) (a b c d e f : Nat) : (publishAt s a b c d e f).held = s.held := by obtain ⟨_, h⟩ := publishAt_frame s a b c d e f; rw [h]
@[simp] theorem publishAt_resolving (s : State) (a b c d e f : Nat) : (publishAt s a b c d e f).resolving = s.resolving := by obtain ⟨_, h⟩ := publishAt_frame s a b c d e f; rw [h]
@[simp] theorem publishAt_capReads (s : State) (a b c d e f : Nat) : (publishAt s a b c d e f).capReads = s.capReads := by obtain ⟨_, h⟩ := publishAt_frame s a b c d e f; rw [h]
@[simp] theorem publishAt_hostPorts (s : State) (a b c d e f : Nat) : (publishAt s a b c d e f).hostPorts = s.hostPorts := by obtain ⟨_, h⟩ := publishAt_frame s a b c d e f; rw [h]
@[simp] theorem publishAt_log (s : State) (a b c d e f : Nat) : (publishAt s a b c d e f).log = s.log := by obtain ⟨_, h⟩ := publishAt_frame s a b c d e f; rw [h]
@[simp] theorem publishAt_meter (s : State) (a b c d e f : Nat) : (publishAt s a b c d e f).meter = s.meter := by obtain ⟨_, h⟩ := publishAt_frame s a b c d e f; rw [h]
@[simp] theorem publishAt_regs (s : State) (a b c d e f : Nat) : (publishAt s a b c d e f).regs = s.regs := by obtain ⟨_, h⟩ := publishAt_frame s a b c d e f; rw [h]
@[simp] theorem publishAt_dma (s : State) (a b c d e f : Nat) : (publishAt s a b c d e f).dma = s.dma := by obtain ⟨_, h⟩ := publishAt_frame s a b c d e f; rw [h]
@[simp] theorem publishAt_out (s : State) (a b c d e f : Nat) : (publishAt s a b c d e f).out = s.out := by obtain ⟨_, h⟩ := publishAt_frame s a b c d e f; rw [h]
@[simp] theorem publishAt_care (s : State) (a b c d e f : Nat) : (publishAt s a b c d e f).care = s.care := by obtain ⟨_, h⟩ := publishAt_frame s a b c d e f; rw [h]
@[simp] theorem publishAt_boot (s : State) (a b c d e f : Nat) : (publishAt s a b c d e f).boot = s.boot := by obtain ⟨_, h⟩ := publishAt_frame s a b c d e f; rw [h]
@[simp] theorem publishAt_dbg (s : State) (a b c d e f : Nat) : (publishAt s a b c d e f).dbg = s.dbg := by obtain ⟨_, h⟩ := publishAt_frame s a b c d e f; rw [h]
@[simp] theorem publishAt_free (s : State) (a b c d e f : Nat) : (publishAt s a b c d e f).free = s.free := by obtain ⟨_, h⟩ := publishAt_frame s a b c d e f; rw [h]
@[simp] theorem publishAt_pending (s : State) (a b c d e f : Nat) : (publishAt s a b c d e f).pending = s.pending := by obtain ⟨_, h⟩ := publishAt_frame s a b c d e f; rw [h]

@[simp] theorem sendMsix_dev (s : State) (f : Fn) (v : Nat) : (sendMsix s f v).dev = s.dev := by obtain ⟨_,_, h⟩ := sendMsix_frame s f v; rw [h]
@[simp] theorem sendMsix_time (s : State) (f : Fn) (v : Nat) : (sendMsix s f v).time = s.time := by obtain ⟨_,_, h⟩ := sendMsix_frame s f v; rw [h]
@[simp] theorem sendMsix_tdc (s : State) (f : Fn) (v : Nat) : (sendMsix s f v).tdc = s.tdc := by obtain ⟨_,_, h⟩ := sendMsix_frame s f v; rw [h]
@[simp] theorem sendMsix_pairs (s : State) (f : Fn) (v : Nat) : (sendMsix s f v).pairs = s.pairs := by obtain ⟨_,_, h⟩ := sendMsix_frame s f v; rw [h]
@[simp] theorem sendMsix_clk (s : State) (f : Fn) (v : Nat) : (sendMsix s f v).clk = s.clk := by obtain ⟨_,_, h⟩ := sendMsix_frame s f v; rw [h]
@[simp] theorem sendMsix_ports (s : State) (f : Fn) (v : Nat) : (sendMsix s f v).ports = s.ports := by obtain ⟨_,_, h⟩ := sendMsix_frame s f v; rw [h]
@[simp] theorem sendMsix_feeds (s : State) (f : Fn) (v : Nat) : (sendMsix s f v).feeds = s.feeds := by obtain ⟨_,_, h⟩ := sendMsix_frame s f v; rw [h]
@[simp] theorem sendMsix_coarse (s : State) (f : Fn) (v : Nat) : (sendMsix s f v).coarse = s.coarse := by obtain ⟨_,_, h⟩ := sendMsix_frame s f v; rw [h]
@[simp] theorem sendMsix_coefSets (s : State) (f : Fn) (v : Nat) : (sendMsix s f v).coefSets = s.coefSets := by obtain ⟨_,_, h⟩ := sendMsix_frame s f v; rw [h]
@[simp] theorem sendMsix_zooms (s : State) (f : Fn) (v : Nat) : (sendMsix s f v).zooms = s.zooms := by obtain ⟨_,_, h⟩ := sendMsix_frame s f v; rw [h]
@[simp] theorem sendMsix_sks (s : State) (f : Fn) (v : Nat) : (sendMsix s f v).sks = s.sks := by obtain ⟨_,_, h⟩ := sendMsix_frame s f v; rw [h]
@[simp] theorem sendMsix_instrs (s : State) (f : Fn) (v : Nat) : (sendMsix s f v).instrs = s.instrs := by obtain ⟨_,_, h⟩ := sendMsix_frame s f v; rw [h]
@[simp] theorem sendMsix_masks (s : State) (f : Fn) (v : Nat) : (sendMsix s f v).masks = s.masks := by obtain ⟨_,_, h⟩ := sendMsix_frame s f v; rw [h]
@[simp] theorem sendMsix_plates (s : State) (f : Fn) (v : Nat) : (sendMsix s f v).plates = s.plates := by obtain ⟨_,_, h⟩ := sendMsix_frame s f v; rw [h]
@[simp] theorem sendMsix_streams (s : State) (f : Fn) (v : Nat) : (sendMsix s f v).streams = s.streams := by obtain ⟨_,_, h⟩ := sendMsix_frame s f v; rw [h]
@[simp] theorem sendMsix_flows (s : State) (f : Fn) (v : Nat) : (sendMsix s f v).flows = s.flows := by obtain ⟨_,_, h⟩ := sendMsix_frame s f v; rw [h]
@[simp] theorem sendMsix_apertures (s : State) (f : Fn) (v : Nat) : (sendMsix s f v).apertures = s.apertures := by obtain ⟨_,_, h⟩ := sendMsix_frame s f v; rw [h]
@[simp] theorem sendMsix_sextants (s : State) (f : Fn) (v : Nat) : (sendMsix s f v).sextants = s.sextants := by obtain ⟨_,_, h⟩ := sendMsix_frame s f v; rw [h]
@[simp] theorem sendMsix_adc (s : State) (f : Fn) (v : Nat) : (sendMsix s f v).adc = s.adc := by obtain ⟨_,_, h⟩ := sendMsix_frame s f v; rw [h]
@[simp] theorem sendMsix_dacs (s : State) (f : Fn) (v : Nat) : (sendMsix s f v).dacs = s.dacs := by obtain ⟨_,_, h⟩ := sendMsix_frame s f v; rw [h]
@[simp] theorem sendMsix_eye (s : State) (f : Fn) (v : Nat) : (sendMsix s f v).eye = s.eye := by obtain ⟨_,_, h⟩ := sendMsix_frame s f v; rw [h]
@[simp] theorem sendMsix_hbm (s : State) (f : Fn) (v : Nat) : (sendMsix s f v).hbm = s.hbm := by obtain ⟨_,_, h⟩ := sendMsix_frame s f v; rw [h]
@[simp] theorem sendMsix_sheds (s : State) (f : Fn) (v : Nat) : (sendMsix s f v).sheds = s.sheds := by obtain ⟨_,_, h⟩ := sendMsix_frame s f v; rw [h]
@[simp] theorem sendMsix_handoff (s : State) (f : Fn) (v : Nat) : (sendMsix s f v).handoff = s.handoff := by obtain ⟨_,_, h⟩ := sendMsix_frame s f v; rw [h]
@[simp] theorem sendMsix_made (s : State) (f : Fn) (v : Nat) : (sendMsix s f v).made = s.made := by obtain ⟨_,_, h⟩ := sendMsix_frame s f v; rw [h]
@[simp] theorem sendMsix_taken (s : State) (f : Fn) (v : Nat) : (sendMsix s f v).taken = s.taken := by obtain ⟨_,_, h⟩ := sendMsix_frame s f v; rw [h]
@[simp] theorem sendMsix_plan (s : State) (f : Fn) (v : Nat) : (sendMsix s f v).plan = s.plan := by obtain ⟨_,_, h⟩ := sendMsix_frame s f v; rw [h]
@[simp] theorem sendMsix_psets (s : State) (f : Fn) (v : Nat) : (sendMsix s f v).psets = s.psets := by obtain ⟨_,_, h⟩ := sendMsix_frame s f v; rw [h]
@[simp] theorem sendMsix_admits (s : State) (f : Fn) (v : Nat) : (sendMsix s f v).admits = s.admits := by obtain ⟨_,_, h⟩ := sendMsix_frame s f v; rw [h]
@[simp] theorem sendMsix_mbx (s : State) (f : Fn) (v : Nat) : (sendMsix s f v).mbx = s.mbx := by obtain ⟨_,_, h⟩ := sendMsix_frame s f v; rw [h]
@[simp] theorem sendMsix_domes (s : State) (f : Fn) (v : Nat) : (sendMsix s f v).domes = s.domes := by obtain ⟨_,_, h⟩ := sendMsix_frame s f v; rw [h]
@[simp] theorem sendMsix_inflight (s : State) (f : Fn) (v : Nat) : (sendMsix s f v).inflight = s.inflight := by obtain ⟨_,_, h⟩ := sendMsix_frame s f v; rw [h]
@[simp] theorem sendMsix_held (s : State) (f : Fn) (v : Nat) : (sendMsix s f v).held = s.held := by obtain ⟨_,_, h⟩ := sendMsix_frame s f v; rw [h]
@[simp] theorem sendMsix_resolving (s : State) (f : Fn) (v : Nat) : (sendMsix s f v).resolving = s.resolving := by obtain ⟨_,_, h⟩ := sendMsix_frame s f v; rw [h]
@[simp] theorem sendMsix_capReads (s : State) (f : Fn) (v : Nat) : (sendMsix s f v).capReads = s.capReads := by obtain ⟨_,_, h⟩ := sendMsix_frame s f v; rw [h]
@[simp] theorem sendMsix_hostPorts (s : State) (f : Fn) (v : Nat) : (sendMsix s f v).hostPorts = s.hostPorts := by obtain ⟨_,_, h⟩ := sendMsix_frame s f v; rw [h]
@[simp] theorem sendMsix_log (s : State) (f : Fn) (v : Nat) : (sendMsix s f v).log = s.log := by obtain ⟨_,_, h⟩ := sendMsix_frame s f v; rw [h]
@[simp] theorem sendMsix_meter (s : State) (f : Fn) (v : Nat) : (sendMsix s f v).meter = s.meter := by obtain ⟨_,_, h⟩ := sendMsix_frame s f v; rw [h]
@[simp] theorem sendMsix_regs (s : State) (f : Fn) (v : Nat) : (sendMsix s f v).regs = s.regs := by obtain ⟨_,_, h⟩ := sendMsix_frame s f v; rw [h]
@[simp] theorem sendMsix_dma (s : State) (f : Fn) (v : Nat) : (sendMsix s f v).dma = s.dma := by obtain ⟨_,_, h⟩ := sendMsix_frame s f v; rw [h]
@[simp] theorem sendMsix_care (s : State) (f : Fn) (v : Nat) : (sendMsix s f v).care = s.care := by obtain ⟨_,_, h⟩ := sendMsix_frame s f v; rw [h]
@[simp] theorem sendMsix_boot (s : State) (f : Fn) (v : Nat) : (sendMsix s f v).boot = s.boot := by obtain ⟨_,_, h⟩ := sendMsix_frame s f v; rw [h]
@[simp] theorem sendMsix_dbg (s : State) (f : Fn) (v : Nat) : (sendMsix s f v).dbg = s.dbg := by obtain ⟨_,_, h⟩ := sendMsix_frame s f v; rw [h]
@[simp] theorem sendMsix_free (s : State) (f : Fn) (v : Nat) : (sendMsix s f v).free = s.free := by obtain ⟨_,_, h⟩ := sendMsix_frame s f v; rw [h]
@[simp] theorem sendMsix_pending (s : State) (f : Fn) (v : Nat) : (sendMsix s f v).pending = s.pending := by obtain ⟨_,_, h⟩ := sendMsix_frame s f v; rw [h]

@[simp] theorem logAdd_dev (s : State) (a : LogArgs) : (logAdd s a).dev = s.dev := by obtain ⟨_,_,_, h⟩ := logAdd_frame s a; rw [h]
@[simp] theorem logAdd_time (s : State) (a : LogArgs) : (logAdd s a).time = s.time := by obtain ⟨_,_,_, h⟩ := logAdd_frame s a; rw [h]
@[simp] theorem logAdd_tdc (s : State) (a : LogArgs) : (logAdd s a).tdc = s.tdc := by obtain ⟨_,_,_, h⟩ := logAdd_frame s a; rw [h]
@[simp] theorem logAdd_pairs (s : State) (a : LogArgs) : (logAdd s a).pairs = s.pairs := by obtain ⟨_,_,_, h⟩ := logAdd_frame s a; rw [h]
@[simp] theorem logAdd_clk (s : State) (a : LogArgs) : (logAdd s a).clk = s.clk := by obtain ⟨_,_,_, h⟩ := logAdd_frame s a; rw [h]
@[simp] theorem logAdd_ports (s : State) (a : LogArgs) : (logAdd s a).ports = s.ports := by obtain ⟨_,_,_, h⟩ := logAdd_frame s a; rw [h]
@[simp] theorem logAdd_feeds (s : State) (a : LogArgs) : (logAdd s a).feeds = s.feeds := by obtain ⟨_,_,_, h⟩ := logAdd_frame s a; rw [h]
@[simp] theorem logAdd_coarse (s : State) (a : LogArgs) : (logAdd s a).coarse = s.coarse := by obtain ⟨_,_,_, h⟩ := logAdd_frame s a; rw [h]
@[simp] theorem logAdd_coefSets (s : State) (a : LogArgs) : (logAdd s a).coefSets = s.coefSets := by obtain ⟨_,_,_, h⟩ := logAdd_frame s a; rw [h]
@[simp] theorem logAdd_zooms (s : State) (a : LogArgs) : (logAdd s a).zooms = s.zooms := by obtain ⟨_,_,_, h⟩ := logAdd_frame s a; rw [h]
@[simp] theorem logAdd_sks (s : State) (a : LogArgs) : (logAdd s a).sks = s.sks := by obtain ⟨_,_,_, h⟩ := logAdd_frame s a; rw [h]
@[simp] theorem logAdd_instrs (s : State) (a : LogArgs) : (logAdd s a).instrs = s.instrs := by obtain ⟨_,_,_, h⟩ := logAdd_frame s a; rw [h]
@[simp] theorem logAdd_masks (s : State) (a : LogArgs) : (logAdd s a).masks = s.masks := by obtain ⟨_,_,_, h⟩ := logAdd_frame s a; rw [h]
@[simp] theorem logAdd_plates (s : State) (a : LogArgs) : (logAdd s a).plates = s.plates := by obtain ⟨_,_,_, h⟩ := logAdd_frame s a; rw [h]
@[simp] theorem logAdd_streams (s : State) (a : LogArgs) : (logAdd s a).streams = s.streams := by obtain ⟨_,_,_, h⟩ := logAdd_frame s a; rw [h]
@[simp] theorem logAdd_flows (s : State) (a : LogArgs) : (logAdd s a).flows = s.flows := by obtain ⟨_,_,_, h⟩ := logAdd_frame s a; rw [h]
@[simp] theorem logAdd_apertures (s : State) (a : LogArgs) : (logAdd s a).apertures = s.apertures := by obtain ⟨_,_,_, h⟩ := logAdd_frame s a; rw [h]
@[simp] theorem logAdd_sextants (s : State) (a : LogArgs) : (logAdd s a).sextants = s.sextants := by obtain ⟨_,_,_, h⟩ := logAdd_frame s a; rw [h]
@[simp] theorem logAdd_adc (s : State) (a : LogArgs) : (logAdd s a).adc = s.adc := by obtain ⟨_,_,_, h⟩ := logAdd_frame s a; rw [h]
@[simp] theorem logAdd_dacs (s : State) (a : LogArgs) : (logAdd s a).dacs = s.dacs := by obtain ⟨_,_,_, h⟩ := logAdd_frame s a; rw [h]
@[simp] theorem logAdd_eye (s : State) (a : LogArgs) : (logAdd s a).eye = s.eye := by obtain ⟨_,_,_, h⟩ := logAdd_frame s a; rw [h]
@[simp] theorem logAdd_hbm (s : State) (a : LogArgs) : (logAdd s a).hbm = s.hbm := by obtain ⟨_,_,_, h⟩ := logAdd_frame s a; rw [h]
@[simp] theorem logAdd_sheds (s : State) (a : LogArgs) : (logAdd s a).sheds = s.sheds := by obtain ⟨_,_,_, h⟩ := logAdd_frame s a; rw [h]
@[simp] theorem logAdd_handoff (s : State) (a : LogArgs) : (logAdd s a).handoff = s.handoff := by obtain ⟨_,_,_, h⟩ := logAdd_frame s a; rw [h]
@[simp] theorem logAdd_made (s : State) (a : LogArgs) : (logAdd s a).made = s.made := by obtain ⟨_,_,_, h⟩ := logAdd_frame s a; rw [h]
@[simp] theorem logAdd_taken (s : State) (a : LogArgs) : (logAdd s a).taken = s.taken := by obtain ⟨_,_,_, h⟩ := logAdd_frame s a; rw [h]
@[simp] theorem logAdd_plan (s : State) (a : LogArgs) : (logAdd s a).plan = s.plan := by obtain ⟨_,_,_, h⟩ := logAdd_frame s a; rw [h]
@[simp] theorem logAdd_psets (s : State) (a : LogArgs) : (logAdd s a).psets = s.psets := by obtain ⟨_,_,_, h⟩ := logAdd_frame s a; rw [h]
@[simp] theorem logAdd_admits (s : State) (a : LogArgs) : (logAdd s a).admits = s.admits := by obtain ⟨_,_,_, h⟩ := logAdd_frame s a; rw [h]
@[simp] theorem logAdd_mbx (s : State) (a : LogArgs) : (logAdd s a).mbx = s.mbx := by obtain ⟨_,_,_, h⟩ := logAdd_frame s a; rw [h]
@[simp] theorem logAdd_domes (s : State) (a : LogArgs) : (logAdd s a).domes = s.domes := by obtain ⟨_,_,_, h⟩ := logAdd_frame s a; rw [h]
@[simp] theorem logAdd_inflight (s : State) (a : LogArgs) : (logAdd s a).inflight = s.inflight := by obtain ⟨_,_,_, h⟩ := logAdd_frame s a; rw [h]
@[simp] theorem logAdd_held (s : State) (a : LogArgs) : (logAdd s a).held = s.held := by obtain ⟨_,_,_, h⟩ := logAdd_frame s a; rw [h]
@[simp] theorem logAdd_resolving (s : State) (a : LogArgs) : (logAdd s a).resolving = s.resolving := by obtain ⟨_,_,_, h⟩ := logAdd_frame s a; rw [h]
@[simp] theorem logAdd_capReads (s : State) (a : LogArgs) : (logAdd s a).capReads = s.capReads := by obtain ⟨_,_,_, h⟩ := logAdd_frame s a; rw [h]
@[simp] theorem logAdd_hostPorts (s : State) (a : LogArgs) : (logAdd s a).hostPorts = s.hostPorts := by obtain ⟨_,_,_, h⟩ := logAdd_frame s a; rw [h]
@[simp] theorem logAdd_meter (s : State) (a : LogArgs) : (logAdd s a).meter = s.meter := by obtain ⟨_,_,_, h⟩ := logAdd_frame s a; rw [h]
@[simp] theorem logAdd_regs (s : State) (a : LogArgs) : (logAdd s a).regs = s.regs := by obtain ⟨_,_,_, h⟩ := logAdd_frame s a; rw [h]
@[simp] theorem logAdd_dma (s : State) (a : LogArgs) : (logAdd s a).dma = s.dma := by obtain ⟨_,_,_, h⟩ := logAdd_frame s a; rw [h]
@[simp] theorem logAdd_care (s : State) (a : LogArgs) : (logAdd s a).care = s.care := by obtain ⟨_,_,_, h⟩ := logAdd_frame s a; rw [h]
@[simp] theorem logAdd_boot (s : State) (a : LogArgs) : (logAdd s a).boot = s.boot := by obtain ⟨_,_,_, h⟩ := logAdd_frame s a; rw [h]
@[simp] theorem logAdd_dbg (s : State) (a : LogArgs) : (logAdd s a).dbg = s.dbg := by obtain ⟨_,_,_, h⟩ := logAdd_frame s a; rw [h]
@[simp] theorem logAdd_free (s : State) (a : LogArgs) : (logAdd s a).free = s.free := by obtain ⟨_,_,_, h⟩ := logAdd_frame s a; rw [h]
@[simp] theorem logAdd_pending (s : State) (a : LogArgs) : (logAdd s a).pending = s.pending := by obtain ⟨_,_,_, h⟩ := logAdd_frame s a; rw [h]

@[simp] theorem writeCq_dev (s : State) (f : Fn) (a b c d e g h : Nat) (l : List Byte) : (writeCq s f a b c d e g h l).dev = s.dev := by obtain ⟨_,_,_, h⟩ := writeCq_frame s f a b c d e g h l; rw [h]
@[simp] theorem writeCq_time (s : State) (f : Fn) (a b c d e g h : Nat) (l : List Byte) : (writeCq s f a b c d e g h l).time = s.time := by obtain ⟨_,_,_, h⟩ := writeCq_frame s f a b c d e g h l; rw [h]
@[simp] theorem writeCq_tdc (s : State) (f : Fn) (a b c d e g h : Nat) (l : List Byte) : (writeCq s f a b c d e g h l).tdc = s.tdc := by obtain ⟨_,_,_, h⟩ := writeCq_frame s f a b c d e g h l; rw [h]
@[simp] theorem writeCq_pairs (s : State) (f : Fn) (a b c d e g h : Nat) (l : List Byte) : (writeCq s f a b c d e g h l).pairs = s.pairs := by obtain ⟨_,_,_, h⟩ := writeCq_frame s f a b c d e g h l; rw [h]
@[simp] theorem writeCq_clk (s : State) (f : Fn) (a b c d e g h : Nat) (l : List Byte) : (writeCq s f a b c d e g h l).clk = s.clk := by obtain ⟨_,_,_, h⟩ := writeCq_frame s f a b c d e g h l; rw [h]
@[simp] theorem writeCq_ports (s : State) (f : Fn) (a b c d e g h : Nat) (l : List Byte) : (writeCq s f a b c d e g h l).ports = s.ports := by obtain ⟨_,_,_, h⟩ := writeCq_frame s f a b c d e g h l; rw [h]
@[simp] theorem writeCq_feeds (s : State) (f : Fn) (a b c d e g h : Nat) (l : List Byte) : (writeCq s f a b c d e g h l).feeds = s.feeds := by obtain ⟨_,_,_, h⟩ := writeCq_frame s f a b c d e g h l; rw [h]
@[simp] theorem writeCq_coarse (s : State) (f : Fn) (a b c d e g h : Nat) (l : List Byte) : (writeCq s f a b c d e g h l).coarse = s.coarse := by obtain ⟨_,_,_, h⟩ := writeCq_frame s f a b c d e g h l; rw [h]
@[simp] theorem writeCq_coefSets (s : State) (f : Fn) (a b c d e g h : Nat) (l : List Byte) : (writeCq s f a b c d e g h l).coefSets = s.coefSets := by obtain ⟨_,_,_, h⟩ := writeCq_frame s f a b c d e g h l; rw [h]
@[simp] theorem writeCq_zooms (s : State) (f : Fn) (a b c d e g h : Nat) (l : List Byte) : (writeCq s f a b c d e g h l).zooms = s.zooms := by obtain ⟨_,_,_, h⟩ := writeCq_frame s f a b c d e g h l; rw [h]
@[simp] theorem writeCq_sks (s : State) (f : Fn) (a b c d e g h : Nat) (l : List Byte) : (writeCq s f a b c d e g h l).sks = s.sks := by obtain ⟨_,_,_, h⟩ := writeCq_frame s f a b c d e g h l; rw [h]
@[simp] theorem writeCq_instrs (s : State) (f : Fn) (a b c d e g h : Nat) (l : List Byte) : (writeCq s f a b c d e g h l).instrs = s.instrs := by obtain ⟨_,_,_, h⟩ := writeCq_frame s f a b c d e g h l; rw [h]
@[simp] theorem writeCq_masks (s : State) (f : Fn) (a b c d e g h : Nat) (l : List Byte) : (writeCq s f a b c d e g h l).masks = s.masks := by obtain ⟨_,_,_, h⟩ := writeCq_frame s f a b c d e g h l; rw [h]
@[simp] theorem writeCq_plates (s : State) (f : Fn) (a b c d e g h : Nat) (l : List Byte) : (writeCq s f a b c d e g h l).plates = s.plates := by obtain ⟨_,_,_, h⟩ := writeCq_frame s f a b c d e g h l; rw [h]
@[simp] theorem writeCq_streams (s : State) (f : Fn) (a b c d e g h : Nat) (l : List Byte) : (writeCq s f a b c d e g h l).streams = s.streams := by obtain ⟨_,_,_, h⟩ := writeCq_frame s f a b c d e g h l; rw [h]
@[simp] theorem writeCq_flows (s : State) (f : Fn) (a b c d e g h : Nat) (l : List Byte) : (writeCq s f a b c d e g h l).flows = s.flows := by obtain ⟨_,_,_, h⟩ := writeCq_frame s f a b c d e g h l; rw [h]
@[simp] theorem writeCq_apertures (s : State) (f : Fn) (a b c d e g h : Nat) (l : List Byte) : (writeCq s f a b c d e g h l).apertures = s.apertures := by obtain ⟨_,_,_, h⟩ := writeCq_frame s f a b c d e g h l; rw [h]
@[simp] theorem writeCq_sextants (s : State) (f : Fn) (a b c d e g h : Nat) (l : List Byte) : (writeCq s f a b c d e g h l).sextants = s.sextants := by obtain ⟨_,_,_, h⟩ := writeCq_frame s f a b c d e g h l; rw [h]
@[simp] theorem writeCq_adc (s : State) (f : Fn) (a b c d e g h : Nat) (l : List Byte) : (writeCq s f a b c d e g h l).adc = s.adc := by obtain ⟨_,_,_, h⟩ := writeCq_frame s f a b c d e g h l; rw [h]
@[simp] theorem writeCq_dacs (s : State) (f : Fn) (a b c d e g h : Nat) (l : List Byte) : (writeCq s f a b c d e g h l).dacs = s.dacs := by obtain ⟨_,_,_, h⟩ := writeCq_frame s f a b c d e g h l; rw [h]
@[simp] theorem writeCq_eye (s : State) (f : Fn) (a b c d e g h : Nat) (l : List Byte) : (writeCq s f a b c d e g h l).eye = s.eye := by obtain ⟨_,_,_, h⟩ := writeCq_frame s f a b c d e g h l; rw [h]
@[simp] theorem writeCq_hbm (s : State) (f : Fn) (a b c d e g h : Nat) (l : List Byte) : (writeCq s f a b c d e g h l).hbm = s.hbm := by obtain ⟨_,_,_, h⟩ := writeCq_frame s f a b c d e g h l; rw [h]
@[simp] theorem writeCq_sheds (s : State) (f : Fn) (a b c d e g h : Nat) (l : List Byte) : (writeCq s f a b c d e g h l).sheds = s.sheds := by obtain ⟨_,_,_, h⟩ := writeCq_frame s f a b c d e g h l; rw [h]
@[simp] theorem writeCq_handoff (s : State) (f : Fn) (a b c d e g h : Nat) (l : List Byte) : (writeCq s f a b c d e g h l).handoff = s.handoff := by obtain ⟨_,_,_, h⟩ := writeCq_frame s f a b c d e g h l; rw [h]
@[simp] theorem writeCq_made (s : State) (f : Fn) (a b c d e g h : Nat) (l : List Byte) : (writeCq s f a b c d e g h l).made = s.made := by obtain ⟨_,_,_, h⟩ := writeCq_frame s f a b c d e g h l; rw [h]
@[simp] theorem writeCq_taken (s : State) (f : Fn) (a b c d e g h : Nat) (l : List Byte) : (writeCq s f a b c d e g h l).taken = s.taken := by obtain ⟨_,_,_, h⟩ := writeCq_frame s f a b c d e g h l; rw [h]
@[simp] theorem writeCq_plan (s : State) (f : Fn) (a b c d e g h : Nat) (l : List Byte) : (writeCq s f a b c d e g h l).plan = s.plan := by obtain ⟨_,_,_, h⟩ := writeCq_frame s f a b c d e g h l; rw [h]
@[simp] theorem writeCq_psets (s : State) (f : Fn) (a b c d e g h : Nat) (l : List Byte) : (writeCq s f a b c d e g h l).psets = s.psets := by obtain ⟨_,_,_, h⟩ := writeCq_frame s f a b c d e g h l; rw [h]
@[simp] theorem writeCq_admits (s : State) (f : Fn) (a b c d e g h : Nat) (l : List Byte) : (writeCq s f a b c d e g h l).admits = s.admits := by obtain ⟨_,_,_, h⟩ := writeCq_frame s f a b c d e g h l; rw [h]
@[simp] theorem writeCq_domes (s : State) (f : Fn) (a b c d e g h : Nat) (l : List Byte) : (writeCq s f a b c d e g h l).domes = s.domes := by obtain ⟨_,_,_, h⟩ := writeCq_frame s f a b c d e g h l; rw [h]
@[simp] theorem writeCq_inflight (s : State) (f : Fn) (a b c d e g h : Nat) (l : List Byte) : (writeCq s f a b c d e g h l).inflight = s.inflight := by obtain ⟨_,_,_, h⟩ := writeCq_frame s f a b c d e g h l; rw [h]
@[simp] theorem writeCq_held (s : State) (f : Fn) (a b c d e g h : Nat) (l : List Byte) : (writeCq s f a b c d e g h l).held = s.held := by obtain ⟨_,_,_, h⟩ := writeCq_frame s f a b c d e g h l; rw [h]
@[simp] theorem writeCq_resolving (s : State) (f : Fn) (a b c d e g h : Nat) (l : List Byte) : (writeCq s f a b c d e g h l).resolving = s.resolving := by obtain ⟨_,_,_, h⟩ := writeCq_frame s f a b c d e g h l; rw [h]
@[simp] theorem writeCq_capReads (s : State) (f : Fn) (a b c d e g h : Nat) (l : List Byte) : (writeCq s f a b c d e g h l).capReads = s.capReads := by obtain ⟨_,_,_, h⟩ := writeCq_frame s f a b c d e g h l; rw [h]
@[simp] theorem writeCq_hostPorts (s : State) (f : Fn) (a b c d e g h : Nat) (l : List Byte) : (writeCq s f a b c d e g h l).hostPorts = s.hostPorts := by obtain ⟨_,_,_, h⟩ := writeCq_frame s f a b c d e g h l; rw [h]
@[simp] theorem writeCq_log (s : State) (f : Fn) (a b c d e g h : Nat) (l : List Byte) : (writeCq s f a b c d e g h l).log = s.log := by obtain ⟨_,_,_, h⟩ := writeCq_frame s f a b c d e g h l; rw [h]
@[simp] theorem writeCq_meter (s : State) (f : Fn) (a b c d e g h : Nat) (l : List Byte) : (writeCq s f a b c d e g h l).meter = s.meter := by obtain ⟨_,_,_, h⟩ := writeCq_frame s f a b c d e g h l; rw [h]
@[simp] theorem writeCq_regs (s : State) (f : Fn) (a b c d e g h : Nat) (l : List Byte) : (writeCq s f a b c d e g h l).regs = s.regs := by obtain ⟨_,_,_, h⟩ := writeCq_frame s f a b c d e g h l; rw [h]
@[simp] theorem writeCq_dma (s : State) (f : Fn) (a b c d e g h : Nat) (l : List Byte) : (writeCq s f a b c d e g h l).dma = s.dma := by obtain ⟨_,_,_, h⟩ := writeCq_frame s f a b c d e g h l; rw [h]
@[simp] theorem writeCq_care (s : State) (f : Fn) (a b c d e g h : Nat) (l : List Byte) : (writeCq s f a b c d e g h l).care = s.care := by obtain ⟨_,_,_, h⟩ := writeCq_frame s f a b c d e g h l; rw [h]
@[simp] theorem writeCq_boot (s : State) (f : Fn) (a b c d e g h : Nat) (l : List Byte) : (writeCq s f a b c d e g h l).boot = s.boot := by obtain ⟨_,_,_, h⟩ := writeCq_frame s f a b c d e g h l; rw [h]
@[simp] theorem writeCq_dbg (s : State) (f : Fn) (a b c d e g h : Nat) (l : List Byte) : (writeCq s f a b c d e g h l).dbg = s.dbg := by obtain ⟨_,_,_, h⟩ := writeCq_frame s f a b c d e g h l; rw [h]
@[simp] theorem writeCq_free (s : State) (f : Fn) (a b c d e g h : Nat) (l : List Byte) : (writeCq s f a b c d e g h l).free = s.free := by obtain ⟨_,_,_, h⟩ := writeCq_frame s f a b c d e g h l; rw [h]
@[simp] theorem writeCq_pending (s : State) (f : Fn) (a b c d e g h : Nat) (l : List Byte) : (writeCq s f a b c d e g h l).pending = s.pending := by obtain ⟨_,_,_, h⟩ := writeCq_frame s f a b c d e g h l; rw [h]

@[simp] theorem writeNotice_dev (s : State) (f : Fn) (a b c d : Nat) : (writeNotice s f a b c d).dev = s.dev := by obtain ⟨_,_,_, h⟩ := writeNotice_frame s f a b c d; rw [h]
@[simp] theorem writeNotice_time (s : State) (f : Fn) (a b c d : Nat) : (writeNotice s f a b c d).time = s.time := by obtain ⟨_,_,_, h⟩ := writeNotice_frame s f a b c d; rw [h]
@[simp] theorem writeNotice_tdc (s : State) (f : Fn) (a b c d : Nat) : (writeNotice s f a b c d).tdc = s.tdc := by obtain ⟨_,_,_, h⟩ := writeNotice_frame s f a b c d; rw [h]
@[simp] theorem writeNotice_pairs (s : State) (f : Fn) (a b c d : Nat) : (writeNotice s f a b c d).pairs = s.pairs := by obtain ⟨_,_,_, h⟩ := writeNotice_frame s f a b c d; rw [h]
@[simp] theorem writeNotice_clk (s : State) (f : Fn) (a b c d : Nat) : (writeNotice s f a b c d).clk = s.clk := by obtain ⟨_,_,_, h⟩ := writeNotice_frame s f a b c d; rw [h]
@[simp] theorem writeNotice_ports (s : State) (f : Fn) (a b c d : Nat) : (writeNotice s f a b c d).ports = s.ports := by obtain ⟨_,_,_, h⟩ := writeNotice_frame s f a b c d; rw [h]
@[simp] theorem writeNotice_feeds (s : State) (f : Fn) (a b c d : Nat) : (writeNotice s f a b c d).feeds = s.feeds := by obtain ⟨_,_,_, h⟩ := writeNotice_frame s f a b c d; rw [h]
@[simp] theorem writeNotice_coarse (s : State) (f : Fn) (a b c d : Nat) : (writeNotice s f a b c d).coarse = s.coarse := by obtain ⟨_,_,_, h⟩ := writeNotice_frame s f a b c d; rw [h]
@[simp] theorem writeNotice_coefSets (s : State) (f : Fn) (a b c d : Nat) : (writeNotice s f a b c d).coefSets = s.coefSets := by obtain ⟨_,_,_, h⟩ := writeNotice_frame s f a b c d; rw [h]
@[simp] theorem writeNotice_zooms (s : State) (f : Fn) (a b c d : Nat) : (writeNotice s f a b c d).zooms = s.zooms := by obtain ⟨_,_,_, h⟩ := writeNotice_frame s f a b c d; rw [h]
@[simp] theorem writeNotice_sks (s : State) (f : Fn) (a b c d : Nat) : (writeNotice s f a b c d).sks = s.sks := by obtain ⟨_,_,_, h⟩ := writeNotice_frame s f a b c d; rw [h]
@[simp] theorem writeNotice_instrs (s : State) (f : Fn) (a b c d : Nat) : (writeNotice s f a b c d).instrs = s.instrs := by obtain ⟨_,_,_, h⟩ := writeNotice_frame s f a b c d; rw [h]
@[simp] theorem writeNotice_masks (s : State) (f : Fn) (a b c d : Nat) : (writeNotice s f a b c d).masks = s.masks := by obtain ⟨_,_,_, h⟩ := writeNotice_frame s f a b c d; rw [h]
@[simp] theorem writeNotice_plates (s : State) (f : Fn) (a b c d : Nat) : (writeNotice s f a b c d).plates = s.plates := by obtain ⟨_,_,_, h⟩ := writeNotice_frame s f a b c d; rw [h]
@[simp] theorem writeNotice_streams (s : State) (f : Fn) (a b c d : Nat) : (writeNotice s f a b c d).streams = s.streams := by obtain ⟨_,_,_, h⟩ := writeNotice_frame s f a b c d; rw [h]
@[simp] theorem writeNotice_flows (s : State) (f : Fn) (a b c d : Nat) : (writeNotice s f a b c d).flows = s.flows := by obtain ⟨_,_,_, h⟩ := writeNotice_frame s f a b c d; rw [h]
@[simp] theorem writeNotice_apertures (s : State) (f : Fn) (a b c d : Nat) : (writeNotice s f a b c d).apertures = s.apertures := by obtain ⟨_,_,_, h⟩ := writeNotice_frame s f a b c d; rw [h]
@[simp] theorem writeNotice_sextants (s : State) (f : Fn) (a b c d : Nat) : (writeNotice s f a b c d).sextants = s.sextants := by obtain ⟨_,_,_, h⟩ := writeNotice_frame s f a b c d; rw [h]
@[simp] theorem writeNotice_adc (s : State) (f : Fn) (a b c d : Nat) : (writeNotice s f a b c d).adc = s.adc := by obtain ⟨_,_,_, h⟩ := writeNotice_frame s f a b c d; rw [h]
@[simp] theorem writeNotice_dacs (s : State) (f : Fn) (a b c d : Nat) : (writeNotice s f a b c d).dacs = s.dacs := by obtain ⟨_,_,_, h⟩ := writeNotice_frame s f a b c d; rw [h]
@[simp] theorem writeNotice_eye (s : State) (f : Fn) (a b c d : Nat) : (writeNotice s f a b c d).eye = s.eye := by obtain ⟨_,_,_, h⟩ := writeNotice_frame s f a b c d; rw [h]
@[simp] theorem writeNotice_hbm (s : State) (f : Fn) (a b c d : Nat) : (writeNotice s f a b c d).hbm = s.hbm := by obtain ⟨_,_,_, h⟩ := writeNotice_frame s f a b c d; rw [h]
@[simp] theorem writeNotice_sheds (s : State) (f : Fn) (a b c d : Nat) : (writeNotice s f a b c d).sheds = s.sheds := by obtain ⟨_,_,_, h⟩ := writeNotice_frame s f a b c d; rw [h]
@[simp] theorem writeNotice_handoff (s : State) (f : Fn) (a b c d : Nat) : (writeNotice s f a b c d).handoff = s.handoff := by obtain ⟨_,_,_, h⟩ := writeNotice_frame s f a b c d; rw [h]
@[simp] theorem writeNotice_made (s : State) (f : Fn) (a b c d : Nat) : (writeNotice s f a b c d).made = s.made := by obtain ⟨_,_,_, h⟩ := writeNotice_frame s f a b c d; rw [h]
@[simp] theorem writeNotice_taken (s : State) (f : Fn) (a b c d : Nat) : (writeNotice s f a b c d).taken = s.taken := by obtain ⟨_,_,_, h⟩ := writeNotice_frame s f a b c d; rw [h]
@[simp] theorem writeNotice_plan (s : State) (f : Fn) (a b c d : Nat) : (writeNotice s f a b c d).plan = s.plan := by obtain ⟨_,_,_, h⟩ := writeNotice_frame s f a b c d; rw [h]
@[simp] theorem writeNotice_psets (s : State) (f : Fn) (a b c d : Nat) : (writeNotice s f a b c d).psets = s.psets := by obtain ⟨_,_,_, h⟩ := writeNotice_frame s f a b c d; rw [h]
@[simp] theorem writeNotice_admits (s : State) (f : Fn) (a b c d : Nat) : (writeNotice s f a b c d).admits = s.admits := by obtain ⟨_,_,_, h⟩ := writeNotice_frame s f a b c d; rw [h]
@[simp] theorem writeNotice_domes (s : State) (f : Fn) (a b c d : Nat) : (writeNotice s f a b c d).domes = s.domes := by obtain ⟨_,_,_, h⟩ := writeNotice_frame s f a b c d; rw [h]
@[simp] theorem writeNotice_inflight (s : State) (f : Fn) (a b c d : Nat) : (writeNotice s f a b c d).inflight = s.inflight := by obtain ⟨_,_,_, h⟩ := writeNotice_frame s f a b c d; rw [h]
@[simp] theorem writeNotice_held (s : State) (f : Fn) (a b c d : Nat) : (writeNotice s f a b c d).held = s.held := by obtain ⟨_,_,_, h⟩ := writeNotice_frame s f a b c d; rw [h]
@[simp] theorem writeNotice_resolving (s : State) (f : Fn) (a b c d : Nat) : (writeNotice s f a b c d).resolving = s.resolving := by obtain ⟨_,_,_, h⟩ := writeNotice_frame s f a b c d; rw [h]
@[simp] theorem writeNotice_capReads (s : State) (f : Fn) (a b c d : Nat) : (writeNotice s f a b c d).capReads = s.capReads := by obtain ⟨_,_,_, h⟩ := writeNotice_frame s f a b c d; rw [h]
@[simp] theorem writeNotice_hostPorts (s : State) (f : Fn) (a b c d : Nat) : (writeNotice s f a b c d).hostPorts = s.hostPorts := by obtain ⟨_,_,_, h⟩ := writeNotice_frame s f a b c d; rw [h]
@[simp] theorem writeNotice_log (s : State) (f : Fn) (a b c d : Nat) : (writeNotice s f a b c d).log = s.log := by obtain ⟨_,_,_, h⟩ := writeNotice_frame s f a b c d; rw [h]
@[simp] theorem writeNotice_meter (s : State) (f : Fn) (a b c d : Nat) : (writeNotice s f a b c d).meter = s.meter := by obtain ⟨_,_,_, h⟩ := writeNotice_frame s f a b c d; rw [h]
@[simp] theorem writeNotice_regs (s : State) (f : Fn) (a b c d : Nat) : (writeNotice s f a b c d).regs = s.regs := by obtain ⟨_,_,_, h⟩ := writeNotice_frame s f a b c d; rw [h]
@[simp] theorem writeNotice_dma (s : State) (f : Fn) (a b c d : Nat) : (writeNotice s f a b c d).dma = s.dma := by obtain ⟨_,_,_, h⟩ := writeNotice_frame s f a b c d; rw [h]
@[simp] theorem writeNotice_care (s : State) (f : Fn) (a b c d : Nat) : (writeNotice s f a b c d).care = s.care := by obtain ⟨_,_,_, h⟩ := writeNotice_frame s f a b c d; rw [h]
@[simp] theorem writeNotice_boot (s : State) (f : Fn) (a b c d : Nat) : (writeNotice s f a b c d).boot = s.boot := by obtain ⟨_,_,_, h⟩ := writeNotice_frame s f a b c d; rw [h]
@[simp] theorem writeNotice_dbg (s : State) (f : Fn) (a b c d : Nat) : (writeNotice s f a b c d).dbg = s.dbg := by obtain ⟨_,_,_, h⟩ := writeNotice_frame s f a b c d; rw [h]
@[simp] theorem writeNotice_free (s : State) (f : Fn) (a b c d : Nat) : (writeNotice s f a b c d).free = s.free := by obtain ⟨_,_,_, h⟩ := writeNotice_frame s f a b c d; rw [h]
@[simp] theorem writeNotice_pending (s : State) (f : Fn) (a b c d : Nat) : (writeNotice s f a b c d).pending = s.pending := by obtain ⟨_,_,_, h⟩ := writeNotice_frame s f a b c d; rw [h]

@[simp] theorem noticeDome_dev (s : State) (d a b c e : Nat) : (noticeDome s d a b c e).dev = s.dev := by obtain ⟨_,_,_, h⟩ := noticeDome_frame s d a b c e; rw [h]
@[simp] theorem noticeDome_time (s : State) (d a b c e : Nat) : (noticeDome s d a b c e).time = s.time := by obtain ⟨_,_,_, h⟩ := noticeDome_frame s d a b c e; rw [h]
@[simp] theorem noticeDome_tdc (s : State) (d a b c e : Nat) : (noticeDome s d a b c e).tdc = s.tdc := by obtain ⟨_,_,_, h⟩ := noticeDome_frame s d a b c e; rw [h]
@[simp] theorem noticeDome_pairs (s : State) (d a b c e : Nat) : (noticeDome s d a b c e).pairs = s.pairs := by obtain ⟨_,_,_, h⟩ := noticeDome_frame s d a b c e; rw [h]
@[simp] theorem noticeDome_clk (s : State) (d a b c e : Nat) : (noticeDome s d a b c e).clk = s.clk := by obtain ⟨_,_,_, h⟩ := noticeDome_frame s d a b c e; rw [h]
@[simp] theorem noticeDome_ports (s : State) (d a b c e : Nat) : (noticeDome s d a b c e).ports = s.ports := by obtain ⟨_,_,_, h⟩ := noticeDome_frame s d a b c e; rw [h]
@[simp] theorem noticeDome_feeds (s : State) (d a b c e : Nat) : (noticeDome s d a b c e).feeds = s.feeds := by obtain ⟨_,_,_, h⟩ := noticeDome_frame s d a b c e; rw [h]
@[simp] theorem noticeDome_coarse (s : State) (d a b c e : Nat) : (noticeDome s d a b c e).coarse = s.coarse := by obtain ⟨_,_,_, h⟩ := noticeDome_frame s d a b c e; rw [h]
@[simp] theorem noticeDome_coefSets (s : State) (d a b c e : Nat) : (noticeDome s d a b c e).coefSets = s.coefSets := by obtain ⟨_,_,_, h⟩ := noticeDome_frame s d a b c e; rw [h]
@[simp] theorem noticeDome_zooms (s : State) (d a b c e : Nat) : (noticeDome s d a b c e).zooms = s.zooms := by obtain ⟨_,_,_, h⟩ := noticeDome_frame s d a b c e; rw [h]
@[simp] theorem noticeDome_sks (s : State) (d a b c e : Nat) : (noticeDome s d a b c e).sks = s.sks := by obtain ⟨_,_,_, h⟩ := noticeDome_frame s d a b c e; rw [h]
@[simp] theorem noticeDome_instrs (s : State) (d a b c e : Nat) : (noticeDome s d a b c e).instrs = s.instrs := by obtain ⟨_,_,_, h⟩ := noticeDome_frame s d a b c e; rw [h]
@[simp] theorem noticeDome_masks (s : State) (d a b c e : Nat) : (noticeDome s d a b c e).masks = s.masks := by obtain ⟨_,_,_, h⟩ := noticeDome_frame s d a b c e; rw [h]
@[simp] theorem noticeDome_plates (s : State) (d a b c e : Nat) : (noticeDome s d a b c e).plates = s.plates := by obtain ⟨_,_,_, h⟩ := noticeDome_frame s d a b c e; rw [h]
@[simp] theorem noticeDome_streams (s : State) (d a b c e : Nat) : (noticeDome s d a b c e).streams = s.streams := by obtain ⟨_,_,_, h⟩ := noticeDome_frame s d a b c e; rw [h]
@[simp] theorem noticeDome_flows (s : State) (d a b c e : Nat) : (noticeDome s d a b c e).flows = s.flows := by obtain ⟨_,_,_, h⟩ := noticeDome_frame s d a b c e; rw [h]
@[simp] theorem noticeDome_apertures (s : State) (d a b c e : Nat) : (noticeDome s d a b c e).apertures = s.apertures := by obtain ⟨_,_,_, h⟩ := noticeDome_frame s d a b c e; rw [h]
@[simp] theorem noticeDome_sextants (s : State) (d a b c e : Nat) : (noticeDome s d a b c e).sextants = s.sextants := by obtain ⟨_,_,_, h⟩ := noticeDome_frame s d a b c e; rw [h]
@[simp] theorem noticeDome_adc (s : State) (d a b c e : Nat) : (noticeDome s d a b c e).adc = s.adc := by obtain ⟨_,_,_, h⟩ := noticeDome_frame s d a b c e; rw [h]
@[simp] theorem noticeDome_dacs (s : State) (d a b c e : Nat) : (noticeDome s d a b c e).dacs = s.dacs := by obtain ⟨_,_,_, h⟩ := noticeDome_frame s d a b c e; rw [h]
@[simp] theorem noticeDome_eye (s : State) (d a b c e : Nat) : (noticeDome s d a b c e).eye = s.eye := by obtain ⟨_,_,_, h⟩ := noticeDome_frame s d a b c e; rw [h]
@[simp] theorem noticeDome_hbm (s : State) (d a b c e : Nat) : (noticeDome s d a b c e).hbm = s.hbm := by obtain ⟨_,_,_, h⟩ := noticeDome_frame s d a b c e; rw [h]
@[simp] theorem noticeDome_sheds (s : State) (d a b c e : Nat) : (noticeDome s d a b c e).sheds = s.sheds := by obtain ⟨_,_,_, h⟩ := noticeDome_frame s d a b c e; rw [h]
@[simp] theorem noticeDome_handoff (s : State) (d a b c e : Nat) : (noticeDome s d a b c e).handoff = s.handoff := by obtain ⟨_,_,_, h⟩ := noticeDome_frame s d a b c e; rw [h]
@[simp] theorem noticeDome_made (s : State) (d a b c e : Nat) : (noticeDome s d a b c e).made = s.made := by obtain ⟨_,_,_, h⟩ := noticeDome_frame s d a b c e; rw [h]
@[simp] theorem noticeDome_taken (s : State) (d a b c e : Nat) : (noticeDome s d a b c e).taken = s.taken := by obtain ⟨_,_,_, h⟩ := noticeDome_frame s d a b c e; rw [h]
@[simp] theorem noticeDome_plan (s : State) (d a b c e : Nat) : (noticeDome s d a b c e).plan = s.plan := by obtain ⟨_,_,_, h⟩ := noticeDome_frame s d a b c e; rw [h]
@[simp] theorem noticeDome_psets (s : State) (d a b c e : Nat) : (noticeDome s d a b c e).psets = s.psets := by obtain ⟨_,_,_, h⟩ := noticeDome_frame s d a b c e; rw [h]
@[simp] theorem noticeDome_admits (s : State) (d a b c e : Nat) : (noticeDome s d a b c e).admits = s.admits := by obtain ⟨_,_,_, h⟩ := noticeDome_frame s d a b c e; rw [h]
@[simp] theorem noticeDome_domes (s : State) (d a b c e : Nat) : (noticeDome s d a b c e).domes = s.domes := by obtain ⟨_,_,_, h⟩ := noticeDome_frame s d a b c e; rw [h]
@[simp] theorem noticeDome_inflight (s : State) (d a b c e : Nat) : (noticeDome s d a b c e).inflight = s.inflight := by obtain ⟨_,_,_, h⟩ := noticeDome_frame s d a b c e; rw [h]
@[simp] theorem noticeDome_held (s : State) (d a b c e : Nat) : (noticeDome s d a b c e).held = s.held := by obtain ⟨_,_,_, h⟩ := noticeDome_frame s d a b c e; rw [h]
@[simp] theorem noticeDome_resolving (s : State) (d a b c e : Nat) : (noticeDome s d a b c e).resolving = s.resolving := by obtain ⟨_,_,_, h⟩ := noticeDome_frame s d a b c e; rw [h]
@[simp] theorem noticeDome_capReads (s : State) (d a b c e : Nat) : (noticeDome s d a b c e).capReads = s.capReads := by obtain ⟨_,_,_, h⟩ := noticeDome_frame s d a b c e; rw [h]
@[simp] theorem noticeDome_hostPorts (s : State) (d a b c e : Nat) : (noticeDome s d a b c e).hostPorts = s.hostPorts := by obtain ⟨_,_,_, h⟩ := noticeDome_frame s d a b c e; rw [h]
@[simp] theorem noticeDome_log (s : State) (d a b c e : Nat) : (noticeDome s d a b c e).log = s.log := by obtain ⟨_,_,_, h⟩ := noticeDome_frame s d a b c e; rw [h]
@[simp] theorem noticeDome_meter (s : State) (d a b c e : Nat) : (noticeDome s d a b c e).meter = s.meter := by obtain ⟨_,_,_, h⟩ := noticeDome_frame s d a b c e; rw [h]
@[simp] theorem noticeDome_regs (s : State) (d a b c e : Nat) : (noticeDome s d a b c e).regs = s.regs := by obtain ⟨_,_,_, h⟩ := noticeDome_frame s d a b c e; rw [h]
@[simp] theorem noticeDome_dma (s : State) (d a b c e : Nat) : (noticeDome s d a b c e).dma = s.dma := by obtain ⟨_,_,_, h⟩ := noticeDome_frame s d a b c e; rw [h]
@[simp] theorem noticeDome_care (s : State) (d a b c e : Nat) : (noticeDome s d a b c e).care = s.care := by obtain ⟨_,_,_, h⟩ := noticeDome_frame s d a b c e; rw [h]
@[simp] theorem noticeDome_boot (s : State) (d a b c e : Nat) : (noticeDome s d a b c e).boot = s.boot := by obtain ⟨_,_,_, h⟩ := noticeDome_frame s d a b c e; rw [h]
@[simp] theorem noticeDome_dbg (s : State) (d a b c e : Nat) : (noticeDome s d a b c e).dbg = s.dbg := by obtain ⟨_,_,_, h⟩ := noticeDome_frame s d a b c e; rw [h]
@[simp] theorem noticeDome_free (s : State) (d a b c e : Nat) : (noticeDome s d a b c e).free = s.free := by obtain ⟨_,_,_, h⟩ := noticeDome_frame s d a b c e; rw [h]
@[simp] theorem noticeDome_pending (s : State) (d a b c e : Nat) : (noticeDome s d a b c e).pending = s.pending := by obtain ⟨_,_,_, h⟩ := noticeDome_frame s d a b c e; rw [h]

@[simp] theorem noticeOwner_dev (s : State) (a b c d e : Nat) : (noticeOwner s a b c d e).dev = s.dev := by obtain ⟨_, h⟩ := noticeOwner_frame s a b c d e; rw [h]
@[simp] theorem noticeOwner_time (s : State) (a b c d e : Nat) : (noticeOwner s a b c d e).time = s.time := by obtain ⟨_, h⟩ := noticeOwner_frame s a b c d e; rw [h]
@[simp] theorem noticeOwner_tdc (s : State) (a b c d e : Nat) : (noticeOwner s a b c d e).tdc = s.tdc := by obtain ⟨_, h⟩ := noticeOwner_frame s a b c d e; rw [h]
@[simp] theorem noticeOwner_pairs (s : State) (a b c d e : Nat) : (noticeOwner s a b c d e).pairs = s.pairs := by obtain ⟨_, h⟩ := noticeOwner_frame s a b c d e; rw [h]
@[simp] theorem noticeOwner_clk (s : State) (a b c d e : Nat) : (noticeOwner s a b c d e).clk = s.clk := by obtain ⟨_, h⟩ := noticeOwner_frame s a b c d e; rw [h]
@[simp] theorem noticeOwner_ports (s : State) (a b c d e : Nat) : (noticeOwner s a b c d e).ports = s.ports := by obtain ⟨_, h⟩ := noticeOwner_frame s a b c d e; rw [h]
@[simp] theorem noticeOwner_feeds (s : State) (a b c d e : Nat) : (noticeOwner s a b c d e).feeds = s.feeds := by obtain ⟨_, h⟩ := noticeOwner_frame s a b c d e; rw [h]
@[simp] theorem noticeOwner_coarse (s : State) (a b c d e : Nat) : (noticeOwner s a b c d e).coarse = s.coarse := by obtain ⟨_, h⟩ := noticeOwner_frame s a b c d e; rw [h]
@[simp] theorem noticeOwner_coefSets (s : State) (a b c d e : Nat) : (noticeOwner s a b c d e).coefSets = s.coefSets := by obtain ⟨_, h⟩ := noticeOwner_frame s a b c d e; rw [h]
@[simp] theorem noticeOwner_zooms (s : State) (a b c d e : Nat) : (noticeOwner s a b c d e).zooms = s.zooms := by obtain ⟨_, h⟩ := noticeOwner_frame s a b c d e; rw [h]
@[simp] theorem noticeOwner_sks (s : State) (a b c d e : Nat) : (noticeOwner s a b c d e).sks = s.sks := by obtain ⟨_, h⟩ := noticeOwner_frame s a b c d e; rw [h]
@[simp] theorem noticeOwner_instrs (s : State) (a b c d e : Nat) : (noticeOwner s a b c d e).instrs = s.instrs := by obtain ⟨_, h⟩ := noticeOwner_frame s a b c d e; rw [h]
@[simp] theorem noticeOwner_masks (s : State) (a b c d e : Nat) : (noticeOwner s a b c d e).masks = s.masks := by obtain ⟨_, h⟩ := noticeOwner_frame s a b c d e; rw [h]
@[simp] theorem noticeOwner_plates (s : State) (a b c d e : Nat) : (noticeOwner s a b c d e).plates = s.plates := by obtain ⟨_, h⟩ := noticeOwner_frame s a b c d e; rw [h]
@[simp] theorem noticeOwner_streams (s : State) (a b c d e : Nat) : (noticeOwner s a b c d e).streams = s.streams := by obtain ⟨_, h⟩ := noticeOwner_frame s a b c d e; rw [h]
@[simp] theorem noticeOwner_flows (s : State) (a b c d e : Nat) : (noticeOwner s a b c d e).flows = s.flows := by obtain ⟨_, h⟩ := noticeOwner_frame s a b c d e; rw [h]
@[simp] theorem noticeOwner_apertures (s : State) (a b c d e : Nat) : (noticeOwner s a b c d e).apertures = s.apertures := by obtain ⟨_, h⟩ := noticeOwner_frame s a b c d e; rw [h]
@[simp] theorem noticeOwner_sextants (s : State) (a b c d e : Nat) : (noticeOwner s a b c d e).sextants = s.sextants := by obtain ⟨_, h⟩ := noticeOwner_frame s a b c d e; rw [h]
@[simp] theorem noticeOwner_adc (s : State) (a b c d e : Nat) : (noticeOwner s a b c d e).adc = s.adc := by obtain ⟨_, h⟩ := noticeOwner_frame s a b c d e; rw [h]
@[simp] theorem noticeOwner_dacs (s : State) (a b c d e : Nat) : (noticeOwner s a b c d e).dacs = s.dacs := by obtain ⟨_, h⟩ := noticeOwner_frame s a b c d e; rw [h]
@[simp] theorem noticeOwner_eye (s : State) (a b c d e : Nat) : (noticeOwner s a b c d e).eye = s.eye := by obtain ⟨_, h⟩ := noticeOwner_frame s a b c d e; rw [h]
@[simp] theorem noticeOwner_hbm (s : State) (a b c d e : Nat) : (noticeOwner s a b c d e).hbm = s.hbm := by obtain ⟨_, h⟩ := noticeOwner_frame s a b c d e; rw [h]
@[simp] theorem noticeOwner_sheds (s : State) (a b c d e : Nat) : (noticeOwner s a b c d e).sheds = s.sheds := by obtain ⟨_, h⟩ := noticeOwner_frame s a b c d e; rw [h]
@[simp] theorem noticeOwner_handoff (s : State) (a b c d e : Nat) : (noticeOwner s a b c d e).handoff = s.handoff := by obtain ⟨_, h⟩ := noticeOwner_frame s a b c d e; rw [h]
@[simp] theorem noticeOwner_made (s : State) (a b c d e : Nat) : (noticeOwner s a b c d e).made = s.made := by obtain ⟨_, h⟩ := noticeOwner_frame s a b c d e; rw [h]
@[simp] theorem noticeOwner_taken (s : State) (a b c d e : Nat) : (noticeOwner s a b c d e).taken = s.taken := by obtain ⟨_, h⟩ := noticeOwner_frame s a b c d e; rw [h]
@[simp] theorem noticeOwner_plan (s : State) (a b c d e : Nat) : (noticeOwner s a b c d e).plan = s.plan := by obtain ⟨_, h⟩ := noticeOwner_frame s a b c d e; rw [h]
@[simp] theorem noticeOwner_psets (s : State) (a b c d e : Nat) : (noticeOwner s a b c d e).psets = s.psets := by obtain ⟨_, h⟩ := noticeOwner_frame s a b c d e; rw [h]
@[simp] theorem noticeOwner_admits (s : State) (a b c d e : Nat) : (noticeOwner s a b c d e).admits = s.admits := by obtain ⟨_, h⟩ := noticeOwner_frame s a b c d e; rw [h]
@[simp] theorem noticeOwner_mbx (s : State) (a b c d e : Nat) : (noticeOwner s a b c d e).mbx = s.mbx := by obtain ⟨_, h⟩ := noticeOwner_frame s a b c d e; rw [h]
@[simp] theorem noticeOwner_domes (s : State) (a b c d e : Nat) : (noticeOwner s a b c d e).domes = s.domes := by obtain ⟨_, h⟩ := noticeOwner_frame s a b c d e; rw [h]
@[simp] theorem noticeOwner_inflight (s : State) (a b c d e : Nat) : (noticeOwner s a b c d e).inflight = s.inflight := by obtain ⟨_, h⟩ := noticeOwner_frame s a b c d e; rw [h]
@[simp] theorem noticeOwner_held (s : State) (a b c d e : Nat) : (noticeOwner s a b c d e).held = s.held := by obtain ⟨_, h⟩ := noticeOwner_frame s a b c d e; rw [h]
@[simp] theorem noticeOwner_resolving (s : State) (a b c d e : Nat) : (noticeOwner s a b c d e).resolving = s.resolving := by obtain ⟨_, h⟩ := noticeOwner_frame s a b c d e; rw [h]
@[simp] theorem noticeOwner_capReads (s : State) (a b c d e : Nat) : (noticeOwner s a b c d e).capReads = s.capReads := by obtain ⟨_, h⟩ := noticeOwner_frame s a b c d e; rw [h]
@[simp] theorem noticeOwner_hostPorts (s : State) (a b c d e : Nat) : (noticeOwner s a b c d e).hostPorts = s.hostPorts := by obtain ⟨_, h⟩ := noticeOwner_frame s a b c d e; rw [h]
@[simp] theorem noticeOwner_log (s : State) (a b c d e : Nat) : (noticeOwner s a b c d e).log = s.log := by obtain ⟨_, h⟩ := noticeOwner_frame s a b c d e; rw [h]
@[simp] theorem noticeOwner_meter (s : State) (a b c d e : Nat) : (noticeOwner s a b c d e).meter = s.meter := by obtain ⟨_, h⟩ := noticeOwner_frame s a b c d e; rw [h]
@[simp] theorem noticeOwner_regs (s : State) (a b c d e : Nat) : (noticeOwner s a b c d e).regs = s.regs := by obtain ⟨_, h⟩ := noticeOwner_frame s a b c d e; rw [h]
@[simp] theorem noticeOwner_dma (s : State) (a b c d e : Nat) : (noticeOwner s a b c d e).dma = s.dma := by obtain ⟨_, h⟩ := noticeOwner_frame s a b c d e; rw [h]
@[simp] theorem noticeOwner_out (s : State) (a b c d e : Nat) : (noticeOwner s a b c d e).out = s.out := by obtain ⟨_, h⟩ := noticeOwner_frame s a b c d e; rw [h]
@[simp] theorem noticeOwner_care (s : State) (a b c d e : Nat) : (noticeOwner s a b c d e).care = s.care := by obtain ⟨_, h⟩ := noticeOwner_frame s a b c d e; rw [h]
@[simp] theorem noticeOwner_boot (s : State) (a b c d e : Nat) : (noticeOwner s a b c d e).boot = s.boot := by obtain ⟨_, h⟩ := noticeOwner_frame s a b c d e; rw [h]
@[simp] theorem noticeOwner_dbg (s : State) (a b c d e : Nat) : (noticeOwner s a b c d e).dbg = s.dbg := by obtain ⟨_, h⟩ := noticeOwner_frame s a b c d e; rw [h]
@[simp] theorem noticeOwner_free (s : State) (a b c d e : Nat) : (noticeOwner s a b c d e).free = s.free := by obtain ⟨_, h⟩ := noticeOwner_frame s a b c d e; rw [h]
@[simp] theorem noticeOwner_pending (s : State) (a b c d e : Nat) : (noticeOwner s a b c d e).pending = s.pending := by obtain ⟨_, h⟩ := noticeOwner_frame s a b c d e; rw [h]

@[simp] theorem noticeOwnerNow_dev (s : State) (a b c d : Nat) : (noticeOwnerNow s a b c d).dev = s.dev := by obtain ⟨_,_,_, h⟩ := noticeOwnerNow_frame s a b c d; rw [h]
@[simp] theorem noticeOwnerNow_time (s : State) (a b c d : Nat) : (noticeOwnerNow s a b c d).time = s.time := by obtain ⟨_,_,_, h⟩ := noticeOwnerNow_frame s a b c d; rw [h]
@[simp] theorem noticeOwnerNow_tdc (s : State) (a b c d : Nat) : (noticeOwnerNow s a b c d).tdc = s.tdc := by obtain ⟨_,_,_, h⟩ := noticeOwnerNow_frame s a b c d; rw [h]
@[simp] theorem noticeOwnerNow_pairs (s : State) (a b c d : Nat) : (noticeOwnerNow s a b c d).pairs = s.pairs := by obtain ⟨_,_,_, h⟩ := noticeOwnerNow_frame s a b c d; rw [h]
@[simp] theorem noticeOwnerNow_clk (s : State) (a b c d : Nat) : (noticeOwnerNow s a b c d).clk = s.clk := by obtain ⟨_,_,_, h⟩ := noticeOwnerNow_frame s a b c d; rw [h]
@[simp] theorem noticeOwnerNow_ports (s : State) (a b c d : Nat) : (noticeOwnerNow s a b c d).ports = s.ports := by obtain ⟨_,_,_, h⟩ := noticeOwnerNow_frame s a b c d; rw [h]
@[simp] theorem noticeOwnerNow_feeds (s : State) (a b c d : Nat) : (noticeOwnerNow s a b c d).feeds = s.feeds := by obtain ⟨_,_,_, h⟩ := noticeOwnerNow_frame s a b c d; rw [h]
@[simp] theorem noticeOwnerNow_coarse (s : State) (a b c d : Nat) : (noticeOwnerNow s a b c d).coarse = s.coarse := by obtain ⟨_,_,_, h⟩ := noticeOwnerNow_frame s a b c d; rw [h]
@[simp] theorem noticeOwnerNow_coefSets (s : State) (a b c d : Nat) : (noticeOwnerNow s a b c d).coefSets = s.coefSets := by obtain ⟨_,_,_, h⟩ := noticeOwnerNow_frame s a b c d; rw [h]
@[simp] theorem noticeOwnerNow_zooms (s : State) (a b c d : Nat) : (noticeOwnerNow s a b c d).zooms = s.zooms := by obtain ⟨_,_,_, h⟩ := noticeOwnerNow_frame s a b c d; rw [h]
@[simp] theorem noticeOwnerNow_sks (s : State) (a b c d : Nat) : (noticeOwnerNow s a b c d).sks = s.sks := by obtain ⟨_,_,_, h⟩ := noticeOwnerNow_frame s a b c d; rw [h]
@[simp] theorem noticeOwnerNow_instrs (s : State) (a b c d : Nat) : (noticeOwnerNow s a b c d).instrs = s.instrs := by obtain ⟨_,_,_, h⟩ := noticeOwnerNow_frame s a b c d; rw [h]
@[simp] theorem noticeOwnerNow_masks (s : State) (a b c d : Nat) : (noticeOwnerNow s a b c d).masks = s.masks := by obtain ⟨_,_,_, h⟩ := noticeOwnerNow_frame s a b c d; rw [h]
@[simp] theorem noticeOwnerNow_plates (s : State) (a b c d : Nat) : (noticeOwnerNow s a b c d).plates = s.plates := by obtain ⟨_,_,_, h⟩ := noticeOwnerNow_frame s a b c d; rw [h]
@[simp] theorem noticeOwnerNow_streams (s : State) (a b c d : Nat) : (noticeOwnerNow s a b c d).streams = s.streams := by obtain ⟨_,_,_, h⟩ := noticeOwnerNow_frame s a b c d; rw [h]
@[simp] theorem noticeOwnerNow_flows (s : State) (a b c d : Nat) : (noticeOwnerNow s a b c d).flows = s.flows := by obtain ⟨_,_,_, h⟩ := noticeOwnerNow_frame s a b c d; rw [h]
@[simp] theorem noticeOwnerNow_apertures (s : State) (a b c d : Nat) : (noticeOwnerNow s a b c d).apertures = s.apertures := by obtain ⟨_,_,_, h⟩ := noticeOwnerNow_frame s a b c d; rw [h]
@[simp] theorem noticeOwnerNow_sextants (s : State) (a b c d : Nat) : (noticeOwnerNow s a b c d).sextants = s.sextants := by obtain ⟨_,_,_, h⟩ := noticeOwnerNow_frame s a b c d; rw [h]
@[simp] theorem noticeOwnerNow_adc (s : State) (a b c d : Nat) : (noticeOwnerNow s a b c d).adc = s.adc := by obtain ⟨_,_,_, h⟩ := noticeOwnerNow_frame s a b c d; rw [h]
@[simp] theorem noticeOwnerNow_dacs (s : State) (a b c d : Nat) : (noticeOwnerNow s a b c d).dacs = s.dacs := by obtain ⟨_,_,_, h⟩ := noticeOwnerNow_frame s a b c d; rw [h]
@[simp] theorem noticeOwnerNow_eye (s : State) (a b c d : Nat) : (noticeOwnerNow s a b c d).eye = s.eye := by obtain ⟨_,_,_, h⟩ := noticeOwnerNow_frame s a b c d; rw [h]
@[simp] theorem noticeOwnerNow_hbm (s : State) (a b c d : Nat) : (noticeOwnerNow s a b c d).hbm = s.hbm := by obtain ⟨_,_,_, h⟩ := noticeOwnerNow_frame s a b c d; rw [h]
@[simp] theorem noticeOwnerNow_sheds (s : State) (a b c d : Nat) : (noticeOwnerNow s a b c d).sheds = s.sheds := by obtain ⟨_,_,_, h⟩ := noticeOwnerNow_frame s a b c d; rw [h]
@[simp] theorem noticeOwnerNow_handoff (s : State) (a b c d : Nat) : (noticeOwnerNow s a b c d).handoff = s.handoff := by obtain ⟨_,_,_, h⟩ := noticeOwnerNow_frame s a b c d; rw [h]
@[simp] theorem noticeOwnerNow_made (s : State) (a b c d : Nat) : (noticeOwnerNow s a b c d).made = s.made := by obtain ⟨_,_,_, h⟩ := noticeOwnerNow_frame s a b c d; rw [h]
@[simp] theorem noticeOwnerNow_taken (s : State) (a b c d : Nat) : (noticeOwnerNow s a b c d).taken = s.taken := by obtain ⟨_,_,_, h⟩ := noticeOwnerNow_frame s a b c d; rw [h]
@[simp] theorem noticeOwnerNow_plan (s : State) (a b c d : Nat) : (noticeOwnerNow s a b c d).plan = s.plan := by obtain ⟨_,_,_, h⟩ := noticeOwnerNow_frame s a b c d; rw [h]
@[simp] theorem noticeOwnerNow_psets (s : State) (a b c d : Nat) : (noticeOwnerNow s a b c d).psets = s.psets := by obtain ⟨_,_,_, h⟩ := noticeOwnerNow_frame s a b c d; rw [h]
@[simp] theorem noticeOwnerNow_admits (s : State) (a b c d : Nat) : (noticeOwnerNow s a b c d).admits = s.admits := by obtain ⟨_,_,_, h⟩ := noticeOwnerNow_frame s a b c d; rw [h]
@[simp] theorem noticeOwnerNow_domes (s : State) (a b c d : Nat) : (noticeOwnerNow s a b c d).domes = s.domes := by obtain ⟨_,_,_, h⟩ := noticeOwnerNow_frame s a b c d; rw [h]
@[simp] theorem noticeOwnerNow_inflight (s : State) (a b c d : Nat) : (noticeOwnerNow s a b c d).inflight = s.inflight := by obtain ⟨_,_,_, h⟩ := noticeOwnerNow_frame s a b c d; rw [h]
@[simp] theorem noticeOwnerNow_held (s : State) (a b c d : Nat) : (noticeOwnerNow s a b c d).held = s.held := by obtain ⟨_,_,_, h⟩ := noticeOwnerNow_frame s a b c d; rw [h]
@[simp] theorem noticeOwnerNow_resolving (s : State) (a b c d : Nat) : (noticeOwnerNow s a b c d).resolving = s.resolving := by obtain ⟨_,_,_, h⟩ := noticeOwnerNow_frame s a b c d; rw [h]
@[simp] theorem noticeOwnerNow_capReads (s : State) (a b c d : Nat) : (noticeOwnerNow s a b c d).capReads = s.capReads := by obtain ⟨_,_,_, h⟩ := noticeOwnerNow_frame s a b c d; rw [h]
@[simp] theorem noticeOwnerNow_hostPorts (s : State) (a b c d : Nat) : (noticeOwnerNow s a b c d).hostPorts = s.hostPorts := by obtain ⟨_,_,_, h⟩ := noticeOwnerNow_frame s a b c d; rw [h]
@[simp] theorem noticeOwnerNow_log (s : State) (a b c d : Nat) : (noticeOwnerNow s a b c d).log = s.log := by obtain ⟨_,_,_, h⟩ := noticeOwnerNow_frame s a b c d; rw [h]
@[simp] theorem noticeOwnerNow_meter (s : State) (a b c d : Nat) : (noticeOwnerNow s a b c d).meter = s.meter := by obtain ⟨_,_,_, h⟩ := noticeOwnerNow_frame s a b c d; rw [h]
@[simp] theorem noticeOwnerNow_regs (s : State) (a b c d : Nat) : (noticeOwnerNow s a b c d).regs = s.regs := by obtain ⟨_,_,_, h⟩ := noticeOwnerNow_frame s a b c d; rw [h]
@[simp] theorem noticeOwnerNow_dma (s : State) (a b c d : Nat) : (noticeOwnerNow s a b c d).dma = s.dma := by obtain ⟨_,_,_, h⟩ := noticeOwnerNow_frame s a b c d; rw [h]
@[simp] theorem noticeOwnerNow_care (s : State) (a b c d : Nat) : (noticeOwnerNow s a b c d).care = s.care := by obtain ⟨_,_,_, h⟩ := noticeOwnerNow_frame s a b c d; rw [h]
@[simp] theorem noticeOwnerNow_boot (s : State) (a b c d : Nat) : (noticeOwnerNow s a b c d).boot = s.boot := by obtain ⟨_,_,_, h⟩ := noticeOwnerNow_frame s a b c d; rw [h]
@[simp] theorem noticeOwnerNow_dbg (s : State) (a b c d : Nat) : (noticeOwnerNow s a b c d).dbg = s.dbg := by obtain ⟨_,_,_, h⟩ := noticeOwnerNow_frame s a b c d; rw [h]
@[simp] theorem noticeOwnerNow_free (s : State) (a b c d : Nat) : (noticeOwnerNow s a b c d).free = s.free := by obtain ⟨_,_,_, h⟩ := noticeOwnerNow_frame s a b c d; rw [h]
@[simp] theorem noticeOwnerNow_pending (s : State) (a b c d : Nat) : (noticeOwnerNow s a b c d).pending = s.pending := by obtain ⟨_,_,_, h⟩ := noticeOwnerNow_frame s a b c d; rw [h]

@[simp] theorem windowEnd_dev (s : State) : (windowEnd s).dev = s.dev := by obtain ⟨_,_,_, h⟩ := windowEnd_frame s; rw [h]
@[simp] theorem windowEnd_time (s : State) : (windowEnd s).time = s.time := by obtain ⟨_,_,_, h⟩ := windowEnd_frame s; rw [h]
@[simp] theorem windowEnd_tdc (s : State) : (windowEnd s).tdc = s.tdc := by obtain ⟨_,_,_, h⟩ := windowEnd_frame s; rw [h]
@[simp] theorem windowEnd_pairs (s : State) : (windowEnd s).pairs = s.pairs := by obtain ⟨_,_,_, h⟩ := windowEnd_frame s; rw [h]
@[simp] theorem windowEnd_clk (s : State) : (windowEnd s).clk = s.clk := by obtain ⟨_,_,_, h⟩ := windowEnd_frame s; rw [h]
@[simp] theorem windowEnd_ports (s : State) : (windowEnd s).ports = s.ports := by obtain ⟨_,_,_, h⟩ := windowEnd_frame s; rw [h]
@[simp] theorem windowEnd_feeds (s : State) : (windowEnd s).feeds = s.feeds := by obtain ⟨_,_,_, h⟩ := windowEnd_frame s; rw [h]
@[simp] theorem windowEnd_coarse (s : State) : (windowEnd s).coarse = s.coarse := by obtain ⟨_,_,_, h⟩ := windowEnd_frame s; rw [h]
@[simp] theorem windowEnd_coefSets (s : State) : (windowEnd s).coefSets = s.coefSets := by obtain ⟨_,_,_, h⟩ := windowEnd_frame s; rw [h]
@[simp] theorem windowEnd_zooms (s : State) : (windowEnd s).zooms = s.zooms := by obtain ⟨_,_,_, h⟩ := windowEnd_frame s; rw [h]
@[simp] theorem windowEnd_sks (s : State) : (windowEnd s).sks = s.sks := by obtain ⟨_,_,_, h⟩ := windowEnd_frame s; rw [h]
@[simp] theorem windowEnd_instrs (s : State) : (windowEnd s).instrs = s.instrs := by obtain ⟨_,_,_, h⟩ := windowEnd_frame s; rw [h]
@[simp] theorem windowEnd_masks (s : State) : (windowEnd s).masks = s.masks := by obtain ⟨_,_,_, h⟩ := windowEnd_frame s; rw [h]
@[simp] theorem windowEnd_plates (s : State) : (windowEnd s).plates = s.plates := by obtain ⟨_,_,_, h⟩ := windowEnd_frame s; rw [h]
@[simp] theorem windowEnd_streams (s : State) : (windowEnd s).streams = s.streams := by obtain ⟨_,_,_, h⟩ := windowEnd_frame s; rw [h]
@[simp] theorem windowEnd_flows (s : State) : (windowEnd s).flows = s.flows := by obtain ⟨_,_,_, h⟩ := windowEnd_frame s; rw [h]
@[simp] theorem windowEnd_apertures (s : State) : (windowEnd s).apertures = s.apertures := by obtain ⟨_,_,_, h⟩ := windowEnd_frame s; rw [h]
@[simp] theorem windowEnd_sextants (s : State) : (windowEnd s).sextants = s.sextants := by obtain ⟨_,_,_, h⟩ := windowEnd_frame s; rw [h]
@[simp] theorem windowEnd_adc (s : State) : (windowEnd s).adc = s.adc := by obtain ⟨_,_,_, h⟩ := windowEnd_frame s; rw [h]
@[simp] theorem windowEnd_dacs (s : State) : (windowEnd s).dacs = s.dacs := by obtain ⟨_,_,_, h⟩ := windowEnd_frame s; rw [h]
@[simp] theorem windowEnd_eye (s : State) : (windowEnd s).eye = s.eye := by obtain ⟨_,_,_, h⟩ := windowEnd_frame s; rw [h]
@[simp] theorem windowEnd_hbm (s : State) : (windowEnd s).hbm = s.hbm := by obtain ⟨_,_,_, h⟩ := windowEnd_frame s; rw [h]
@[simp] theorem windowEnd_sheds (s : State) : (windowEnd s).sheds = s.sheds := by obtain ⟨_,_,_, h⟩ := windowEnd_frame s; rw [h]
@[simp] theorem windowEnd_handoff (s : State) : (windowEnd s).handoff = s.handoff := by obtain ⟨_,_,_, h⟩ := windowEnd_frame s; rw [h]
@[simp] theorem windowEnd_made (s : State) : (windowEnd s).made = s.made := by obtain ⟨_,_,_, h⟩ := windowEnd_frame s; rw [h]
@[simp] theorem windowEnd_taken (s : State) : (windowEnd s).taken = s.taken := by obtain ⟨_,_,_, h⟩ := windowEnd_frame s; rw [h]
@[simp] theorem windowEnd_plan (s : State) : (windowEnd s).plan = s.plan := by obtain ⟨_,_,_, h⟩ := windowEnd_frame s; rw [h]
@[simp] theorem windowEnd_psets (s : State) : (windowEnd s).psets = s.psets := by obtain ⟨_,_,_, h⟩ := windowEnd_frame s; rw [h]
@[simp] theorem windowEnd_admits (s : State) : (windowEnd s).admits = s.admits := by obtain ⟨_,_,_, h⟩ := windowEnd_frame s; rw [h]
@[simp] theorem windowEnd_domes (s : State) : (windowEnd s).domes = s.domes := by obtain ⟨_,_,_, h⟩ := windowEnd_frame s; rw [h]
@[simp] theorem windowEnd_inflight (s : State) : (windowEnd s).inflight = s.inflight := by obtain ⟨_,_,_, h⟩ := windowEnd_frame s; rw [h]
@[simp] theorem windowEnd_held (s : State) : (windowEnd s).held = s.held := by obtain ⟨_,_,_, h⟩ := windowEnd_frame s; rw [h]
@[simp] theorem windowEnd_resolving (s : State) : (windowEnd s).resolving = s.resolving := by obtain ⟨_,_,_, h⟩ := windowEnd_frame s; rw [h]
@[simp] theorem windowEnd_capReads (s : State) : (windowEnd s).capReads = s.capReads := by obtain ⟨_,_,_, h⟩ := windowEnd_frame s; rw [h]
@[simp] theorem windowEnd_hostPorts (s : State) : (windowEnd s).hostPorts = s.hostPorts := by obtain ⟨_,_,_, h⟩ := windowEnd_frame s; rw [h]
@[simp] theorem windowEnd_log (s : State) : (windowEnd s).log = s.log := by obtain ⟨_,_,_, h⟩ := windowEnd_frame s; rw [h]
@[simp] theorem windowEnd_meter (s : State) : (windowEnd s).meter = s.meter := by obtain ⟨_,_,_, h⟩ := windowEnd_frame s; rw [h]
@[simp] theorem windowEnd_regs (s : State) : (windowEnd s).regs = s.regs := by obtain ⟨_,_,_, h⟩ := windowEnd_frame s; rw [h]
@[simp] theorem windowEnd_dma (s : State) : (windowEnd s).dma = s.dma := by obtain ⟨_,_,_, h⟩ := windowEnd_frame s; rw [h]
@[simp] theorem windowEnd_care (s : State) : (windowEnd s).care = s.care := by obtain ⟨_,_,_, h⟩ := windowEnd_frame s; rw [h]
@[simp] theorem windowEnd_boot (s : State) : (windowEnd s).boot = s.boot := by obtain ⟨_,_,_, h⟩ := windowEnd_frame s; rw [h]
@[simp] theorem windowEnd_dbg (s : State) : (windowEnd s).dbg = s.dbg := by obtain ⟨_,_,_, h⟩ := windowEnd_frame s; rw [h]
@[simp] theorem windowEnd_free (s : State) : (windowEnd s).free = s.free := by obtain ⟨_,_,_, h⟩ := windowEnd_frame s; rw [h]
@[simp] theorem windowEnd_pending (s : State) : (windowEnd s).pending = s.pending := by obtain ⟨_,_,_, h⟩ := windowEnd_frame s; rw [h]

@[simp] theorem violation_dev (s : State) (a : Nat) (f : Fn) (b : Nat) : (violation s a f b).dev = s.dev := by obtain ⟨_,_,_, h⟩ := violation_frame s a f b; rw [h]
@[simp] theorem violation_time (s : State) (a : Nat) (f : Fn) (b : Nat) : (violation s a f b).time = s.time := by obtain ⟨_,_,_, h⟩ := violation_frame s a f b; rw [h]
@[simp] theorem violation_tdc (s : State) (a : Nat) (f : Fn) (b : Nat) : (violation s a f b).tdc = s.tdc := by obtain ⟨_,_,_, h⟩ := violation_frame s a f b; rw [h]
@[simp] theorem violation_pairs (s : State) (a : Nat) (f : Fn) (b : Nat) : (violation s a f b).pairs = s.pairs := by obtain ⟨_,_,_, h⟩ := violation_frame s a f b; rw [h]
@[simp] theorem violation_clk (s : State) (a : Nat) (f : Fn) (b : Nat) : (violation s a f b).clk = s.clk := by obtain ⟨_,_,_, h⟩ := violation_frame s a f b; rw [h]
@[simp] theorem violation_ports (s : State) (a : Nat) (f : Fn) (b : Nat) : (violation s a f b).ports = s.ports := by obtain ⟨_,_,_, h⟩ := violation_frame s a f b; rw [h]
@[simp] theorem violation_feeds (s : State) (a : Nat) (f : Fn) (b : Nat) : (violation s a f b).feeds = s.feeds := by obtain ⟨_,_,_, h⟩ := violation_frame s a f b; rw [h]
@[simp] theorem violation_coarse (s : State) (a : Nat) (f : Fn) (b : Nat) : (violation s a f b).coarse = s.coarse := by obtain ⟨_,_,_, h⟩ := violation_frame s a f b; rw [h]
@[simp] theorem violation_coefSets (s : State) (a : Nat) (f : Fn) (b : Nat) : (violation s a f b).coefSets = s.coefSets := by obtain ⟨_,_,_, h⟩ := violation_frame s a f b; rw [h]
@[simp] theorem violation_zooms (s : State) (a : Nat) (f : Fn) (b : Nat) : (violation s a f b).zooms = s.zooms := by obtain ⟨_,_,_, h⟩ := violation_frame s a f b; rw [h]
@[simp] theorem violation_sks (s : State) (a : Nat) (f : Fn) (b : Nat) : (violation s a f b).sks = s.sks := by obtain ⟨_,_,_, h⟩ := violation_frame s a f b; rw [h]
@[simp] theorem violation_instrs (s : State) (a : Nat) (f : Fn) (b : Nat) : (violation s a f b).instrs = s.instrs := by obtain ⟨_,_,_, h⟩ := violation_frame s a f b; rw [h]
@[simp] theorem violation_masks (s : State) (a : Nat) (f : Fn) (b : Nat) : (violation s a f b).masks = s.masks := by obtain ⟨_,_,_, h⟩ := violation_frame s a f b; rw [h]
@[simp] theorem violation_plates (s : State) (a : Nat) (f : Fn) (b : Nat) : (violation s a f b).plates = s.plates := by obtain ⟨_,_,_, h⟩ := violation_frame s a f b; rw [h]
@[simp] theorem violation_streams (s : State) (a : Nat) (f : Fn) (b : Nat) : (violation s a f b).streams = s.streams := by obtain ⟨_,_,_, h⟩ := violation_frame s a f b; rw [h]
@[simp] theorem violation_flows (s : State) (a : Nat) (f : Fn) (b : Nat) : (violation s a f b).flows = s.flows := by obtain ⟨_,_,_, h⟩ := violation_frame s a f b; rw [h]
@[simp] theorem violation_apertures (s : State) (a : Nat) (f : Fn) (b : Nat) : (violation s a f b).apertures = s.apertures := by obtain ⟨_,_,_, h⟩ := violation_frame s a f b; rw [h]
@[simp] theorem violation_sextants (s : State) (a : Nat) (f : Fn) (b : Nat) : (violation s a f b).sextants = s.sextants := by obtain ⟨_,_,_, h⟩ := violation_frame s a f b; rw [h]
@[simp] theorem violation_adc (s : State) (a : Nat) (f : Fn) (b : Nat) : (violation s a f b).adc = s.adc := by obtain ⟨_,_,_, h⟩ := violation_frame s a f b; rw [h]
@[simp] theorem violation_dacs (s : State) (a : Nat) (f : Fn) (b : Nat) : (violation s a f b).dacs = s.dacs := by obtain ⟨_,_,_, h⟩ := violation_frame s a f b; rw [h]
@[simp] theorem violation_eye (s : State) (a : Nat) (f : Fn) (b : Nat) : (violation s a f b).eye = s.eye := by obtain ⟨_,_,_, h⟩ := violation_frame s a f b; rw [h]
@[simp] theorem violation_hbm (s : State) (a : Nat) (f : Fn) (b : Nat) : (violation s a f b).hbm = s.hbm := by obtain ⟨_,_,_, h⟩ := violation_frame s a f b; rw [h]
@[simp] theorem violation_sheds (s : State) (a : Nat) (f : Fn) (b : Nat) : (violation s a f b).sheds = s.sheds := by obtain ⟨_,_,_, h⟩ := violation_frame s a f b; rw [h]
@[simp] theorem violation_handoff (s : State) (a : Nat) (f : Fn) (b : Nat) : (violation s a f b).handoff = s.handoff := by obtain ⟨_,_,_, h⟩ := violation_frame s a f b; rw [h]
@[simp] theorem violation_made (s : State) (a : Nat) (f : Fn) (b : Nat) : (violation s a f b).made = s.made := by obtain ⟨_,_,_, h⟩ := violation_frame s a f b; rw [h]
@[simp] theorem violation_taken (s : State) (a : Nat) (f : Fn) (b : Nat) : (violation s a f b).taken = s.taken := by obtain ⟨_,_,_, h⟩ := violation_frame s a f b; rw [h]
@[simp] theorem violation_plan (s : State) (a : Nat) (f : Fn) (b : Nat) : (violation s a f b).plan = s.plan := by obtain ⟨_,_,_, h⟩ := violation_frame s a f b; rw [h]
@[simp] theorem violation_psets (s : State) (a : Nat) (f : Fn) (b : Nat) : (violation s a f b).psets = s.psets := by obtain ⟨_,_,_, h⟩ := violation_frame s a f b; rw [h]
@[simp] theorem violation_admits (s : State) (a : Nat) (f : Fn) (b : Nat) : (violation s a f b).admits = s.admits := by obtain ⟨_,_,_, h⟩ := violation_frame s a f b; rw [h]
@[simp] theorem violation_mbx (s : State) (a : Nat) (f : Fn) (b : Nat) : (violation s a f b).mbx = s.mbx := by obtain ⟨_,_,_, h⟩ := violation_frame s a f b; rw [h]
@[simp] theorem violation_domes (s : State) (a : Nat) (f : Fn) (b : Nat) : (violation s a f b).domes = s.domes := by obtain ⟨_,_,_, h⟩ := violation_frame s a f b; rw [h]
@[simp] theorem violation_inflight (s : State) (a : Nat) (f : Fn) (b : Nat) : (violation s a f b).inflight = s.inflight := by obtain ⟨_,_,_, h⟩ := violation_frame s a f b; rw [h]
@[simp] theorem violation_held (s : State) (a : Nat) (f : Fn) (b : Nat) : (violation s a f b).held = s.held := by obtain ⟨_,_,_, h⟩ := violation_frame s a f b; rw [h]
@[simp] theorem violation_resolving (s : State) (a : Nat) (f : Fn) (b : Nat) : (violation s a f b).resolving = s.resolving := by obtain ⟨_,_,_, h⟩ := violation_frame s a f b; rw [h]
@[simp] theorem violation_capReads (s : State) (a : Nat) (f : Fn) (b : Nat) : (violation s a f b).capReads = s.capReads := by obtain ⟨_,_,_, h⟩ := violation_frame s a f b; rw [h]
@[simp] theorem violation_hostPorts (s : State) (a : Nat) (f : Fn) (b : Nat) : (violation s a f b).hostPorts = s.hostPorts := by obtain ⟨_,_,_, h⟩ := violation_frame s a f b; rw [h]
@[simp] theorem violation_meter (s : State) (a : Nat) (f : Fn) (b : Nat) : (violation s a f b).meter = s.meter := by obtain ⟨_,_,_, h⟩ := violation_frame s a f b; rw [h]
@[simp] theorem violation_regs (s : State) (a : Nat) (f : Fn) (b : Nat) : (violation s a f b).regs = s.regs := by obtain ⟨_,_,_, h⟩ := violation_frame s a f b; rw [h]
@[simp] theorem violation_dma (s : State) (a : Nat) (f : Fn) (b : Nat) : (violation s a f b).dma = s.dma := by obtain ⟨_,_,_, h⟩ := violation_frame s a f b; rw [h]
@[simp] theorem violation_care (s : State) (a : Nat) (f : Fn) (b : Nat) : (violation s a f b).care = s.care := by obtain ⟨_,_,_, h⟩ := violation_frame s a f b; rw [h]
@[simp] theorem violation_boot (s : State) (a : Nat) (f : Fn) (b : Nat) : (violation s a f b).boot = s.boot := by obtain ⟨_,_,_, h⟩ := violation_frame s a f b; rw [h]
@[simp] theorem violation_dbg (s : State) (a : Nat) (f : Fn) (b : Nat) : (violation s a f b).dbg = s.dbg := by obtain ⟨_,_,_, h⟩ := violation_frame s a f b; rw [h]
@[simp] theorem violation_free (s : State) (a : Nat) (f : Fn) (b : Nat) : (violation s a f b).free = s.free := by obtain ⟨_,_,_, h⟩ := violation_frame s a f b; rw [h]
@[simp] theorem violation_pending (s : State) (a : Nat) (f : Fn) (b : Nat) : (violation s a f b).pending = s.pending := by obtain ⟨_,_,_, h⟩ := violation_frame s a f b; rw [h]

@[simp] theorem finish_dev (s : State) (opc : Nat) (q : Request) (a b c d e : Nat) (body : Option (List Byte)) (high : Nat) : (finish s opc q a b c d e body high).dev = s.dev := by obtain ⟨_,_,_,_,_, h⟩ := finish_frame s opc q a b c d e body high; rw [h]
@[simp] theorem finish_time (s : State) (opc : Nat) (q : Request) (a b c d e : Nat) (body : Option (List Byte)) (high : Nat) : (finish s opc q a b c d e body high).time = s.time := by obtain ⟨_,_,_,_,_, h⟩ := finish_frame s opc q a b c d e body high; rw [h]
@[simp] theorem finish_tdc (s : State) (opc : Nat) (q : Request) (a b c d e : Nat) (body : Option (List Byte)) (high : Nat) : (finish s opc q a b c d e body high).tdc = s.tdc := by obtain ⟨_,_,_,_,_, h⟩ := finish_frame s opc q a b c d e body high; rw [h]
@[simp] theorem finish_pairs (s : State) (opc : Nat) (q : Request) (a b c d e : Nat) (body : Option (List Byte)) (high : Nat) : (finish s opc q a b c d e body high).pairs = s.pairs := by obtain ⟨_,_,_,_,_, h⟩ := finish_frame s opc q a b c d e body high; rw [h]
@[simp] theorem finish_clk (s : State) (opc : Nat) (q : Request) (a b c d e : Nat) (body : Option (List Byte)) (high : Nat) : (finish s opc q a b c d e body high).clk = s.clk := by obtain ⟨_,_,_,_,_, h⟩ := finish_frame s opc q a b c d e body high; rw [h]
@[simp] theorem finish_ports (s : State) (opc : Nat) (q : Request) (a b c d e : Nat) (body : Option (List Byte)) (high : Nat) : (finish s opc q a b c d e body high).ports = s.ports := by obtain ⟨_,_,_,_,_, h⟩ := finish_frame s opc q a b c d e body high; rw [h]
@[simp] theorem finish_feeds (s : State) (opc : Nat) (q : Request) (a b c d e : Nat) (body : Option (List Byte)) (high : Nat) : (finish s opc q a b c d e body high).feeds = s.feeds := by obtain ⟨_,_,_,_,_, h⟩ := finish_frame s opc q a b c d e body high; rw [h]
@[simp] theorem finish_coarse (s : State) (opc : Nat) (q : Request) (a b c d e : Nat) (body : Option (List Byte)) (high : Nat) : (finish s opc q a b c d e body high).coarse = s.coarse := by obtain ⟨_,_,_,_,_, h⟩ := finish_frame s opc q a b c d e body high; rw [h]
@[simp] theorem finish_coefSets (s : State) (opc : Nat) (q : Request) (a b c d e : Nat) (body : Option (List Byte)) (high : Nat) : (finish s opc q a b c d e body high).coefSets = s.coefSets := by obtain ⟨_,_,_,_,_, h⟩ := finish_frame s opc q a b c d e body high; rw [h]
@[simp] theorem finish_zooms (s : State) (opc : Nat) (q : Request) (a b c d e : Nat) (body : Option (List Byte)) (high : Nat) : (finish s opc q a b c d e body high).zooms = s.zooms := by obtain ⟨_,_,_,_,_, h⟩ := finish_frame s opc q a b c d e body high; rw [h]
@[simp] theorem finish_sks (s : State) (opc : Nat) (q : Request) (a b c d e : Nat) (body : Option (List Byte)) (high : Nat) : (finish s opc q a b c d e body high).sks = s.sks := by obtain ⟨_,_,_,_,_, h⟩ := finish_frame s opc q a b c d e body high; rw [h]
@[simp] theorem finish_instrs (s : State) (opc : Nat) (q : Request) (a b c d e : Nat) (body : Option (List Byte)) (high : Nat) : (finish s opc q a b c d e body high).instrs = s.instrs := by obtain ⟨_,_,_,_,_, h⟩ := finish_frame s opc q a b c d e body high; rw [h]
@[simp] theorem finish_masks (s : State) (opc : Nat) (q : Request) (a b c d e : Nat) (body : Option (List Byte)) (high : Nat) : (finish s opc q a b c d e body high).masks = s.masks := by obtain ⟨_,_,_,_,_, h⟩ := finish_frame s opc q a b c d e body high; rw [h]
@[simp] theorem finish_plates (s : State) (opc : Nat) (q : Request) (a b c d e : Nat) (body : Option (List Byte)) (high : Nat) : (finish s opc q a b c d e body high).plates = s.plates := by obtain ⟨_,_,_,_,_, h⟩ := finish_frame s opc q a b c d e body high; rw [h]
@[simp] theorem finish_streams (s : State) (opc : Nat) (q : Request) (a b c d e : Nat) (body : Option (List Byte)) (high : Nat) : (finish s opc q a b c d e body high).streams = s.streams := by obtain ⟨_,_,_,_,_, h⟩ := finish_frame s opc q a b c d e body high; rw [h]
@[simp] theorem finish_flows (s : State) (opc : Nat) (q : Request) (a b c d e : Nat) (body : Option (List Byte)) (high : Nat) : (finish s opc q a b c d e body high).flows = s.flows := by obtain ⟨_,_,_,_,_, h⟩ := finish_frame s opc q a b c d e body high; rw [h]
@[simp] theorem finish_apertures (s : State) (opc : Nat) (q : Request) (a b c d e : Nat) (body : Option (List Byte)) (high : Nat) : (finish s opc q a b c d e body high).apertures = s.apertures := by obtain ⟨_,_,_,_,_, h⟩ := finish_frame s opc q a b c d e body high; rw [h]
@[simp] theorem finish_sextants (s : State) (opc : Nat) (q : Request) (a b c d e : Nat) (body : Option (List Byte)) (high : Nat) : (finish s opc q a b c d e body high).sextants = s.sextants := by obtain ⟨_,_,_,_,_, h⟩ := finish_frame s opc q a b c d e body high; rw [h]
@[simp] theorem finish_adc (s : State) (opc : Nat) (q : Request) (a b c d e : Nat) (body : Option (List Byte)) (high : Nat) : (finish s opc q a b c d e body high).adc = s.adc := by obtain ⟨_,_,_,_,_, h⟩ := finish_frame s opc q a b c d e body high; rw [h]
@[simp] theorem finish_dacs (s : State) (opc : Nat) (q : Request) (a b c d e : Nat) (body : Option (List Byte)) (high : Nat) : (finish s opc q a b c d e body high).dacs = s.dacs := by obtain ⟨_,_,_,_,_, h⟩ := finish_frame s opc q a b c d e body high; rw [h]
@[simp] theorem finish_eye (s : State) (opc : Nat) (q : Request) (a b c d e : Nat) (body : Option (List Byte)) (high : Nat) : (finish s opc q a b c d e body high).eye = s.eye := by obtain ⟨_,_,_,_,_, h⟩ := finish_frame s opc q a b c d e body high; rw [h]
@[simp] theorem finish_sheds (s : State) (opc : Nat) (q : Request) (a b c d e : Nat) (body : Option (List Byte)) (high : Nat) : (finish s opc q a b c d e body high).sheds = s.sheds := by obtain ⟨_,_,_,_,_, h⟩ := finish_frame s opc q a b c d e body high; rw [h]
@[simp] theorem finish_handoff (s : State) (opc : Nat) (q : Request) (a b c d e : Nat) (body : Option (List Byte)) (high : Nat) : (finish s opc q a b c d e body high).handoff = s.handoff := by obtain ⟨_,_,_,_,_, h⟩ := finish_frame s opc q a b c d e body high; rw [h]
@[simp] theorem finish_made (s : State) (opc : Nat) (q : Request) (a b c d e : Nat) (body : Option (List Byte)) (high : Nat) : (finish s opc q a b c d e body high).made = s.made := by obtain ⟨_,_,_,_,_, h⟩ := finish_frame s opc q a b c d e body high; rw [h]
@[simp] theorem finish_taken (s : State) (opc : Nat) (q : Request) (a b c d e : Nat) (body : Option (List Byte)) (high : Nat) : (finish s opc q a b c d e body high).taken = s.taken := by obtain ⟨_,_,_,_,_, h⟩ := finish_frame s opc q a b c d e body high; rw [h]
@[simp] theorem finish_plan (s : State) (opc : Nat) (q : Request) (a b c d e : Nat) (body : Option (List Byte)) (high : Nat) : (finish s opc q a b c d e body high).plan = s.plan := by obtain ⟨_,_,_,_,_, h⟩ := finish_frame s opc q a b c d e body high; rw [h]
@[simp] theorem finish_psets (s : State) (opc : Nat) (q : Request) (a b c d e : Nat) (body : Option (List Byte)) (high : Nat) : (finish s opc q a b c d e body high).psets = s.psets := by obtain ⟨_,_,_,_,_, h⟩ := finish_frame s opc q a b c d e body high; rw [h]
@[simp] theorem finish_admits (s : State) (opc : Nat) (q : Request) (a b c d e : Nat) (body : Option (List Byte)) (high : Nat) : (finish s opc q a b c d e body high).admits = s.admits := by obtain ⟨_,_,_,_,_, h⟩ := finish_frame s opc q a b c d e body high; rw [h]
@[simp] theorem finish_domes (s : State) (opc : Nat) (q : Request) (a b c d e : Nat) (body : Option (List Byte)) (high : Nat) : (finish s opc q a b c d e body high).domes = s.domes := by obtain ⟨_,_,_,_,_, h⟩ := finish_frame s opc q a b c d e body high; rw [h]
@[simp] theorem finish_held (s : State) (opc : Nat) (q : Request) (a b c d e : Nat) (body : Option (List Byte)) (high : Nat) : (finish s opc q a b c d e body high).held = s.held := by obtain ⟨_,_,_,_,_, h⟩ := finish_frame s opc q a b c d e body high; rw [h]
@[simp] theorem finish_resolving (s : State) (opc : Nat) (q : Request) (a b c d e : Nat) (body : Option (List Byte)) (high : Nat) : (finish s opc q a b c d e body high).resolving = s.resolving := by obtain ⟨_,_,_,_,_, h⟩ := finish_frame s opc q a b c d e body high; rw [h]
@[simp] theorem finish_capReads (s : State) (opc : Nat) (q : Request) (a b c d e : Nat) (body : Option (List Byte)) (high : Nat) : (finish s opc q a b c d e body high).capReads = s.capReads := by obtain ⟨_,_,_,_,_, h⟩ := finish_frame s opc q a b c d e body high; rw [h]
@[simp] theorem finish_hostPorts (s : State) (opc : Nat) (q : Request) (a b c d e : Nat) (body : Option (List Byte)) (high : Nat) : (finish s opc q a b c d e body high).hostPorts = s.hostPorts := by obtain ⟨_,_,_,_,_, h⟩ := finish_frame s opc q a b c d e body high; rw [h]
@[simp] theorem finish_log (s : State) (opc : Nat) (q : Request) (a b c d e : Nat) (body : Option (List Byte)) (high : Nat) : (finish s opc q a b c d e body high).log = s.log := by obtain ⟨_,_,_,_,_, h⟩ := finish_frame s opc q a b c d e body high; rw [h]
@[simp] theorem finish_meter (s : State) (opc : Nat) (q : Request) (a b c d e : Nat) (body : Option (List Byte)) (high : Nat) : (finish s opc q a b c d e body high).meter = s.meter := by obtain ⟨_,_,_,_,_, h⟩ := finish_frame s opc q a b c d e body high; rw [h]
@[simp] theorem finish_regs (s : State) (opc : Nat) (q : Request) (a b c d e : Nat) (body : Option (List Byte)) (high : Nat) : (finish s opc q a b c d e body high).regs = s.regs := by obtain ⟨_,_,_,_,_, h⟩ := finish_frame s opc q a b c d e body high; rw [h]
@[simp] theorem finish_dma (s : State) (opc : Nat) (q : Request) (a b c d e : Nat) (body : Option (List Byte)) (high : Nat) : (finish s opc q a b c d e body high).dma = s.dma := by obtain ⟨_,_,_,_,_, h⟩ := finish_frame s opc q a b c d e body high; rw [h]
@[simp] theorem finish_care (s : State) (opc : Nat) (q : Request) (a b c d e : Nat) (body : Option (List Byte)) (high : Nat) : (finish s opc q a b c d e body high).care = s.care := by obtain ⟨_,_,_,_,_, h⟩ := finish_frame s opc q a b c d e body high; rw [h]
@[simp] theorem finish_boot (s : State) (opc : Nat) (q : Request) (a b c d e : Nat) (body : Option (List Byte)) (high : Nat) : (finish s opc q a b c d e body high).boot = s.boot := by obtain ⟨_,_,_,_,_, h⟩ := finish_frame s opc q a b c d e body high; rw [h]
@[simp] theorem finish_dbg (s : State) (opc : Nat) (q : Request) (a b c d e : Nat) (body : Option (List Byte)) (high : Nat) : (finish s opc q a b c d e body high).dbg = s.dbg := by obtain ⟨_,_,_,_,_, h⟩ := finish_frame s opc q a b c d e body high; rw [h]
@[simp] theorem finish_free (s : State) (opc : Nat) (q : Request) (a b c d e : Nat) (body : Option (List Byte)) (high : Nat) : (finish s opc q a b c d e body high).free = s.free := by obtain ⟨_,_,_,_,_, h⟩ := finish_frame s opc q a b c d e body high; rw [h]
@[simp] theorem finish_pending (s : State) (opc : Nat) (q : Request) (a b c d e : Nat) (body : Option (List Byte)) (high : Nat) : (finish s opc q a b c d e body high).pending = s.pending := by obtain ⟨_,_,_,_,_, h⟩ := finish_frame s opc q a b c d e body high; rw [h]

@[simp] theorem finishRej_dev (s : State) (opc : Nat) (q : Request) (x : Reject) : (finishRej s opc q x).dev = s.dev := by obtain ⟨_,_,_,_,_, h⟩ := finishRej_frame s opc q x; rw [h]
@[simp] theorem finishRej_time (s : State) (opc : Nat) (q : Request) (x : Reject) : (finishRej s opc q x).time = s.time := by obtain ⟨_,_,_,_,_, h⟩ := finishRej_frame s opc q x; rw [h]
@[simp] theorem finishRej_tdc (s : State) (opc : Nat) (q : Request) (x : Reject) : (finishRej s opc q x).tdc = s.tdc := by obtain ⟨_,_,_,_,_, h⟩ := finishRej_frame s opc q x; rw [h]
@[simp] theorem finishRej_pairs (s : State) (opc : Nat) (q : Request) (x : Reject) : (finishRej s opc q x).pairs = s.pairs := by obtain ⟨_,_,_,_,_, h⟩ := finishRej_frame s opc q x; rw [h]
@[simp] theorem finishRej_clk (s : State) (opc : Nat) (q : Request) (x : Reject) : (finishRej s opc q x).clk = s.clk := by obtain ⟨_,_,_,_,_, h⟩ := finishRej_frame s opc q x; rw [h]
@[simp] theorem finishRej_ports (s : State) (opc : Nat) (q : Request) (x : Reject) : (finishRej s opc q x).ports = s.ports := by obtain ⟨_,_,_,_,_, h⟩ := finishRej_frame s opc q x; rw [h]
@[simp] theorem finishRej_feeds (s : State) (opc : Nat) (q : Request) (x : Reject) : (finishRej s opc q x).feeds = s.feeds := by obtain ⟨_,_,_,_,_, h⟩ := finishRej_frame s opc q x; rw [h]
@[simp] theorem finishRej_coarse (s : State) (opc : Nat) (q : Request) (x : Reject) : (finishRej s opc q x).coarse = s.coarse := by obtain ⟨_,_,_,_,_, h⟩ := finishRej_frame s opc q x; rw [h]
@[simp] theorem finishRej_coefSets (s : State) (opc : Nat) (q : Request) (x : Reject) : (finishRej s opc q x).coefSets = s.coefSets := by obtain ⟨_,_,_,_,_, h⟩ := finishRej_frame s opc q x; rw [h]
@[simp] theorem finishRej_zooms (s : State) (opc : Nat) (q : Request) (x : Reject) : (finishRej s opc q x).zooms = s.zooms := by obtain ⟨_,_,_,_,_, h⟩ := finishRej_frame s opc q x; rw [h]
@[simp] theorem finishRej_sks (s : State) (opc : Nat) (q : Request) (x : Reject) : (finishRej s opc q x).sks = s.sks := by obtain ⟨_,_,_,_,_, h⟩ := finishRej_frame s opc q x; rw [h]
@[simp] theorem finishRej_instrs (s : State) (opc : Nat) (q : Request) (x : Reject) : (finishRej s opc q x).instrs = s.instrs := by obtain ⟨_,_,_,_,_, h⟩ := finishRej_frame s opc q x; rw [h]
@[simp] theorem finishRej_masks (s : State) (opc : Nat) (q : Request) (x : Reject) : (finishRej s opc q x).masks = s.masks := by obtain ⟨_,_,_,_,_, h⟩ := finishRej_frame s opc q x; rw [h]
@[simp] theorem finishRej_plates (s : State) (opc : Nat) (q : Request) (x : Reject) : (finishRej s opc q x).plates = s.plates := by obtain ⟨_,_,_,_,_, h⟩ := finishRej_frame s opc q x; rw [h]
@[simp] theorem finishRej_streams (s : State) (opc : Nat) (q : Request) (x : Reject) : (finishRej s opc q x).streams = s.streams := by obtain ⟨_,_,_,_,_, h⟩ := finishRej_frame s opc q x; rw [h]
@[simp] theorem finishRej_flows (s : State) (opc : Nat) (q : Request) (x : Reject) : (finishRej s opc q x).flows = s.flows := by obtain ⟨_,_,_,_,_, h⟩ := finishRej_frame s opc q x; rw [h]
@[simp] theorem finishRej_apertures (s : State) (opc : Nat) (q : Request) (x : Reject) : (finishRej s opc q x).apertures = s.apertures := by obtain ⟨_,_,_,_,_, h⟩ := finishRej_frame s opc q x; rw [h]
@[simp] theorem finishRej_sextants (s : State) (opc : Nat) (q : Request) (x : Reject) : (finishRej s opc q x).sextants = s.sextants := by obtain ⟨_,_,_,_,_, h⟩ := finishRej_frame s opc q x; rw [h]
@[simp] theorem finishRej_adc (s : State) (opc : Nat) (q : Request) (x : Reject) : (finishRej s opc q x).adc = s.adc := by obtain ⟨_,_,_,_,_, h⟩ := finishRej_frame s opc q x; rw [h]
@[simp] theorem finishRej_dacs (s : State) (opc : Nat) (q : Request) (x : Reject) : (finishRej s opc q x).dacs = s.dacs := by obtain ⟨_,_,_,_,_, h⟩ := finishRej_frame s opc q x; rw [h]
@[simp] theorem finishRej_eye (s : State) (opc : Nat) (q : Request) (x : Reject) : (finishRej s opc q x).eye = s.eye := by obtain ⟨_,_,_,_,_, h⟩ := finishRej_frame s opc q x; rw [h]
@[simp] theorem finishRej_sheds (s : State) (opc : Nat) (q : Request) (x : Reject) : (finishRej s opc q x).sheds = s.sheds := by obtain ⟨_,_,_,_,_, h⟩ := finishRej_frame s opc q x; rw [h]
@[simp] theorem finishRej_handoff (s : State) (opc : Nat) (q : Request) (x : Reject) : (finishRej s opc q x).handoff = s.handoff := by obtain ⟨_,_,_,_,_, h⟩ := finishRej_frame s opc q x; rw [h]
@[simp] theorem finishRej_made (s : State) (opc : Nat) (q : Request) (x : Reject) : (finishRej s opc q x).made = s.made := by obtain ⟨_,_,_,_,_, h⟩ := finishRej_frame s opc q x; rw [h]
@[simp] theorem finishRej_taken (s : State) (opc : Nat) (q : Request) (x : Reject) : (finishRej s opc q x).taken = s.taken := by obtain ⟨_,_,_,_,_, h⟩ := finishRej_frame s opc q x; rw [h]
@[simp] theorem finishRej_plan (s : State) (opc : Nat) (q : Request) (x : Reject) : (finishRej s opc q x).plan = s.plan := by obtain ⟨_,_,_,_,_, h⟩ := finishRej_frame s opc q x; rw [h]
@[simp] theorem finishRej_psets (s : State) (opc : Nat) (q : Request) (x : Reject) : (finishRej s opc q x).psets = s.psets := by obtain ⟨_,_,_,_,_, h⟩ := finishRej_frame s opc q x; rw [h]
@[simp] theorem finishRej_admits (s : State) (opc : Nat) (q : Request) (x : Reject) : (finishRej s opc q x).admits = s.admits := by obtain ⟨_,_,_,_,_, h⟩ := finishRej_frame s opc q x; rw [h]
@[simp] theorem finishRej_domes (s : State) (opc : Nat) (q : Request) (x : Reject) : (finishRej s opc q x).domes = s.domes := by obtain ⟨_,_,_,_,_, h⟩ := finishRej_frame s opc q x; rw [h]
@[simp] theorem finishRej_held (s : State) (opc : Nat) (q : Request) (x : Reject) : (finishRej s opc q x).held = s.held := by obtain ⟨_,_,_,_,_, h⟩ := finishRej_frame s opc q x; rw [h]
@[simp] theorem finishRej_resolving (s : State) (opc : Nat) (q : Request) (x : Reject) : (finishRej s opc q x).resolving = s.resolving := by obtain ⟨_,_,_,_,_, h⟩ := finishRej_frame s opc q x; rw [h]
@[simp] theorem finishRej_capReads (s : State) (opc : Nat) (q : Request) (x : Reject) : (finishRej s opc q x).capReads = s.capReads := by obtain ⟨_,_,_,_,_, h⟩ := finishRej_frame s opc q x; rw [h]
@[simp] theorem finishRej_hostPorts (s : State) (opc : Nat) (q : Request) (x : Reject) : (finishRej s opc q x).hostPorts = s.hostPorts := by obtain ⟨_,_,_,_,_, h⟩ := finishRej_frame s opc q x; rw [h]
@[simp] theorem finishRej_log (s : State) (opc : Nat) (q : Request) (x : Reject) : (finishRej s opc q x).log = s.log := by obtain ⟨_,_,_,_,_, h⟩ := finishRej_frame s opc q x; rw [h]
@[simp] theorem finishRej_meter (s : State) (opc : Nat) (q : Request) (x : Reject) : (finishRej s opc q x).meter = s.meter := by obtain ⟨_,_,_,_,_, h⟩ := finishRej_frame s opc q x; rw [h]
@[simp] theorem finishRej_regs (s : State) (opc : Nat) (q : Request) (x : Reject) : (finishRej s opc q x).regs = s.regs := by obtain ⟨_,_,_,_,_, h⟩ := finishRej_frame s opc q x; rw [h]
@[simp] theorem finishRej_dma (s : State) (opc : Nat) (q : Request) (x : Reject) : (finishRej s opc q x).dma = s.dma := by obtain ⟨_,_,_,_,_, h⟩ := finishRej_frame s opc q x; rw [h]
@[simp] theorem finishRej_care (s : State) (opc : Nat) (q : Request) (x : Reject) : (finishRej s opc q x).care = s.care := by obtain ⟨_,_,_,_,_, h⟩ := finishRej_frame s opc q x; rw [h]
@[simp] theorem finishRej_boot (s : State) (opc : Nat) (q : Request) (x : Reject) : (finishRej s opc q x).boot = s.boot := by obtain ⟨_,_,_,_,_, h⟩ := finishRej_frame s opc q x; rw [h]
@[simp] theorem finishRej_dbg (s : State) (opc : Nat) (q : Request) (x : Reject) : (finishRej s opc q x).dbg = s.dbg := by obtain ⟨_,_,_,_,_, h⟩ := finishRej_frame s opc q x; rw [h]
@[simp] theorem finishRej_free (s : State) (opc : Nat) (q : Request) (x : Reject) : (finishRej s opc q x).free = s.free := by obtain ⟨_,_,_,_,_, h⟩ := finishRej_frame s opc q x; rw [h]
@[simp] theorem finishRej_pending (s : State) (opc : Nat) (q : Request) (x : Reject) : (finishRej s opc q x).pending = s.pending := by obtain ⟨_,_,_,_,_, h⟩ := finishRej_frame s opc q x; rw [h]

@[simp] theorem ephWrite_dev (s : State) (a b : Nat) (l : List Byte) : (ephWrite s a b l).dev = s.dev := by obtain ⟨_, h⟩ := ephWrite_frame s a b l; rw [h]
@[simp] theorem ephWrite_time (s : State) (a b : Nat) (l : List Byte) : (ephWrite s a b l).time = s.time := by obtain ⟨_, h⟩ := ephWrite_frame s a b l; rw [h]
@[simp] theorem ephWrite_tdc (s : State) (a b : Nat) (l : List Byte) : (ephWrite s a b l).tdc = s.tdc := by obtain ⟨_, h⟩ := ephWrite_frame s a b l; rw [h]
@[simp] theorem ephWrite_pairs (s : State) (a b : Nat) (l : List Byte) : (ephWrite s a b l).pairs = s.pairs := by obtain ⟨_, h⟩ := ephWrite_frame s a b l; rw [h]
@[simp] theorem ephWrite_clk (s : State) (a b : Nat) (l : List Byte) : (ephWrite s a b l).clk = s.clk := by obtain ⟨_, h⟩ := ephWrite_frame s a b l; rw [h]
@[simp] theorem ephWrite_ports (s : State) (a b : Nat) (l : List Byte) : (ephWrite s a b l).ports = s.ports := by obtain ⟨_, h⟩ := ephWrite_frame s a b l; rw [h]
@[simp] theorem ephWrite_feeds (s : State) (a b : Nat) (l : List Byte) : (ephWrite s a b l).feeds = s.feeds := by obtain ⟨_, h⟩ := ephWrite_frame s a b l; rw [h]
@[simp] theorem ephWrite_coarse (s : State) (a b : Nat) (l : List Byte) : (ephWrite s a b l).coarse = s.coarse := by obtain ⟨_, h⟩ := ephWrite_frame s a b l; rw [h]
@[simp] theorem ephWrite_coefSets (s : State) (a b : Nat) (l : List Byte) : (ephWrite s a b l).coefSets = s.coefSets := by obtain ⟨_, h⟩ := ephWrite_frame s a b l; rw [h]
@[simp] theorem ephWrite_zooms (s : State) (a b : Nat) (l : List Byte) : (ephWrite s a b l).zooms = s.zooms := by obtain ⟨_, h⟩ := ephWrite_frame s a b l; rw [h]
@[simp] theorem ephWrite_sks (s : State) (a b : Nat) (l : List Byte) : (ephWrite s a b l).sks = s.sks := by obtain ⟨_, h⟩ := ephWrite_frame s a b l; rw [h]
@[simp] theorem ephWrite_instrs (s : State) (a b : Nat) (l : List Byte) : (ephWrite s a b l).instrs = s.instrs := by obtain ⟨_, h⟩ := ephWrite_frame s a b l; rw [h]
@[simp] theorem ephWrite_masks (s : State) (a b : Nat) (l : List Byte) : (ephWrite s a b l).masks = s.masks := by obtain ⟨_, h⟩ := ephWrite_frame s a b l; rw [h]
@[simp] theorem ephWrite_plates (s : State) (a b : Nat) (l : List Byte) : (ephWrite s a b l).plates = s.plates := by obtain ⟨_, h⟩ := ephWrite_frame s a b l; rw [h]
@[simp] theorem ephWrite_streams (s : State) (a b : Nat) (l : List Byte) : (ephWrite s a b l).streams = s.streams := by obtain ⟨_, h⟩ := ephWrite_frame s a b l; rw [h]
@[simp] theorem ephWrite_flows (s : State) (a b : Nat) (l : List Byte) : (ephWrite s a b l).flows = s.flows := by obtain ⟨_, h⟩ := ephWrite_frame s a b l; rw [h]
@[simp] theorem ephWrite_apertures (s : State) (a b : Nat) (l : List Byte) : (ephWrite s a b l).apertures = s.apertures := by obtain ⟨_, h⟩ := ephWrite_frame s a b l; rw [h]
@[simp] theorem ephWrite_sextants (s : State) (a b : Nat) (l : List Byte) : (ephWrite s a b l).sextants = s.sextants := by obtain ⟨_, h⟩ := ephWrite_frame s a b l; rw [h]
@[simp] theorem ephWrite_adc (s : State) (a b : Nat) (l : List Byte) : (ephWrite s a b l).adc = s.adc := by obtain ⟨_, h⟩ := ephWrite_frame s a b l; rw [h]
@[simp] theorem ephWrite_dacs (s : State) (a b : Nat) (l : List Byte) : (ephWrite s a b l).dacs = s.dacs := by obtain ⟨_, h⟩ := ephWrite_frame s a b l; rw [h]
@[simp] theorem ephWrite_eye (s : State) (a b : Nat) (l : List Byte) : (ephWrite s a b l).eye = s.eye := by obtain ⟨_, h⟩ := ephWrite_frame s a b l; rw [h]
@[simp] theorem ephWrite_hbm (s : State) (a b : Nat) (l : List Byte) : (ephWrite s a b l).hbm = s.hbm := by obtain ⟨_, h⟩ := ephWrite_frame s a b l; rw [h]
@[simp] theorem ephWrite_sheds (s : State) (a b : Nat) (l : List Byte) : (ephWrite s a b l).sheds = s.sheds := by obtain ⟨_, h⟩ := ephWrite_frame s a b l; rw [h]
@[simp] theorem ephWrite_handoff (s : State) (a b : Nat) (l : List Byte) : (ephWrite s a b l).handoff = s.handoff := by obtain ⟨_, h⟩ := ephWrite_frame s a b l; rw [h]
@[simp] theorem ephWrite_made (s : State) (a b : Nat) (l : List Byte) : (ephWrite s a b l).made = s.made := by obtain ⟨_, h⟩ := ephWrite_frame s a b l; rw [h]
@[simp] theorem ephWrite_taken (s : State) (a b : Nat) (l : List Byte) : (ephWrite s a b l).taken = s.taken := by obtain ⟨_, h⟩ := ephWrite_frame s a b l; rw [h]
@[simp] theorem ephWrite_plan (s : State) (a b : Nat) (l : List Byte) : (ephWrite s a b l).plan = s.plan := by obtain ⟨_, h⟩ := ephWrite_frame s a b l; rw [h]
@[simp] theorem ephWrite_psets (s : State) (a b : Nat) (l : List Byte) : (ephWrite s a b l).psets = s.psets := by obtain ⟨_, h⟩ := ephWrite_frame s a b l; rw [h]
@[simp] theorem ephWrite_admits (s : State) (a b : Nat) (l : List Byte) : (ephWrite s a b l).admits = s.admits := by obtain ⟨_, h⟩ := ephWrite_frame s a b l; rw [h]
@[simp] theorem ephWrite_mbx (s : State) (a b : Nat) (l : List Byte) : (ephWrite s a b l).mbx = s.mbx := by obtain ⟨_, h⟩ := ephWrite_frame s a b l; rw [h]
@[simp] theorem ephWrite_domes (s : State) (a b : Nat) (l : List Byte) : (ephWrite s a b l).domes = s.domes := by obtain ⟨_, h⟩ := ephWrite_frame s a b l; rw [h]
@[simp] theorem ephWrite_inflight (s : State) (a b : Nat) (l : List Byte) : (ephWrite s a b l).inflight = s.inflight := by obtain ⟨_, h⟩ := ephWrite_frame s a b l; rw [h]
@[simp] theorem ephWrite_held (s : State) (a b : Nat) (l : List Byte) : (ephWrite s a b l).held = s.held := by obtain ⟨_, h⟩ := ephWrite_frame s a b l; rw [h]
@[simp] theorem ephWrite_resolving (s : State) (a b : Nat) (l : List Byte) : (ephWrite s a b l).resolving = s.resolving := by obtain ⟨_, h⟩ := ephWrite_frame s a b l; rw [h]
@[simp] theorem ephWrite_capReads (s : State) (a b : Nat) (l : List Byte) : (ephWrite s a b l).capReads = s.capReads := by obtain ⟨_, h⟩ := ephWrite_frame s a b l; rw [h]
@[simp] theorem ephWrite_hostPorts (s : State) (a b : Nat) (l : List Byte) : (ephWrite s a b l).hostPorts = s.hostPorts := by obtain ⟨_, h⟩ := ephWrite_frame s a b l; rw [h]
@[simp] theorem ephWrite_router (s : State) (a b : Nat) (l : List Byte) : (ephWrite s a b l).router = s.router := by obtain ⟨_, h⟩ := ephWrite_frame s a b l; rw [h]
@[simp] theorem ephWrite_log (s : State) (a b : Nat) (l : List Byte) : (ephWrite s a b l).log = s.log := by obtain ⟨_, h⟩ := ephWrite_frame s a b l; rw [h]
@[simp] theorem ephWrite_meter (s : State) (a b : Nat) (l : List Byte) : (ephWrite s a b l).meter = s.meter := by obtain ⟨_, h⟩ := ephWrite_frame s a b l; rw [h]
@[simp] theorem ephWrite_regs (s : State) (a b : Nat) (l : List Byte) : (ephWrite s a b l).regs = s.regs := by obtain ⟨_, h⟩ := ephWrite_frame s a b l; rw [h]
@[simp] theorem ephWrite_dma (s : State) (a b : Nat) (l : List Byte) : (ephWrite s a b l).dma = s.dma := by obtain ⟨_, h⟩ := ephWrite_frame s a b l; rw [h]
@[simp] theorem ephWrite_out (s : State) (a b : Nat) (l : List Byte) : (ephWrite s a b l).out = s.out := by obtain ⟨_, h⟩ := ephWrite_frame s a b l; rw [h]
@[simp] theorem ephWrite_boot (s : State) (a b : Nat) (l : List Byte) : (ephWrite s a b l).boot = s.boot := by obtain ⟨_, h⟩ := ephWrite_frame s a b l; rw [h]
@[simp] theorem ephWrite_dbg (s : State) (a b : Nat) (l : List Byte) : (ephWrite s a b l).dbg = s.dbg := by obtain ⟨_, h⟩ := ephWrite_frame s a b l; rw [h]
@[simp] theorem ephWrite_free (s : State) (a b : Nat) (l : List Byte) : (ephWrite s a b l).free = s.free := by obtain ⟨_, h⟩ := ephWrite_frame s a b l; rw [h]
@[simp] theorem ephWrite_pending (s : State) (a b : Nat) (l : List Byte) : (ephWrite s a b l).pending = s.pending := by obtain ⟨_, h⟩ := ephWrite_frame s a b l; rw [h]

@[simp] theorem careEvent_dev (s : State) (a b : Nat) : (careEvent s a b).dev = s.dev := by obtain ⟨_,_, h⟩ := careEvent_frame s a b; rw [h]
@[simp] theorem careEvent_time (s : State) (a b : Nat) : (careEvent s a b).time = s.time := by obtain ⟨_,_, h⟩ := careEvent_frame s a b; rw [h]
@[simp] theorem careEvent_tdc (s : State) (a b : Nat) : (careEvent s a b).tdc = s.tdc := by obtain ⟨_,_, h⟩ := careEvent_frame s a b; rw [h]
@[simp] theorem careEvent_pairs (s : State) (a b : Nat) : (careEvent s a b).pairs = s.pairs := by obtain ⟨_,_, h⟩ := careEvent_frame s a b; rw [h]
@[simp] theorem careEvent_clk (s : State) (a b : Nat) : (careEvent s a b).clk = s.clk := by obtain ⟨_,_, h⟩ := careEvent_frame s a b; rw [h]
@[simp] theorem careEvent_ports (s : State) (a b : Nat) : (careEvent s a b).ports = s.ports := by obtain ⟨_,_, h⟩ := careEvent_frame s a b; rw [h]
@[simp] theorem careEvent_feeds (s : State) (a b : Nat) : (careEvent s a b).feeds = s.feeds := by obtain ⟨_,_, h⟩ := careEvent_frame s a b; rw [h]
@[simp] theorem careEvent_coarse (s : State) (a b : Nat) : (careEvent s a b).coarse = s.coarse := by obtain ⟨_,_, h⟩ := careEvent_frame s a b; rw [h]
@[simp] theorem careEvent_coefSets (s : State) (a b : Nat) : (careEvent s a b).coefSets = s.coefSets := by obtain ⟨_,_, h⟩ := careEvent_frame s a b; rw [h]
@[simp] theorem careEvent_zooms (s : State) (a b : Nat) : (careEvent s a b).zooms = s.zooms := by obtain ⟨_,_, h⟩ := careEvent_frame s a b; rw [h]
@[simp] theorem careEvent_sks (s : State) (a b : Nat) : (careEvent s a b).sks = s.sks := by obtain ⟨_,_, h⟩ := careEvent_frame s a b; rw [h]
@[simp] theorem careEvent_instrs (s : State) (a b : Nat) : (careEvent s a b).instrs = s.instrs := by obtain ⟨_,_, h⟩ := careEvent_frame s a b; rw [h]
@[simp] theorem careEvent_masks (s : State) (a b : Nat) : (careEvent s a b).masks = s.masks := by obtain ⟨_,_, h⟩ := careEvent_frame s a b; rw [h]
@[simp] theorem careEvent_plates (s : State) (a b : Nat) : (careEvent s a b).plates = s.plates := by obtain ⟨_,_, h⟩ := careEvent_frame s a b; rw [h]
@[simp] theorem careEvent_streams (s : State) (a b : Nat) : (careEvent s a b).streams = s.streams := by obtain ⟨_,_, h⟩ := careEvent_frame s a b; rw [h]
@[simp] theorem careEvent_flows (s : State) (a b : Nat) : (careEvent s a b).flows = s.flows := by obtain ⟨_,_, h⟩ := careEvent_frame s a b; rw [h]
@[simp] theorem careEvent_apertures (s : State) (a b : Nat) : (careEvent s a b).apertures = s.apertures := by obtain ⟨_,_, h⟩ := careEvent_frame s a b; rw [h]
@[simp] theorem careEvent_sextants (s : State) (a b : Nat) : (careEvent s a b).sextants = s.sextants := by obtain ⟨_,_, h⟩ := careEvent_frame s a b; rw [h]
@[simp] theorem careEvent_adc (s : State) (a b : Nat) : (careEvent s a b).adc = s.adc := by obtain ⟨_,_, h⟩ := careEvent_frame s a b; rw [h]
@[simp] theorem careEvent_dacs (s : State) (a b : Nat) : (careEvent s a b).dacs = s.dacs := by obtain ⟨_,_, h⟩ := careEvent_frame s a b; rw [h]
@[simp] theorem careEvent_eye (s : State) (a b : Nat) : (careEvent s a b).eye = s.eye := by obtain ⟨_,_, h⟩ := careEvent_frame s a b; rw [h]
@[simp] theorem careEvent_hbm (s : State) (a b : Nat) : (careEvent s a b).hbm = s.hbm := by obtain ⟨_,_, h⟩ := careEvent_frame s a b; rw [h]
@[simp] theorem careEvent_sheds (s : State) (a b : Nat) : (careEvent s a b).sheds = s.sheds := by obtain ⟨_,_, h⟩ := careEvent_frame s a b; rw [h]
@[simp] theorem careEvent_handoff (s : State) (a b : Nat) : (careEvent s a b).handoff = s.handoff := by obtain ⟨_,_, h⟩ := careEvent_frame s a b; rw [h]
@[simp] theorem careEvent_made (s : State) (a b : Nat) : (careEvent s a b).made = s.made := by obtain ⟨_,_, h⟩ := careEvent_frame s a b; rw [h]
@[simp] theorem careEvent_taken (s : State) (a b : Nat) : (careEvent s a b).taken = s.taken := by obtain ⟨_,_, h⟩ := careEvent_frame s a b; rw [h]
@[simp] theorem careEvent_plan (s : State) (a b : Nat) : (careEvent s a b).plan = s.plan := by obtain ⟨_,_, h⟩ := careEvent_frame s a b; rw [h]
@[simp] theorem careEvent_psets (s : State) (a b : Nat) : (careEvent s a b).psets = s.psets := by obtain ⟨_,_, h⟩ := careEvent_frame s a b; rw [h]
@[simp] theorem careEvent_admits (s : State) (a b : Nat) : (careEvent s a b).admits = s.admits := by obtain ⟨_,_, h⟩ := careEvent_frame s a b; rw [h]
@[simp] theorem careEvent_mbx (s : State) (a b : Nat) : (careEvent s a b).mbx = s.mbx := by obtain ⟨_,_, h⟩ := careEvent_frame s a b; rw [h]
@[simp] theorem careEvent_domes (s : State) (a b : Nat) : (careEvent s a b).domes = s.domes := by obtain ⟨_,_, h⟩ := careEvent_frame s a b; rw [h]
@[simp] theorem careEvent_inflight (s : State) (a b : Nat) : (careEvent s a b).inflight = s.inflight := by obtain ⟨_,_, h⟩ := careEvent_frame s a b; rw [h]
@[simp] theorem careEvent_held (s : State) (a b : Nat) : (careEvent s a b).held = s.held := by obtain ⟨_,_, h⟩ := careEvent_frame s a b; rw [h]
@[simp] theorem careEvent_resolving (s : State) (a b : Nat) : (careEvent s a b).resolving = s.resolving := by obtain ⟨_,_, h⟩ := careEvent_frame s a b; rw [h]
@[simp] theorem careEvent_capReads (s : State) (a b : Nat) : (careEvent s a b).capReads = s.capReads := by obtain ⟨_,_, h⟩ := careEvent_frame s a b; rw [h]
@[simp] theorem careEvent_hostPorts (s : State) (a b : Nat) : (careEvent s a b).hostPorts = s.hostPorts := by obtain ⟨_,_, h⟩ := careEvent_frame s a b; rw [h]
@[simp] theorem careEvent_log (s : State) (a b : Nat) : (careEvent s a b).log = s.log := by obtain ⟨_,_, h⟩ := careEvent_frame s a b; rw [h]
@[simp] theorem careEvent_meter (s : State) (a b : Nat) : (careEvent s a b).meter = s.meter := by obtain ⟨_,_, h⟩ := careEvent_frame s a b; rw [h]
@[simp] theorem careEvent_regs (s : State) (a b : Nat) : (careEvent s a b).regs = s.regs := by obtain ⟨_,_, h⟩ := careEvent_frame s a b; rw [h]
@[simp] theorem careEvent_dma (s : State) (a b : Nat) : (careEvent s a b).dma = s.dma := by obtain ⟨_,_, h⟩ := careEvent_frame s a b; rw [h]
@[simp] theorem careEvent_care (s : State) (a b : Nat) : (careEvent s a b).care = s.care := by obtain ⟨_,_, h⟩ := careEvent_frame s a b; rw [h]
@[simp] theorem careEvent_boot (s : State) (a b : Nat) : (careEvent s a b).boot = s.boot := by obtain ⟨_,_, h⟩ := careEvent_frame s a b; rw [h]
@[simp] theorem careEvent_dbg (s : State) (a b : Nat) : (careEvent s a b).dbg = s.dbg := by obtain ⟨_,_, h⟩ := careEvent_frame s a b; rw [h]
@[simp] theorem careEvent_free (s : State) (a b : Nat) : (careEvent s a b).free = s.free := by obtain ⟨_,_, h⟩ := careEvent_frame s a b; rw [h]
@[simp] theorem careEvent_pending (s : State) (a b : Nat) : (careEvent s a b).pending = s.pending := by obtain ⟨_,_, h⟩ := careEvent_frame s a b; rw [h]

@[simp] theorem setFig_dev (s : State) (a b : Nat) (v : Int) (o : Bool) : (setFig s a b v o).dev = s.dev := by obtain ⟨_,_,_, h⟩ := setFig_frame s a b v o; rw [h]
@[simp] theorem setFig_time (s : State) (a b : Nat) (v : Int) (o : Bool) : (setFig s a b v o).time = s.time := by obtain ⟨_,_,_, h⟩ := setFig_frame s a b v o; rw [h]
@[simp] theorem setFig_tdc (s : State) (a b : Nat) (v : Int) (o : Bool) : (setFig s a b v o).tdc = s.tdc := by obtain ⟨_,_,_, h⟩ := setFig_frame s a b v o; rw [h]
@[simp] theorem setFig_pairs (s : State) (a b : Nat) (v : Int) (o : Bool) : (setFig s a b v o).pairs = s.pairs := by obtain ⟨_,_,_, h⟩ := setFig_frame s a b v o; rw [h]
@[simp] theorem setFig_clk (s : State) (a b : Nat) (v : Int) (o : Bool) : (setFig s a b v o).clk = s.clk := by obtain ⟨_,_,_, h⟩ := setFig_frame s a b v o; rw [h]
@[simp] theorem setFig_ports (s : State) (a b : Nat) (v : Int) (o : Bool) : (setFig s a b v o).ports = s.ports := by obtain ⟨_,_,_, h⟩ := setFig_frame s a b v o; rw [h]
@[simp] theorem setFig_feeds (s : State) (a b : Nat) (v : Int) (o : Bool) : (setFig s a b v o).feeds = s.feeds := by obtain ⟨_,_,_, h⟩ := setFig_frame s a b v o; rw [h]
@[simp] theorem setFig_coarse (s : State) (a b : Nat) (v : Int) (o : Bool) : (setFig s a b v o).coarse = s.coarse := by obtain ⟨_,_,_, h⟩ := setFig_frame s a b v o; rw [h]
@[simp] theorem setFig_coefSets (s : State) (a b : Nat) (v : Int) (o : Bool) : (setFig s a b v o).coefSets = s.coefSets := by obtain ⟨_,_,_, h⟩ := setFig_frame s a b v o; rw [h]
@[simp] theorem setFig_zooms (s : State) (a b : Nat) (v : Int) (o : Bool) : (setFig s a b v o).zooms = s.zooms := by obtain ⟨_,_,_, h⟩ := setFig_frame s a b v o; rw [h]
@[simp] theorem setFig_sks (s : State) (a b : Nat) (v : Int) (o : Bool) : (setFig s a b v o).sks = s.sks := by obtain ⟨_,_,_, h⟩ := setFig_frame s a b v o; rw [h]
@[simp] theorem setFig_instrs (s : State) (a b : Nat) (v : Int) (o : Bool) : (setFig s a b v o).instrs = s.instrs := by obtain ⟨_,_,_, h⟩ := setFig_frame s a b v o; rw [h]
@[simp] theorem setFig_masks (s : State) (a b : Nat) (v : Int) (o : Bool) : (setFig s a b v o).masks = s.masks := by obtain ⟨_,_,_, h⟩ := setFig_frame s a b v o; rw [h]
@[simp] theorem setFig_plates (s : State) (a b : Nat) (v : Int) (o : Bool) : (setFig s a b v o).plates = s.plates := by obtain ⟨_,_,_, h⟩ := setFig_frame s a b v o; rw [h]
@[simp] theorem setFig_streams (s : State) (a b : Nat) (v : Int) (o : Bool) : (setFig s a b v o).streams = s.streams := by obtain ⟨_,_,_, h⟩ := setFig_frame s a b v o; rw [h]
@[simp] theorem setFig_flows (s : State) (a b : Nat) (v : Int) (o : Bool) : (setFig s a b v o).flows = s.flows := by obtain ⟨_,_,_, h⟩ := setFig_frame s a b v o; rw [h]
@[simp] theorem setFig_apertures (s : State) (a b : Nat) (v : Int) (o : Bool) : (setFig s a b v o).apertures = s.apertures := by obtain ⟨_,_,_, h⟩ := setFig_frame s a b v o; rw [h]
@[simp] theorem setFig_sextants (s : State) (a b : Nat) (v : Int) (o : Bool) : (setFig s a b v o).sextants = s.sextants := by obtain ⟨_,_,_, h⟩ := setFig_frame s a b v o; rw [h]
@[simp] theorem setFig_adc (s : State) (a b : Nat) (v : Int) (o : Bool) : (setFig s a b v o).adc = s.adc := by obtain ⟨_,_,_, h⟩ := setFig_frame s a b v o; rw [h]
@[simp] theorem setFig_dacs (s : State) (a b : Nat) (v : Int) (o : Bool) : (setFig s a b v o).dacs = s.dacs := by obtain ⟨_,_,_, h⟩ := setFig_frame s a b v o; rw [h]
@[simp] theorem setFig_eye (s : State) (a b : Nat) (v : Int) (o : Bool) : (setFig s a b v o).eye = s.eye := by obtain ⟨_,_,_, h⟩ := setFig_frame s a b v o; rw [h]
@[simp] theorem setFig_hbm (s : State) (a b : Nat) (v : Int) (o : Bool) : (setFig s a b v o).hbm = s.hbm := by obtain ⟨_,_,_, h⟩ := setFig_frame s a b v o; rw [h]
@[simp] theorem setFig_sheds (s : State) (a b : Nat) (v : Int) (o : Bool) : (setFig s a b v o).sheds = s.sheds := by obtain ⟨_,_,_, h⟩ := setFig_frame s a b v o; rw [h]
@[simp] theorem setFig_handoff (s : State) (a b : Nat) (v : Int) (o : Bool) : (setFig s a b v o).handoff = s.handoff := by obtain ⟨_,_,_, h⟩ := setFig_frame s a b v o; rw [h]
@[simp] theorem setFig_made (s : State) (a b : Nat) (v : Int) (o : Bool) : (setFig s a b v o).made = s.made := by obtain ⟨_,_,_, h⟩ := setFig_frame s a b v o; rw [h]
@[simp] theorem setFig_taken (s : State) (a b : Nat) (v : Int) (o : Bool) : (setFig s a b v o).taken = s.taken := by obtain ⟨_,_,_, h⟩ := setFig_frame s a b v o; rw [h]
@[simp] theorem setFig_plan (s : State) (a b : Nat) (v : Int) (o : Bool) : (setFig s a b v o).plan = s.plan := by obtain ⟨_,_,_, h⟩ := setFig_frame s a b v o; rw [h]
@[simp] theorem setFig_psets (s : State) (a b : Nat) (v : Int) (o : Bool) : (setFig s a b v o).psets = s.psets := by obtain ⟨_,_,_, h⟩ := setFig_frame s a b v o; rw [h]
@[simp] theorem setFig_admits (s : State) (a b : Nat) (v : Int) (o : Bool) : (setFig s a b v o).admits = s.admits := by obtain ⟨_,_,_, h⟩ := setFig_frame s a b v o; rw [h]
@[simp] theorem setFig_mbx (s : State) (a b : Nat) (v : Int) (o : Bool) : (setFig s a b v o).mbx = s.mbx := by obtain ⟨_,_,_, h⟩ := setFig_frame s a b v o; rw [h]
@[simp] theorem setFig_domes (s : State) (a b : Nat) (v : Int) (o : Bool) : (setFig s a b v o).domes = s.domes := by obtain ⟨_,_,_, h⟩ := setFig_frame s a b v o; rw [h]
@[simp] theorem setFig_inflight (s : State) (a b : Nat) (v : Int) (o : Bool) : (setFig s a b v o).inflight = s.inflight := by obtain ⟨_,_,_, h⟩ := setFig_frame s a b v o; rw [h]
@[simp] theorem setFig_held (s : State) (a b : Nat) (v : Int) (o : Bool) : (setFig s a b v o).held = s.held := by obtain ⟨_,_,_, h⟩ := setFig_frame s a b v o; rw [h]
@[simp] theorem setFig_resolving (s : State) (a b : Nat) (v : Int) (o : Bool) : (setFig s a b v o).resolving = s.resolving := by obtain ⟨_,_,_, h⟩ := setFig_frame s a b v o; rw [h]
@[simp] theorem setFig_capReads (s : State) (a b : Nat) (v : Int) (o : Bool) : (setFig s a b v o).capReads = s.capReads := by obtain ⟨_,_,_, h⟩ := setFig_frame s a b v o; rw [h]
@[simp] theorem setFig_hostPorts (s : State) (a b : Nat) (v : Int) (o : Bool) : (setFig s a b v o).hostPorts = s.hostPorts := by obtain ⟨_,_,_, h⟩ := setFig_frame s a b v o; rw [h]
@[simp] theorem setFig_log (s : State) (a b : Nat) (v : Int) (o : Bool) : (setFig s a b v o).log = s.log := by obtain ⟨_,_,_, h⟩ := setFig_frame s a b v o; rw [h]
@[simp] theorem setFig_meter (s : State) (a b : Nat) (v : Int) (o : Bool) : (setFig s a b v o).meter = s.meter := by obtain ⟨_,_,_, h⟩ := setFig_frame s a b v o; rw [h]
@[simp] theorem setFig_regs (s : State) (a b : Nat) (v : Int) (o : Bool) : (setFig s a b v o).regs = s.regs := by obtain ⟨_,_,_, h⟩ := setFig_frame s a b v o; rw [h]
@[simp] theorem setFig_dma (s : State) (a b : Nat) (v : Int) (o : Bool) : (setFig s a b v o).dma = s.dma := by obtain ⟨_,_,_, h⟩ := setFig_frame s a b v o; rw [h]
@[simp] theorem setFig_boot (s : State) (a b : Nat) (v : Int) (o : Bool) : (setFig s a b v o).boot = s.boot := by obtain ⟨_,_,_, h⟩ := setFig_frame s a b v o; rw [h]
@[simp] theorem setFig_dbg (s : State) (a b : Nat) (v : Int) (o : Bool) : (setFig s a b v o).dbg = s.dbg := by obtain ⟨_,_,_, h⟩ := setFig_frame s a b v o; rw [h]
@[simp] theorem setFig_free (s : State) (a b : Nat) (v : Int) (o : Bool) : (setFig s a b v o).free = s.free := by obtain ⟨_,_,_, h⟩ := setFig_frame s a b v o; rw [h]
@[simp] theorem setFig_pending (s : State) (a b : Nat) (v : Int) (o : Bool) : (setFig s a b v o).pending = s.pending := by obtain ⟨_,_,_, h⟩ := setFig_frame s a b v o; rw [h]

@[simp] theorem staleFig_dev (s : State) (a b : Nat) : (staleFig s a b).dev = s.dev := by obtain ⟨_, h⟩ := staleFig_frame s a b; rw [h]
@[simp] theorem staleFig_time (s : State) (a b : Nat) : (staleFig s a b).time = s.time := by obtain ⟨_, h⟩ := staleFig_frame s a b; rw [h]
@[simp] theorem staleFig_tdc (s : State) (a b : Nat) : (staleFig s a b).tdc = s.tdc := by obtain ⟨_, h⟩ := staleFig_frame s a b; rw [h]
@[simp] theorem staleFig_pairs (s : State) (a b : Nat) : (staleFig s a b).pairs = s.pairs := by obtain ⟨_, h⟩ := staleFig_frame s a b; rw [h]
@[simp] theorem staleFig_clk (s : State) (a b : Nat) : (staleFig s a b).clk = s.clk := by obtain ⟨_, h⟩ := staleFig_frame s a b; rw [h]
@[simp] theorem staleFig_ports (s : State) (a b : Nat) : (staleFig s a b).ports = s.ports := by obtain ⟨_, h⟩ := staleFig_frame s a b; rw [h]
@[simp] theorem staleFig_feeds (s : State) (a b : Nat) : (staleFig s a b).feeds = s.feeds := by obtain ⟨_, h⟩ := staleFig_frame s a b; rw [h]
@[simp] theorem staleFig_coarse (s : State) (a b : Nat) : (staleFig s a b).coarse = s.coarse := by obtain ⟨_, h⟩ := staleFig_frame s a b; rw [h]
@[simp] theorem staleFig_coefSets (s : State) (a b : Nat) : (staleFig s a b).coefSets = s.coefSets := by obtain ⟨_, h⟩ := staleFig_frame s a b; rw [h]
@[simp] theorem staleFig_zooms (s : State) (a b : Nat) : (staleFig s a b).zooms = s.zooms := by obtain ⟨_, h⟩ := staleFig_frame s a b; rw [h]
@[simp] theorem staleFig_sks (s : State) (a b : Nat) : (staleFig s a b).sks = s.sks := by obtain ⟨_, h⟩ := staleFig_frame s a b; rw [h]
@[simp] theorem staleFig_instrs (s : State) (a b : Nat) : (staleFig s a b).instrs = s.instrs := by obtain ⟨_, h⟩ := staleFig_frame s a b; rw [h]
@[simp] theorem staleFig_masks (s : State) (a b : Nat) : (staleFig s a b).masks = s.masks := by obtain ⟨_, h⟩ := staleFig_frame s a b; rw [h]
@[simp] theorem staleFig_plates (s : State) (a b : Nat) : (staleFig s a b).plates = s.plates := by obtain ⟨_, h⟩ := staleFig_frame s a b; rw [h]
@[simp] theorem staleFig_streams (s : State) (a b : Nat) : (staleFig s a b).streams = s.streams := by obtain ⟨_, h⟩ := staleFig_frame s a b; rw [h]
@[simp] theorem staleFig_flows (s : State) (a b : Nat) : (staleFig s a b).flows = s.flows := by obtain ⟨_, h⟩ := staleFig_frame s a b; rw [h]
@[simp] theorem staleFig_apertures (s : State) (a b : Nat) : (staleFig s a b).apertures = s.apertures := by obtain ⟨_, h⟩ := staleFig_frame s a b; rw [h]
@[simp] theorem staleFig_sextants (s : State) (a b : Nat) : (staleFig s a b).sextants = s.sextants := by obtain ⟨_, h⟩ := staleFig_frame s a b; rw [h]
@[simp] theorem staleFig_adc (s : State) (a b : Nat) : (staleFig s a b).adc = s.adc := by obtain ⟨_, h⟩ := staleFig_frame s a b; rw [h]
@[simp] theorem staleFig_dacs (s : State) (a b : Nat) : (staleFig s a b).dacs = s.dacs := by obtain ⟨_, h⟩ := staleFig_frame s a b; rw [h]
@[simp] theorem staleFig_eye (s : State) (a b : Nat) : (staleFig s a b).eye = s.eye := by obtain ⟨_, h⟩ := staleFig_frame s a b; rw [h]
@[simp] theorem staleFig_hbm (s : State) (a b : Nat) : (staleFig s a b).hbm = s.hbm := by obtain ⟨_, h⟩ := staleFig_frame s a b; rw [h]
@[simp] theorem staleFig_sheds (s : State) (a b : Nat) : (staleFig s a b).sheds = s.sheds := by obtain ⟨_, h⟩ := staleFig_frame s a b; rw [h]
@[simp] theorem staleFig_handoff (s : State) (a b : Nat) : (staleFig s a b).handoff = s.handoff := by obtain ⟨_, h⟩ := staleFig_frame s a b; rw [h]
@[simp] theorem staleFig_made (s : State) (a b : Nat) : (staleFig s a b).made = s.made := by obtain ⟨_, h⟩ := staleFig_frame s a b; rw [h]
@[simp] theorem staleFig_taken (s : State) (a b : Nat) : (staleFig s a b).taken = s.taken := by obtain ⟨_, h⟩ := staleFig_frame s a b; rw [h]
@[simp] theorem staleFig_plan (s : State) (a b : Nat) : (staleFig s a b).plan = s.plan := by obtain ⟨_, h⟩ := staleFig_frame s a b; rw [h]
@[simp] theorem staleFig_psets (s : State) (a b : Nat) : (staleFig s a b).psets = s.psets := by obtain ⟨_, h⟩ := staleFig_frame s a b; rw [h]
@[simp] theorem staleFig_admits (s : State) (a b : Nat) : (staleFig s a b).admits = s.admits := by obtain ⟨_, h⟩ := staleFig_frame s a b; rw [h]
@[simp] theorem staleFig_mbx (s : State) (a b : Nat) : (staleFig s a b).mbx = s.mbx := by obtain ⟨_, h⟩ := staleFig_frame s a b; rw [h]
@[simp] theorem staleFig_domes (s : State) (a b : Nat) : (staleFig s a b).domes = s.domes := by obtain ⟨_, h⟩ := staleFig_frame s a b; rw [h]
@[simp] theorem staleFig_inflight (s : State) (a b : Nat) : (staleFig s a b).inflight = s.inflight := by obtain ⟨_, h⟩ := staleFig_frame s a b; rw [h]
@[simp] theorem staleFig_held (s : State) (a b : Nat) : (staleFig s a b).held = s.held := by obtain ⟨_, h⟩ := staleFig_frame s a b; rw [h]
@[simp] theorem staleFig_resolving (s : State) (a b : Nat) : (staleFig s a b).resolving = s.resolving := by obtain ⟨_, h⟩ := staleFig_frame s a b; rw [h]
@[simp] theorem staleFig_capReads (s : State) (a b : Nat) : (staleFig s a b).capReads = s.capReads := by obtain ⟨_, h⟩ := staleFig_frame s a b; rw [h]
@[simp] theorem staleFig_hostPorts (s : State) (a b : Nat) : (staleFig s a b).hostPorts = s.hostPorts := by obtain ⟨_, h⟩ := staleFig_frame s a b; rw [h]
@[simp] theorem staleFig_router (s : State) (a b : Nat) : (staleFig s a b).router = s.router := by obtain ⟨_, h⟩ := staleFig_frame s a b; rw [h]
@[simp] theorem staleFig_log (s : State) (a b : Nat) : (staleFig s a b).log = s.log := by obtain ⟨_, h⟩ := staleFig_frame s a b; rw [h]
@[simp] theorem staleFig_meter (s : State) (a b : Nat) : (staleFig s a b).meter = s.meter := by obtain ⟨_, h⟩ := staleFig_frame s a b; rw [h]
@[simp] theorem staleFig_regs (s : State) (a b : Nat) : (staleFig s a b).regs = s.regs := by obtain ⟨_, h⟩ := staleFig_frame s a b; rw [h]
@[simp] theorem staleFig_dma (s : State) (a b : Nat) : (staleFig s a b).dma = s.dma := by obtain ⟨_, h⟩ := staleFig_frame s a b; rw [h]
@[simp] theorem staleFig_out (s : State) (a b : Nat) : (staleFig s a b).out = s.out := by obtain ⟨_, h⟩ := staleFig_frame s a b; rw [h]
@[simp] theorem staleFig_boot (s : State) (a b : Nat) : (staleFig s a b).boot = s.boot := by obtain ⟨_, h⟩ := staleFig_frame s a b; rw [h]
@[simp] theorem staleFig_dbg (s : State) (a b : Nat) : (staleFig s a b).dbg = s.dbg := by obtain ⟨_, h⟩ := staleFig_frame s a b; rw [h]
@[simp] theorem staleFig_free (s : State) (a b : Nat) : (staleFig s a b).free = s.free := by obtain ⟨_, h⟩ := staleFig_frame s a b; rw [h]
@[simp] theorem staleFig_pending (s : State) (a b : Nat) : (staleFig s a b).pending = s.pending := by obtain ⟨_, h⟩ := staleFig_frame s a b; rw [h]

@[simp] theorem saveSetting_dev (s : State) (k : Nat) (f : Settings → Settings) : (saveSetting s k f).dev = s.dev := by obtain ⟨_, h⟩ := saveSetting_frame s k f; rw [h]
@[simp] theorem saveSetting_time (s : State) (k : Nat) (f : Settings → Settings) : (saveSetting s k f).time = s.time := by obtain ⟨_, h⟩ := saveSetting_frame s k f; rw [h]
@[simp] theorem saveSetting_tdc (s : State) (k : Nat) (f : Settings → Settings) : (saveSetting s k f).tdc = s.tdc := by obtain ⟨_, h⟩ := saveSetting_frame s k f; rw [h]
@[simp] theorem saveSetting_pairs (s : State) (k : Nat) (f : Settings → Settings) : (saveSetting s k f).pairs = s.pairs := by obtain ⟨_, h⟩ := saveSetting_frame s k f; rw [h]
@[simp] theorem saveSetting_clk (s : State) (k : Nat) (f : Settings → Settings) : (saveSetting s k f).clk = s.clk := by obtain ⟨_, h⟩ := saveSetting_frame s k f; rw [h]
@[simp] theorem saveSetting_ports (s : State) (k : Nat) (f : Settings → Settings) : (saveSetting s k f).ports = s.ports := by obtain ⟨_, h⟩ := saveSetting_frame s k f; rw [h]
@[simp] theorem saveSetting_feeds (s : State) (k : Nat) (f : Settings → Settings) : (saveSetting s k f).feeds = s.feeds := by obtain ⟨_, h⟩ := saveSetting_frame s k f; rw [h]
@[simp] theorem saveSetting_coarse (s : State) (k : Nat) (f : Settings → Settings) : (saveSetting s k f).coarse = s.coarse := by obtain ⟨_, h⟩ := saveSetting_frame s k f; rw [h]
@[simp] theorem saveSetting_coefSets (s : State) (k : Nat) (f : Settings → Settings) : (saveSetting s k f).coefSets = s.coefSets := by obtain ⟨_, h⟩ := saveSetting_frame s k f; rw [h]
@[simp] theorem saveSetting_zooms (s : State) (k : Nat) (f : Settings → Settings) : (saveSetting s k f).zooms = s.zooms := by obtain ⟨_, h⟩ := saveSetting_frame s k f; rw [h]
@[simp] theorem saveSetting_sks (s : State) (k : Nat) (f : Settings → Settings) : (saveSetting s k f).sks = s.sks := by obtain ⟨_, h⟩ := saveSetting_frame s k f; rw [h]
@[simp] theorem saveSetting_instrs (s : State) (k : Nat) (f : Settings → Settings) : (saveSetting s k f).instrs = s.instrs := by obtain ⟨_, h⟩ := saveSetting_frame s k f; rw [h]
@[simp] theorem saveSetting_masks (s : State) (k : Nat) (f : Settings → Settings) : (saveSetting s k f).masks = s.masks := by obtain ⟨_, h⟩ := saveSetting_frame s k f; rw [h]
@[simp] theorem saveSetting_plates (s : State) (k : Nat) (f : Settings → Settings) : (saveSetting s k f).plates = s.plates := by obtain ⟨_, h⟩ := saveSetting_frame s k f; rw [h]
@[simp] theorem saveSetting_streams (s : State) (k : Nat) (f : Settings → Settings) : (saveSetting s k f).streams = s.streams := by obtain ⟨_, h⟩ := saveSetting_frame s k f; rw [h]
@[simp] theorem saveSetting_flows (s : State) (k : Nat) (f : Settings → Settings) : (saveSetting s k f).flows = s.flows := by obtain ⟨_, h⟩ := saveSetting_frame s k f; rw [h]
@[simp] theorem saveSetting_apertures (s : State) (k : Nat) (f : Settings → Settings) : (saveSetting s k f).apertures = s.apertures := by obtain ⟨_, h⟩ := saveSetting_frame s k f; rw [h]
@[simp] theorem saveSetting_sextants (s : State) (k : Nat) (f : Settings → Settings) : (saveSetting s k f).sextants = s.sextants := by obtain ⟨_, h⟩ := saveSetting_frame s k f; rw [h]
@[simp] theorem saveSetting_adc (s : State) (k : Nat) (f : Settings → Settings) : (saveSetting s k f).adc = s.adc := by obtain ⟨_, h⟩ := saveSetting_frame s k f; rw [h]
@[simp] theorem saveSetting_dacs (s : State) (k : Nat) (f : Settings → Settings) : (saveSetting s k f).dacs = s.dacs := by obtain ⟨_, h⟩ := saveSetting_frame s k f; rw [h]
@[simp] theorem saveSetting_eye (s : State) (k : Nat) (f : Settings → Settings) : (saveSetting s k f).eye = s.eye := by obtain ⟨_, h⟩ := saveSetting_frame s k f; rw [h]
@[simp] theorem saveSetting_hbm (s : State) (k : Nat) (f : Settings → Settings) : (saveSetting s k f).hbm = s.hbm := by obtain ⟨_, h⟩ := saveSetting_frame s k f; rw [h]
@[simp] theorem saveSetting_sheds (s : State) (k : Nat) (f : Settings → Settings) : (saveSetting s k f).sheds = s.sheds := by obtain ⟨_, h⟩ := saveSetting_frame s k f; rw [h]
@[simp] theorem saveSetting_handoff (s : State) (k : Nat) (f : Settings → Settings) : (saveSetting s k f).handoff = s.handoff := by obtain ⟨_, h⟩ := saveSetting_frame s k f; rw [h]
@[simp] theorem saveSetting_made (s : State) (k : Nat) (f : Settings → Settings) : (saveSetting s k f).made = s.made := by obtain ⟨_, h⟩ := saveSetting_frame s k f; rw [h]
@[simp] theorem saveSetting_taken (s : State) (k : Nat) (f : Settings → Settings) : (saveSetting s k f).taken = s.taken := by obtain ⟨_, h⟩ := saveSetting_frame s k f; rw [h]
@[simp] theorem saveSetting_plan (s : State) (k : Nat) (f : Settings → Settings) : (saveSetting s k f).plan = s.plan := by obtain ⟨_, h⟩ := saveSetting_frame s k f; rw [h]
@[simp] theorem saveSetting_psets (s : State) (k : Nat) (f : Settings → Settings) : (saveSetting s k f).psets = s.psets := by obtain ⟨_, h⟩ := saveSetting_frame s k f; rw [h]
@[simp] theorem saveSetting_admits (s : State) (k : Nat) (f : Settings → Settings) : (saveSetting s k f).admits = s.admits := by obtain ⟨_, h⟩ := saveSetting_frame s k f; rw [h]
@[simp] theorem saveSetting_mbx (s : State) (k : Nat) (f : Settings → Settings) : (saveSetting s k f).mbx = s.mbx := by obtain ⟨_, h⟩ := saveSetting_frame s k f; rw [h]
@[simp] theorem saveSetting_domes (s : State) (k : Nat) (f : Settings → Settings) : (saveSetting s k f).domes = s.domes := by obtain ⟨_, h⟩ := saveSetting_frame s k f; rw [h]
@[simp] theorem saveSetting_inflight (s : State) (k : Nat) (f : Settings → Settings) : (saveSetting s k f).inflight = s.inflight := by obtain ⟨_, h⟩ := saveSetting_frame s k f; rw [h]
@[simp] theorem saveSetting_held (s : State) (k : Nat) (f : Settings → Settings) : (saveSetting s k f).held = s.held := by obtain ⟨_, h⟩ := saveSetting_frame s k f; rw [h]
@[simp] theorem saveSetting_resolving (s : State) (k : Nat) (f : Settings → Settings) : (saveSetting s k f).resolving = s.resolving := by obtain ⟨_, h⟩ := saveSetting_frame s k f; rw [h]
@[simp] theorem saveSetting_capReads (s : State) (k : Nat) (f : Settings → Settings) : (saveSetting s k f).capReads = s.capReads := by obtain ⟨_, h⟩ := saveSetting_frame s k f; rw [h]
@[simp] theorem saveSetting_hostPorts (s : State) (k : Nat) (f : Settings → Settings) : (saveSetting s k f).hostPorts = s.hostPorts := by obtain ⟨_, h⟩ := saveSetting_frame s k f; rw [h]
@[simp] theorem saveSetting_router (s : State) (k : Nat) (f : Settings → Settings) : (saveSetting s k f).router = s.router := by obtain ⟨_, h⟩ := saveSetting_frame s k f; rw [h]
@[simp] theorem saveSetting_log (s : State) (k : Nat) (f : Settings → Settings) : (saveSetting s k f).log = s.log := by obtain ⟨_, h⟩ := saveSetting_frame s k f; rw [h]
@[simp] theorem saveSetting_meter (s : State) (k : Nat) (f : Settings → Settings) : (saveSetting s k f).meter = s.meter := by obtain ⟨_, h⟩ := saveSetting_frame s k f; rw [h]
@[simp] theorem saveSetting_regs (s : State) (k : Nat) (f : Settings → Settings) : (saveSetting s k f).regs = s.regs := by obtain ⟨_, h⟩ := saveSetting_frame s k f; rw [h]
@[simp] theorem saveSetting_dma (s : State) (k : Nat) (f : Settings → Settings) : (saveSetting s k f).dma = s.dma := by obtain ⟨_, h⟩ := saveSetting_frame s k f; rw [h]
@[simp] theorem saveSetting_out (s : State) (k : Nat) (f : Settings → Settings) : (saveSetting s k f).out = s.out := by obtain ⟨_, h⟩ := saveSetting_frame s k f; rw [h]
@[simp] theorem saveSetting_care (s : State) (k : Nat) (f : Settings → Settings) : (saveSetting s k f).care = s.care := by obtain ⟨_, h⟩ := saveSetting_frame s k f; rw [h]
@[simp] theorem saveSetting_dbg (s : State) (k : Nat) (f : Settings → Settings) : (saveSetting s k f).dbg = s.dbg := by obtain ⟨_, h⟩ := saveSetting_frame s k f; rw [h]
@[simp] theorem saveSetting_free (s : State) (k : Nat) (f : Settings → Settings) : (saveSetting s k f).free = s.free := by obtain ⟨_, h⟩ := saveSetting_frame s k f; rw [h]
@[simp] theorem saveSetting_pending (s : State) (k : Nat) (f : Settings → Settings) : (saveSetting s k f).pending = s.pending := by obtain ⟨_, h⟩ := saveSetting_frame s k f; rw [h]

/-- Entering a state moves the device there. -/
@[simp] theorem enterState_dev (s : State) (d : DevState) : (enterState s d).dev = { s.dev with st := d } := by obtain ⟨_, _, _, _, h⟩ := enterState_frame s d; rw [h]
@[simp] theorem enterState_time (s : State) (d : DevState) : (enterState s d).time = s.time := by obtain ⟨_, _, _, _, h⟩ := enterState_frame s d; rw [h]
@[simp] theorem enterState_tdc (s : State) (d : DevState) : (enterState s d).tdc = s.tdc := by obtain ⟨_, _, _, _, h⟩ := enterState_frame s d; rw [h]
@[simp] theorem enterState_pairs (s : State) (d : DevState) : (enterState s d).pairs = s.pairs := by obtain ⟨_, _, _, _, h⟩ := enterState_frame s d; rw [h]
@[simp] theorem enterState_clk (s : State) (d : DevState) : (enterState s d).clk = s.clk := by obtain ⟨_, _, _, _, h⟩ := enterState_frame s d; rw [h]
@[simp] theorem enterState_ports (s : State) (d : DevState) : (enterState s d).ports = s.ports := by obtain ⟨_, _, _, _, h⟩ := enterState_frame s d; rw [h]
@[simp] theorem enterState_feeds (s : State) (d : DevState) : (enterState s d).feeds = s.feeds := by obtain ⟨_, _, _, _, h⟩ := enterState_frame s d; rw [h]
@[simp] theorem enterState_coarse (s : State) (d : DevState) : (enterState s d).coarse = s.coarse := by obtain ⟨_, _, _, _, h⟩ := enterState_frame s d; rw [h]
@[simp] theorem enterState_coefSets (s : State) (d : DevState) : (enterState s d).coefSets = s.coefSets := by obtain ⟨_, _, _, _, h⟩ := enterState_frame s d; rw [h]
@[simp] theorem enterState_zooms (s : State) (d : DevState) : (enterState s d).zooms = s.zooms := by obtain ⟨_, _, _, _, h⟩ := enterState_frame s d; rw [h]
@[simp] theorem enterState_sks (s : State) (d : DevState) : (enterState s d).sks = s.sks := by obtain ⟨_, _, _, _, h⟩ := enterState_frame s d; rw [h]
@[simp] theorem enterState_instrs (s : State) (d : DevState) : (enterState s d).instrs = s.instrs := by obtain ⟨_, _, _, _, h⟩ := enterState_frame s d; rw [h]
@[simp] theorem enterState_masks (s : State) (d : DevState) : (enterState s d).masks = s.masks := by obtain ⟨_, _, _, _, h⟩ := enterState_frame s d; rw [h]
@[simp] theorem enterState_plates (s : State) (d : DevState) : (enterState s d).plates = s.plates := by obtain ⟨_, _, _, _, h⟩ := enterState_frame s d; rw [h]
@[simp] theorem enterState_streams (s : State) (d : DevState) : (enterState s d).streams = s.streams := by obtain ⟨_, _, _, _, h⟩ := enterState_frame s d; rw [h]
@[simp] theorem enterState_flows (s : State) (d : DevState) : (enterState s d).flows = s.flows := by obtain ⟨_, _, _, _, h⟩ := enterState_frame s d; rw [h]
@[simp] theorem enterState_apertures (s : State) (d : DevState) : (enterState s d).apertures = s.apertures := by obtain ⟨_, _, _, _, h⟩ := enterState_frame s d; rw [h]
@[simp] theorem enterState_sextants (s : State) (d : DevState) : (enterState s d).sextants = s.sextants := by obtain ⟨_, _, _, _, h⟩ := enterState_frame s d; rw [h]
@[simp] theorem enterState_adc (s : State) (d : DevState) : (enterState s d).adc = s.adc := by obtain ⟨_, _, _, _, h⟩ := enterState_frame s d; rw [h]
@[simp] theorem enterState_dacs (s : State) (d : DevState) : (enterState s d).dacs = s.dacs := by obtain ⟨_, _, _, _, h⟩ := enterState_frame s d; rw [h]
@[simp] theorem enterState_eye (s : State) (d : DevState) : (enterState s d).eye = s.eye := by obtain ⟨_, _, _, _, h⟩ := enterState_frame s d; rw [h]
@[simp] theorem enterState_hbm (s : State) (d : DevState) : (enterState s d).hbm = s.hbm := by obtain ⟨_, _, _, _, h⟩ := enterState_frame s d; rw [h]
@[simp] theorem enterState_sheds (s : State) (d : DevState) : (enterState s d).sheds = s.sheds := by obtain ⟨_, _, _, _, h⟩ := enterState_frame s d; rw [h]
@[simp] theorem enterState_handoff (s : State) (d : DevState) : (enterState s d).handoff = s.handoff := by obtain ⟨_, _, _, _, h⟩ := enterState_frame s d; rw [h]
@[simp] theorem enterState_made (s : State) (d : DevState) : (enterState s d).made = s.made := by obtain ⟨_, _, _, _, h⟩ := enterState_frame s d; rw [h]
@[simp] theorem enterState_taken (s : State) (d : DevState) : (enterState s d).taken = s.taken := by obtain ⟨_, _, _, _, h⟩ := enterState_frame s d; rw [h]
@[simp] theorem enterState_plan (s : State) (d : DevState) : (enterState s d).plan = s.plan := by obtain ⟨_, _, _, _, h⟩ := enterState_frame s d; rw [h]
@[simp] theorem enterState_psets (s : State) (d : DevState) : (enterState s d).psets = s.psets := by obtain ⟨_, _, _, _, h⟩ := enterState_frame s d; rw [h]
@[simp] theorem enterState_admits (s : State) (d : DevState) : (enterState s d).admits = s.admits := by obtain ⟨_, _, _, _, h⟩ := enterState_frame s d; rw [h]
@[simp] theorem enterState_domes (s : State) (d : DevState) : (enterState s d).domes = s.domes := by obtain ⟨_, _, _, _, h⟩ := enterState_frame s d; rw [h]
@[simp] theorem enterState_inflight (s : State) (d : DevState) : (enterState s d).inflight = s.inflight := by obtain ⟨_, _, _, _, h⟩ := enterState_frame s d; rw [h]
@[simp] theorem enterState_held (s : State) (d : DevState) : (enterState s d).held = s.held := by obtain ⟨_, _, _, _, h⟩ := enterState_frame s d; rw [h]
@[simp] theorem enterState_resolving (s : State) (d : DevState) : (enterState s d).resolving = s.resolving := by obtain ⟨_, _, _, _, h⟩ := enterState_frame s d; rw [h]
@[simp] theorem enterState_capReads (s : State) (d : DevState) : (enterState s d).capReads = s.capReads := by obtain ⟨_, _, _, _, h⟩ := enterState_frame s d; rw [h]
@[simp] theorem enterState_hostPorts (s : State) (d : DevState) : (enterState s d).hostPorts = s.hostPorts := by obtain ⟨_, _, _, _, h⟩ := enterState_frame s d; rw [h]
@[simp] theorem enterState_meter (s : State) (d : DevState) : (enterState s d).meter = s.meter := by obtain ⟨_, _, _, _, h⟩ := enterState_frame s d; rw [h]
@[simp] theorem enterState_regs (s : State) (d : DevState) : (enterState s d).regs = s.regs := by obtain ⟨_, _, _, _, h⟩ := enterState_frame s d; rw [h]
@[simp] theorem enterState_dma (s : State) (d : DevState) : (enterState s d).dma = s.dma := by obtain ⟨_, _, _, _, h⟩ := enterState_frame s d; rw [h]
@[simp] theorem enterState_care (s : State) (d : DevState) : (enterState s d).care = s.care := by obtain ⟨_, _, _, _, h⟩ := enterState_frame s d; rw [h]
@[simp] theorem enterState_boot (s : State) (d : DevState) : (enterState s d).boot = s.boot := by obtain ⟨_, _, _, _, h⟩ := enterState_frame s d; rw [h]
@[simp] theorem enterState_dbg (s : State) (d : DevState) : (enterState s d).dbg = s.dbg := by obtain ⟨_, _, _, _, h⟩ := enterState_frame s d; rw [h]
@[simp] theorem enterState_free (s : State) (d : DevState) : (enterState s d).free = s.free := by obtain ⟨_, _, _, _, h⟩ := enterState_frame s d; rw [h]
@[simp] theorem enterState_pending (s : State) (d : DevState) : (enterState s d).pending = s.pending := by obtain ⟨_, _, _, _, h⟩ := enterState_frame s d; rw [h]

end Sys2Proof.Machine
end

