-- ==== Sys2Proof/Laws/Mem.lean ====
section
/-! SUPPORT. Mem.lean: every operation on memory keeps its canonical form, and what a byte reads as after it. -/
namespace Sys2Proof.Machine

/-- A memory above a bound is above every smaller one. -/
theorem Memory.above_mono {lo hi : Nat} (h : lo ≤ hi) : ∀ {m : Memory}, Memory.above hi m = true → Memory.above lo m = true
  | [], _ => rfl
  | (k, v) :: r, w => by
    simp only [Memory.above, Bool.and_eq_true, decide_eq_true_eq] at w ⊢
    exact ⟨⟨Nat.le_trans h w.1.1, w.1.2⟩, w.2⟩

/-- An address below the bound of a memory is not listed. -/
theorem memGet_below {a : Nat} : ∀ {lo : Nat} {m : Memory}, Memory.above lo m = true → a < lo → memGet m a = 0
  | _, [], _, _ => rfl
  | lo, (k, v) :: r, w, h => by
    simp only [Memory.above, Bool.and_eq_true, decide_eq_true_eq] at w
    have hk : ¬ k = a := by omega
    simp only [memGet, hk, if_false]
    exact memGet_below w.2 (by omega)

/-- Storing a byte keeps a memory above its bound. -/
theorem memPut_above (a : Nat) (b : Byte) : ∀ {lo : Nat} {m : Memory}, Memory.above lo m = true → lo ≤ a → Memory.above lo (memPut m a b) = true
  | lo, [], _, h => by
    by_cases hb : b = 0
    · simp only [memPut, hb, if_true]; rfl
    · rw [memPut, if_neg hb]; simp only [Memory.above, Bool.and_eq_true, decide_eq_true_eq, bne_iff_ne, ne_eq]; exact ⟨⟨h, hb⟩, trivial⟩
  | lo, (k, v) :: r, w, h => by
    simp only [Memory.above, Bool.and_eq_true, decide_eq_true_eq, bne_iff_ne, ne_eq] at w
    simp only [memPut]
    split
    · split
      · simp only [Memory.above, Bool.and_eq_true, decide_eq_true_eq, bne_iff_ne, ne_eq]; exact w
      · rename_i hak hb
        simp only [Memory.above, Bool.and_eq_true, decide_eq_true_eq, bne_iff_ne, ne_eq]; exact ⟨⟨h, hb⟩, ⟨hak, w.1.2⟩, w.2⟩
    · split
      · split
        · exact Memory.above_mono (by omega) w.2
        · rename_i e hb
          subst e
          simp only [Memory.above, Bool.and_eq_true, decide_eq_true_eq, bne_iff_ne, ne_eq]; exact ⟨⟨h, hb⟩, w.2⟩
      · simp only [Memory.above, Bool.and_eq_true, decide_eq_true_eq, bne_iff_ne, ne_eq]
        exact ⟨w.1, memPut_above a b w.2 (by omega)⟩

/-- Storing a byte keeps the canonical form. -/
theorem memPut_wf {m : Memory} (a : Nat) (b : Byte) (h : Memory.wf m = true) : Memory.wf (memPut m a b) = true := memPut_above a b h (Nat.zero_le a)

/-- A byte stored is the byte read, and every other address reads as before. -/
theorem memGet_memPut (a x : Nat) (b : Byte) : ∀ {lo : Nat} {m : Memory}, Memory.above lo m = true → memGet (memPut m a b) x = if x = a then b else memGet m x
  | lo, [], _ => by
    by_cases hb : b = 0 <;> by_cases hx : x = a
    · simp only [memPut, memGet, hb, hx, if_true]
    · simp only [memPut, memGet, hb, hx, if_true, if_false]
    · simp only [memPut, memGet, hb, hx, if_true, if_false]
    · have : ¬ a = x := fun e => hx e.symm
      simp only [memPut, memGet, hb, hx, this, if_false]
  | lo, (k, v) :: r, w => by
    simp only [Memory.above, Bool.and_eq_true, decide_eq_true_eq] at w
    simp only [memPut]
    split
    · rename_i hak
      have hr : x = a → memGet ((k, v) :: r) x = 0 := fun e => by
        subst e
        have hk : ¬ k = x := by omega
        simp only [memGet, hk, if_false]
        exact memGet_below w.2 (by omega)
      split
      · rename_i hb
        by_cases hx : x = a
        · rw [if_pos hx, hr hx, hb]
        · rw [if_neg hx]
      · by_cases hx : x = a
        · rw [if_pos hx]; simp only [memGet, hx, if_true]
        · rw [if_neg hx]
          have : ¬ a = x := fun e => hx e.symm
          simp only [memGet, this, if_false]
    · split
      · rename_i e
        subst e
        have hr : x = a → memGet r x = 0 := fun e => by subst e; exact memGet_below w.2 (by omega)
        split
        · rename_i hb
          by_cases hx : x = a
          · rw [if_pos hx, hr hx, hb]
          · have : ¬ a = x := fun e => hx e.symm
            rw [if_neg hx]; simp only [memGet, this, if_false]
        · by_cases hx : x = a
          · rw [if_pos hx]; simp only [memGet, hx, if_true]
          · have : ¬ a = x := fun e => hx e.symm
            rw [if_neg hx]; simp only [memGet, this, if_false]
      · by_cases hk : k = x
        · have : ¬ x = a := by omega
          simp [memGet, hk, this]
        · simp only [memGet, hk, if_false]
          exact memGet_memPut a x b w.2

/-- Storing a run of bytes keeps the canonical form. -/
theorem memPutList_wf : ∀ (l : List Byte) (m : Memory) (a : Nat), Memory.wf m = true → Memory.wf (memPutList m a l) = true
  | [], _, _, h => h
  | b :: r, m, a, h => memPutList_wf r (memPut m a b) (a + 1) (memPut_wf a b h)

/-- A run of bytes reads back in place, and every other address reads as before. -/
theorem memGet_memPutList (x : Nat) : ∀ (l : List Byte) (m : Memory) (a : Nat), Memory.wf m = true →
    memGet (memPutList m a l) x = if a ≤ x ∧ x < a + l.length then l.getD (x - a) 0 else memGet m x
  | [], m, a, _ => by
    have : ¬ (a ≤ x ∧ x < a + ([] : List Byte).length) := by simp
    rw [if_neg this]; rfl
  | b :: r, m, a, h => by
    have ih := memGet_memPutList x r (memPut m a b) (a + 1) (memPut_wf a b h)
    have hp := memGet_memPut a x b (lo := 0) h
    simp only [memPutList, List.length_cons]
    rw [ih, hp]
    by_cases h1 : x = a
    · subst h1
      have n1 : ¬ (x + 1 ≤ x ∧ x < x + 1 + r.length) := by omega
      have n2 : x ≤ x ∧ x < x + (r.length + 1) := by omega
      rw [if_neg n1, if_pos n2]; simp
    · by_cases h2 : a + 1 ≤ x ∧ x < a + 1 + r.length
      · have n2 : a ≤ x ∧ x < a + (r.length + 1) := by omega
        rw [if_pos h2, if_pos n2]
        have e : x - a = (x - (a + 1)) + 1 := by omega
        rw [e]; simp
      · have n2 : ¬ (a ≤ x ∧ x < a + (r.length + 1)) := by omega
        rw [if_neg h2, if_neg n2, if_neg h1]

/-- Clearing a range keeps a memory above its bound. -/
theorem memClear_above (p q : Nat) : ∀ {lo : Nat} {m : Memory}, Memory.above lo m = true → Memory.above lo (memClear m p q) = true
  | _, [], _ => rfl
  | lo, (k, v) :: r, w => by
    have w' := w
    simp only [Memory.above, Bool.and_eq_true, decide_eq_true_eq] at w'
    have ih := memClear_above p q w'.2
    simp only [memClear, List.filter] at ih ⊢
    split
    · simp only [Memory.above, Bool.and_eq_true, decide_eq_true_eq]
      exact ⟨w'.1, ih⟩
    · exact Memory.above_mono (by omega) ih

/-- Clearing a range keeps the canonical form. -/
theorem memClear_wf {m : Memory} (p q : Nat) (h : Memory.wf m = true) : Memory.wf (memClear m p q) = true := memClear_above p q h

/-- Every address of a cleared range reads 0, and every other address reads as before. -/
theorem memGet_memClear (p q x : Nat) : ∀ {lo : Nat} {m : Memory}, Memory.above lo m = true →
    memGet (memClear m p q) x = if p ≤ x ∧ x < q then 0 else memGet m x
  | _, [], _ => by simp [memClear, memGet]
  | lo, (k, v) :: r, w => by
    have w' := w
    simp only [Memory.above, Bool.and_eq_true, decide_eq_true_eq] at w'
    have ih := memGet_memClear p q x w'.2
    simp only [memClear, List.filter] at ih ⊢
    split
    · rename_i hk
      simp only [Bool.not_eq_true', Bool.and_eq_false_iff, decide_eq_false_iff_not] at hk
      by_cases e : k = x
      · subst e
        have : ¬ (p ≤ k ∧ k < q) := by omega
        simp only [memGet, if_true, if_neg this]
      · simp only [memGet, e, if_false]; exact ih
    · rename_i hk
      simp only [Bool.not_eq_false', Bool.and_eq_true, decide_eq_true_eq] at hk
      rw [ih]
      by_cases e : k = x
      · subst e; simp [hk]
      · simp only [memGet, e, if_false]

/-- A fold of stores keeps the canonical form. -/
theorem foldl_memPut_wf {α : Type} (f : α → Nat) (g : α → Byte) : ∀ (l : List α) (m : Memory), Memory.wf m = true →
    Memory.wf (l.foldl (fun (m : Memory) x => memPut m (f x) (g x)) m) = true
  | [], _, h => h
  | x :: r, m, h => foldl_memPut_wf f g r (memPut m (f x) (g x)) (memPut_wf (f x) (g x) h)

end Sys2Proof.Machine
end

