-- ==== Sys2Proof/Tests/Slice0.lean ====
section
/-! SUPPORT. Slice0.lean: small tests of the model's own work: ill-formed commands that WellFormed refuses, values that the spec states, single steps on small states, and
states that meet the hypotheses of statements. Each expected value is from the rule that its comment names. -/
namespace Sys2Proof.Tests
open Sys2Proof Sys2Proof.Machine

/-- A request with an empty block from a function. -/
def ask (f : Fn) : Request :=
  { fn := f, tag := 5, flags := 0, domeGen := 1, etsn := 0, cfgGen := 0, rbufAddr := 0, rbufLen := 64, slots := [0, 0, 0], data := [] }

/-- The device after boot, with ticks running and the owner's mailbox enabled. -/
def up : State :=
  { State.reset with dev := { State.reset.dev with st := .service }, mbx := [(ownerFn, { mbxOf State.reset ownerFn with enable := true, rqSize := 5, cqSize := 8 })] }

-- WellFormed refuses what names a unit, function, register or length that the block has not.
theorem test_wf_work_item_dome : (Instr.workItemShed 256 .own 0 0).wf = false := by decide
theorem test_wf_work_item_tile : (Instr.workItemShed 0 .own 0 64).wf = false := by decide
theorem test_wf_tick_upset_tile : (Instr.tickBoundary 0 [(0, 0, 68)]).wf = false := by decide
theorem test_wf_tdc_channel : (Instr.tdcBlindEnd 24).wf = false := by decide
theorem test_wf_pll : (Instr.adpllLock 5).wf = false := by decide
theorem test_wf_clock_output : (Instr.outFbLoWrite 4 0).wf = false := by decide
theorem test_wf_port : (Instr.portLinkUp 128).wf = false := by decide
theorem test_wf_feed : (Instr.landingSlotRelease 1024 [] []).wf = false := by decide
theorem test_wf_instrument : (Instr.integrationEnd 0 64).wf = false := by decide
theorem test_wf_mask : (Instr.sweepWindowDecide 0 8).wf = false := by decide
theorem test_wf_plate : (Instr.plateSnapshot 0 16).wf = false := by decide
theorem test_wf_flow : (Instr.transitDeadline 0 65536 0 0 0).wf = false := by decide
theorem test_wf_aperture : (Instr.commitRx 256 0).wf = false := by decide
theorem test_wf_tile : (Instr.bundleIssue 68 false).wf = false := by decide
theorem test_wf_function_port : (Instr.mbxRqTailWrite ⟨4, 0⟩ 0).wf = false := by decide
theorem test_wf_function_vf : (Instr.mbxRqTailWrite ⟨0, 65⟩ 0).wf = false := by decide
theorem test_wf_ring_register : (Instr.mbxRingRegWrite ownerFn 0x1014 0).wf = false := by decide
theorem test_wf_entry_length : (Instr.requestFetch ownerFn [] [] false).wf = false := by decide
theorem test_wf_buffer_length : (Instr.nop { ask ownerFn with rbufLen := 12 }).wf = false := by decide
theorem test_wf_nop : (Instr.nop (ask ownerFn)).wf = true := by decide

/-- No row of the table has bits, so no word spells a command. -/
theorem test_no_word (n w : Nat) : decodeTableWord n w = none := rfl

/-- An empty queue idles (log entry 1). -/
theorem test_step_idle : step State.reset = .next State.reset := rfl

/-- The command at the front is taken. -/
theorem test_step_front : step { State.reset with pending := [.cpHeartbeat] } = exec .cpHeartbeat State.reset := rfl

/-- R39: the tick number advances by one. -/
theorem test_tick_advances : (timeTick 0 up).time.tick64 = 1 := by decide

/-- R30: in COLD no ticks run, and a boundary does nothing. -/
theorem test_tick_cold : ticking State.reset = false := by decide

/-- R427: 65,535 is followed by 1. -/
theorem test_generation_wraps : nextGen 65535 = 1 := by decide

/-- R9: the TSN is the low half of TICK64. -/
theorem test_tsn_wraps : tsnOf (2 ^ 32 + 7) = 7 := by decide

-- States that meet the hypotheses of statements.

/-- A set of D0 without commands, due in tick 0. -/
def setDue : State := { up with psets := [{ dome := 0, cfgGen := 1, e := 0, order := 0, cmds := [], sh := [], crc := 0, macs := [] }] }
/-- TDC channel 3 enabled for both edges. -/
def tdcUp : State := { up with plan := up.plan.put .tdcConfig devDome 3 [.num 3, .num 1, .named 0, .named 2] }
/-- Output 1 on, in DIRECT bypass, at a tenth of its ceiling. -/
def clkUp : State := { up with plan := up.plan.put .clockOutput devDome 1 [.num 1, .num 1, .num 1, .num 1, .num 4, .num 0, .num 0, .num 0, .num 1000000] }
/-- An Ethernet port 2. -/
def portUp : State := { up with plan := up.plan.put .portConfig devDome 2 [.num 2, .named 0, .num 3, .num 77, .num 5, .num 6, .num 24, .num 7, .num 8, .num 64, .named 0, .num 9216, .num 1] }
/-- Feed 0 with one ring and a slot that is due. -/
def feedUp : State :=
  { up with time := { up.time with tick64 := 9 }, feeds := [(0, { feedRun up 0 with rings := [{ block := List.replicate 19 (.num 2), m := 12800, first := 0, closed := false, slots := [{ tick := 3, grans := [], extClip := false, late := false }] }] })] }
/-- An SK unit in feed scope with blocks of one frame. -/
def skUp : State := { up with sks := [((devDome, 0), { skRun up (devDome, 0) with settings := [(0, some (List.replicate 12 (.num 1)))], frames := [(0, 0, [])] })] }
/-- Aperture 0, led by this device, with one other member. -/
def apUp : State :=
  { up with plan := up.plan.put .apertureCreate devDome 0 [.num 0, .num ownSerial, .num 30, .num 0, .list [[(ownSerial : Int)], [7]]],
            apertures := [(0, { ApertureRun.reset with members := [memberNew 7, memberNew 9], preparing := [{ id := 1, at0 := 0, e := 9, op := .nop, req := none, dome := 0, cfgGen := 1, members := [7], replies := [(7, 0, 5)], result := 0 }] })] }
/-- The same aperture, led by another device. -/
def apOther : State := { apUp with plan := up.plan.put .apertureCreate devDome 0 [.num 0, .num (ownSerial + 1), .num 30, .num 0, .list [[7]]] }
theorem apUp_block : apUp.plan.aperture 0 = some [.num 0, .num ownSerial, .num 30, .num 0, .list [[(ownSerial : Int)], [7]]] := by rfl
theorem apOther_block : apOther.plan.aperture 0 = some [.num 0, .num (ownSerial + 1), .num 30, .num 0, .list [[7]]] := by rfl
/-- A handover at its takeover. -/
def handUp : BootSt := { up.boot with hand := some { req := none, target := 1, back := false, hours := 1, defaults := false, stage := 2 } }
/-- Stream 1 of D0 on port 2, whose link is down. -/
def strUp : State := { portUp with plan := portUp.plan.put .streamDefine 0 1 [.num 1, .named 0, .num 2] }
/-- A RoCE stream. -/
def roceUp : State := { portUp with plan := portUp.plan.put .streamDefine 0 1 [.num 1, .named 2, .num 2] }
/-- RECORDER 3 of D0, triggered. -/
def capUp : State := { up with plan := up.plan.put .instrDefine 0 3 [.named 8, .num 0, .named 0] }
/-- Plate 1 of D0 with a decay that is due. -/
def plateUp : State := { up with plan := up.plan.put .plateDefine 0 1 [.num 1, .num 2], plates := [((0, 1), { plateRun up 0 1 with decayDue := true })] }
/-- A spectrometer 2 of D0 with a closed bank. -/
def detUp : State :=
  { up with plan := up.plan.put .instrDefine 0 2 [.named 0, .num 0], instrs := [((0, 2), { instrRun up 0 2 with closed := [{ block := [.named 0, .num 0], tiles := [], chosen := [], partShed := [], partFlags := [], first := 0, last := 0, frames := 0, nominal := 0, clip := 0, ovf := 0, rqClip := 0, flags := 0, shed := 0, absent := 0, acc := [], ends := false }] })] }

/-- TickBoundaryAndShedWork: ticks run, nothing is due, no record is upset. -/
theorem test_witness_tick_boundary : ticking up = true ∧ up.psets.all (fun x => decide (up.time.tick64 < x.e)) = true := by decide

/-- ConfigSetAppliesWhenDue: one empty set of D0 is due. -/
theorem test_witness_config_set : setDue.dev.st ≠ .halted ∧ postDue setDue = false ∧ (setDue.psets.filter (fun (y : Machine.PSet) => decide (y.e ≤ setDue.time.tick64))).length = 1 ∧ setDelta setDue.time.tick64 [] = 0 := by decide

/-- TdcRecordsEdges: channel 3 records both edges and is not blind. -/
theorem test_witness_tdc_edge : tdcTakes (tdcUp).plan 3 true = true ∧ (tdcOf tdcUp 3).blind = false ∧ tdcUp.care.cals = [] := by decide

/-- ReferenceLossAndReturn: a valid reference; an invalid one at reset. -/
theorem test_witness_reference_lost : { up.time with refValid := true }.refValid = true ∧ State.reset.time.refValid = false := by decide

/-- PpsAndHouseTime: science time set, no holdover, ticks run. -/
theorem test_witness_pps : let s := { up with time := { up.time with sciSet := true, refValid := true } }; s.time.sciSet = true ∧ s.time.holdover = false ∧ ticking s = true := by decide

/-- ClockLoops: an unlocked core; a muted output that is on, below its ceiling, with DIRECT bypass. -/
theorem test_witness_core_lock : State.reset.clk.coreLock = false ∧ outOn (clkUp.plan.clkOut 1) = true ∧ overCeiling (clkUp.plan.clkOut 1) = false := by decide

/-- ClockRegisterWrites: nothing posted; the unlock armed. -/
theorem test_witness_clock_writes : State.reset.clk.posted = none ∧ { State.reset.regs with armed := true }.armed = true := by decide

/-- PostedWriteApplies: a posted CLK_CORE_CTRL before any tick. -/
theorem test_witness_posted : ticking State.reset = false ∧ bits 0x20 5 4 ≠ 3 := by decide

/-- LinksAndPortAgent: a configured port whose link is down. -/
theorem test_witness_port : (portUp.plan.port 2).isSome = true ∧ (portRun portUp 2).allUp = false ∧ (portRun portUp 2).linkUp = false := by decide

/-- ReceivedFramesAreChecked: an Ethernet port that is up and a frame without an FCS. -/
theorem test_witness_runt : (portUp.plan.port 2).map portEth = some true := by decide

/-- LandingAndKurtosis: a slot that is due in the one ring of feed 0. -/
theorem test_witness_landing : (feedRun feedUp 0).rings.length = 1 ∧ ((feedRun feedUp 0).rings.flatMap (fun r => r.slots.filter (fun x => x.tick + feedH r.block + 4 == feedUp.time.tick64))).length = 1 := by decide

/-- LandingAndKurtosis: a known SK unit with a whole block. -/
theorem test_witness_sk_unit : skKnown skUp (devDome, 0) = true ∧ (skSetting (skRun skUp (devDome, 0)) 0).isSome = true ∧ (skSetting (skRun skUp (devDome, 0)) 0).bind (fun b => skEnd b (skRun skUp (devDome, 0))) = some 1 := by decide

/-- ApertureLeadDecides: a prepared command to which all have replied READY. -/
theorem test_witness_aperture_lead : (apOf apUp 0).preparing.all (fun x => x.members.all (fun p => (tget x.replies p).any (fun r => r.1 == 0)) && x.req.isNone) = true ∧ (apOf apUp 0).preparing.length = 1 ∧ leads apUp 0 = true := ⟨by decide, by decide, by simp [leads, apUp_block, apLead, Block.nat, Block.at]⟩

/-- ApertureMemberObeys: an aperture that another device leads. -/
theorem test_witness_aperture_member : leads apOther 0 = false ∧ (apOther.plan.aperture 0).isSome = true ∧ (apOf apOther 0).leadLost = false := ⟨by simp [leads, apOther_block, apLead, Block.nat, Block.at], by decide, by decide⟩

/-- ApertureExclusionAndRejoin: a member that counts, at the lead. -/
theorem test_witness_aperture_excluded : (apMember apUp 0 7).map (fun m => m.excluded) = some false := by decide

/-- LeadAdoptsConfiguration: an adoption under way. -/
theorem test_witness_adopting : (apOf { apUp with apertures := tset apUp.apertures 0 { apOf apUp 0 with adopting := some (ask ownerFn, 9, none) } } 0).adopting = some (ask ownerFn, 9, none) := by decide

/-- PacketsLeaveByTokens: a stream with nothing to send on a port whose link is down. -/
theorem test_witness_stream_idle : (strUp.plan.stream 0 1).isSome = true ∧ suspended strUp 0 = false ∧ (portRun strUp 2).linkUp = false := by decide

/-- RoceAcknowledgements: a RoCE stream without error. -/
theorem test_witness_roce : (roceUp.plan.stream 0 1).map (fun st => st.is 1 2) = some true ∧ (streamRun roceUp 0 1).error = false := by decide

/-- TransitGranules: a flow whose instrument has gone, and one of no link. -/
theorem test_witness_flow : (tget { up with flows := [((1, 1), { spec := ⟨0, 0, 0, 0, 1, 1, 1, 1, 1⟩, slots := [], sent := 0, late := 0, absent := 0, cfg := up.regs.crcActive })] }.flows (1, 1)).isSome = true ∧ up.plan.instr 0 0 = none ∧ tget up.flows (2, 2) = none ∧ up.plan.find .apertureLink devDome 2 = none := by decide

/-- CaptureTriggers, CaptureRecords: a triggered RECORDER with no trigger, whose segment is closed. -/
theorem test_witness_capture : (capUp.plan.instr 0 3).map iKind = some 8 ∧ (capUp.plan.instr 0 3).map (fun b => b.is 2 0) = some true ∧ (capRun capUp 0 3).arriving = [] ∧ (capRun { capUp with instrs := tset capUp.instrs (0, 3) { instrRun capUp 0 3 with cap := { capRun capUp 0 3 with phase := .closed } } } 0 3).phase = .closed := by decide

/-- SweepWindowsAndPlates: a Plate with a due decay. -/
theorem test_witness_plate : (plateUp.plan.plate 0 1).isSome = true ∧ (plateRun plateUp 0 1).decayDue = true := by decide

/-- RecordsAndReports: a detector with a closed bank. -/
theorem test_witness_integration : (detUp.plan.instr 0 2).map iKind = some 0 ∧ (instrRun detUp 0 2).closed.length = 1 := by decide

/-- SextantIssue: a running Sextant with a halt requested. -/
theorem test_witness_sextant_halt : let s := onSx up 3 (fun e => { e with run := .running, haltReq := true }); (sxOf s 3).halted = false ∧ (sxOf s 3).run = .running ∧ (sxOf s 3).haltReq = true := by decide

/-- SextantItems: a tile that is to be scrubbed. -/
theorem test_witness_sextant_scrub : (sxOf (onSx up 3 (fun e => { e with scrub := true })) 3).scrub = true := by decide

/-- MailboxRegisterWrites: the owner has a mailbox, VF 1 of HP0 none. -/
theorem test_witness_mailbox : hasMbx up ownerFn = true ∧ hasMbx up ⟨0, 1⟩ = false ∧ fnOk ⟨0, 1⟩ = true ∧ up.dev.st ≠ .cold := by decide

/-- RequestsAreFetchedAndReleased: an entry waits and its mailbox has the turn. -/
theorem test_witness_fetch : let s := onMbx up ownerFn (fun m => { m with rqTail := 1 }); (mayFetch s ownerFn && fetchTurn s ownerFn) = true := by decide

/-- TagsInFlightAreRefused: a NOP that may be decided. -/
theorem test_witness_nop : (up.decides .nop (ask ownerFn)).isSome = true ∧ up.passes .nop (ask ownerFn) = true ∧ up.writes (ask ownerFn) = true ∧ stateBusy up .nop (ask ownerFn) false = false := by decide

/-- ConfigurationRequestsAreAdmitted: CLOCK_CORE from the owner is well formed. -/
theorem test_witness_conf : (confCmd .clockCore 0 { ask ownerFn with slots := [1, 0, 0] }).isOk = true ∧ up.passes .clockCore { ask ownerFn with slots := [1, 0, 0] } = true := by decide

/-- StagedSetsCommitAsOne: a GROUP_ABORT that may be decided. -/
theorem test_witness_group_abort : (up.decides .groupAbort (ask ownerFn)).isSome = true ∧ up.passes .groupAbort (ask ownerFn) = true ∧ (ask ownerFn).slots = [0, 0, 0] := by decide

/-- RequestsActAtOnce, ResponsesFitTheBuffer: STATUS has a rule and its block is empty. -/
theorem test_witness_act : (Op.status.act.map (fun a => (mkCmd .status 0 (fun _ => a.params) a.raw (ask ownerFn)).isOk)) = some true := by decide

/-- HostPortsAndFunctionResets: a host port out of reset. -/
theorem test_witness_host_port : (hostOf { up with hostPorts := up.hostPorts.modify 1 (fun h => { h with perst := false }) } 1).perst = false := by decide

/-- DomeResetsDrainAndReturn: a drain whose reset tick has not come. -/
theorem test_witness_drain : (domeRun { up with domes := tset up.domes 2 { domeRun up 2 with drain := some ⟨false, false, false, none, 0, 1, none, 0, 0, 0, 0, 0, 0⟩ } } 2).drain.isSome = true := by decide

/-- LogbookMeteringAndPowerFailure: nothing closed, no power failure, not COLD. -/
theorem test_witness_logbook : up.meter.closed = [] ∧ up.meter.powerFail = false ∧ up.dev.st ≠ .cold ∧ up.held = [] := by decide

/-- OwnerRegistersAndUnlock: the key. -/
theorem test_witness_owner : up.dev.st ≠ .cold ∧ (0x7A3DC915 : Word) = 0x7A3DC915#32 := by decide

/-- RegisterCommitsAndLatches: no commit in progress. -/
theorem test_witness_commit : (commitOf up ownerFn).busy = false ∧ up.plan.domeOf ownerFn = some 0 := by decide

/-- RewritesAndVotes: an upset record. -/
theorem test_witness_upset : ({ up with regs := { up.regs with upset := [(1, 2, 3, 0)] } }.regs.upset.find? (fun x => x.1 == 1 && x.2.1 == 2 && x.2.2.1 == 3)) = some (1, 2, 3, 0) ∧ up.regs.copies = [] := by decide

/-- DmaChannels: a channel that is not busy. -/
theorem test_witness_dma : (dmaOf up ownerFn 0).busy = false ∧ (dmaOf up ownerFn 0).fetch = false ∧ 0 < up.plan.dmaChannels 0 := by decide

/-- HbmControllerEvents: a retirement that is due, no copy, no failed stack. -/
theorem test_witness_hbm : ({ up with hbm := { up.hbm with due := [(4, 9)] } }.hbm.due.find? (fun e => e.1 == 4)) = some (4, 9) ∧ up.hbm.copying = [] ∧ up.hbm.failed = [] := by decide

/-- RouterAndHostEvents: no event waits, the window has ended. -/
theorem test_witness_router : up.router.queue = [] ∧ { up.router with windowLeft := 0 }.windowLeft = 0 := by decide

/-- TilesSwapsAndRows: 68 tiles, the reserve of sector 2 in reserve. -/
theorem test_witness_tiles : up.care.tiles.length = 68 ∧ reserveSt up 2 = .reserve := by decide

/-- ProcessorsRailsAndCalibration: a standby, and a calibration under way. -/
theorem test_witness_processors : (cpIn up .standby).isSome = true ∧ cpIn up .active = some 0 ∧ { up.care with cals := [(2, 5)] }.cals.contains (2, 5) = true := by decide

/-- EyepieceFramesAndLink: an Eyepiece that is configured but not trained. -/
theorem test_witness_eyepiece : ({ up with plan := up.plan.put .eyepieceConfig devDome 0 [.named 1] }.plan.eyepiece).isSome = true ∧ up.eye.trained = false := by decide

/-- ResetsFlushesAndBoot: a device in BOOT without a flush. -/
theorem test_witness_boot : let s := { up with dev := { up.dev with st := .boot } }; s.dev.st = .boot ∧ s.boot.flush = false := by decide

/-- UpdatesAndHandovers: a handover at its takeover. -/
theorem test_witness_handover : (handUp.hand.map Machine.Handover.stage) = some 2 ∧ up.dev.st ≠ .recovery := by decide

/-- BoundaryScanAndDebugPort: a halted Sextant in scope, unlocked. -/
theorem test_witness_debug : let s := onSx { up with dbg := { up.dbg with locked := false, scope := 3 } } 3 (fun e => { e with halted := true }); s.dbg.checking = false ∧ s.dbg.locked = false ∧ inScope s 3 = true ∧ (sxOf s 3).halted = true ∧ (sxPeek (sxOf s 3) 0x10000).isSome = true := by decide

end Sys2Proof.Tests
end

section
/-! Packets of a stream (R317, R319): what PACKET_TRANSMIT does in each of the cases that `sendNext` tells apart. -/
namespace Sys2Proof.Machine

/-- A changed stream is the stream read. -/
@[simp] theorem streamRun_onStream_same (s : State) (d k : Nat) (f : StreamRun → StreamRun) : streamRun (onStream s d k f) d k = f (streamRun s d k) :=
  tgetD_tmod_same s.streams (d, k) StreamRun.reset f

/-- Metering what a stream sends changes the meter alone. -/
theorem meterEgress_frame (s : State) (d n : Nat) : ∃ m, meterEgress s d n = { s with meter := m } := by
  unfold meterEgress onSegment
  split
  · exact ⟨_, rfl⟩
  · exact ⟨s.meter, rfl⟩

/-- Only a ROCE stream waits for credit (R325). -/
theorem creditShort_of_not_roce {st : Block} (h : st.is 1 2 = false) (r : StreamRun) (p : Pkt) : creditShort st r p = false := by
  simp [creditShort, h]

/-- A packet of a stream without queue pair leaves as one datagram, and is counted with its wire bytes. -/
theorem sendPkt_udp {s : State} {d k : Nat} {st pb : Block} {p : Pkt} (hu : st.is 1 2 = false) (hp : s.plan.port (st.nat 2) = some pb) (he : p.ends = none) :
    (sendPkt s d k st p).out.frames = s.out.frames ++ [(st.nat 2, .frame (udpFrame pb st (nextHop st (streamRun s d k)) 0 (Config.freeNat s.free) p.bytes))] ∧
    streamRun (sendPkt s d k st p) d k = { streamRun s d k with pkts := ((streamRun s d k).pkts + 1) % 2 ^ 64, bytes := ((streamRun s d k).bytes + p.wire) % 2 ^ 64 } ∧
    sendPkt s d k st p = { s with streams := (sendPkt s d k st p).streams, out := (sendPkt s d k st p).out, free := s.free + 1, meter := (sendPkt s d k st p).meter } := by
  simp only [sendPkt, hu, sendUdp, hp, he, packetGone, Bool.false_eq_true, if_false, drawNat_frame]
  obtain ⟨m, hm⟩ := meterEgress_frame (transmit { s with free := s.free + 1 } (st.nat 2)
    (.frame (udpFrame pb st (nextHop st (streamRun { s with free := s.free + 1 } d k)) 0 (Config.freeNat s.free) p.bytes))) d p.wire
  rw [hm]
  exact ⟨rfl, streamRun_onStream_same .., rfl⟩

/-- With nothing to send again no message is found for it. -/
theorem find_again_eq_none {l : List RoceMsg} (h : l.any (fun m => !m.again.isEmpty) = false) : l.find? (fun m => !m.again.isEmpty) = none := by
  simpa [List.find?_eq_none] using h

/-! ### The cases of `sendNext`, by the stream's entry `r` -/

section
variable {s : State} {d k : Nat} {st : Block} {p : Pkt} {rest : List Pkt} {pz : Bool} {r : StreamRun} (h : streamRun s d k = r)
include h

/-- Nothing leaves in ERROR, over a link that is down, or where nothing is queued. -/
theorem sendNext_idle (hi : r.error = true ∨ (portRun s (st.nat 2)).linkUp = false ∨ (r.go = [] ∧ r.spill = [] ∧ r.unacked.any (fun m => !m.again.isEmpty) = false)) :
    sendNext s d k st pz = s := by
  unfold sendNext
  rcases hi with hi | hi | ⟨hg, hs, hu⟩
  · simp [h, hi]
  · simp [hi]
  · have hf : r.unacked.find? (fun m => !m.again.isEmpty) = none := by simpa [List.find?_eq_none] using hu
    simp [h, find_again_eq_none hu, hg, hs]

variable (hr : r.error = false) (hl : (portRun s (st.nat 2)).linkUp = true) (hu : r.unacked.any (fun m => !m.again.isEmpty) = false)
include hr hl hu

/-- The head of the packets ahead of the spill leaves when the bucket holds its wire bytes. -/
theorem sendNext_go (hg : r.go = p :: rest) (hn : st.is 1 2 = false) (ht : p.wire * tokenByte ≤ r.tokens) :
    sendNext s d k st pz = sendPkt (onStream s d k (fun r => { r with go := rest, goOld := r.goOld - 1, tokens := r.tokens - p.wire * tokenByte })) d k st p := by
  simp [sendNext, h, hr, hl, find_again_eq_none hu, hg, Nat.not_lt.2 ht, creditShort_of_not_roce hn]

variable (hg : r.go = []) (hs : r.spill = p :: rest)
include hg hs

/-- A head of the spill for which the bucket is too low stays. -/
theorem sendNext_spill_stays (ht : r.tokens < p.wire * tokenByte) : sendNext s d k st false = s := by
  simp [sendNext, h, hr, hl, find_again_eq_none hu, hg, hs, ht]

/-- The head of the spill leaves when the bucket holds its wire bytes. -/
theorem sendNext_spill (hn : st.is 1 2 = false) (ht : p.wire * tokenByte ≤ r.tokens) :
    sendNext s d k st false = sendPkt (onStream s d k (fun r => { r with spill := rest, tokens := r.tokens - p.wire * tokenByte })) d k st p := by
  simp [sendNext, h, hr, hl, find_again_eq_none hu, hg, hs, Nat.not_lt.2 ht, creditShort_of_not_roce hn]

/-- A head of the spill that reads back poisoned is dropped and counted. -/
theorem sendNext_poisoned (he : p.ends = none) :
    sendNext s d k st true = onStream s d k (fun r => { r with spill := rest, spillPoison := r.spillPoison + 1 }) := by
  simp [sendNext, h, hr, hl, find_again_eq_none hu, hg, hs, dropPoisoned, he, packetGone]

end

/-! ### PACKET_TRANSMIT -/

section
variable {s : State} {d k : Nat} {st : Block}

/-- A stream of a suspended dome, or of one in reset, stands still (R27, R320). -/
theorem packetTransmit_still (e : Nat) (pz : Bool) (hst : s.plan.stream d k = some st)
    (h : suspended s d = true ∨ ((domeRun s d).drain.bind (fun x => x.resetTick)).isSome = true) : exec (.packetTransmit d k e pz) s = .next s := by
  show execPacketTransmit d k e pz s = _
  rcases h with h | h <;> simp [execPacketTransmit, hst, h]

/-- Any other stream sends what it may, with a bucket `n` that has filled for the time that has gone (R317). -/
theorem packetTransmit_sends (e : Nat) (pz : Bool) (hst : s.plan.stream d k = some st) (hs : suspended s d = false)
    (hd : ((domeRun s d).drain.bind (fun x => x.resetTick)) = none) :
    ∃ u n, exec (.packetTransmit d k e pz) s = .next (sendNext u d k st pz) ∧ streamRun u d k = { streamRun s d k with tokens := n } ∧
      n = Nat.min (st.nat 12 * tokenByte) ((streamRun s d k).tokens + st.nat 11 * e) ∧
      u = onStream s d k (fun r => { r with tokens := Nat.min (st.nat 12 * tokenByte) (r.tokens + st.nat 11 * e) }) := by
  refine ⟨_, _, ?_, streamRun_onStream_same .., rfl, rfl⟩
  show execPacketTransmit d k e pz s = _
  simp only [execPacketTransmit, hst, hs, hd, Option.isSome_none, Bool.or_false, Bool.false_eq_true, if_false]
  unfold fillTokens
  rfl

/-- A datagram that leaves a stream with bucket `n` after a change `f` of its entry: its frame, the stream's counts, and nothing else. -/
theorem sendPkt_after_fill {u : State} {n : Nat} {pb : Block} {p : Pkt} {f g : StreamRun → StreamRun} (hr : streamRun u d k = { streamRun s d k with tokens := n })
    (hu : u = onStream s d k g) (hn : st.is 1 2 = false) (hp : s.plan.port (st.nat 2) = some pb) (he : p.ends = none) (hm : ∀ r, (f r).mac = r.mac) :
    ∃ t, .next (sendPkt (onStream u d k f) d k st p) = (.next t : Host.Outcome State Fault Refusal) ∧
      (∃ id, t.out.frames = s.out.frames ++ [(st.nat 2, .frame (udpFrame pb st (nextHop st (streamRun s d k)) 0 id p.bytes))]) ∧
      (∀ r, f { streamRun s d k with tokens := n } = r → streamRun t d k = { r with pkts := (r.pkts + 1) % 2 ^ 64, bytes := (r.bytes + p.wire) % 2 ^ 64 }) ∧
      t = { s with streams := t.streams, out := t.out, free := s.free + 1, meter := t.meter } := by
  have hpu : (onStream u d k f).plan.port (st.nat 2) = some pb := by rw [onStream_plan, hu, onStream_plan, hp]
  obtain ⟨hf, ht, hx⟩ := sendPkt_udp (s := onStream u d k f) (d := d) (k := k) hn hpu he
  rw [streamRun_onStream_same, hr] at hf ht
  have hop : nextHop st (f { streamRun s d k with tokens := n }) = nextHop st (streamRun s d k) := by simp [nextHop, hm]
  rw [hop] at hf
  subst hu
  exact ⟨_, rfl, ⟨_, hf⟩, by rintro r rfl; exact ht, hx⟩

end

end Sys2Proof.Machine

namespace Sys2Proof.Settled
open Sys2Proof.Machine

/-- Settles O21: the cases of `sendNext`, one for each clause. -/
theorem packetsLeaveByTokens : Obligations.PacketsLeaveByTokens := by
  unfold Obligations.PacketsLeaveByTokens
  refine ⟨?still, ?idle, ?go, ?stays, ?spill, ?poisoned⟩
  case still => exact fun s d k e pz st hst h => packetTransmit_still e pz hst h
  case idle =>
    intro s d k e pz st hst hs hd h
    obtain ⟨u, n, hx, hr, -, rfl⟩ := packetTransmit_sends e pz hst hs hd
    rw [hx, sendNext_idle hr h]
  case go =>
    intro s d k e pz st pb p rest hst hs hd hp he hl ha hg hq hn ht
    obtain ⟨u, n, hx, hr, hb, hu⟩ := packetTransmit_sends e pz hst hs hd
    rw [← hb] at ht ⊢
    rw [hx, sendNext_go hr he (by rw [hu]; exact hl) ha hg hn ht]
    obtain ⟨t, htx, hf, hrun, hrest⟩ := sendPkt_after_fill (f := fun r => { r with go := rest, goOld := r.goOld - 1, tokens := r.tokens - p.wire * tokenByte }) hr hu hn hp hq (fun _ => rfl)
    refine ⟨t, htx, hf, ?_, ?_, ?_, ?_, hrest⟩ <;> rw [hrun _ rfl]
    exact Nat.sub_add_cancel ht
  case stays =>
    intro s d k e pz st p rest hst hs hd hl he hg ha hsp hpz ht
    obtain ⟨u, n, hx, hr, hb, rfl⟩ := packetTransmit_sends e false hst hs hd
    rw [← hb] at ht
    rw [hpz, hx, sendNext_spill_stays hr he hl ha hg hsp ht]
  case spill =>
    intro s d k e st pb p rest hst hs hd hl hp he hg ha hsp hq hn ht
    obtain ⟨u, n, hx, hr, hb, hu⟩ := packetTransmit_sends e false hst hs hd
    rw [← hb] at ht ⊢
    rw [hx, sendNext_spill hr he (by rw [hu]; exact hl) ha hg hsp hn ht]
    obtain ⟨t, htx, hf, hrun, hrest⟩ := sendPkt_after_fill (f := fun r => { r with spill := rest, tokens := r.tokens - p.wire * tokenByte }) hr hu hn hp hq (fun _ => rfl)
    refine ⟨t, htx, hf, ?_, ?_, ?_, hrest⟩ <;> rw [hrun _ rfl]
    exact Nat.sub_add_cancel ht
  case poisoned =>
    intro s d k e st p rest hst hs hd hl he hg ha hsp hq
    obtain ⟨u, n, hx, hr, -, rfl⟩ := packetTransmit_sends e true hst hs hd
    rw [hx, sendNext_poisoned hr he hl ha hg hsp hq]
    refine ⟨_, rfl, ?_, ?_, rfl⟩ <;> rw [streamRun_onStream_same, hr]

end Sys2Proof.Settled
end

section
/-! The state after reset (R27, R28 and the tables of reset values). -/
namespace Sys2Proof.Machine

/-- What every function's registers hold where no function has written any (Tables 15-7 to 15-10). -/
theorem reset_registers (f : Fn) : mbxOf State.reset f = Mbx.reset ∧ evtOf State.reset f = EvtRegs.reset ∧ commitOf State.reset f = CommitWin.reset ∧
    ∀ ch, dmaOf State.reset f ch = DmaCh.reset := ⟨rfl, rfl, rfl, fun _ => rfl⟩

/-- The records that are in force after reset are settings of the device: no object of another kind exists. -/
theorem reset_plan_find_none {op : Op} (h : op ∉ [Op.clockCore, .clockOutput, .hbmConfig, .meterConfig]) (d i : Nat) : State.reset.plan.find op d i = none := by
  have hop : ∀ r ∈ Plan.reset.recs, r.op ∈ [Op.clockCore, .clockOutput, .hbmConfig, .meterConfig] := by decide
  have hf : Plan.reset.recs.find? (fun r => r.op == op && r.dome == d && r.index == i) = none := by
    rw [List.find?_eq_none]
    intro r hr hc
    simp only [Bool.and_eq_true, beq_iff_eq] at hc
    exact h (hc.1.1 ▸ hop r hr)
  show (Plan.reset.recs.find? _).map _ = none
  rw [hf]
  rfl

/-- The record of a clock output after reset (R84). -/
theorem reset_clockOutput : ∀ n, n < 4 → State.reset.plan.find .clockOutput devDome n = some (clkOutBlock n) := by decide

/-- The record of a stack after reset (Table 17-5). -/
theorem reset_hbmConfig : ∀ h, h < 8 → State.reset.plan.find .hbmConfig devDome h = some (hbmConfigBlock0 h) := by decide

/-- Entry `i` of each of the Eyepiece's tables after reset (R551). -/
theorem reset_eye_tables : ∀ t ∈ State.reset.eye.tables, ∀ i, i < 255 → t[i]? = some (i + 1) := by
  intro t ht i hi
  obtain rfl := List.eq_of_mem_replicate ht
  simp [hi]

end Sys2Proof.Machine

namespace Sys2Proof.Settled
open Sys2Proof.Machine

/-- Settles O2: group by group, the reset values of the tables. -/
theorem resetState : Obligations.ResetState := by
  unfold Obligations.ResetState
  refine ⟨by decide, ⟨rfl, rfl, rfl, fun n hn => ⟨?outs, reset_clockOutput n hn⟩⟩, ?fns, ?domes, ?ports, ?eye, ?debug⟩
  case outs => revert n; decide
  case fns =>
    intro f
    obtain ⟨hm, he, hc, hd⟩ := reset_registers f
    rw [hm, he, hc]
    refine ⟨rfl, rfl, rfl, rfl, rfl, rfl, rfl, rfl, rfl, rfl, fun ch => ?_⟩
    rw [hd]
    exact ⟨rfl, rfl, rfl⟩
  case domes => exact fun d => ⟨rfl, rfl, rfl, reset_plan_find_none (by decide) devDome d⟩
  case ports => exact ⟨rfl, by decide, reset_hbmConfig, rfl, fun _ => rfl⟩
  case eye => exact ⟨rfl, reset_eye_tables, fun _ => ⟨rfl, rfl⟩, fun _ => ⟨rfl, rfl, rfl, rfl, rfl⟩⟩
  case debug => exact ⟨rfl, rfl, rfl, rfl, fun _ => ⟨rfl, rfl⟩, rfl, rfl⟩

end Sys2Proof.Settled
end

section
/-! A register commit that cancels a later set of another dome (R391, R441): the state that refutes `Obligations.RegisterCommitsAndLatches`. -/
namespace Sys2Proof.CommitCancels
open Sys2Proof.Machine

/-- Dome 1 exists, bound to the first VF of HP0. -/
def plan : Plan := { Plan.reset with recs := Plan.reset.recs ++ [⟨.domeCreate, devDome, 1, [.num 1, .num 0, .num 0]⟩] }

/-- That VF. -/
def vf : Fn := ⟨0, 1⟩

/-- A RATE_CLASS that stands in dome 1's staged set with the flag WITHDRAW. R384 allows the flag to the owner alone, and the check of the role refuses it, but nothing in the
statement excludes a state that holds such a command. -/
def withdrawing : Cmd := { op := .rateClass, fn := vf, dome := 1, tag := 0, flags := 8, block := [.num 1, .num 0], data := [], bytes := 0, pcrc := 0, obj := 0 }

/-- A command of the owner that modifies an instrument which is not there: its own check fails whatever set comes before it. -/
def modifying : Cmd := { op := .instrModify, fn := ownerFn, dome := 0, tag := 0, flags := 0, block := [], data := [], bytes := 0, pcrc := 0, obj := 0 }

/-- D0's set that is pending for tick 9. -/
def pendingSet : Machine.PSet := { dome := 0, cfgGen := 1, e := 9, order := 0, cmds := [modifying], sh := [], crc := 0 }

/-- In SERVICE, with that set pending, that command staged, and the owner's mailbox enabled. -/
def state : State :=
  { State.reset with dev := { State.reset.dev with st := .service }, plan := plan, psets := [pendingSet], mbx := [(ownerFn, { Mbx.reset with enable := true })],
                     domes := [(1, { DomeRun.reset with staged := [withdrawing] })] }

/-- What the GO write asks of admission. -/
def asked : SetReq := { dome := 1, cmds := (domeRun state 1).staged, q := some (winRequest state vf 1 1#32) }

/-- Admission takes the staged set: under WITHDRAW a later set whose checks fail is cancelled instead of refusing the set. -/
theorem admitted : ∃ k, admitSet (onCommit state vf (fun c => { c with busy := true })) asked = .ok k := by
  have h : (admitSet (onCommit state vf (fun c => { c with busy := true })) asked).isOk = true := by decide +kernel
  match hk : admitSet (onCommit state vf (fun c => { c with busy := true })) asked with
  | .ok k => exact ⟨k, rfl⟩
  | .error _ => rw [hk] at h; cases h

/-- Completion entries that the device has written after a step. -/
def entries : Host.Outcome State Fault Refusal → Nat
  | .next t => t.out.completions.length
  | _ => 0

/-- The CAPACITY notice to the cancelled set's dome is an entry of the owner's completion ring (R391, R397). -/
theorem notice_written : entries (exec (.commitCtrlGo vf 1#32) state) = 1 := by decide +kernel

end Sys2Proof.CommitCancels

namespace Sys2Proof.Settled
open Sys2Proof.Machine

/-- Refutes O47: the clause on a staged set that admission takes says that no completion entry is written. In `CommitCancels.state` the set cancels a pending set of another
dome, and that dome's CAPACITY notice is an entry. -/
theorem not_registerCommitsAndLatches : ¬ Obligations.RegisterCommitsAndLatches := by
  unfold Obligations.RegisterCommitsAndLatches
  rintro ⟨-, -, -, -, taken, -⟩
  obtain ⟨k, hk⟩ := CommitCancels.admitted
  obtain ⟨t, ht, -, -, -, -, -, hout, -⟩ := taken CommitCancels.state CommitCancels.vf 1 1#32 k (by decide) (by decide) (by decide) (by decide) (by decide) (by decide)
    (by decide) (by decide) rfl (by decide) (by decide) (by decide) (by decide) hk
  have hn := CommitCancels.notice_written
  rw [ht] at hn
  simp [CommitCancels.entries, hout, CommitCancels.state, State.reset] at hn

end Sys2Proof.Settled
end

section
/-! Events that grow: what was raised stays raised through every operation that raises more (R478). -/
namespace Sys2Proof.Machine

/-- Between two states events have been added, and the suppression window holds no more than it held before and what was added. -/
def EventsGrow (s t : State) : Prop :=
  ∃ y, t.out.raised = s.out.raised ++ y ∧ ∀ p ∈ t.router.window, p ∈ y ∨ p ∈ s.router.window

/-- A change that leaves events and window alone. -/
theorem EventsGrow.of_eq {s t : State} (h : t.out.raised = s.out.raised) (w : t.router.window = s.router.window) : EventsGrow s t :=
  ⟨[], by simp [h], fun p hp => .inr (w ▸ hp)⟩

theorem EventsGrow.refl (s : State) : EventsGrow s s := .of_eq rfl rfl

theorem EventsGrow.trans {s t u : State} (h : EventsGrow s t) (k : EventsGrow t u) : EventsGrow s u := by
  obtain ⟨y, hy, wy⟩ := h
  obtain ⟨z, hz, wz⟩ := k
  refine ⟨y ++ z, by rw [hz, hy, List.append_assoc], fun p hp => ?_⟩
  rcases wz p hp with hp | hp
  · exact .inl (List.mem_append_right y hp)
  · exact (wy p hp).imp (List.mem_append_left z) id

/-- Raising a source adds its event or nothing. -/
theorem EventsGrow.raise (s : State) (src cause : Nat) (o : Origin) : EventsGrow s (raise s src cause o) := by
  obtain ⟨r, y, h, hy, hw⟩ := raise_spec s src cause o
  refine ⟨y, by rw [h], fun p hp => ?_⟩
  rw [h] at hp
  rcases hw p hp with rfl | hp
  · exact hy.imp id (fun k => k.2)
  · exact .inr hp

/-- A Logbook entry adds at most the event of a full ring. -/
theorem EventsGrow.logAdd (s : State) (a : LogArgs) : EventsGrow s (logAdd s a) := by
  unfold Machine.logAdd
  simp only
  split
  · exact .of_eq rfl rfl
  · split
    · exact (EventsGrow.raise s 1350 _ .device).trans (.of_eq rfl rfl)
    · exact .of_eq rfl rfl

/-- An MSI-X message adds no event. -/
theorem EventsGrow.sendMsix (s : State) (f : Fn) (v : Nat) : EventsGrow s (sendMsix s f v) := by
  unfold Machine.sendMsix
  split <;> exact .of_eq rfl rfl

/-- A completion entry adds no event. -/
theorem EventsGrow.writeCq (s : State) (f : Fn) (a b c d e g h : Nat) (l : List Byte) : EventsGrow s (writeCq s f a b c d e g h l) := by
  unfold Machine.writeCq
  exact EventsGrow.trans (.of_eq rfl rfl) (.sendMsix _ _ _)

/-- A notice adds at most source 1217. -/
theorem EventsGrow.writeNotice (s : State) (f : Fn) (a b c d : Nat) : EventsGrow s (writeNotice s f a b c d) := by
  unfold Machine.writeNotice
  split
  · exact .refl s
  · split
    · simp only
      split
      · exact (EventsGrow.writeCq s f _ _ _ _ _ _ _ _).trans (.raise _ _ _ _)
      · exact .writeCq s f _ _ _ _ _ _ _ _
    · exact .of_eq rfl rfl

/-- A loop whose rounds add events adds events. -/
theorem EventsGrow.foldl {α : Type} {f : State → α → State} (h : ∀ s a, EventsGrow s (f s a)) (l : List α) (s : State) : EventsGrow s (l.foldl f s) :=
  foldl_keep (EventsGrow s) f (fun t a ht => ht.trans (h t a)) l s (.refl s)

/-- Entering a state adds the events of its Logbook entry and notices. -/
theorem EventsGrow.enterState (s : State) (d : DevState) : EventsGrow s (enterState s d) := by
  unfold Machine.enterState
  simp only
  refine EventsGrow.trans ?_ (.foldl (fun t f => .writeNotice t f _ _ _ _) _ _)
  refine EventsGrow.trans ?_ (.logAdd _ _)
  exact .of_eq rfl rfl

/-- What was raised stays raised. -/
theorem Raises.grow {s t u : State} {a b : Nat} (h : Raises s t a b) (g : EventsGrow t u) : Raises s u a b := by
  obtain ⟨y, hy, m⟩ := h
  obtain ⟨z, hz, -⟩ := g
  exact ⟨y ++ z, by rw [hz, hy, List.append_assoc], m.imp (List.mem_append_left z) id⟩

/-- A source raised after other events is raised, whatever they were. -/
theorem EventsGrow.raises {s t : State} (h : EventsGrow s t) (src cause : Nat) (o : Origin) : Raises s (Machine.raise t src cause o) src cause := by
  obtain ⟨y, hy, wy⟩ := h
  obtain ⟨r, z, hz, m, -⟩ := raise_spec t src cause o
  refine ⟨y ++ z, by rw [hz, hy, List.append_assoc], ?_⟩
  rcases m with m | ⟨hn, m⟩
  · exact .inl (List.mem_append_right y m)
  · exact (wy _ m).imp (List.mem_append_left z) (fun k => ⟨hn, k⟩)

end Sys2Proof.Machine
end

section
/-! What a boot leaves alone, step by step from the reset to the running image (R28, R563, R564). -/
namespace Sys2Proof.Machine

/-- What no step of a boot changes: pins and supplies, the flash, the reset's cause, the TAP, and the run-time state that the reset has cleared. -/
structure BootKept where
  tap : TapReg
  pins : PinMode
  rstLow : Bool
  supplies : Bool
  brown : Bool
  flash : Nat
  flush : Bool
  lastReset : ResetCause
  instrs : Tab (Nat × Nat) InstrRun
  psets : List PSet
  inflight : List InFlight
  mem : Memory

/-- These parts of a state. -/
def State.kept (s : State) : BootKept :=
  ⟨s.dbg.tap, s.dbg.pins, s.boot.rstLow, s.boot.supplies, s.boot.brown, s.boot.flash, s.boot.flush, s.boot.lastReset, s.instrs, s.psets, s.inflight, s.hbm.mem⟩

/-- A step of a boot: it keeps these parts, and where no mailbox has been written it writes none. -/
structure BootStep (s t : State) : Prop where
  kept : t.kept = s.kept
  mbx : s.mbx = [] → t.mbx = []

theorem BootStep.refl (s : State) : BootStep s s := ⟨rfl, id⟩

theorem BootStep.trans {s t u : State} (h : BootStep s t) (k : BootStep t u) : BootStep s u := ⟨k.kept.trans h.kept, fun m => k.mbx (h.mbx m)⟩

/-- A step after which the same image runs in the same state of the device. -/
structure ImageStep (s t : State) : Prop extends BootStep s t where
  dev : t.dev = s.dev
  running : t.boot.running = s.boot.running

theorem ImageStep.refl (s : State) : ImageStep s s := ⟨.refl s, rfl, rfl⟩

theorem ImageStep.trans {s t u : State} (h : ImageStep s t) (k : ImageStep t u) : ImageStep s u :=
  ⟨h.toBootStep.trans k.toBootStep, k.dev.trans h.dev, k.running.trans h.running⟩

/-! ### The operations of a boot -/

/-- A Logbook entry is such a step. -/
theorem ImageStep.logAdd (s : State) (a : LogArgs) : ImageStep s (logAdd s a) := by
  obtain ⟨l, r, x, h⟩ := logAdd_frame s a
  rw [h]
  exact ⟨⟨rfl, id⟩, rfl, rfl⟩

/-- A boot control record is such a step. -/
theorem ImageStep.writeCtl (s : State) (f : BootRec → BootRec) : ImageStep s (writeCtl s f) := by
  unfold Machine.writeCtl
  split
  · exact .refl s
  · exact ⟨⟨rfl, id⟩, rfl, rfl⟩

/-- A mailbox that no write has enabled gets no notice. -/
theorem writeNotice_no_mbx {s : State} (hm : s.mbx = []) (f : Fn) (a b c d : Nat) : writeNotice s f a b c d = s := by
  have he : (mbxOf s f).enable = false := by rw [mbxOf, hm]; rfl
  simp [writeNotice, he]

/-- A notice to the owner is such a step. -/
theorem ImageStep.updateNotice (s : State) (k : Nat) : ImageStep s (updateNotice s k) := by
  have hm : s.mbx = [] → (Machine.updateNotice s k).mbx = [] := fun hm => by
    rw [Machine.updateNotice, noticeOwnerNow, writeNotice_no_mbx hm, hm]
  obtain ⟨m, r, o, h⟩ := noticeOwnerNow_frame s 0x800C 0 (causeId 0x3F k) (k + 2 ^ 32)
  rw [Machine.updateNotice, h] at hm ⊢
  exact ⟨⟨rfl, hm⟩, rfl, rfl⟩

/-- An update source is such a step. -/
theorem ImageStep.updateEv (s : State) (k : Nat) : ImageStep s (updateEv s k) := by
  obtain ⟨r, x, h⟩ := raiseEv_out s (1360 + k) 1360
  rw [Machine.updateEv, h]
  exact ⟨⟨rfl, id⟩, rfl, rfl⟩

/-- Entering a state keeps what a boot keeps. -/
theorem BootStep.enterState (s : State) (d : DevState) : BootStep s (enterState s d) := by
  refine ⟨?_, fun hm => ?_⟩
  · obtain ⟨l, m, r, o, h⟩ := enterState_frame s d
    rw [h]
    rfl
  · simp [Machine.enterState, hm]

/-- The last part of the way into RECOVERY: nothing runs. -/
theorem recovery_entered {s u : State} (h : BootStep s u) (f : BootSt → BootSt) (hf : f = fun b => { b with running := none, hand := none, deadline := false }) :
    BootStep s (enterState (onBoot u f) .recovery) ∧ (enterState (onBoot u f) .recovery).dev.st = .recovery ∧ (enterState (onBoot u f) .recovery).boot.running = none := by
  subst hf
  refine ⟨(h.trans ?_).trans (.enterState _ _), by simp, by simp [onBoot]⟩
  exact ⟨rfl, id⟩

/-- RECOVERY is entered, and nothing runs (R566). -/
theorem enterRecovery_spec (s : State) (bad : List Nat) :
    BootStep s (enterRecovery s bad) ∧ (enterRecovery s bad).dev.st = .recovery ∧ (enterRecovery s bad).boot.running = none := by
  unfold enterRecovery
  simp only
  split
  · exact recovery_entered (.refl s) _ rfl
  · refine recovery_entered (BootStep.trans ?_ (ImageStep.logAdd _ _).toBootStep) _ rfl
    exact (ImageStep.writeCtl s _).toBootStep.trans ⟨rfl, id⟩

/-- Loading the settings is such a step. -/
theorem ImageStep.loadSettings (s : State) (p : Nat) (first dflt : Bool) : ImageStep s (loadSettings s p first dflt) := by
  unfold Machine.loadSettings
  simp only
  repeat' split
  all_goals exact ⟨⟨rfl, id⟩, rfl, rfl⟩

/-- The settings take effect without another change. -/
theorem ImageStep.applySettings (s : State) : ImageStep s (applySettings s) := by
  unfold Machine.applySettings
  split
  · exact .refl s
  · exact ⟨⟨rfl, id⟩, rfl, rfl⟩

/-- The Ephemeris is applied without another change. -/
theorem ImageStep.applyEphemeris (s : State) : ImageStep s (applyEphemeris s) := by
  unfold Machine.applyEphemeris
  simp only
  split <;> exact ⟨⟨rfl, id⟩, rfl, rfl⟩

/-- Burning fuses is such a step. -/
theorem ImageStep.burnFuses (s : State) (k : Nat) : ImageStep s (burnFuses s k) := by
  unfold Machine.burnFuses
  simp only
  split
  · exact .refl s
  · exact ⟨⟨rfl, id⟩, rfl, rfl⟩

/-- A target that becomes READY is such a step. -/
theorem ImageStep.makeReady (s : State) (x : Transfer) : ImageStep s (makeReady s x) :=
  ((ImageStep.writeCtl s _).trans (.updateEv _ 1)).trans (.updateNotice _ 1)

/-- Steps 4 and 5 of the boot leave the image and the state of the device as they are. -/
theorem ImageStep.startImage (s : State) : ImageStep s (startImage s) := by
  unfold Machine.startImage
  split
  · exact .refl s
  · rename_i p _
    simp only
    have loaded := ((ImageStep.loadSettings s p (slotSt s p == .trial) (ctlOf s).defaults).trans (.applySettings _)).trans (.applyEphemeris _)
    generalize Machine.applyEphemeris (Machine.applySettings (Machine.loadSettings s p (slotSt s p == .trial) (ctlOf s).defaults)) = u at loaded ⊢
    have fused : ImageStep s (if slotSt u p = .confirmed then Machine.burnFuses u p else u) := by
      split
      · exact loaded.trans (.burnFuses u p)
      · exact loaded
    generalize (if slotSt u p = .confirmed then Machine.burnFuses u p else u) = v at fused ⊢
    split
    · split
      · exact fused.trans (.makeReady v _)
      · exact fused
    · exact fused

/-! ### The choice of the slot -/

/-- What the choice of a slot ends in: a boot step, with the device in RECOVERY or in the state it was in. -/
structure SlotChosen (s t : State) : Prop extends BootStep s t where
  st : t.dev.st = s.dev.st ∨ t.dev.st = .recovery

/-- A step before the choice. -/
theorem SlotChosen.after {s t u : State} (k : SlotChosen t u) (h : BootStep s t) (hd : t.dev = s.dev) : SlotChosen s u :=
  ⟨h.trans k.toBootStep, hd ▸ k.st⟩

/-- A step that keeps the state of the device chooses. -/
theorem ImageStep.chosen {s t : State} (h : ImageStep s t) (k : Nat) : SlotChosen s (onBoot t (fun b => { b with running := some k })) :=
  ⟨h.toBootStep.trans ⟨rfl, id⟩, .inl (by rw [onBoot_dev, h.dev])⟩

/-- RECOVERY is a choice. -/
theorem SlotChosen.enterRecovery (s : State) (bad : List Nat) : SlotChosen s (enterRecovery s bad) :=
  ⟨(enterRecovery_spec s bad).1, .inr (enterRecovery_spec s bad).2.1⟩

/-- Falling back chooses the other slot, or RECOVERY. -/
theorem SlotChosen.fallBack (s : State) (bad : List Nat) (x : Nat) (c : Nat × Nat) : SlotChosen s (fallBack s bad x c) := by
  unfold Machine.fallBack
  simp only
  have marked : ImageStep s (onBoot s (fun b => { b with causePart := if c.1 = 8 then c.2 else b.causePart, verFail := b.verFail || decide (c.1 ≤ 9) })) := ⟨⟨rfl, id⟩, rfl, rfl⟩
  generalize onBoot s (fun b => { b with causePart := if c.1 = 8 then c.2 else b.causePart, verFail := b.verFail || decide (c.1 ≤ 9) }) = u at marked ⊢
  have written (f : BootRec → BootRec) : ImageStep s (updateLog (Machine.writeCtl u f) 4 c.1) := marked.trans ((ImageStep.writeCtl u f).trans (.logAdd _ _))
  split
  · exact ⟨(written _).toBootStep.trans ⟨rfl, id⟩, .inl (by rw [onBoot_dev, (written _).dev])⟩
  · exact (SlotChosen.enterRecovery _ bad).after (written _).toBootStep (written _).dev

/-- Trying a slot chooses it, or falls back. -/
theorem SlotChosen.tryBoot (s : State) (bad : List Nat) (p : Nat) : SlotChosen s (tryBoot s bad p) := by
  unfold Machine.tryBoot
  split
  · exact .fallBack s bad p _
  · simp only
    have h : ImageStep s (verifyLog s p (slotCause s p bad)) := .logAdd s _
    split
    · exact h.chosen p
    · exact (SlotChosen.fallBack _ bad p _).after h.toBootStep h.dev

/-- The ROM chooses a slot, or RECOVERY (R563). -/
theorem SlotChosen.romChoose (s : State) (bad : List Nat) : SlotChosen s (romChoose s bad) := by
  unfold Machine.romChoose
  simp only
  refine SlotChosen.after (t := onBoot s (fun b => { b with fellBack := b.fallDue, fallDue := false })) ?_ ⟨rfl, id⟩ rfl
  have tries (u : State) (f : BootRec → BootRec) (p : Nat) : SlotChosen u (Machine.tryBoot (Machine.writeCtl u f) bad p) :=
    (SlotChosen.tryBoot _ bad p).after (ImageStep.writeCtl u f).toBootStep (ImageStep.writeCtl u f).dev
  split
  · split
    · exact .enterRecovery _ bad
    · exact (ImageStep.writeCtl _ _).chosen _
  · split
    · split
      · exact .fallBack _ bad _ _
      · exact tries _ _ _
    · split
      · split
        · exact .fallBack _ bad _ _
        · exact tries _ _ _
      · exact .tryBoot _ bad _

/-! ### BOOT -/

/-- The state in which the ROM begins: the device is in BOOT, with a new challenge, and the mark of a thermal trip is in the Logbook. -/
def bootBegun (s : State) : State :=
  let s := coreAtBoot (newChallenge (enterState (meterBoot s) .boot))
  if s.boot.tripMark then onBoot (logAdd s { cls := 2, typ := Config.logType 5, security := true }) (fun b => { b with tripMark := false }) else s

/-- A boot goes on from there into RECOVERY without a flash, and otherwise to the slot that the ROM chooses. -/
theorem bootUp_eq (s : State) (bad : List Nat) :
    bootUp s bad = if !flashOk (bootBegun s) then enterRecovery (bootBegun s) bad else startImage (romChoose (bootBegun s) bad) := rfl

/-- A new challenge and the clock's start change nothing that a boot keeps. -/
theorem ImageStep.challenged (s : State) : ImageStep s (coreAtBoot (newChallenge s)) := ⟨⟨rfl, id⟩, rfl, rfl⟩

/-- The beginning keeps what a boot keeps, and of the boot's own state all but the mark of the trip. -/
theorem bootBegun_spec (s : State) : BootStep s (bootBegun s) ∧ (bootBegun s).dev.st = .boot ∧ ∃ b, (bootBegun s).boot = { s.boot with tripMark := b } := by
  have entered : BootStep s (enterState (meterBoot s) .boot) := BootStep.trans (t := meterBoot s) ⟨rfl, id⟩ (.enterState _ _)
  have hst : (enterState (meterBoot s) .boot).dev.st = .boot := by rw [enterState_dev]
  have hb : (enterState (meterBoot s) .boot).boot = s.boot := by rw [enterState_boot, meterBoot]
  unfold bootBegun
  simp only
  generalize enterState (meterBoot s) .boot = u at entered hst hb ⊢
  have core := ImageStep.challenged u
  replace hb : (coreAtBoot (newChallenge u)).boot = s.boot := hb
  generalize coreAtBoot (newChallenge u) = v at core hb ⊢
  split
  · have h := ImageStep.logAdd v { cls := 2, typ := Config.logType 5, security := true }
    refine ⟨((entered.trans core.toBootStep).trans h.toBootStep).trans ⟨rfl, id⟩, by rw [onBoot_dev, h.dev, core.dev, hst], false, ?_⟩
    simp [onBoot, hb]
  · exact ⟨entered.trans core.toBootStep, by rw [core.dev, hst], s.boot.tripMark, hb⟩

/-- A boot ends in BOOT or in RECOVERY, and keeps what a boot keeps. -/
theorem bootUp_spec (s : State) (bad : List Nat) : BootStep s (bootUp s bad) ∧ ((bootUp s bad).dev.st = .boot ∨ (bootUp s bad).dev.st = .recovery) := by
  obtain ⟨begun, hst, -⟩ := bootBegun_spec s
  rw [bootUp_eq]
  split
  · exact ⟨begun.trans (enterRecovery_spec _ bad).1, .inr (enterRecovery_spec _ bad).2.1⟩
  · have chosen := SlotChosen.romChoose (bootBegun s) bad
    have image := ImageStep.startImage (romChoose (bootBegun s) bad)
    exact ⟨(begun.trans chosen.toBootStep).trans image.toBootStep, by rw [image.dev, ← hst]; exact chosen.st⟩

/-- Without a flash of 512 Mbit the boot ends in RECOVERY (R559, R566). -/
theorem bootUp_no_flash {s : State} (bad : List Nat) (h : s.boot.flash < 512) : (bootUp s bad).dev.st = .recovery := by
  obtain ⟨-, -, b, hb⟩ := bootBegun_spec s
  have hf : flashOk (bootBegun s) = false := by simp [flashOk, hb, h]
  rw [bootUp_eq, hf]
  exact (enterRecovery_spec _ bad).2.1

/-- Verification looks at the flash, its slots and the fuses. -/
theorem slotCause_congr {s t : State} (hs : t.boot.slots = s.boot.slots) (hf : t.boot.flash = s.boot.flash) (hl : t.boot.floor = s.boot.floor)
    (hr : t.boot.revoked = s.boot.revoked) (k : Nat) (bad : List Nat) : slotCause t k bad = slotCause s k bad := by
  unfold slotCause bindCause slotBytes flashOk slotImg
  rw [hs, hf, hl, hr]

/-- So does the test whether a slot verifies. -/
theorem verifies_congr {s t : State} (hs : t.boot.slots = s.boot.slots) (hf : t.boot.flash = s.boot.flash) (hl : t.boot.floor = s.boot.floor)
    (hr : t.boot.revoked = s.boot.revoked) (k : Nat) (bad : List Nat) : verifies t k bad = verifies s k bad := by
  rw [verifies, slotCause_congr hs hf hl hr, verifies]

/-- The ROM starts a CONFIRMED slot that verifies, unless a boot fault has brought the reset (R563, R565). -/
theorem romChoose_confirmed {s : State} {bad : List Nat} {r : BootRec} (hc : s.boot.ctl = some r) (hst : r.states.getD r.active .empty = .confirmed)
    (hl : s.boot.lastReset ≠ .bootFault) (hv : slotCause s r.active bad = none) :
    (romChoose s bad).dev = s.dev ∧ (romChoose s bad).boot.running = some r.active := by
  have hrom : romChoose s bad = tryBoot (onBoot s (fun b => { b with fellBack := b.fallDue, fallDue := false })) bad r.active := by
    simp only [romChoose, onBoot, hc, hst, hl, reduceCtorEq, or_self, if_false]
  have hslot : slotSt (onBoot s (fun b => { b with fellBack := b.fallDue, fallDue := false })) r.active = .confirmed := by
    simp only [slotSt, onBoot, hc, hst]
  have hcause : slotCause (onBoot s (fun b => { b with fellBack := b.fallDue, fallDue := false })) r.active bad = none :=
    Eq.trans (slotCause_congr (s := s) rfl rfl rfl rfl r.active bad) hv
  rw [hrom]
  simp only [tryBoot, hslot, hcause, reduceCtorEq, if_false]
  exact ⟨by rw [onBoot_dev, verifyLog, logAdd_dev, onBoot_dev], rfl⟩

/-- So does the boot. -/
theorem bootUp_confirmed {s : State} {bad : List Nat} {r : BootRec} (hf : 512 ≤ s.boot.flash) (hc : s.boot.ctl = some r) (hst : r.states.getD r.active .empty = .confirmed)
    (hl : s.boot.lastReset ≠ .bootFault) (hv : verifies s r.active bad = true) : (bootUp s bad).dev.st = .boot ∧ (bootUp s bad).boot.running = some r.active := by
  obtain ⟨-, hboot, b, hb⟩ := bootBegun_spec s
  have hflash : flashOk (bootBegun s) = true := by simp [flashOk, hb, hf]
  have hcause : slotCause (bootBegun s) r.active bad = none := by
    rw [slotCause_congr (s := s) (by rw [hb]) (by rw [hb]) (by rw [hb]) (by rw [hb])]
    simpa [verifies] using hv
  obtain ⟨hdev, hrun⟩ := romChoose_confirmed (s := bootBegun s) (by rw [hb, hc]) hst (by rw [hb]; exact hl) hcause
  have image := ImageStep.startImage (romChoose (bootBegun s) bad)
  rw [bootUp_eq, hflash]
  exact ⟨by simpa [image.dev, hdev] using hboot, by simpa [image.running] using hrun⟩

end Sys2Proof.Machine
end

section
/-! The end of a boot (BOOT_COMPLETE, R563 to R565, R581): its stages, and what each of them tells. -/
namespace Sys2Proof.Machine

/-- A step that adds events and changes neither the boot's state nor the plan. -/
structure CareStep (s t : State) : Prop where
  grow : EventsGrow s t
  boot : t.boot = s.boot
  plan : t.plan = s.plan

theorem CareStep.refl (s : State) : CareStep s s := ⟨.refl s, rfl, rfl⟩

theorem CareStep.trans {s t u : State} (h : CareStep s t) (k : CareStep t u) : CareStep s u := ⟨h.grow.trans k.grow, k.boot.trans h.boot, k.plan.trans h.plan⟩

/-- Health and reserves change by such a step. -/
theorem CareStep.onCare (s : State) (f : CareSt → CareSt) : CareStep s (onCare s f) := ⟨.of_eq rfl rfl, rfl, rfl⟩

theorem CareStep.logAdd (s : State) (a : LogArgs) : CareStep s (logAdd s a) := ⟨.logAdd s a, logAdd_boot s a, logAdd_plan s a⟩

theorem CareStep.raise (s : State) (src cause : Nat) (o : Origin) : CareStep s (raise s src cause o) := ⟨.raise s src cause o, raise_boot s src cause o, raise_plan s src cause o⟩

theorem CareStep.updateNotice (s : State) (k : Nat) : CareStep s (updateNotice s k) :=
  ⟨.writeNotice s ownerFn _ _ _ _, noticeOwnerNow_boot s _ _ _ _, noticeOwnerNow_plan s _ _ _ _⟩

theorem CareStep.enterState (s : State) (d : DevState) : CareStep s (enterState s d) := ⟨.enterState s d, enterState_boot s d, enterState_plan s d⟩

/-- The decision to move a tile's work is such a step, whatever it decides (R510). -/
theorem CareStep.decideSwap (s : State) (t : Nat) (cold : Bool) : CareStep s (decideSwap s t cold) := by
  unfold Machine.decideSwap
  split
  · exact .refl s
  · rename_i l _
    simp only
    have spoiled : CareStep s (if cold then spoilTile s l else s) := by
      split
      · exact ⟨.of_eq rfl rfl, rfl, rfl⟩
      · exact .refl s
    generalize (if cold then spoilTile s l else s) = u at spoiled ⊢
    split
    · split
      · exact spoiled.trans (.onCare u _)
      · exact spoiled.trans (.onCare u _)
    · split
      · exact ((spoiled.trans (.onCare u _)).trans (.onCare _ _)).trans (.logAdd _ _)
      · exact spoiled

/-! ### The stages of BOOT_COMPLETE -/

/-- The boot control record after a boot that succeeded: a slot under TRIAL is UNCONFIRMED, and no boot has failed. -/
def bootRecorded (s : State) (k : Nat) : State :=
  if slotSt s k == .trial then writeCtl s (fun r => { r.slotTo k .unconfirmed with confirmBy := confirmFrom s, cfails := 0 })
  else if (ctlOf s).cfails = 0 then s else writeCtl s (fun r => { r with cfails := 0 })

/-- The first boot of an image is told to the Logbook, by source 1365, and to the owner. -/
def trialTold (k : Nat) (trial : Bool) (s : State) : State := if trial then updateNotice (updateEv (updateLog s 5 k) 5) 5 else s

/-- A slot that did not verify is told by source 1362. -/
def verFailTold (s : State) : State := if s.boot.verFail then updateEv s 2 else s

/-- A fall-back is told by source 1364 and to the owner. -/
def fellBackTold (s : State) : State := if s.boot.fellBack then updateNotice (updateEv s 4) 4 else s

/-- The work of worn and failed tiles is to move. -/
def wornDecided (s : State) : State :=
  (List.range 68).foldl (fun (s : State) (t : Nat) => if (tileOf s t).st = .worn ∨ (tileOf s t).st = .failed then decideSwap s t ((tileOf s t).st == .failed) else s) s

/-- A boot after which every tile and every control processor is as it was runs through these stages to the first calibration. -/
theorem bootComplete_eq {s : State} {k : Nat} (hk : s.boot.running = some k) (hb : s.dev.st = .boot) (ha : (cpIn s .active).isSome = true) :
    exec (.bootComplete [] [] []) s =
      .next (calBegin (wornDecided (fellBackTold (verFailTold (trialTold k (slotSt s k == .trial) (bootRecorded s k))))) 0 0) := by
  have hroles : onCare s (fun c => { c with cps := s.care.cps.zipIdx.map (fun (e : CpRole × Nat) => if ([] : List Nat).contains e.2 = true then CpRole.failed else e.1) }) = s := by
    simp [onCare, List.zipIdx_map_fst]
  obtain ⟨a, ha⟩ := Option.isSome_iff_exists.1 ha
  show execBootComplete [] [] [] s = _
  unfold execBootComplete
  simp only [hk, hb, repairPages, List.foldl_nil, hroles, ha, Option.isNone_some, Bool.false_and, ne_eq, not_true_eq_false, if_false, Bool.false_eq_true]
  rfl

/-- The record changes the boot control record alone. -/
theorem bootRecorded_frame (s : State) (k : Nat) : ∃ c, bootRecorded s k = { s with boot := { s.boot with ctl := c } } := by
  unfold bootRecorded writeCtl
  split
  · split
    · exact ⟨s.boot.ctl, rfl⟩
    · exact ⟨_, rfl⟩
  · split
    · exact ⟨s.boot.ctl, rfl⟩
    · split
      · exact ⟨s.boot.ctl, rfl⟩
      · exact ⟨_, rfl⟩

/-- A slot under TRIAL that has a place in the record is UNCONFIRMED there. -/
theorem bootRecorded_trial {s : State} {k : Nat} (ht : slotSt s k = .trial) (hf : flashOk s = true) (hl : ∀ x, s.boot.ctl = some x → k < x.states.length) :
    slotSt (bootRecorded s k) k = .unconfirmed := by
  match hc : s.boot.ctl with
  | none => simp [slotSt, hc] at ht
  | some r =>
    have hk : k < r.states.length := hl r hc
    have hrec : bootRecorded s k = writeCtl s (fun r => { r.slotTo k .unconfirmed with confirmBy := confirmFrom s, cfails := 0 }) := by simp [bootRecorded, ht]
    rw [hrec]
    simp [writeCtl, hf, onBoot, slotSt, ctlOf, hc, BootRec.slotTo, hk]

/-- Telling of a first boot is such a step. -/
theorem CareStep.trialTold (k : Nat) (b : Bool) (s : State) : CareStep s (trialTold k b s) := by
  unfold Machine.trialTold
  split
  · exact ((CareStep.logAdd s _).trans (.raise _ _ _ _)).trans (.updateNotice _ 5)
  · exact .refl s

/-- Telling of a failed verification is such a step. -/
theorem CareStep.verFailTold (s : State) : CareStep s (verFailTold s) := by
  unfold Machine.verFailTold
  split
  · exact .raise _ _ _ _
  · exact .refl s

/-- Telling of a fall-back is such a step. -/
theorem CareStep.fellBackTold (s : State) : CareStep s (fellBackTold s) := by
  unfold Machine.fellBackTold
  split
  · exact (CareStep.raise _ _ _ _).trans (.updateNotice _ 4)
  · exact .refl s

/-- Deciding over the worn tiles is such a step. -/
theorem CareStep.wornDecided (s : State) : CareStep s (wornDecided s) := by
  refine foldl_keep (CareStep s) _ (fun u t h => ?_) _ s (.refl s)
  split
  · exact h.trans (.decideSwap u t _)
  · exact h

/-- The first calibration begins: the device is in CALIBRATE, and source 1317 tells it (R525). -/
theorem calBegin_device (s : State) : CareStep s (calBegin s 0 0) ∧ (calBegin s 0 0).dev.st = .calibrate ∧ (0, 0) ∈ (calBegin s 0 0).care.cals ∧
    ∀ s0, EventsGrow s0 s → Raises s0 (calBegin s 0 0) 1317 (causeId 0x3F 0) := by
  have entered := ((CareStep.onCare s (fun c => { c with cals := c.cals ++ [(0, 0)] })).trans (.enterState _ .calibrate)).trans
    (.onCare _ (fun c => { c with figs := c.figs.map (fun (e : (Nat × Nat) × Fig) => (e.1, { e.2 with stale := true })) }))
  unfold calBegin
  simp only
  refine ⟨entered.trans (.raise _ _ _ _), ?_, ?_, fun s0 h => (h.trans entered.grow).raises _ _ _⟩
  · simp
  · simp [onCare]

end Sys2Proof.Machine
end

section
/-! Resets and the flush (R28, R564, R565, R613), and the statement that they settle. -/
namespace Sys2Proof.Machine

/-- What a reset of state `s` with cause `c` leaves: the reset values, and what flash, fuses and host hold. -/
def FreshAfter (s t : State) (c : ResetCause) : Prop :=
  t.dev.st = .cold ∧ t.plan = State.reset.plan ∧ t.psets = [] ∧ t.inflight = [] ∧ t.instrs = [] ∧ t.streams = [] ∧ t.feeds = [] ∧ t.sextants = State.reset.sextants ∧ t.apertures = [] ∧
  t.mbx = State.reset.mbx ∧ t.domes = [] ∧ t.regs = State.reset.regs ∧ t.dma = [] ∧ t.hbm.mem = [] ∧ t.hbm.retired = s.hbm.retired ∧ t.log.flash = s.log.flash ∧ t.log.seq = s.log.seq ∧
  t.log.ram = [] ∧ t.meter.ring = s.meter.ring ∧ t.meter.seqs = s.meter.seqs ∧ t.meter.checkpoints = s.meter.checkpoints ∧ t.time.house = s.time.houseCheckpoint ∧ t.time.tick64 = 0 ∧
  t.boot.lastReset = c ∧ t.boot.ctl = s.boot.ctl ∧ t.boot.slots = s.boot.slots ∧ t.dev.goneTiles = s.dev.goneTiles ∧ t.dev.tileMap = s.dev.tileMap ∧ t.care.halves = s.care.halves ∧
  t.out = s.out ∧ t.pending = s.pending

/-- A reset leaves that. -/
theorem resetState_fresh (s : State) (c : ResetCause) : FreshAfter s (resetState s c) c :=
  ⟨rfl, rfl, rfl, rfl, rfl, rfl, rfl, rfl, rfl, rfl, rfl, rfl, rfl, rfl, rfl, rfl, rfl, rfl, rfl, rfl, rfl, rfl, rfl, rfl, rfl, rfl, rfl, rfl, rfl, rfl, rfl⟩

/-- What holds the device in COLD: RST_N, a rail, a brown-out, or a thermal trip. -/
def HeldCold (s : State) : Prop := s.boot.rstLow = true ∨ s.boot.supplies = false ∨ s.boot.brown = true ∨ s.care.tripped = true

/-- The device is in BOOT or in RECOVERY. -/
def Booted (t : State) : Prop := t.dev.st = .boot ∨ t.dev.st = .recovery

/-- A reset of a device that is held ends in COLD. -/
theorem resetNow_held {s : State} (h : HeldCold s) (c : ResetCause) (bad : List Nat) : resetNow s c bad = resetState s c := by
  have hc : ((resetState s c).boot.rstLow || !(resetState s c).boot.supplies || (resetState s c).boot.brown || (resetState s c).care.tripped) = true := by
    show (s.boot.rstLow || !s.boot.supplies || s.boot.brown || s.care.tripped) = true
    rcases h with h | h | h | h <;> simp [h]
  simp only [resetNow, hc, if_true]

/-- A reset of a device that nothing holds goes on into a boot. -/
theorem resetNow_boots {s : State} (h : ¬HeldCold s) (c : ResetCause) (bad : List Nat) : resetNow s c bad = bootUp (resetState s c) bad := by
  simp only [HeldCold, not_or, Bool.not_eq_true, Bool.not_eq_false] at h
  obtain ⟨hr, hs, hb, ht⟩ := h
  have hc : ((resetState s c).boot.rstLow || !(resetState s c).boot.supplies || (resetState s c).boot.brown || (resetState s c).care.tripped) = false := by
    show (s.boot.rstLow || !s.boot.supplies || s.boot.brown || s.care.tripped) = false
    simp [hr, hs, hb, ht]
  simp only [resetNow, hc, Bool.false_eq_true, if_false]

/-- What a boot after a reset leaves as the reset made it. -/
theorem resetState_bootUp (s : State) (c : ResetCause) (bad : List Nat) : Booted (bootUp (resetState s c) bad) ∧ (bootUp (resetState s c) bad).boot.lastReset = c ∧
    (bootUp (resetState s c) bad).boot.flush = false ∧ (bootUp (resetState s c) bad).instrs = [] ∧ (bootUp (resetState s c) bad).psets = [] ∧
    (bootUp (resetState s c) bad).inflight = [] ∧ (bootUp (resetState s c) bad).mbx = [] ∧ (bootUp (resetState s c) bad).hbm.mem = [] := by
  obtain ⟨⟨kept, mbx⟩, hst⟩ := bootUp_spec (resetState s c) bad
  exact ⟨hst, congrArg BootKept.lastReset kept, congrArg BootKept.flush kept, congrArg BootKept.instrs kept, congrArg BootKept.psets kept, congrArg BootKept.inflight kept,
    mbx rfl, congrArg BootKept.mem kept⟩

/-- A running flush holds a reset off. -/
theorem resetHeld_flush {s : State} (h : s.boot.flush = true) (c : ResetCause) (bad : List Nat) : resetHeld s c bad = { s with boot := { s.boot with heldReset := some c } } := by
  rw [resetHeld, if_pos h]
  rfl

/-- Without one the reset is at once. -/
theorem resetHeld_now {s : State} (h : s.boot.flush = false) (c : ResetCause) (bad : List Nat) : resetHeld s c bad = resetNow s c bad := by
  simp only [resetHeld, h, Bool.false_eq_true, if_false]

/-- The commands that reset the device with cause `c`, where their condition holds. -/
def Resets (s : State) (b : List Nat) (i : Instr) (c : ResetCause) : Prop :=
  ((i = Instr.bootStepLimitExpiry b ∨ i = .bootFirmwareFault b) ∧ s.dev.st = .boot ∧ c = ResetCause.bootFault) ∨ (i = .swResetExpiry b ∧ s.boot.swReset = true ∧ c = .swReset) ∨
    (i = .deadlineReset b ∧ s.boot.deadline = true ∧ c = .swReset)

/-- Each of them makes a reset that a flush holds off. -/
theorem exec_of_resets {s : State} {b : List Nat} {i : Instr} {c : ResetCause} (h : Resets s b i c) : exec i s = .next (resetHeld s c b) := by
  rcases h with ⟨rfl | rfl, hb, rfl⟩ | ⟨rfl, hb, rfl⟩ | ⟨rfl, hb, rfl⟩
  · show execBootStepLimitExpiry b s = _
    simp [execBootStepLimitExpiry, hb]
  · show execBootFirmwareFault b s = _
    simp [execBootFirmwareFault, hb]
  · show execSwResetExpiry b s = _
    simp [execSwResetExpiry, hb]
  · show execDeadlineReset b s = _
    simp [execDeadlineReset, hb]

/-! ### The flush -/

/-- Chaining anew changes no flags. -/
theorem rechain_eflags : ∀ (l : List LogEntry) (p : Nat), (rechain p l).map LogEntry.eflags = l.map LogEntry.eflags
  | [], _ => rfl
  | e :: r, p => by simp [rechain, rechain_eflags r]

/-- A full flush writes every SECURITY entry and closed record, and marks the entries written (R429, R435, R613). -/
theorem flushAll_spec (s : State) : (flushAll s).meter.closed = [] ∧ (flushAll s).time.houseCheckpoint = s.time.house ∧
    (∀ e ∈ (flushAll s).log.ram, e.eflags.testBit 0 = true → e.eflags.testBit 1 = true) ∧ (flushAll s).log.ram.length = s.log.ram.length ∧
    (s.log.flash.length + s.log.ram.length ≤ flashRing → (flushAll s).log.flash = s.log.flash ++ s.log.ram.filter (fun e => e.eflags.testBit 0 && !e.eflags.testBit 1)) ∧
    (s.meter.ring.length + s.meter.closed.length ≤ meterRing → (flushAll s).meter.ring = s.meter.ring ++ s.meter.closed) := by
  have hflags : (flushAll s).log.ram.map LogEntry.eflags = s.log.ram.map (fun e => if e.eflags.testBit 0 = true then e.eflags ||| 2 else e.eflags) := by
    simp only [flushAll, rechain_eflags, List.map_map]
    exact List.map_congr_left (fun e _ => by simp only [Function.comp]; split <;> rfl)
  refine ⟨rfl, rfl, fun e he h0 => ?_, by simpa using congrArg List.length hflags, fun hl => ?_, fun hl => ?_⟩
  · obtain ⟨x, -, hx⟩ := List.mem_map.1 (hflags ▸ List.mem_map_of_mem (f := LogEntry.eflags) he)
    rw [← hx] at h0 ⊢
    split at h0
    · rename_i hb
      rw [if_pos hb, Nat.testBit_or, Bool.or_eq_true]
      exact .inr (by decide)
    · contradiction
  · have hd := List.length_filter_le (fun e : LogEntry => e.eflags.testBit 0 && !e.eflags.testBit 1) s.log.ram
    have hz : (s.log.flash ++ s.log.ram.filter (fun e => e.eflags.testBit 0 && !e.eflags.testBit 1)).length - flashRing = 0 := by
      rw [List.length_append]; omega
    simp only [flushAll, hz, List.drop_zero]
  · have hz : (s.meter.ring ++ s.meter.closed).length - meterRing = 0 := by rw [List.length_append]; omega
    simp only [flushAll, hz, List.drop_zero]

/-- With no folio waiting there is nothing to drain. -/
theorem folioDrain_nil {s : State} (h : s.boot.folioQ = []) : folioDrain s = s := by
  have hs : onBoot s (fun b => { b with folioQ := [] }) = s := by
    rw [onBoot, ← h]
  unfold folioDrain
  split
  · rfl
  · simp only [h, List.foldl_nil, hs]

/-- The state at the end of a flush, before a reset that it held off. -/
def flushEnded (s : State) (complete : Bool) : State := onBoot (if complete then flushAll s else s) (fun b => { b with flush := false })

/-- The end of a flush changes the Logbook, the meter and the checkpoint of house time, beside its own mark. -/
theorem flushEnded_frame (s : State) (complete : Bool) : ∃ l m h, flushEnded s complete = { s with boot := { s.boot with flush := false }, log := l, meter := m, time := h } := by
  unfold flushEnded
  split
  · exact ⟨_, _, _, rfl⟩
  · exact ⟨s.log, s.meter, s.time, rfl⟩

/-- With no reset held off the flush ends so. -/
theorem flushEnd_none {s : State} (hf : s.boot.flush = true) (hr : s.boot.heldReset = none) (hq : s.boot.folioQ = []) (complete : Bool) :
    exec (.flushEnd complete) s = .next (flushEnded s complete) := by
  obtain ⟨l, m, h, he⟩ := flushEnded_frame s complete
  have hd : folioDrain (flushEnded s complete) = flushEnded s complete := folioDrain_nil (by rw [he]; exact hq)
  have hn : (flushEnded s complete).boot.heldReset = none := by rw [he]; exact hr
  show execFlushEnd complete s = _
  simp only [execFlushEnd, hf, Bool.not_true, Bool.false_eq_true, if_false]
  show (match (flushEnded s complete).boot.heldReset with | some c => _ | none => Host.Outcome.next (folioDrain (flushEnded s complete))) = _
  rw [hn, hd]

/-- A reset that the flush held off comes at its end. -/
theorem flushEnd_some {s : State} {c : ResetCause} (hf : s.boot.flush = true) (hr : s.boot.heldReset = some c) (complete : Bool) :
    exec (.flushEnd complete) s = .next (resetNow (flushEnded s complete) c []) := by
  obtain ⟨l, m, h, he⟩ := flushEnded_frame s complete
  have hn : (flushEnded s complete).boot.heldReset = some c := by rw [he]; exact hr
  show execFlushEnd complete s = _
  simp only [execFlushEnd, hf, Bool.not_true, Bool.false_eq_true, if_false]
  show (match (flushEnded s complete).boot.heldReset with | some c => Host.Outcome.next (resetNow (flushEnded s complete) c []) | none => _) = _
  rw [hn]

/-- What holds the device does so before and after the end of a flush. -/
theorem heldCold_flushEnded (s : State) (complete : Bool) : HeldCold (flushEnded s complete) ↔ HeldCold s := by
  obtain ⟨l, m, h, he⟩ := flushEnded_frame s complete
  rw [he]
  exact Iff.rfl

/-! ### RST_N, supplies, and the end of the boot -/

/-- RST_N that falls outside COLD resets the device (R28). -/
theorem rstNAssert_resets {s : State} (h : s.dev.st ≠ .cold) : exec .rstNAssert s = .next (resetHeld (onBoot s (fun b => { b with rstLow := true })) .rstN []) :=
  congrArg Host.Outcome.next (if_neg h)

/-- RST_N that rises over a device that something else holds, or that is not in COLD, is noted (R591). -/
theorem rstNRelease_noted {s : State} (hl : s.boot.rstLow = true) (h : s.dev.st ≠ .cold ∨ s.boot.supplies = false ∨ s.boot.brown = true ∨ s.care.tripped = true) (f : Nat) (b : List Nat) :
    exec (.rstNRelease f b) s = .next { s with boot := { s.boot with rstLow := false, flash := f }, dbg := { s.dbg with tap := .idcode, pins := .normal } } := by
  show execRstNRelease f b s = _
  have hc : s.dev.st ≠ .cold ∨ (!s.boot.supplies) = true ∨ s.boot.brown = true ∨ s.care.tripped = true := by simpa using h
  simp only [execRstNRelease, hl, Bool.not_true, Bool.false_eq_true, if_false]
  exact congrArg Host.Outcome.next (if_pos hc)

/-- RST_N that rises over a device in COLD that nothing else holds boots it (R564, R609). -/
theorem rstNRelease_boots {s : State} (hl : s.boot.rstLow = true) (hc : s.dev.st = .cold) (hs : s.boot.supplies = true) (hb : s.boot.brown = false) (ht : s.care.tripped = false)
    (f : Nat) (b : List Nat) : exec (.rstNRelease f b) s =
      .next (bootUp { s with boot := { s.boot with rstLow := false, flash := f }, dbg := { s.dbg with tap := .idcode, pins := .normal } } b) := by
  show execRstNRelease f b s = _
  have hn : ¬(s.dev.st ≠ .cold ∨ (!s.boot.supplies) = true ∨ s.boot.brown = true ∨ s.care.tripped = true) := by simp [hc, hs, hb, ht]
  simp only [execRstNRelease, hl, Bool.not_true, Bool.false_eq_true, if_false]
  exact congrArg Host.Outcome.next (if_neg hn)

/-- Supplies that return to a device that something else holds, or that is not in COLD, are noted. -/
theorem supplyReturn_noted {s : State} (h : s.dev.st ≠ .cold ∨ s.boot.rstLow = true ∨ s.care.tripped = true) (f : Nat) (b : List Nat) :
    exec (.supplyReturn f b) s = .next { s with boot := { s.boot with supplies := true, brown := false } } := by
  show execSupplyReturn f b s = _
  exact congrArg Host.Outcome.next (if_pos h)

/-- Supplies that return to a device in COLD that nothing else holds boot it (R610). -/
theorem supplyReturn_boots {s : State} (hc : s.dev.st = .cold) (hl : s.boot.rstLow = false) (ht : s.care.tripped = false) (f : Nat) (b : List Nat) :
    exec (.supplyReturn f b) s = .next (bootUp { s with boot := { s.boot with supplies := true, brown := false, flash := f } } b) := by
  have hn : ¬(s.dev.st ≠ .cold ∨ s.boot.rstLow = true ∨ s.care.tripped = true) := by simp [hc, hl, ht]
  show execSupplyReturn f b s = _
  exact congrArg Host.Outcome.next (if_neg hn)

/-- Without an image that runs, or outside BOOT, BOOT_COMPLETE does nothing. -/
theorem bootComplete_idle {s : State} (h : s.boot.running = none ∨ s.dev.st ≠ .boot) (r : List (Nat × Nat)) (l c : List Nat) : exec (.bootComplete r l c) s = .next s := by
  show execBootComplete r l c s = _
  unfold execBootComplete
  rcases h with h | h
  · rw [h]
  · split
    · rfl
    · exact if_pos h

/-- A repaired page changes HBM, and raises its event (R502). -/
theorem repairPages_frame (l : List (Nat × Nat)) (s : State) : ∃ m r o, repairPages s l = { s with hbm := m, router := r, out := o } := by
  refine foldl_keep (fun t => ∃ m r o, t = { s with hbm := m, router := r, out := o }) _ ?_ l s ⟨s.hbm, s.router, s.out, rfl⟩
  rintro _ e ⟨m, r, o, rfl⟩
  simp only
  split
  · exact ⟨m, r, o, rfl⟩
  · obtain ⟨r', o', h⟩ := raise_frame (hbmCount (onHbm { s with hbm := m, router := r, out := o } _) .pprDone e.1 1) (1072 + 8 * e.1 + 3) (causeId 0x3F (8 * e.1 + 3)) .device
    rw [hbmEvent, h]
    exact ⟨_, r', o', rfl⟩

/-- A role is not found where every control processor has another. -/
theorem cpIn_none {s : State} {r : CpRole} (h : ∀ x ∈ s.care.cps, x ≠ r) : cpIn s r = none := by
  rw [cpIn, List.findIdx?_eq_none_iff]
  exact fun x hx => by simpa using h x hx

/-- Without a control processor that starts the boot ends in RECOVERY (R565). -/
theorem bootComplete_no_processor {s : State} {k : Nat} (hk : s.boot.running = some k) (hb : s.dev.st = .boot) (hn : s.care.cps.length = 4) (r : List (Nat × Nat)) (l : List Nat) :
    ∃ u, exec (.bootComplete r l [0, 1, 2, 3]) s = .next (enterRecovery u []) := by
  obtain ⟨m, rt, o, hrep⟩ := repairPages_frame r s
  have hall : ∀ e ∈ s.care.cps.zipIdx, ([0, 1, 2, 3] : List Nat).contains e.2 = true := by
    intro e he
    have hlt : e.2 < 0 + s.care.cps.length := List.snd_lt_add_of_mem_zipIdx he
    rw [hn] at hlt
    simp only [List.contains_iff_mem, List.mem_cons, List.not_mem_nil, or_false]
    omega
  have hroles : s.care.cps.zipIdx.map (fun (e : CpRole × Nat) => if ([0, 1, 2, 3] : List Nat).contains e.2 = true then CpRole.failed else e.1) = s.care.cps.zipIdx.map (fun _ => CpRole.failed) :=
    List.map_congr_left (fun e he => if_pos (hall e he))
  have hnone (u : State) (hu : u.care.cps = s.care.cps.zipIdx.map (fun _ => CpRole.failed)) {role : CpRole} (hr : role ≠ .failed) : cpIn u role = none :=
    cpIn_none (fun x hx => by
      rw [hu] at hx
      obtain ⟨-, -, rfl⟩ := List.mem_map.1 hx
      exact Ne.symm hr)
  refine ⟨onCare (repairPages s r) (fun c => { c with cps := s.care.cps.zipIdx.map (fun _ => CpRole.failed) }), ?_⟩
  show execBootComplete r l [0, 1, 2, 3] s = _
  simp only [execBootComplete, hk, hb, hrep, hroles, ne_eq, not_true_eq_false, if_false]
  rw [hnone _ rfl (by decide), hnone _ rfl (by decide)]
  rfl

/-- A boot that ends with an active control processor begins the first calibration, and tells what it has found (R563 to R565, R581). -/
theorem bootComplete_calibrates {s : State} {k : Nat} (hk : s.boot.running = some k) (hb : s.dev.st = .boot) (ha : (cpIn s .active).isSome = true) :
    NextWith (exec (.bootComplete [] [] []) s) fun t => t.dev.st = .calibrate ∧ (0, 0) ∈ t.care.cals ∧ Raises s t 1317 (causeId 0x3F 0) ∧ t.boot.running = some k ∧ t.plan = s.plan ∧
      (slotSt s k = .trial → flashOk s = true → (∀ x, s.boot.ctl = some x → k < x.states.length) → slotSt t k = .unconfirmed ∧ Raises s t 1365 (causeId 0x3F 5)) ∧
      (s.boot.fellBack = true → Raises s t 1364 (causeId 0x3F 4)) ∧ (s.boot.verFail = true → Raises s t 1362 (causeId 0x3F 2)) := by
  obtain ⟨c, hrec⟩ := bootRecorded_frame s k
  have hrun : (bootRecorded s k).boot.running = some k := by rw [hrec]; exact hk
  have hback : (bootRecorded s k).boot.fellBack = s.boot.fellBack := by rw [hrec]
  have hfail : (bootRecorded s k).boot.verFail = s.boot.verFail := by rw [hrec]
  have hplan : (bootRecorded s k).plan = s.plan := by rw [hrec]
  have grow0 : EventsGrow s (bootRecorded s k) := by rw [hrec]; exact .of_eq rfl rfl
  have trial (ht : slotSt s k = .trial) := bootRecorded_trial (s := s) (k := k) ht
  rw [bootComplete_eq hk hb ha]
  generalize bootRecorded s k = a at *
  have step1 := CareStep.trialTold k (slotSt s k == .trial) a
  have step2 := CareStep.verFailTold (trialTold k (slotSt s k == .trial) a)
  have step3 := CareStep.fellBackTold (verFailTold (trialTold k (slotSt s k == .trial) a))
  have step4 := CareStep.wornDecided (fellBackTold (verFailTold (trialTold k (slotSt s k == .trial) a)))
  obtain ⟨step5, hst, hcal, hraise⟩ := calBegin_device (wornDecided (fellBackTold (verFailTold (trialTold k (slotSt s k == .trial) a))))
  have after3 := step4.trans step5
  have after2 := step3.trans after3
  have after1 := step2.trans after2
  have all := step1.trans after1
  refine ⟨_, rfl, hst, hcal, hraise s (grow0.trans ((step1.trans (step2.trans (step3.trans step4))).grow)), by rw [all.boot, hrun], by rw [all.plan, hplan], ?_, ?_, ?_⟩
  · intro ht hf hl
    refine ⟨?_, ?_⟩
    · have hu := trial ht hf hl
      rwa [slotSt, ← all.boot, ← slotSt] at hu
    · have hr : Raises s (trialTold k (slotSt s k == .trial) a) 1365 (causeId 0x3F 5) := by
        rw [ht]
        exact ((grow0.trans (EventsGrow.logAdd a _)).raises 1365 (causeId 0x3F 5) .device).grow (CareStep.updateNotice _ 5).grow
      exact hr.grow after1.grow
  · intro hfb
    have hb3 : (verFailTold (trialTold k (slotSt s k == .trial) a)).boot.fellBack = true := by rw [(step1.trans step2).boot, hback, hfb]
    have hr : Raises s (fellBackTold (verFailTold (trialTold k (slotSt s k == .trial) a))) 1364 (causeId 0x3F 4) := by
      rw [fellBackTold, hb3]
      exact ((grow0.trans (step1.trans step2).grow).raises 1364 (causeId 0x3F 4) .device).grow (CareStep.updateNotice _ 4).grow
    exact hr.grow after3.grow
  · intro hvf
    have hb2 : (trialTold k (slotSt s k == .trial) a).boot.verFail = true := by rw [step1.boot, hfail, hvf]
    have hr : Raises s (verFailTold (trialTold k (slotSt s k == .trial) a)) 1362 (causeId 0x3F 2) := by
      rw [verFailTold, hb2]
      exact (grow0.trans step1.grow).raises 1362 (causeId 0x3F 2) .device
    exact hr.grow after2.grow

end Sys2Proof.Machine
end

section
namespace Sys2Proof.Settled
open Sys2Proof.Machine

/-- Settles O58: resets that are held off, that leave the device in COLD, and that boot it; the flush; and the end of the boot. -/
theorem resetsFlushesAndBoot : Obligations.ResetsFlushesAndBoot := by
  unfold Obligations.ResetsFlushesAndBoot
  intro fresh held up
  refine ⟨?rstCold, ?rstFlush, ?rstNow, ?releaseHigh, ?releaseNoted, ?releaseBoots, ?supplyLoss, ?brownOut, ?returnNoted, ?returnBoots, ?notInBoot, ?noSwReset, ?noDeadline,
    ?resets, ?tripCold, ?trip, ?noFlush, ?flushNone, ?flushHeld, ?flushBoots, ?completeIdle, ?completeNone, ?complete⟩
  case rstCold => exact fun s hc => congrArg Host.Outcome.next (if_pos hc)
  case rstFlush =>
    intro s hc hf
    rw [rstNAssert_resets hc, resetHeld_flush]
    · rfl
    · exact hf
  case rstNow =>
    intro s hc hf
    refine ⟨Machine.resetState (onBoot s (fun b => { b with rstLow := true })) .rstN, ?_, resetState_fresh (onBoot s _) .rstN, rfl⟩
    rw [rstNAssert_resets hc, resetHeld_now, resetNow_held (.inl rfl)]
    exact hf
  case releaseHigh =>
    intro s f b hl
    show execRstNRelease f b s = _
    simp only [execRstNRelease, hl, Bool.not_false, if_true]
  case releaseNoted => exact fun s f b hl h => rstNRelease_noted hl h f b
  case releaseBoots =>
    intro s f b hl hc hs hb ht
    obtain ⟨⟨kept, -⟩, hst⟩ := bootUp_spec { s with boot := { s.boot with rstLow := false, flash := f }, dbg := { s.dbg with tap := .idcode, pins := .normal } } b
    refine ⟨_, rstNRelease_boots hl hc hs hb ht f b, hst, congrArg BootKept.rstLow kept, congrArg BootKept.tap kept, congrArg BootKept.pins kept, congrArg BootKept.flash kept,
      fun hf => bootUp_no_flash b hf, fun r hf hr hcon hlast hver => bootUp_confirmed hf hr hcon hlast ?_⟩
    rw [← hver]
    exact verifies_congr rfl rfl rfl rfl r.active b
  case supplyLoss => exact fun s => ⟨_, rfl, resetState_fresh s .power, rfl, rfl, rfl⟩
  case brownOut => exact fun s => ⟨_, rfl, resetState_fresh s .brownOut, rfl⟩
  case returnNoted => exact fun s f b h => supplyReturn_noted h f b
  case returnBoots =>
    intro s f b hc hl ht
    obtain ⟨⟨kept, -⟩, hst⟩ := bootUp_spec { s with boot := { s.boot with supplies := true, brown := false, flash := f } } b
    exact ⟨_, supplyReturn_boots hc hl ht f b, hst, congrArg BootKept.supplies kept, congrArg BootKept.brown kept, congrArg BootKept.flash kept, fun hf => bootUp_no_flash b hf⟩
  case notInBoot => exact fun s b h => ⟨if_pos h, if_pos h⟩
  case noSwReset => exact fun s b h => if_pos (by rw [h]; rfl)
  case noDeadline => exact fun s b h => if_pos (by rw [h]; rfl)
  case resets =>
    intro s b i c h
    have hx : exec i s = .next (resetHeld s c b) := exec_of_resets h
    refine ⟨fun hf => ?_, fun hf hh => ?_, fun hf hh => ?_⟩
    · rw [hx, resetHeld_flush hf]
    · exact ⟨_, by rw [hx, resetHeld_now hf, resetNow_held hh], resetState_fresh s c⟩
    · obtain ⟨hst, hl, -, hi, hp, hin, hm, hmem⟩ := resetState_bootUp s c b
      exact ⟨_, by rw [hx, resetHeld_now hf, resetNow_boots hh], hst, hl, hi, hp, hin, hm, hmem, fun hf => bootUp_no_flash b hf⟩
  case tripCold => exact fun s hc => if_pos hc
  case trip => exact fun s hc => if_neg hc
  case noFlush => exact fun s b hf => if_pos (by rw [hf]; rfl)
  case flushNone =>
    intro s hf hr hq
    refine ⟨flushEnd_none hf hr hq false, _, flushEnd_none hf hr hq true, rfl, ?_⟩
    obtain ⟨hc, hh, hs, hl, hfl, hm⟩ := flushAll_spec s
    exact ⟨hc, hh, hs, hl, hfl, hm, rfl⟩
  case flushHeld =>
    intro s b c hf hr hh
    exact ⟨_, by rw [flushEnd_some hf hr, resetNow_held ((heldCold_flushEnded s b).2 hh)], rfl, rfl, rfl, rfl, rfl, rfl⟩
  case flushBoots =>
    intro s b c hf hr hh
    obtain ⟨hst, hl, hfl, hi, hp, -⟩ := resetState_bootUp (flushEnded s b) c []
    exact ⟨_, by rw [flushEnd_some hf hr, resetNow_boots (fun hk => hh ((heldCold_flushEnded s b).1 hk))], hst, hl, hfl, hi, hp⟩
  case completeIdle => exact fun s r l c h => bootComplete_idle h r l c
  case completeNone =>
    rintro s r l c k hk hb hn rfl
    obtain ⟨u, hu⟩ := bootComplete_no_processor hk hb hn r l
    exact ⟨_, hu, (enterRecovery_spec u []).2⟩
  case complete => exact fun s k hk hb ha => bootComplete_calibrates hk hb ha

end Sys2Proof.Settled
end

section
/-! Records of a plan (R446): what each edit leaves readable, and which object a definition edits. -/
namespace Sys2Proof.Machine

/-- The test by which a plan looks for a record holds for the record of that object alone. -/
theorem rec_matches_iff (r : Rec) (op : Op) (d i : Nat) : (r.op == op && r.dome == d && r.index == i) = true ↔ (r.op, r.dome, r.index) = (op, d, i) := by
  simp [and_assoc]

/-- Two plans with the same records find the same objects. -/
theorem find_congr {p q : Plan} (h : p.recs = q.recs) (o : Op) (d i : Nat) : p.find o d i = q.find o d i := by
  simp only [Plan.find, h]

/-- An object put into a plan reads back as its block, and every other object reads as before. -/
theorem find_put (p : Plan) (op : Op) (d i : Nat) (b : Block) (o : Op) (e j : Nat) :
    (p.put op d i b).find o e j = if (o, e, j) = (op, d, i) then some b else p.find o e j := by
  unfold Plan.put
  split
  case isTrue hp =>
    have hk : ((fun r : Rec => r.op == o && r.dome == e && r.index == j) ∘ fun r => if r.op == op && r.dome == d && r.index == i then { r with block := b } else r) =
        fun r : Rec => r.op == o && r.dome == e && r.index == j := by
      funext r; simp only [Function.comp]; split <;> rfl
    simp only [Plan.find, List.find?_map, hk, Option.map_map]
    cases hf : p.recs.find? (fun r => r.op == o && r.dome == e && r.index == j) with
    | none =>
      have hn : (o, e, j) ≠ (op, d, i) := by
        rintro ⟨⟩
        simp [Plan.has, Plan.find, hf] at hp
      simp only [Option.map_none, if_neg hn]
    | some r =>
      have hr := (rec_matches_iff r o e j).1 (List.find?_some (p := fun r : Rec => r.op == o && r.dome == e && r.index == j) hf)
      simp only [Option.map_some, Function.comp, rec_matches_iff, hr]
      split <;> rfl
  case isFalse hp =>
    simp only [Plan.find, List.find?_append]
    by_cases h : (o, e, j) = (op, d, i)
    · have hn : p.recs.find? (fun r => r.op == op && r.dome == d && r.index == i) = none := by simpa [Plan.has, Plan.find] using hp
      cases h
      simp [hn]
    · have hn : (op == o && d == e && i == j) = false := Bool.eq_false_iff.2 (fun k => h ((rec_matches_iff ⟨op, d, i, b⟩ o e j).1 k).symm)
      simp [h, hn]

/-- An object removed from a plan is not found, and every other object reads as before. -/
theorem find_del (p : Plan) (op : Op) (d i : Nat) (o : Op) (e j : Nat) :
    (p.del op d i).find o e j = if (o, e, j) = (op, d, i) then none else p.find o e j := by
  simp only [Plan.del, Plan.find, List.find?_filter]
  split
  case isTrue h =>
    cases h
    simp only [Option.map_eq_none_iff, List.find?_eq_none]
    intro r _ hc
    obtain ⟨hn, hm⟩ := of_decide_eq_true hc
    simp [hm] at hn
  case isFalse h =>
    congr 2
    funext r
    by_cases hr : (r.op == o && r.dome == e && r.index == j) = true
    · have hn : (r.op == op && r.dome == d && r.index == i) = false := by
        rw [Bool.eq_false_iff, Ne, rec_matches_iff, (rec_matches_iff r o e j).1 hr]
        exact h
      simp [hr, hn]
    · simp [hr]

/-- Putting an object changes its record alone. -/
theorem planSets_put (p : Plan) (op : Op) (d i : Nat) (b : Block) : PlanSets p (p.put op d i b) op d i (some b) :=
  ⟨by rw [find_put, if_pos rfl], fun o e j h => by rw [find_put, if_neg h]⟩

/-- Removing an object changes its record alone. -/
theorem planSets_del (p : Plan) (op : Op) (d i : Nat) : PlanSets p (p.del op d i) op d i none :=
  ⟨by rw [find_del, if_pos rfl], fun o e j h => by rw [find_del, if_neg h]⟩

/-- A definition that either removes its object or writes it changes its record alone. -/
theorem planSets_ite (p : Plan) (op : Op) (d i : Nat) (b : Block) (c : Bool) :
    PlanSets p (if c then p.del op d i else p.put op d i b) op d i (if c then none else some b) := by
  cases c
  · exact planSets_put p op d i b
  · exact planSets_del p op d i

/-- A zoom window that a new coarse definition takes away loses its placement and keeps its record (R168). -/
theorem invalidateZooms_recs (n o : Plan) (f e : Nat) : (n.invalidateZooms o f e).recs = n.recs := by
  refine foldl_keep (fun p => p.recs = n.recs) _ (fun p x hp => ?_) _ n rfl
  dsimp only
  repeat' split
  all_goals exact hp

/-- COARSE_DEFINE changes the record of its feed's coarse channeliser alone, since records do not tell the placements. -/
theorem planSets_coarse (c : Ctx) (m : Cmd) (p : Plan) : PlanSets p (coarseDefineC.edit c m p) .coarseDefine devDome (m.block.nat 0) (some (coarseResolve p m.block)) := by
  have hf : ∀ o d i, (coarseDefineC.edit c m p).find o d i = (p.put .coarseDefine devDome (m.block.nat 0) (coarseResolve p m.block)).find o d i :=
    find_congr (invalidateZooms_recs ..)
  obtain ⟨hset, hkept⟩ := planSets_put p .coarseDefine devDome (m.block.nat 0) (coarseResolve p m.block)
  exact ⟨(hf ..).trans hset, fun o d i h => (hf ..).trans (hkept o d i h)⟩

/-- SEXTANT_RELEASE removes the three records of its handle: program, inputs, events (R345). -/
theorem find_sextantRelease (c : Ctx) (m : Cmd) (p : Plan) (o : Op) (d i : Nat) :
    (sextantReleaseC.edit c m p).find o d i =
      if (o, d, i) ∈ [(Op.sextantLoad, m.dome, m.block.nat 0), (.sextantAttach, m.dome, m.block.nat 0), (.sextantEvents, m.dome, m.block.nat 0)] then none else p.find o d i := by
  simp only [sextantReleaseC, find_del, List.mem_cons, List.not_mem_nil, or_false]
  by_cases h₁ : (o, d, i) = (Op.sextantEvents, m.dome, m.block.nat 0)
  · rw [if_pos h₁, if_pos (.inr (.inr h₁))]
  by_cases h₂ : (o, d, i) = (Op.sextantAttach, m.dome, m.block.nat 0)
  · rw [if_neg h₁, if_pos h₂, if_pos (.inr (.inl h₂))]
  simp only [h₁, h₂, if_false, or_false]

end Sys2Proof.Machine

namespace Sys2Proof.Settled
open Sys2Proof.Machine

/-- Settles O42: each edit puts or removes one record; COARSE_DEFINE and SEXTANT_RELEASE by lemmas of their own. -/
theorem definitionsChangeTheirObject : Obligations.DefinitionsChangeTheirObject := by
  unfold Obligations.DefinitionsChangeTheirObject
  refine ⟨?analogue, ?device, ?feeds, ?events, ?deletes, ?release⟩
  case analogue => exact fun c m p => ⟨planSets_put .., planSets_put .., planSets_put .., planSets_put .., planSets_put .., planSets_put ..⟩
  case device => exact fun c m p => ⟨planSets_put .., planSets_put .., planSets_put .., planSets_put .., planSets_put ..⟩
  case feeds => exact fun c m p => ⟨planSets_ite .., planSets_put .., planSets_put .., planSets_coarse ..⟩
  case events => exact fun c m p => ⟨planSets_ite .., planSets_put .., planSets_put .., planSets_put ..⟩
  case deletes => exact fun c m p => ⟨planSets_del .., planSets_del .., planSets_del .., planSets_del .., planSets_del ..⟩
  case release =>
    intro c m p
    refine ⟨fun o ho => ?_, fun o d i h => by rw [find_sextantRelease, if_neg h], rfl, rfl⟩
    rw [find_sextantRelease, if_pos]
    simpa using ho

end Sys2Proof.Settled
end

section
/-! Clock block (R71 to R85): what its shared operations change, and the events that they raise. -/
namespace Sys2Proof.Machine

/-! ### Events of the clock block -/

theorem EventsGrow.raiseEv {s u : State} (g : EventsGrow s u) (src base : Nat) : EventsGrow s (raiseEv u src base) := g.trans (.raise ..)

/-- An event of Table 16-9 is raised since every state with fewer events. -/
theorem EventsGrow.raiseEv_raises {s u : State} (g : EventsGrow s u) (src base : Nat) : Raises s (Machine.raiseEv u src base) src (causeId 0x3F (src - base)) := g.raises ..

theorem EventsGrow.clkEvent {s u : State} (g : EventsGrow s u) (src : Nat) : EventsGrow s (clkEvent u src) := g.raiseEv ..

/-- A clock event is raised with a cause of its own (R85). -/
theorem EventsGrow.clkEvent_raises {s u : State} (g : EventsGrow s u) (src : Nat) : Raises s (Machine.clkEvent u src) src (causeId 0x3F (src - 1192)) := g.raiseEv_raises ..

/-- A clock event changes the router and what was raised alone. -/
theorem clkEvent_frame (s : State) (src : Nat) : ∃ r o, clkEvent s src = { s with router := r, out := o } := raise_frame ..

/-- A change of the clock block's own state raises no event. -/
theorem EventsGrow.setClk (s : State) (c : ClkSt) : EventsGrow s { s with clk := c } := .of_eq rfl rfl

/-- Changes of an output that follow one another are one change. -/
theorem onOut_onOut (s : State) (n : Nat) (f g : ClkOut → ClkOut) : onOut (onOut s n f) n g = onOut s n (g ∘ f) := by
  simp only [onOut, List.mapIdx_mapIdx]
  congr
  funext i o
  simp only [Function.comp]
  split <;> rfl

/-- A change of the settings of an output reads back. -/
theorem clkOut_put (p : Plan) (n : Nat) (b : Block) : (p.put .clockOutput devDome n b).clkOut n = b := by
  simp [Plan.clkOut, find_put]

/-- What the clock block does to its loops and outputs: it may raise events and draw free values, and the posted write stays as it is. -/
def ClockWork (s t : State) : Prop :=
  ∃ c r o f, t = { s with clk := c, router := r, out := o, free := f } ∧ c.posted = s.clk.posted

theorem ClockWork.refl (s : State) : ClockWork s s := ⟨_, _, _, _, rfl, rfl⟩

theorem ClockWork.trans {s t u : State} (h : ClockWork s t) (k : ClockWork t u) : ClockWork s u := by
  obtain ⟨c, r, o, f, rfl, hc⟩ := h
  obtain ⟨c', r', o', f', rfl, hc'⟩ := k
  exact ⟨c', r', o', f', rfl, hc'.trans hc⟩

theorem ClockWork.plan {s t : State} (h : ClockWork s t) : t.plan = s.plan := by
  obtain ⟨c, r, o, f, rfl, -⟩ := h
  rfl

theorem ClockWork.onOut (s : State) (n : Nat) (f : ClkOut → ClkOut) : ClockWork s (onOut s n f) := ⟨_, _, _, _, rfl, rfl⟩

theorem ClockWork.clkEvent (s : State) (src : Nat) : ClockWork s (clkEvent s src) := by
  obtain ⟨r, o, h⟩ := clkEvent_frame s src
  exact ⟨_, _, _, _, h, rfl⟩

theorem ClockWork.clkCfgErr (s : State) : ClockWork s (clkCfgErr s) :=
  .trans ⟨_, _, _, _, rfl, rfl⟩ (.clkEvent (clkSticky s 12) 1205)

/-- New settings work on their output's run-time state alone (R77 to R80). -/
theorem ClockWork.outChange (s : State) (n : Nat) (old new : Block) : ClockWork s (outChange s n old new) := by
  unfold Machine.outChange
  split
  · exact .onOut ..
  split
  · exact .onOut ..
  split
  · exact .refl s
  split
  · exact .onOut ..
  · exact .onOut ..

/-- A core that begins to coast draws its control word where it was locked, and keeps it where it was not (R75). -/
theorem freezeCore_spec (s : State) :
    ∃ w f, freezeCore s = { s with clk := { s.clk with coreWord := w }, free := f } ∧ (s.clk.coreLock = false → w = s.clk.coreWord) := by
  unfold freezeCore
  cases h : s.clk.coreLock
  · exact ⟨s.clk.coreWord, s.free, rfl, fun _ => rfl⟩
  · exact ⟨_, _, rfl, nofun⟩

end Sys2Proof.Machine
end

section
/-! The clock loops (R73 to R79): what each of their commands does. -/
namespace Sys2Proof.Machine

/-! ### Lock and loss of lock (R74, R75) -/

theorem adpllLock_core {s : State} (h : s.clk.coreLock = false) :
    exec (.adpllLock 0) s = .next (clkEvent { s with clk := { s.clk with coreLock := true, coast := false } } 1193) := by
  show execAdpllLock 0 s = _
  simp [execAdpllLock, h]

theorem adpllLock_core_locked {s : State} (h : s.clk.coreLock = true) : exec (.adpllLock 0) s = .next s := by
  show execAdpllLock 0 s = _
  simp [execAdpllLock, h]

theorem adpllLock_out {n : Nat} (hn : n < 4) (s : State) :
    exec (.adpllLock (n + 1)) s = .next (onOut s n (fun o => { o with lock := true, search := false, coast := false })) := by
  show execAdpllLock (n + 1) s = _
  simp [execAdpllLock, hn]

/-- A core that loses lock: it coasts, CLK_STICKY bit 0 is set, and 1192 is raised. -/
def coreLoss (s : State) : State :=
  clkEvent (clkSticky { freezeCore s with clk := { (freezeCore s).clk with coreLock := false, coast := true } } 0) 1192

theorem adpllLossOfLock_core (s : State) : exec (.adpllLossOfLock 0) s = .next (if s.time.refValid then refInvalid (coreLoss s) else coreLoss s) := rfl

theorem adpllLossOfLock_out {n : Nat} (hn : n < 4) (s : State) : exec (.adpllLossOfLock (n + 1)) s = .next (outLoss s n) := by
  show execAdpllLossOfLock (n + 1) s = _
  simp [execAdpllLossOfLock, hn]

theorem coreLoss_frame (s : State) :
    ∃ w f r o, coreLoss s = { s with clk := { s.clk with coreLock := false, coast := true, sticky := setBit s.clk.sticky 0 true, coreWord := w }, free := f, router := r, out := o } ∧
      (s.clk.coreLock = false → w = s.clk.coreWord) := by
  obtain ⟨w, f, hf, hw⟩ := freezeCore_spec s
  obtain ⟨r, o, h⟩ := clkEvent_frame (clkSticky { freezeCore s with clk := { (freezeCore s).clk with coreLock := false, coast := true } } 0) 1192
  rw [hf] at h
  exact ⟨w, f, r, o, by rw [coreLoss, hf, h]; rfl, hw⟩

theorem EventsGrow.freezeCore (s : State) : EventsGrow s (freezeCore s) := by
  obtain ⟨w, f, hf, -⟩ := freezeCore_spec s
  rw [hf]
  exact .of_eq rfl rfl

theorem EventsGrow.coreLoss (s : State) : EventsGrow s (coreLoss s) := ((EventsGrow.freezeCore s).trans (.setClk ..)).clkEvent 1192

theorem coreLoss_raises (s : State) : Raises s (coreLoss s) 1192 (causeId 0x3F 0) := ((EventsGrow.freezeCore s).trans (.setClk ..)).clkEvent_raises 1192

/-- What is told of a lost reference: 1194, 1186 and an entry of the Logbook (R55, R428). -/
def refTold (s : State) : State := logTime (timeEvent (clkEvent s 1194) 1186) 1186 0

theorem refTold_frame (s : State) : ∃ l r o, refTold s = { s with log := l, router := r, out := o } := by
  obtain ⟨r₁, o₁, h₁⟩ := clkEvent_frame s 1194
  obtain ⟨r₂, o₂, h₂⟩ := raise_frame (clkEvent s 1194) 1186 (causeId 0x3F (1186 - 1168)) .device
  obtain ⟨l, r₃, x, h₃⟩ := logAdd_frame (timeEvent (clkEvent s 1194) 1186) { cls := 4, typ := causeId 0x3F (1186 - 1168), detail := 0 % 2 ^ 32 }
  refine ⟨l, r₃, { o₂ with raised := x }, h₃.trans ?_⟩
  rw [timeEvent, raiseEv, h₂, h₁]

theorem EventsGrow.refTold (s : State) : EventsGrow s (refTold s) := (((EventsGrow.refl s).clkEvent 1194).raiseEv 1186 1168).trans (.logAdd ..)

theorem EventsGrow.refTold_raises {s u : State} (g : EventsGrow s u) : Raises s (Machine.refTold u) 1194 (causeId 0x3F 2) ∧ Raises s (Machine.refTold u) 1186 (causeId 0x3F 18) :=
  ⟨((g.clkEvent_raises 1194).raise ..).logAdd _, ((g.clkEvent 1194).raiseEv_raises 1186 1168).logAdd _⟩

/-- The Chronograph after its reference has become invalid: holdover begins in the running tick (R55). -/
def timeLost (k : TimeSt) : TimeSt := { k with refValid := false, holdover := true, holdTick := true, holdTicks := k.tick64 :: k.holdTicks, reacquired := false }

/-- A reference becomes invalid while the core coasts without lock: holdover begins, CLK_STICKY bit 1 is set, and it is told (R55, R74). -/
theorem refInvalid_coasting {s : State} (hv : s.time.refValid = true) (hl : s.clk.coreLock = false) (hc : s.clk.coast = true) :
    refInvalid s = refTold { s with time := timeLost s.time, clk := { s.clk with sticky := setBit s.clk.sticky 1 true } } := by
  have hfreeze : freezeCore s = s := by simp [freezeCore, hl]
  have hcore : (if s.clk.quartz then s else { freezeCore s with clk := { (freezeCore s).clk with coast := true } }) = s := by
    have hclk : { s.clk with coast := true } = s.clk := by rw [← hc]
    rw [hfreeze, ite_eq_left_iff]
    exact fun _ => congrArg (fun k => { s with clk := k }) hclk
  rw [refInvalid, if_pos hv, hcore]
  rfl

/-- A core that loses lock while the reference is valid: the reference counts as invalid (R74). -/
def coreAndRefLost (s : State) : State :=
  { coreLoss s with time := timeLost s.time, clk := { (coreLoss s).clk with sticky := setBit (coreLoss s).clk.sticky 1 true } }

theorem refInvalid_coreLoss {s : State} (hv : s.time.refValid = true) : refInvalid (coreLoss s) = refTold (coreAndRefLost s) := by
  obtain ⟨w, f, r, o, hf, -⟩ := coreLoss_frame s
  have ht : (coreLoss s).time = s.time := by rw [hf]
  rw [refInvalid_coasting (by rw [ht, hv]) (by rw [hf]) (by rw [hf]), ht]
  rfl

theorem coreAndRefLost_frame (s : State) : ∃ w f r o, coreAndRefLost s =
    { s with clk := { s.clk with coreLock := false, coast := true, sticky := setBit (setBit s.clk.sticky 0 true) 1 true, coreWord := w }, time := timeLost s.time,
             free := f, router := r, out := o } := by
  obtain ⟨w, f, r, o, hf, -⟩ := coreLoss_frame s
  exact ⟨w, f, r, o, by rw [coreAndRefLost, hf]⟩

/-- It raises 1192, 1194 and 1186. -/
theorem refTold_coreAndRefLost_raises (s : State) : Raises s (refTold (coreAndRefLost s)) 1192 (causeId 0x3F 0) ∧
    Raises s (refTold (coreAndRefLost s)) 1194 (causeId 0x3F 2) ∧ Raises s (refTold (coreAndRefLost s)) 1186 (causeId 0x3F 18) := by
  have hg : EventsGrow (coreLoss s) (coreAndRefLost s) := .of_eq rfl rfl
  exact ⟨(coreLoss_raises s).grow (hg.trans (.refTold _)), ((EventsGrow.coreLoss s).trans hg).refTold_raises⟩

/-! ### Outputs: loss of lock, coast, search, return (R73, R75, R78, R79) -/

/-- The clock block after an output's loss of lock. -/
def outLost (s : State) (n : Nat) : State := clkSticky (onOut s n (fun o => { o with lock := false, coast := true })) (4 + n)

theorem outLoss_frame (s : State) (n : Nat) : ∃ r o, outLoss s n = { s with clk := (outLost s n).clk, router := r, out := o } := clkEvent_frame (outLost s n) (1196 + n)

theorem EventsGrow.outLoss (s : State) (n : Nat) : EventsGrow s (outLoss s n) := (EventsGrow.setClk s (outLost s n).clk).clkEvent (1196 + n)

theorem outLoss_raises (s : State) (n : Nat) : Raises s (outLoss s n) (1196 + n) (causeId 0x3F (4 + n)) := by
  have h := (EventsGrow.setClk s (outLost s n).clk).clkEvent_raises (1196 + n)
  rwa [show 1196 + n - 1192 = 4 + n by omega] at h

theorem outputCoastExpiry_searches {s : State} {n : Nat} (hn : n < 4) (hc : (outOf s n).coast = true) (ho : outOn (s.plan.clkOut n) = true) :
    exec (.outputCoastExpiry n) s = .next (largeChange s n (s.plan.clkOut n)) := by
  show execOutputCoastExpiry n s = _
  simp [execOutputCoastExpiry, hn, hc, ho]

theorem bandSearchDone_out {s : State} {n : Nat} (hn : n < 4) (hs : (outOf s n).search = true) :
    exec (.bandSearchDone (n + 1)) s =
      .next { (onOut s n (fun o => { o with search := false, band := bandOf ((s.plan.clkOut n).nat 5) (Config.freeNat s.free) })) with free := s.free + 1 } := by
  have hs' : (outOf { s with free := s.free + 1 } n).search = true := hs
  show execBandSearchDone (n + 1) s = _
  simp only [execBandSearchDone, drawNat_frame, Nat.add_sub_cancel, hs', if_true]
  rw [if_neg (by omega), if_neg (by omega)]
  rfl

theorem clkoutReenable_unmutes {s : State} {n : Nat} (hn : n < 4) (hm : (outOf s n).muted = true) (ho : outOn (s.plan.clkOut n) = true) (hc : overCeiling (s.plan.clkOut n) = false)
    (hl : (outOf s n).lock = true ∨ (s.plan.clkOut n).nat 3 = 1 ∨ (outOf s n).fmtMute = true) :
    exec (.clkoutReenable n) s = .next (clkEvent (onOut s n (fun o => { o with muted := false, fmtMute := false, clamp := false })) (1200 + n)) := by
  have hr : ((outOf s n).lock || (s.plan.clkOut n).nat 3 == 1 || (outOf s n).fmtMute) = true := by simpa [or_assoc] using hl
  show execClkoutReenable n s = _
  simp [execClkoutReenable, hn, hm, ho, hc, hr]

theorem ceilingClamp_clamps {n : Nat} (hn : n < 4) (s : State) : exec (.ceilingClamp n) s = .next (clampOut s n) := by
  show execCeilingClamp n s = _
  simp [execCeilingClamp, hn]

/-- A clamp that engages: the loop loses lock and coasts, CLK_STICKY bits 8 + n and 4 + n are set (R79). -/
theorem clampOut_frame (s : State) (n : Nat) : ∃ r o, clampOut s n =
    { s with clk := { (onOut s n (fun o => { o with clamp := true, lock := false, coast := true })).clk with
        sticky := setBit (setBit s.clk.sticky (8 + n) true) (4 + n) true }, router := r, out := o } := by
  obtain ⟨r₁, o₁, h₁⟩ := outLoss_frame (clkSticky (onOut s n (fun o => { o with clamp := true })) (8 + n)) n
  obtain ⟨r₂, o₂, h₂⟩ := clkEvent_frame (outLoss (clkSticky (onOut s n (fun o => { o with clamp := true })) (8 + n)) n) 1204
  have hout := congrArg (fun t : State => t.clk.outs) (onOut_onOut s n (fun o => { o with clamp := true }) (fun o => { o with lock := false, coast := true }))
  refine ⟨r₂, o₂, h₂.trans ?_⟩
  rw [h₁]
  exact congrArg (fun l => { s with clk := { s.clk with outs := l, sticky := setBit (setBit s.clk.sticky (8 + n) true) (4 + n) true }, router := r₂, out := o₂ }) hout

/-- A clamp raises the output's loss of lock and 1204. -/
theorem clampOut_raises (s : State) (n : Nat) : Raises s (clampOut s n) (1196 + n) (causeId 0x3F (4 + n)) ∧ Raises s (clampOut s n) 1204 (causeId 0x3F 12) := by
  have hloss := outLoss_raises (clkSticky (onOut s n (fun o => { o with clamp := true })) (8 + n)) n
  have hg := EventsGrow.outLoss (clkSticky (onOut s n (fun o => { o with clamp := true })) (8 + n)) n
  exact ⟨hloss.raise .., hg.clkEvent_raises 1204⟩

/-- The pads of an output that is muted or disabled (R78, R80). -/
theorem clkPads_held {s : State} {n : Nat} (hf : (s.plan.clkOut n).nat 2 ≠ 0) (h : (outOf s n).muted = true ∨ (s.plan.clkOut n).flag 1 = false) :
    clkPads s n = (.low, if (s.plan.clkOut n).nat 2 = 4 then .low else .high) := by
  have hh : ((outOf s n).muted || !(s.plan.clkOut n).flag 1) = true := by simpa using h
  simp [clkPads, hf, hh]

theorem clkPads_off {s : State} {n : Nat} (hf : (s.plan.clkOut n).nat 2 = 0) : clkPads s n = (.highZ, .highZ) := by simp [clkPads, hf]

end Sys2Proof.Machine

namespace Sys2Proof.Settled
open Sys2Proof.Machine

/-- Settles O11: command by command, what the loops do and which events they raise. -/
theorem clockLoops : Obligations.ClockLoops := by
  unfold Obligations.ClockLoops
  refine ⟨?coreLock, fun s h => adpllLock_core_locked h, fun s n hn => adpllLock_out hn s, ?lossCoasting, ?lossValid, ?outLoss, fun s n hn hc ho => outputCoastExpiry_searches hn hc ho,
    fun s => rfl, fun s n hn hs => bandSearchDone_out hn hs, ?reenable, ?clamp, fun s n => ⟨clkPads_off, clkPads_held⟩⟩
  case coreLock =>
    intro s h
    obtain ⟨r, o, hf⟩ := clkEvent_frame { s with clk := { s.clk with coreLock := true, coast := false } } 1193
    refine ⟨_, adpllLock_core h, ?_, (EventsGrow.setClk ..).clkEvent_raises 1193, ?_⟩ <;> rw [hf]
  case lossCoasting =>
    intro s hv
    obtain ⟨w, f, r, o, hf, hw⟩ := coreLoss_frame s
    refine ⟨coreLoss s, by rw [adpllLossOfLock_core, hv]; rfl, ?_, ?_, coreLoss_raises s, ?_⟩ <;> rw [hf]
    exact hw
  case lossValid =>
    intro s hv
    obtain ⟨w, f, r, o, hf⟩ := coreAndRefLost_frame s
    obtain ⟨l, r', o', ht⟩ := refTold_frame (coreAndRefLost s)
    obtain ⟨hcore, href, hhold⟩ := refTold_coreAndRefLost_raises s
    refine ⟨_, by rw [adpllLossOfLock_core, if_pos hv, refInvalid_coreLoss hv], ?_, ?_, ?_, hcore, href, hhold, ?_⟩ <;> rw [ht, hf] <;> rfl
  case outLoss =>
    intro s n hn
    obtain ⟨r, o, hf⟩ := outLoss_frame s n
    refine ⟨_, adpllLossOfLock_out hn s, ?_, outLoss_raises s n, ?_⟩ <;> rw [hf]
    rfl
  case reenable =>
    intro s n hn hm ho hc hl
    obtain ⟨r, o, hf⟩ := clkEvent_frame (onOut s n (fun o => { o with muted := false, fmtMute := false, clamp := false })) (1200 + n)
    have hr : Raises s (clkEvent (onOut s n (fun o => { o with muted := false, fmtMute := false, clamp := false })) (1200 + n)) (1200 + n) (causeId 0x3F (1200 + n - 1192)) :=
      (EventsGrow.setClk ..).clkEvent_raises (1200 + n)
    rw [show 1200 + n - 1192 = 8 + n by omega] at hr
    refine ⟨_, clkoutReenable_unmutes hn hm ho hc hl, ?_, hr, ?_⟩ <;> rw [hf]
    rfl
  case clamp =>
    intro s n hn
    obtain ⟨r, o, hf⟩ := clampOut_frame s n
    obtain ⟨hloss, hclamp⟩ := clampOut_raises s n
    refine ⟨_, ceilingClamp_clamps hn s, ?_, ?_, hloss, hclamp, ?_⟩ <;> rw [hf]

end Sys2Proof.Settled
end

section
/-! Writes of the clock registers (R83, R84, R442, R443): the entry of the Logbook, the posted value, the ceiling, the refusal. -/
namespace Sys2Proof.Machine

/-- An entry of the Logbook stands where the Logbook is the same. -/
theorem Logged.of_log {t u : State} {cls typ tick : Nat} (h : Logged u cls typ tick) (e : t.log = u.log) : Logged t cls typ tick := by
  unfold Logged
  rw [e]
  exact h

/-- A write to the OWNER window is logged and consumes the unlock. -/
theorem ownerWrite_frame (s : State) (off old new : Nat) :
    ∃ l r o, ownerWrite s off old new = { s with regs := { s.regs with armed := false }, log := l, router := r, out := o } := by
  obtain ⟨l, r, x, h⟩ := logAdd_frame { s with regs := { s.regs with armed := false } } _
  exact ⟨l, r, _, h⟩

theorem ownerWrite_logged (s : State) (off old new : Nat) : Logged (ownerWrite s off old new) 0 0 s.time.tick64 := logAdd_logged ..

theorem EventsGrow.ownerWrite (s : State) (off old new : Nat) : EventsGrow s (ownerWrite s off old new) := .trans (.of_eq rfl rfl) (.logAdd ..)

section
variable {c : Instr} {s : State} {r : PostReg} {v off old new : Nat} (hx : exec c s = .next (postClk (ownerWrite s off old new) r v))
include hx

/-- A posted register takes its value if none is posted. -/
theorem write_posts (hp : s.clk.posted = none) : NextWith (exec c s) fun t => t.clk = { s.clk with posted := some (r, v), postedDue := false } ∧
    t.regs = { s.regs with armed := false } ∧ Logged t 0 0 s.time.tick64 ∧ t = { s with clk := t.clk, regs := t.regs, log := t.log, router := t.router, out := t.out } := by
  have hlog := ownerWrite_logged s off old new
  obtain ⟨l, r', o, hf⟩ := ownerWrite_frame s off old new
  rw [hf] at hx hlog
  refine ⟨_, hx, ?_, ?_, ?_, ?_⟩ <;> simp only [postClk, hp]
  exact hlog.of_log rfl

/-- A posted register discards its value with LOST while another is posted (R83). -/
theorem write_lost (hp : s.clk.posted ≠ none) : NextWith (exec c s) fun t => t.clk = { s.clk with sticky := setBit s.clk.sticky 13 true } ∧
    t.regs = { s.regs with armed := false } ∧ Raises s t 1205 (causeId 0x3F 13) ∧ t = { s with clk := t.clk, regs := t.regs, log := t.log, router := t.router, out := t.out } := by
  obtain ⟨q, hq⟩ := Option.ne_none_iff_exists'.1 hp
  have hg := EventsGrow.ownerWrite s off old new
  obtain ⟨l, r', o, hf⟩ := ownerWrite_frame s off old new
  have hpost : postClk (ownerWrite s off old new) r v = clkEvent (clkSticky (ownerWrite s off old new) 13) 1205 := by
    rw [hf]
    simp only [postClk, hq]
  obtain ⟨r'', o', hev⟩ := clkEvent_frame (clkSticky (ownerWrite s off old new) 13) 1205
  have hr : Raises s (clkEvent (clkSticky (ownerWrite s off old new) 13) 1205) 1205 (causeId 0x3F 13) := (hg.trans (.setClk ..)).clkEvent_raises 1205
  refine ⟨_, hpost ▸ hx, ?_, ?_, hr, ?_⟩ <;> rw [hev, clkSticky, hf]

end

/-! ### The posted registers: what they post -/

theorem clkCoreCtrlWrite_posts (w : Word) (s : State) :
    exec (.clkCoreCtrlWrite w) s = .next (postClk (ownerWrite s 0x104004 (coreCtrlReg s.plan) w.toNat) .core w.toNat) := rfl

theorem outCtrlWrite_posts {n : Nat} (hn : n < 4) (w : Word) (s : State) :
    exec (.outCtrlWrite n w) s = .next (postClk (ownerWrite s (outBase n) (outCtrlReg (s.plan.clkOut n)) w.toNat) (.ctrl n) w.toNat) := if_neg (Nat.not_le.2 hn)

theorem outOdivWrite_posts {n : Nat} (hn : n < 4) (w : Word) (s : State) :
    exec (.outOdivWrite n w) s = .next (postClk (ownerWrite s (outBase n + 4) ((s.plan.clkOut n).nat 4) w.toNat) (.odiv n) w.toNat) := if_neg (Nat.not_le.2 hn)

theorem outFbHiWrite_posts {n : Nat} (hn : n < 4) (w : Word) (s : State) :
    exec (.outFbHiWrite n w) s =
      .next (postClk (ownerWrite s (outBase n + 12) ((s.plan.clkOut n).nat 5 / 2 ^ 32) w.toNat) (.fb n) (bits w.toNat 15 0 * 2 ^ 32 + (outOf s n).fbLo)) := if_neg (Nat.not_le.2 hn)

theorem outFbLoWrite_stages {n : Nat} (hn : n < 4) (w : Word) (s : State) :
    exec (.outFbLoWrite n w) s = .next (onOut (ownerWrite s (outBase n + 8) (outOf s n).fbLo w.toNat) n (fun o => { o with fbLo := w.toNat })) := if_neg (Nat.not_le.2 hn)

/-! ### FMAX (R79, R443) -/

/-- FMAX's state before the ceiling is enforced. -/
def fmaxWritten (s : State) (n v : Nat) : State :=
  { ownerWrite s (outBase n + 16) ((s.plan.clkOut n).nat 8) v with plan := s.plan.put .clockOutput devDome n ((s.plan.clkOut n).put 8 (.num (bits v 20 0))) }

theorem outFmaxWrite_armed {n : Nat} (hn : n < 4) (w : Word) {s : State} (ha : s.regs.armed = true) :
    exec (.outFmaxWrite n w) s = .next (enforceCeiling (fmaxWritten s n w.toNat) n) := by
  obtain ⟨l, r, o, hf⟩ := ownerWrite_frame s (outBase n + 16) ((s.plan.clkOut n).nat 8) w.toNat
  show execOutFmaxWrite n w s = _
  rw [execOutFmaxWrite, if_neg (Nat.not_le.2 hn), if_pos ha, fmaxWritten]
  simp only [hf]

theorem outFmaxWrite_refused {n : Nat} (hn : n < 4) (w : Word) {s : State} (ha : s.regs.armed = false) :
    exec (.outFmaxWrite n w) s = .next (keyRefused s (outBase n + 16)) := by
  show execOutFmaxWrite n w s = _
  rw [execOutFmaxWrite, if_neg (Nat.not_le.2 hn), ha]
  rfl

/-- A ceiling works on the clock block alone, and does nothing to an output whose FOUT it allows. -/
theorem enforceCeiling_frame (s : State) (n : Nat) : ∃ c r o, enforceCeiling s n = { s with clk := c, router := r, out := o } ∧
    (overCeiling (s.plan.clkOut n) = false → c = s.clk) := by
  simp only [enforceCeiling]
  cases ho : overCeiling (s.plan.clkOut n)
  case false => exact ⟨_, _, _, rfl, fun _ => rfl⟩
  case true =>
    simp only [Bool.not_true, Bool.false_eq_true, if_false]
    split
    · exact ⟨_, _, _, rfl, nofun⟩
    · obtain ⟨r, o, h⟩ := clampOut_frame s n
      exact ⟨_, r, o, h, nofun⟩

/-- A violation is an entry of the SECURITY class with its code (R428, R451). -/
theorem violation_logged (s : State) (code : Nat) (f : Fn) (addr : Nat) : Logged (violation s code f addr) 1 code s.time.tick64 := by
  unfold violation
  exact (logAdd_logged s _).of_log ((raise_log ..).trans (noticeOwner_log ..))

/-- A KEY write without the unlock: FAIL_COUNT goes up, and the violation and 1347 are told. -/
theorem keyRefused_frame (s : State) (off : Nat) :
    ∃ l r o, keyRefused s off = { s with regs := { s.regs with armed := false, failCount := satAdd s.regs.failCount 1 65535 }, log := l, router := r, out := o } := by
  obtain ⟨l, r, o, h⟩ := violation_frame { s with regs := { s.regs with armed := false, failCount := satAdd s.regs.failCount 1 65535 } } 2 ownerFn off
  obtain ⟨r', x, h'⟩ := raiseEv_out { s with regs := { s.regs with armed := false, failCount := satAdd s.regs.failCount 1 65535 }, log := l, router := r, out := o } 1347 1344
  exact ⟨l, r', _, by rw [keyRefused, h, h']⟩

theorem keyRefused_logged (s : State) (off : Nat) : Logged (keyRefused s off) 1 2 s.time.tick64 :=
  (violation_logged { s with regs := { s.regs with armed := false, failCount := satAdd s.regs.failCount 1 65535 } } 2 ownerFn off).of_log (raiseEv_log ..)

theorem EventsGrow.violation (s : State) (code : Nat) (f : Fn) (addr : Nat) : EventsGrow s (violation s code f addr) :=
  ((EventsGrow.logAdd s _).trans (.of_eq rfl rfl)).trans (.raise ..)

theorem keyRefused_raises (s : State) (off : Nat) : Raises s (keyRefused s off) 1347 (causeId 0x3F 3) :=
  EventsGrow.raiseEv_raises (.trans (.of_eq rfl rfl) (.violation ..)) 1347 1344

end Sys2Proof.Machine

namespace Sys2Proof.Settled
open Sys2Proof.Machine

/-- Settles O12: the posted registers by what a write of one posts or loses, the others one by one. -/
theorem clockRegisterWrites : Obligations.ClockRegisterWrites := by
  unfold Obligations.ClockRegisterWrites
  intro posts
  refine ⟨fun w => ?core, fun n w hn => ?ctrl, fun n w hn => ?odiv, fun n w hn => ?fbHi, ?fbLo, ?fmax, ?refused⟩
  case core => exact ⟨fun s => write_posts (clkCoreCtrlWrite_posts w s), fun s => write_lost (clkCoreCtrlWrite_posts w s)⟩
  case ctrl => exact ⟨fun s => write_posts (outCtrlWrite_posts hn w s), fun s => write_lost (outCtrlWrite_posts hn w s)⟩
  case odiv => exact ⟨fun s => write_posts (outOdivWrite_posts hn w s), fun s => write_lost (outOdivWrite_posts hn w s)⟩
  case fbHi => exact ⟨fun s => write_posts (outFbHiWrite_posts hn w s), fun s => write_lost (outFbHiWrite_posts hn w s)⟩
  case fbLo =>
    intro n w s hn
    have hlog := ownerWrite_logged s (outBase n + 8) (outOf s n).fbLo w.toNat
    obtain ⟨l, r, o, hf⟩ := ownerWrite_frame s (outBase n + 8) (outOf s n).fbLo w.toNat
    refine ⟨_, outFbLoWrite_stages hn w s, ?_, ?_, hlog.of_log rfl, ?_⟩ <;> rw [hf] <;> rfl
  case fmax =>
    intro n w s hn ha
    have hlog := ownerWrite_logged s (outBase n + 16) ((s.plan.clkOut n).nat 8) w.toNat
    obtain ⟨l, r, o, hf⟩ := ownerWrite_frame s (outBase n + 16) ((s.plan.clkOut n).nat 8) w.toNat
    obtain ⟨c, r', o', he, hc⟩ := enforceCeiling_frame (fmaxWritten s n w.toNat) n
    refine ⟨_, outFmaxWrite_armed hn w ha, ?_, ?_, hlog.of_log ?_, fun h => ?_, ?_⟩ <;> rw [he]
    · rfl
    · rw [fmaxWritten, hf]
    · rfl
    · rw [hc (by rw [fmaxWritten, clkOut_put, h]), fmaxWritten, hf]
    · rw [fmaxWritten, hf]
  case refused =>
    intro n w s hn ha
    obtain ⟨l, r, o, hf⟩ := keyRefused_frame s (outBase n + 16)
    refine ⟨_, outFmaxWrite_refused hn w ha, ?_, keyRefused_logged .., keyRefused_raises .., ?_⟩ <;> rw [hf]

end Sys2Proof.Settled
end

section
/-! POSTED_WRITE_APPLY (R79, R83, R442): when a posted write is due, and what each register's value does. -/
namespace Sys2Proof.Machine

/-- A core that goes on following the same input works on nothing; one that changes it coasts or not, and raises an event. -/
theorem coreFollow_spec (s : State) (sel : Nat) :
    ∃ q a w r o f, coreFollow s sel = { s with clk := { s.clk with quartz := q, coast := a, coreWord := w }, router := r, out := o, free := f } ∧
      q = (if sel = 2 then true else if s.time.refValid then false else s.clk.quartz && (sel != 1 || s.dev.st == .boot)) ∧
      (q = s.clk.quartz → a = s.clk.coast ∧ w = s.clk.coreWord) ∧ (q ≠ s.clk.quartz → a = (!q && !s.time.refValid)) := by
  simp only [coreFollow]
  generalize (if sel = 2 then true else if s.time.refValid then false else s.clk.quartz && (sel != 1 || s.dev.st == .boot)) = q
  by_cases hq : q = s.clk.quartz
  · refine ⟨q, s.clk.coast, s.clk.coreWord, s.router, s.out, s.free, ?_, rfl, fun _ => ⟨rfl, rfl⟩, fun h => absurd hq h⟩
    rw [if_pos (beq_iff_eq.2 hq), hq]
  · rw [if_neg (fun h => hq (beq_iff_eq.1 h))]
    split
    case isTrue h =>
      obtain ⟨r, o, he⟩ := clkEvent_frame { s with clk := { s.clk with coast := false, quartz := q } } 1195
      refine ⟨q, false, s.clk.coreWord, r, o, s.free, he, rfl, fun k => absurd k hq, fun _ => ?_⟩
      revert h; cases q <;> simp
    case isFalse h =>
      obtain ⟨w, f, hw, -⟩ := freezeCore_spec s
      obtain ⟨r, o, he⟩ := clkEvent_frame { s with clk := { s.clk with coreWord := w, coast := true, quartz := q }, free := f } 1195
      refine ⟨q, true, w, r, o, f, ?_, rfl, fun k => absurd k hq, fun _ => ?_⟩
      · rw [hw, he]
      · revert h; cases q <;> simp

theorem ClockWork.coreFollow (s : State) (sel : Nat) : ClockWork s (coreFollow s sel) := by
  obtain ⟨q, a, w, r, o, f, h, -⟩ := coreFollow_spec s sel
  exact ⟨_, r, o, f, h, rfl⟩

/-- BUSY clears: the posted value is taken. -/
def postTaken (s : State) : State := { s with clk := { s.clk with posted := none, postedDue := false } }

/-- The settings that a write of OUTn_CTRL gives its output (R84). -/
def ctrlBlock (b : Block) (v : Nat) : Block :=
  [b.at 0, .num (bits v 0 0), .num (bits v 3 1), .num (bits v 5 4), b.at 4, b.at 5, .num (bits v 11 10), .num (bits v 9 8), b.at 8]

/-! ### When -/

/-- A write that waits for its boundary, or none: nothing happens. -/
theorem postedWriteApply_waits {s : State} (h : s.clk.posted = none ∨ s.clk.postedDue = false ∧ ticking s = true) : exec .postedWriteApply s = .next s := by
  show Host.Outcome.next (postedFirst s) = _
  rw [postedFirst, if_neg]
  rcases h with h | ⟨hd, ht⟩
  · simp [postDue, h]
  · simp [postDue, hd, ht]

section
variable {s : State} {v : Nat} (hd : s.clk.postedDue = true ∨ ticking s = false)
include hd

/-- A write that is due applies. -/
theorem postedWriteApply_due {r : PostReg} (h : s.clk.posted = some (r, v)) : exec .postedWriteApply s = .next (applyPosted s) := by
  show Host.Outcome.next (postedFirst s) = _
  rw [postedFirst, if_pos]
  rcases hd with hd | ht
  · simp [postDue, h, hd]
  · simp [postDue, h, ht]

/-! ### What, by the register -/

theorem postedWriteApply_core_bad (h : s.clk.posted = some (.core, v)) (hv : bits v 5 4 = 3) : exec .postedWriteApply s = .next (clkCfgErr (postTaken s)) := by
  rw [postedWriteApply_due hd h, applyPosted, h]
  simp only [if_pos hv]
  rfl

theorem postedWriteApply_core (h : s.clk.posted = some (.core, v)) (hv : bits v 5 4 ≠ 3) :
    exec .postedWriteApply s = .next (coreFollow { postTaken s with plan := s.plan.put .clockCore devDome 0 [.num (bits v 5 4), .num (bits v 0 0)] } (bits v 5 4)) := by
  rw [postedWriteApply_due hd h, applyPosted, h]
  simp only [if_neg hv]
  rfl

variable {n : Nat}

theorem postedWriteApply_ctrl_bad (h : s.clk.posted = some (.ctrl n, v)) (hv : 4 < bits v 3 1 ∨ 1 < bits v 5 4 ∨ bits v 9 8 = 3) :
    exec .postedWriteApply s = .next (clkCfgErr (postTaken s)) := by
  rw [postedWriteApply_due hd h, applyPosted, h]
  simp only [if_pos hv]
  rfl

theorem postedWriteApply_ctrl (h : s.clk.posted = some (.ctrl n, v)) (hv : ¬(4 < bits v 3 1 ∨ 1 < bits v 5 4 ∨ bits v 9 8 = 3)) :
    exec .postedWriteApply s = .next (postOut (postTaken s) n (ctrlBlock (s.plan.clkOut n) v)) := by
  rw [postedWriteApply_due hd h, applyPosted, h]
  simp only [if_neg hv]
  rfl

theorem postedWriteApply_odiv_bad (h : s.clk.posted = some (.odiv n, v)) (hv : bits v 12 0 < 4 ∨ 4096 < bits v 12 0) :
    exec .postedWriteApply s = .next (clkCfgErr (postTaken s)) := by
  rw [postedWriteApply_due hd h, applyPosted, h]
  simp only [if_pos hv]
  rfl

theorem postedWriteApply_odiv (h : s.clk.posted = some (.odiv n, v)) (hv : ¬(bits v 12 0 < 4 ∨ 4096 < bits v 12 0)) :
    exec .postedWriteApply s = .next (postOut (postTaken s) n ((s.plan.clkOut n).put 4 (.num (bits v 12 0)))) := by
  rw [postedWriteApply_due hd h, applyPosted, h]
  simp only [if_neg hv]
  rfl

theorem postedWriteApply_fb_bad (h : s.clk.posted = some (.fb n, v)) (hv : v < fbMin ∨ fbMax < v) :
    exec .postedWriteApply s = .next (clkCfgErr (postTaken s)) := by
  rw [postedWriteApply_due hd h, applyPosted, h]
  simp only [if_pos hv]
  rfl

theorem postedWriteApply_fb (h : s.clk.posted = some (.fb n, v)) (hv : ¬(v < fbMin ∨ fbMax < v)) :
    exec .postedWriteApply s = .next (postOut (postTaken s) n ((s.plan.clkOut n).put 5 (.num v))) := by
  rw [postedWriteApply_due hd h, applyPosted, h]
  simp only [if_neg hv]
  rfl

end

/-- New settings of an output that its limits allow stand in the plan. -/
theorem postOut_plan {s : State} {n : Nat} {b : Block} (hb : outBad b = none) : (postOut s n b).plan = s.plan.put .clockOutput devDome n b := by
  rw [postOut, hb]
  exact (ClockWork.outChange ..).plan

/-- New settings of an output work on the clock block, whether they apply or not. -/
theorem postOut_work (s : State) (n : Nat) (b : Block) : ∃ p, ClockWork { s with plan := p } (postOut s n b) := by
  unfold postOut
  split
  · exact ⟨s.plan, .clkCfgErr s⟩
  · exact ⟨_, .outChange ..⟩

/-- Whatever the register, a write that is due clears BUSY and works on the clock block and its settings. -/
theorem postedWriteApply_work {s : State} {r : PostReg} {v : Nat} (h : s.clk.posted = some (r, v)) (hd : s.clk.postedDue = true ∨ ticking s = false) :
    ∃ t, exec .postedWriteApply s = .next t ∧ ∃ p, ClockWork { postTaken s with plan := p } t := by
  have herr : ∃ p, ClockWork { postTaken s with plan := p } (clkCfgErr (postTaken s)) := ⟨s.plan, .clkCfgErr _⟩
  cases r with
  | core =>
    by_cases hv : bits v 5 4 = 3
    · exact ⟨_, postedWriteApply_core_bad hd h hv, herr⟩
    · exact ⟨_, postedWriteApply_core hd h hv, _, .coreFollow ..⟩
  | ctrl n =>
    by_cases hv : 4 < bits v 3 1 ∨ 1 < bits v 5 4 ∨ bits v 9 8 = 3
    · exact ⟨_, postedWriteApply_ctrl_bad hd h hv, herr⟩
    · exact ⟨_, postedWriteApply_ctrl hd h hv, postOut_work ..⟩
  | odiv n =>
    by_cases hv : bits v 12 0 < 4 ∨ 4096 < bits v 12 0
    · exact ⟨_, postedWriteApply_odiv_bad hd h hv, herr⟩
    · exact ⟨_, postedWriteApply_odiv hd h hv, postOut_work ..⟩
  | fb n =>
    by_cases hv : v < fbMin ∨ fbMax < v
    · exact ⟨_, postedWriteApply_fb_bad hd h hv, herr⟩
    · exact ⟨_, postedWriteApply_fb hd h hv, postOut_work ..⟩

/-- A value out of range sets CFG_ERR and leaves the value before it (R83). -/
theorem cfgErr_set {s : State} (hx : exec .postedWriteApply s = .next (clkCfgErr (postTaken s))) : NextWith (exec .postedWriteApply s) fun t =>
    t.clk = { s.clk with posted := none, postedDue := false, sticky := setBit s.clk.sticky 12 true } ∧ Raises s t 1205 (causeId 0x3F 13) ∧
    t = { s with clk := t.clk, router := t.router, out := t.out } := by
  have hr : Raises s (clkCfgErr (postTaken s)) 1205 (causeId 0x3F 13) := (EventsGrow.setClk s (clkSticky (postTaken s) 12).clk).clkEvent_raises 1205
  obtain ⟨r, o, hf⟩ : ∃ r o, clkCfgErr (postTaken s) = _ := clkEvent_frame (clkSticky (postTaken s) 12) 1205
  refine ⟨_, hx, ?_, hr, ?_⟩ <;> rw [hf] <;> rfl

end Sys2Proof.Machine

namespace Sys2Proof.Settled
open Sys2Proof.Machine

/-- Settles O13: register by register, a value in range applies and one out of range sets CFG_ERR. -/
theorem postedWriteApplies : Obligations.PostedWriteApplies := by
  unfold Obligations.PostedWriteApplies
  refine ⟨fun s h => postedWriteApply_waits h, ?any, ?core, fun s n v h hd hv => cfgErr_set (postedWriteApply_ctrl_bad hd h hv), ?ctrl, ?odiv,
    fun s n v h hd hv => cfgErr_set (postedWriteApply_odiv_bad hd h hv), ?fb, fun s n v h hd hv => cfgErr_set (postedWriteApply_fb_bad hd h hv)⟩
  case any =>
    intro s r v h hd
    obtain ⟨t, hx, p, c, r', o, f, rfl, hc⟩ := postedWriteApply_work h hd
    exact ⟨_, hx, hc, rfl⟩
  case core =>
    intro s v h hd hv
    obtain ⟨q, a, w, r, o, f, hf, hq, hsame, hmove⟩ :=
      coreFollow_spec { postTaken s with plan := s.plan.put .clockCore devDome 0 [.num (bits v 5 4), .num (bits v 0 0)] } (bits v 5 4)
    exact ⟨_, by rw [postedWriteApply_core hd h hv, hf], rfl, rfl, hq, hsame, hmove⟩
  case ctrl =>
    rintro s n v _ h hd hf hs hn rfl hb
    exact ⟨_, postedWriteApply_ctrl hd h (by omega), postOut_plan hb⟩
  case odiv =>
    intro s n v h hd hlo hhi hb
    exact ⟨_, postedWriteApply_odiv hd h (by omega), postOut_plan hb⟩
  case fb =>
    intro s n v h hd hlo hhi hb
    exact ⟨_, postedWriteApply_fb hd h (by omega), postOut_plan hb⟩

end Sys2Proof.Settled
end

section
/-! Ports, their links and their agent (R89, R92, R97, R121 to R123): what an operation on a port changes, and what each command does with it. -/
namespace Sys2Proof.Machine

/-! ### The run-time state of a port -/

/-- What was changed on a port is what is read of it. -/
@[simp] theorem portRun_onPort (s : State) (p : Nat) (f : PortRun → PortRun) : portRun (onPort s p f) p = f (portRun s p) := by simp [portRun, onPort]

/-- A port's counter advanced, modulo 2^64 (R121). -/
def PortRun.counted (r : PortRun) (c : PortCtr) (lane k : Nat) : PortRun := { r with cnt := tset r.cnt (c, lane) ((r.count c lane + k) % 2 ^ 64) }

@[simp] theorem PortRun.count_counted (r : PortRun) (c : PortCtr) (lane k : Nat) : (r.counted c lane k).count c lane = (r.count c lane + k) % 2 ^ 64 := by
  simp [PortRun.count, PortRun.counted, tgetD]

/-- LINK_DOWN and AGENT_DROP only count: they raise no RXERR (R123). -/
theorem bump_linkDown (s : State) (p lane k : Nat) : bump s p lane .linkDown k = onPort s p (fun r => r.counted .linkDown lane k) := rfl
theorem bump_agentDrop (s : State) (p lane k : Nat) : bump s p lane .agentDrop k = onPort s p (fun r => r.counted .agentDrop lane k) := rfl

/-- A change of a port adds no event. -/
theorem EventsGrow.onPort (s : State) (p : Nat) (f : PortRun → PortRun) : EventsGrow s (onPort s p f) := .of_eq rfl rfl

/-- LINK changes nothing but events (R123). -/
theorem linkEvent_frame (s : State) (p : Nat) : ∃ r o, linkEvent s p = { s with router := r, out := o } := raise_frame s _ _ _

@[simp] theorem portRun_linkEvent (s : State) (p q : Nat) : portRun (linkEvent s p) q = portRun s q := by simp [portRun, linkEvent]

/-- LINK is raised, whatever was raised before it. -/
theorem EventsGrow.linkEvent_raises {s u : State} (h : EventsGrow s u) (p : Nat) : Raises s (linkEvent u p) (816 + 2 * p) (causeId 0x11 p) := h.raises _ _ .device

/-! ### PORT_LINK_UP and PORT_LINK_DOWN -/

/-- A configured port with a lane that is down, or whose link is: the link is up and its lanes hunt (R89, R97). -/
theorem portLinkUp_wakes {s : State} {p : Nat} {b : Block} (hp : p < 128) (hb : s.plan.port p = some b) (hu : (portRun s p).allUp = false) :
    exec (.portLinkUp p) s = .next (linkEvent (onPort s p (fun r => { r with linkUp := true, lanes := r.lanes.map laneWake })) p) := by
  simp [exec, execPortLinkUp, Nat.not_le.2 hp, hb, hu]

/-- A port that is not configured, or all of whose lanes are up, stays as it is. -/
theorem portLinkUp_stays {s : State} {p : Nat} (hp : p < 128) (h : s.plan.port p = none ∨ (portRun s p).allUp = true) : exec (.portLinkUp p) s = .next s := by
  rcases h with h | h <;> simp [exec, execPortLinkUp, Nat.not_le.2 hp, h]

/-- A link that is up falls as a whole, and counts once on lane 0 (log entry 143). -/
theorem portLinkDown_drops {s : State} {p : Nat} {b : Block} (hp : p < 128) (hb : s.plan.port p = some b) (hu : (portRun s p).linkUp = true) :
    exec (.portLinkDown p none) s = .next (linkEvent (onPort (onPort s p PortRun.dropLink) p (fun r => r.counted .linkDown 0 1)) p) := by
  simp [exec, execPortLinkDown, Nat.not_le.2 hp, hb, hu, bump_linkDown]

/-- A lane that is not down falls alone, and counts on its own. -/
theorem portLinkDown_dropsLane {s : State} {p k : Nat} {b : Block} (hp : p < 128) (hb : s.plan.port p = some b) (hl : ((portRun s p).lanes.getD k LaneRun.reset).st ≠ .down) :
    exec (.portLinkDown p (some k)) s = .next (linkEvent (onPort (onPort s p (setLane k laneDown)) p (fun r => r.counted .linkDown k 1)) p) := by
  simp only [exec, execPortLinkDown, Nat.not_le.2 hp, hb, if_neg hl, bump_linkDown, Option.isNone_some, Bool.false_eq_true, if_false]

/-- What a fall leaves: the port's state changed by `g` and the fall counted, LINK raised, and nothing else changed. -/
theorem fall_spec (s : State) (p k : Nat) (g : PortRun → PortRun) {t : State} (ht : t = linkEvent (onPort (onPort s p g) p (fun r => r.counted .linkDown k 1)) p) :
    portRun t p = (g (portRun s p)).counted .linkDown k 1 ∧ Raises s t (816 + 2 * p) (causeId 0x11 p) ∧ t = { s with ports := t.ports, router := t.router, out := t.out } := by
  subst ht
  refine ⟨by simp, ((EventsGrow.onPort ..).trans (.onPort ..)).linkEvent_raises p, ?_⟩
  obtain ⟨r, o, hf⟩ := linkEvent_frame (onPort (onPort s p g) p (fun r => r.counted .linkDown k 1)) p
  rw [hf]
  rfl

/-- A link that is down already makes no transition. -/
theorem portLinkDown_stays {s : State} {p : Nat} (hp : p < 128) (h : s.plan.port p = none ∨ (portRun s p).linkUp = false) : exec (.portLinkDown p none) s = .next s := by
  rcases h with h | h <;> simp [exec, execPortLinkDown, Nat.not_le.2 hp, h]

/-- A lane that is down already makes no transition. -/
theorem portLinkDown_staysLane {s : State} {p k : Nat} (hp : p < 128) (h : s.plan.port p = none ∨ ((portRun s p).lanes.getD k LaneRun.reset).st = .down) :
    exec (.portLinkDown p (some k)) s = .next s := by
  rcases h with h | h <;> simp only [exec, execPortLinkDown, Nat.not_le.2 hp, h, Option.isNone_none, if_false, if_true, ite_self]

/-! ### AGENT_REPLY -/

/-- The agent has taken a frame off its queue, `n` in this second with it (R92). -/
def agentTook (s : State) (p : Nat) (rest : List (List Byte)) (n : Nat) : State :=
  onPort (onPort s p (fun r => { r with agentQ := rest })) p (fun r => { r with agentSec := houseSec s, agentUsed := n })

@[simp] theorem agentTook_queue (s : State) (p : Nat) (rest : List (List Byte)) (n : Nat) : (portRun (agentTook s p rest n) p).agentQ = rest := by simp [agentTook]

/-- The frame after the thousandth of a second is dropped (R92). -/
theorem agentReply_drops {s : State} {p : Nat} {f : List Byte} {rest : List (List Byte)} {b : Block} (hp : p < 128) (hq : (portRun s p).agentQ = f :: rest) (hb : s.plan.port p = some b)
    (hs : (portRun s p).agentSec = houseSec s) (hu : 1000 ≤ (portRun s p).agentUsed) :
    exec (.agentReply p) s = .next (onPort (onPort s p (fun r => { r with agentQ := rest })) p (fun r => r.counted .agentDrop 0 1)) := by
  simp [exec, execAgentReply, Nat.not_le.2 hp, hq, hb, hs, hu, bump_agentDrop]

/-- An earlier frame is taken, and answered if it is a request for the port's own addresses: an ARP request among them. -/
theorem agentReply_takes {s : State} {p : Nat} {f : List Byte} {rest : List (List Byte)} {b : Block} (hp : p < 128) (hq : (portRun s p).agentQ = f :: rest) (hb : s.plan.port p = some b)
    (hu : (portRun s p).agentSec ≠ houseSec s ∨ (portRun s p).agentUsed < 1000) :
    ∃ n asked, exec (.agentReply p) s = .next (if asked = true then transmit (agentTook s p rest n) p (.answer f) else agentTook s p rest n) ∧
      ((ethView f).etype = 0x0806 → beField (ethView f).body 6 2 = 1 → ipNone (ipBytes b 4) = false → mapV4 (sliceL (ethView f).body 24 4) = ipBytes b 4 → asked = true) := by
  have hn : ¬ 1000 ≤ if (portRun s p).agentSec = houseSec s then (portRun s p).agentUsed else 0 := by split <;> omega
  simp only [exec, execAgentReply, Nat.not_le.2 hp, hq, hb, if_neg hn, if_false]
  refine ⟨_, _, (apply_ite Host.Outcome.next _ _ _).symm, fun h1 h2 h3 h4 => ?_⟩
  simp [h1, h2, h3, h4]

/-! ### MEMBERSHIP_REPORT and ARRIVAL_STATS_UPDATE -/

/-- A report on a port, unless there is nothing to report. -/
theorem report_frame (s : State) (p : Nat) (v6 : Bool) (g : List (List Byte)) :
    (if (g.map ofBe).isEmpty = true then s else transmit s p (.report v6 (g.map ofBe))) =
      { s with out := { s.out with frames := s.out.frames ++ if g.isEmpty then [] else [(p, .report v6 (g.map ofBe))] } } := by
  cases g <;> simp [transmit]

/-- The groups of each family that has some are reported, IGMPv3 before MLDv2 (R92). -/
theorem membershipReport_reports {p : Nat} (hp : p < 128) (s : State) :
    exec (.membershipReport p) s = .next { s with out := { s.out with frames := s.out.frames ++
      (if ((portGroups s.plan p).filter isV4).isEmpty then [] else [(p, .report false (((portGroups s.plan p).filter isV4).map ofBe))]) ++
      (if ((portGroups s.plan p).filter (fun a => !isV4 a)).isEmpty then [] else [(p, .report true (((portGroups s.plan p).filter (fun a => !isV4 a)).map ofBe))]) } } := by
  simp only [exec, execMembershipReport, Nat.not_le.2 hp, if_false, report_frame]

/-- A feed's extremes of arrival published in ns, to start afresh; those of a feed without a packet stay as published (R122, log entry 144). -/
def FeedRun.arrivalsPublished (r : FeedRun) : FeedRun :=
  match r.runArr with
  | none => r
  | some (lo, hi) => { r with arrMin := lo / (1000000 * uFs : Nat), arrMax := hi / (1000000 * uFs : Nat), runArr := none }

@[simp] theorem FeedRun.arrivalsPublished_runArr (r : FeedRun) : r.arrivalsPublished.runArr = none := by
  unfold FeedRun.arrivalsPublished; split <;> simp [*]

theorem arrivalStatsUpdate_publishes (s : State) : exec .arrivalStatsUpdate s = .next { s with feeds := s.feeds.map (fun e => (e.1, e.2.arrivalsPublished)) } := by
  simp only [exec, execArrivalStatsUpdate, FeedRun.arrivalsPublished]
  congr; funext e; cases e with | mk f r => cases h : r.runArr <;> simp

end Sys2Proof.Machine

namespace Sys2Proof.Settled
open Sys2Proof.Machine

/-- Settles O14: command by command, what a port's link, its agent, its reports and its feeds' arrival statistics do. -/
theorem linksAndPortAgent : Obligations.LinksAndPortAgent := by
  unfold Obligations.LinksAndPortAgent
  refine ⟨?up, fun s p hp h => portLinkUp_stays hp h, fun s p hp h => portLinkDown_stays hp h, fun s p k hp h => portLinkDown_staysLane hp h, ?down, ?laneDown, ?drops, ?takes,
    fun s p hp => ⟨_, membershipReport_reports hp s, rfl, rfl⟩, ?stats⟩
  case up =>
    intro s p b hp hb hu
    obtain ⟨r, o, hf⟩ := linkEvent_frame (onPort s p (fun r => { r with linkUp := true, lanes := r.lanes.map laneWake })) p
    refine ⟨_, portLinkUp_wakes hp hb hu, ?_, (EventsGrow.onPort ..).linkEvent_raises p, ?_⟩ <;> rw [hf]
    rfl
  case down =>
    intro s p b hp hb hu
    obtain ⟨hrun, hr, hf⟩ := fall_spec s p 0 PortRun.dropLink rfl
    refine ⟨_, portLinkDown_drops hp hb hu, ?_, ?_, ?_, hr, hf⟩ <;> rw [hrun]
    · rfl
    · rfl
    · exact PortRun.count_counted ..
  case laneDown =>
    intro s p k b hp hb hl
    obtain ⟨hrun, hr, hf⟩ := fall_spec s p k (setLane k laneDown) rfl
    refine ⟨_, portLinkDown_dropsLane hp hb hl, ?_, ?_, ?_, hr, hf⟩ <;> rw [hrun]
    · rfl
    · rfl
    · exact PortRun.count_counted ..
  case drops =>
    intro s p f rest b hp hq hb hs hu
    refine ⟨_, agentReply_drops hp hq hb hs hu, ?_, ?_, rfl⟩ <;> simp only [portRun_onPort]
    · rfl
    · exact PortRun.count_counted ..
  case takes =>
    intro s p f rest b hp hq hb hu
    obtain ⟨n, asked, hx, harp⟩ := agentReply_takes hp hq hb hu
    refine ⟨_, hx, ?_⟩
    cases asked with
    | true => exact ⟨agentTook_queue .., .inr rfl, fun _ _ _ _ => rfl, rfl⟩
    | false => exact ⟨agentTook_queue .., .inl rfl, fun h1 h2 h3 h4 => absurd (harp h1 h2 h3 h4) Bool.false_ne_true, rfl⟩
  case stats =>
    intro s
    refine ⟨_, arrivalStatsUpdate_publishes s, rfl, ?_, ?_⟩
    · intro e he
      obtain ⟨x, -, rfl⟩ := List.mem_map.1 he
      exact x.2.arrivalsPublished_runArr
    · intro f r lo hi hm hr
      exact List.mem_map.2 ⟨_, hm, by simp only [FeedRun.arrivalsPublished, hr]⟩

end Sys2Proof.Settled
end

section
/-! A granule of a Transit flow on a Weltilink lane (R332, R333): the frame and the state that refute `Obligations.ReceivedFramesAreChecked`. -/
namespace Sys2Proof.TransitFrame
open Sys2Proof.Machine

/-- Weltilink port 2 of one lane, which is a link of aperture 0 to port 0 of device 9. -/
def plan : Plan :=
  { Plan.reset with recs := Plan.reset.recs ++ [⟨.portConfig, devDome, 2, [.num 2, .named 1, .num 1]⟩,
      ⟨.apertureLink, devDome, 2, [.num 0, .num 2, .num 9, .num 0, .num 0, .num 0, .num 0, .num 0, .num 0]⟩] }

/-- That port's lane has frame lock. -/
def port : PortRun := { PortRun.reset with linkUp := true, lanes := [{ LaneRun.reset with st := .framed }] }

/-- Flow 1 of the link, of a latency of three ticks, of which no granule has come. -/
def flow : FlowRun := { spec := ⟨0, 0, 4096, 0, 1, 1, 1, 1, 3⟩, slots := [], sent := 0, late := 0, absent := 0, cfg := State.reset.regs.crcActive }

/-- In SERVICE, with that port and that flow. -/
def state : State :=
  { State.reset with dev := { State.reset.dev with st := .service }, plan := plan, ports := [(2, port)], flows := [((2, 1), flow)] }

/-- The header of a TRANSIT frame of VERSION 1 on lane 0 of 1 (Table 4-3): flow 1, sending tick 0, offset 0, 32 bytes of payload. -/
def header : List Byte := beBytes 2 0x5E7A ++ beBytes 1 0x14 ++ beBytes 1 0 ++ beBytes 1 1 ++ beBytes 1 0 ++ beBytes 2 1 ++ beBytes 8 0 ++ beBytes 2 32 ++ beBytes 2 0 ++ beBytes 8 0

/-- The frame, with its header's CRC and one granule. -/
def frame : List Byte := header ++ beBytes 4 (crc32c header) ++ List.replicate 32 0xA5

/-- Received flow-ticks that flows hold. -/
def flowTicks (l : Tab (Nat × Nat) FlowRun) : Nat := (l.map (fun e => e.2.slots.length)).sum

/-- The flow-ticks after a step. -/
def ticksAfter : Host.Outcome State Fault Refusal → Option Nat
  | .next t => some (flowTicks t.flows)
  | _ => none

/-- The granule reaches the receive buffer: its flow-tick is held after the step, and was not before. -/
theorem granule_received : ticksAfter (exec (.weltiFrameRx 2 0 frame [] false 0) state) = some 1 ∧ flowTicks state.flows = 0 := by decide +kernel

end Sys2Proof.TransitFrame

namespace Sys2Proof.Settled
open Sys2Proof.Machine

/-- Refutes O15: the statement says that WELTI_FRAME_RX changes feeds, ports and events alone. The granule of `TransitFrame.frame` goes to the receive buffer of its flow (R333), which is
neither of them. -/
theorem not_receivedFramesAreChecked : ¬ Obligations.ReceivedFramesAreChecked := by
  unfold Obligations.ReceivedFramesAreChecked
  rintro ⟨-, -, -, -, welti, -⟩
  obtain ⟨t, ht, hframe⟩ := welti TransitFrame.state 2 0 TransitFrame.frame [] false 0 (by decide) (by decide) rfl
  obtain ⟨hafter, hbefore⟩ := TransitFrame.granule_received
  have hflows : t.flows = TransitFrame.state.flows := by rw [hframe]
  rw [ht, TransitFrame.ticksAfter, hflows, hbefore] at hafter
  exact absurd hafter (by decide)

end Sys2Proof.Settled
end

section
/-! Channel data that leave a feed's tile by Transit (R328, R330): the state that refutes `Obligations.LandingAndKurtosis`. -/
namespace Sys2Proof.TransitHandoff
open Sys2Proof.Machine

/-- Feed 0 on tile 0, its coarse channels, and spectrometer 2 of D0 over channels 0 and 1 of it, whose two parts stand on tiles 0 and 1, one tick of Transit away. -/
def plan : Plan :=
  { Plan.reset with
    recs := Plan.reset.recs ++ [⟨.feedDefine, devDome, 0, List.replicate 19 (.num 0) ++ [.list [[0]]]⟩, ⟨.coarseDefine, devDome, 0, [.num 0, .num 6]⟩,
      ⟨.instrDefine, 0, 2, [.named 0, .num 2, .num 0, .named 0, .num 0, .num 2]⟩],
    places := [{ op := .instrDefine, dome := 0, index := 2, placed := true, order := 0, tiles := [0, 1], hstacks := [], latency := 1, chosen := [1, 0, 0, 0, 1, 1], since := 0 }] }

/-- A tick of one frame of feed 0. -/
def tick : ChTick := { tick := 0, first := 0, frames := [(0, [noSmp, noSmp])], clip := 0, ovf := 0, rqClip := 0, flags := 0 }

/-- In SERVICE, with that tick handed to the feed's readers and an SK unit of feed 0 that has taken no frame. -/
def state : State :=
  { State.reset with dev := { State.reset.dev with st := .service }, plan := plan, handoff := [(0, .src (.feed 0) tick)], sks := [((devDome, 0), SkRun.reset)] }

/-- TR_SENT of every flow. -/
def sent (l : Tab (Nat × Nat) FlowRun) : List Nat := l.map (fun e => e.2.sent)

/-- TR_SENT after a step. -/
def sentAfter : Host.Outcome State Fault Refusal → Option (List Nat)
  | .next t => some (sent t.flows)
  | _ => none

/-- The flow that brings channel 1 to tile 1 counts its two granules: a tick record, and 9 bytes of data. Before the step there was none. -/
theorem granules_counted : sentAfter (exec (.skBlockDecide devDome 0) state) = some [2] ∧ sent state.flows = [] := by decide +kernel

end Sys2Proof.TransitHandoff

namespace Sys2Proof.Settled
open Sys2Proof.Machine

/-- Refutes O16: the frame of SK_BLOCK_DECIDE leaves the flows out. The readers of feeds take what is due first, and in `TransitHandoff.state` one of them has a part on another tile: the flow to
it counts what it sends in TR_SENT (R328, R333). -/
theorem not_landingAndKurtosis : ¬ Obligations.LandingAndKurtosis := by
  unfold Obligations.LandingAndKurtosis
  rintro ⟨-, -, -, -, -, decideFrame, -⟩
  obtain ⟨t, ht, hframe⟩ := decideFrame TransitHandoff.state devDome 0 (by decide) (by decide)
  obtain ⟨hafter, hbefore⟩ := TransitHandoff.granules_counted
  have hflows : t.flows = TransitHandoff.state.flows := by rw [hframe]
  rw [ht, TransitHandoff.sentAfter, hflows, hbefore] at hafter
  exact absurd hafter (by decide)

end Sys2Proof.Settled
end

section
/-! Records that instruments form (R193, R196, R198, R220, R221, R231, R257, R604): what forming and delivering one changes, and what the commands do that read out a closed bank, a
sub-integration, a trace group and a loopback report. -/
namespace Sys2Proof.Machine

/-! ### The run-time state of an instrument -/

/-- What was changed on an instrument is what is read of it. -/
@[simp] theorem instrRun_onInstr (s : State) (d i : Nat) (f : InstrRun → InstrRun) : instrRun (onInstr s d i f) d i = f (instrRun s d i) := by simp [instrRun, onInstr]

@[simp] theorem InstrRun.count_seq (r : InstrRun) (c : ICtr) (k : Nat) : (r.count c k).seq = r.seq := rfl
@[simp] theorem InstrRun.count_closed (r : InstrRun) (c : ICtr) (k : Nat) : (r.count c k).closed = r.closed := rfl

@[simp] theorem InstrRun.count_same (r : InstrRun) (c : ICtr) (k : Nat) : tgetD (r.count c k).cnt c 0 = (tgetD r.cnt c 0 + k) % 2 ^ 64 := by
  simp [InstrRun.count, tgetD]

/-- Counting leaves the other counters alone. -/
theorem InstrRun.count_ne (r : InstrRun) {c e : ICtr} (k : Nat) (h : e ≠ c) : tgetD (r.count c k).cnt e 0 = tgetD r.cnt e 0 := by
  simp [InstrRun.count, tgetD, tget_tset_ne _ _ _ _ h]

/-! ### Forming records -/

/-- From `s` to `t` an instrument forms `n` records, each of which is `P`: its RESULT_SEQ and its closed banks stay, and only records and instruments change. -/
structure FormsRecords (d i : Nat) (P : Made → Prop) (n : Nat) (s t : State) : Prop where
  made : ∃ l, t.made = s.made ++ l ∧ l.length = n ∧ ∀ m ∈ l, P m
  seq : (instrRun t d i).seq = (instrRun s d i).seq
  closed : (instrRun t d i).closed = (instrRun s d i).closed
  frame : t = { s with made := t.made, instrs := t.instrs }

section
variable {d i n : Nat} {P : Made → Prop} {s t u : State}

theorem FormsRecords.refl : FormsRecords d i P 0 s s := ⟨⟨[], by simp⟩, rfl, rfl, rfl⟩

theorem FormsRecords.trans {k : Nat} (h : FormsRecords d i P n s t) (h' : FormsRecords d i P k t u) : FormsRecords d i P (n + k) s u := by
  obtain ⟨l, hl, hn, hP⟩ := h.made
  obtain ⟨l', hl', hk, hP'⟩ := h'.made
  refine ⟨⟨l ++ l', by simp [hl', hl], by simp [hn, hk], ?_⟩, h'.seq.trans h.seq, h'.closed.trans h.closed, ?_⟩
  · exact fun m hm => (List.mem_append.1 hm).elim (hP m) (hP' m)
  · rw [h'.frame, h.frame]

/-- Forming a record. -/
theorem FormsRecords.iMake {ring sid kind seq flags last : Nat} {b : Block} {f : Fields} {drops : ICtr} {event : Option (Nat × Nat)}
    (h : P (iRecord s d i ring sid kind b seq flags last f drops event)) : FormsRecords d i P 1 s (iMake s d i ring sid kind b seq flags last f drops event) :=
  ⟨⟨[_], rfl, rfl, by simpa using h⟩, rfl, rfl, rfl⟩

/-- Counting on the instrument forms nothing. -/
theorem FormsRecords.iCount (h : FormsRecords d i P n s t) (c : ICtr) (k : Nat) : FormsRecords d i P n s (iCount t d i c k) := by
  refine ⟨h.made, ?_, ?_, ?_⟩
  · simp [Machine.iCount, h.seq]
  · simp [Machine.iCount, h.closed]
  · rw [Machine.iCount, onInstr, h.frame]

/-- A loop whose every pass forms one record while RESULT_SEQ is `q` forms one for each pass. -/
theorem FormsRecords.foldl {q : Nat} {f : State → Nat → State} (hf : ∀ u k, (instrRun u d i).seq = q → FormsRecords d i P 1 u (f u k)) (hs : (instrRun s d i).seq = q) :
    ∀ n, FormsRecords d i P n s ((List.range n).foldl f s)
  | 0 => .refl
  | n + 1 => by
    have ih := FormsRecords.foldl hf hs n
    rw [List.range_succ, List.foldl_append]
    exact ih.trans (hf _ n (ih.seq.trans hs))

/-- The oldest closed bank has been read out: its records are formed, it is closed no more, and RESULT_SEQ advances (R193, R220). -/
theorem FormsRecords.readOut (h : FormsRecords d i P n s t) {bk : Bank} {rest : List Bank} (hc : (instrRun s d i).closed = bk :: rest) {g : InstrRun → InstrRun}
    (hseq : ∀ r, (g r).seq = (r.seq + 1) % 2 ^ 32) (hclosed : ∀ r, (g r).closed = r.closed.drop 1) (hu : u = onInstr t d i g) :
    (∃ l, u.made = s.made ++ l ∧ l.length = n ∧ ∀ m ∈ l, P m) ∧ (instrRun u d i).closed = rest ∧ (instrRun u d i).seq = ((instrRun s d i).seq + 1) % 2 ^ 32 ∧
      u = { s with made := u.made, instrs := u.instrs } := by
  subst hu
  refine ⟨h.made, ?_, ?_, ?_⟩
  · simp [hclosed, h.closed, hc]
  · simp [hseq, h.seq]
  · rw [onInstr, h.frame]

end

/-! ### INTEGRATION_END -/

/-- The end of a list, found from its length: where the arrays stand in a record's body. -/
theorem drop_length_sub_append {α : Type} (xs ys : List α) : (xs ++ ys).drop ((xs ++ ys).length - ys.length) = ys := by simp

section
variable {s : State} {d i : Nat} {b : Block} {bk : Bank} {rest : List Bank}

/-- A detector or integrator reads out its oldest closed bank (R193). -/
theorem integrationEnd_detects (hb : s.plan.instr d i = some b) (hc : (instrRun s d i).closed = bk :: rest) (hk : iKind b ≤ 1) :
    exec (.integrationEnd d i) s = .next (detResult s d i b bk) := by
  show execIntegrationEnd d i s = _
  simp [execIntegrationEnd, hb, hc, hk]

/-- A beamformer reads out its oldest closed bank (R231). -/
theorem integrationEnd_beams (hb : s.plan.instr d i = some b) (hc : (instrRun s d i).closed = bk :: rest) (hk : iKind b = 6) :
    exec (.integrationEnd d i) s = .next (beamResult s d i b bk) := by
  show execIntegrationEnd d i s = _
  simp [execIntegrationEnd, hb, hc, hk]

/-- Other instruments have no result. -/
theorem integrationEnd_otherKind (hb : s.plan.instr d i = some b) (h1 : 1 < iKind b) (h6 : iKind b ≠ 6) : exec (.integrationEnd d i) s = .next s := by
  show execIntegrationEnd d i s = _
  cases hc : (instrRun s d i).closed <;> simp [execIntegrationEnd, hb, hc, Nat.not_le.2 h1, h6]

/-- Nothing is formed where no bank is closed, whether the number names an instrument or not. -/
theorem integrationEnd_noBank (hi : i < 64) (hc : (instrRun s d i).closed = []) : exec (.integrationEnd d i) s = .next s := by
  show execIntegrationEnd d i s = _
  cases hb : s.plan.instr d i <;> simp [execIntegrationEnd, hb, hc, Nat.not_le.2 hi]

/-- The record of a detector's bank (R193, R196). -/
theorem detResult_record (s : State) (d i : Nat) (b : Block) (bk : Bank) :
    ∃ m, (detResult s d i b bk).made = s.made ++ [m] ∧ (m.dome = d ∧ m.instr = i ∧ m.block = b ∧ m.kind = iKind bk.block ∧ m.seq = (instrRun s d i).seq ∧ m.lastTick = bk.last) ∧
      m.body.take 7 = [(1, iKind bk.block), (1, 1), (2, i), (2, bk.block.nat 6), (2, bk.r10 + 64 * bk.block.nat 9), (8, bk.first), (4, bk.last + 1 - bk.first)] ∧ m.drops = .resultDrop ∧
      m.body.drop (m.body.length - (detArrays (bk.block.nat 6) (bk.block.flag 9) bk.acc).length) = detArrays (bk.block.nat 6) (bk.block.flag 9) bk.acc :=
  ⟨_, rfl, ⟨rfl, rfl, rfl, rfl, rfl, rfl⟩, rfl, rfl, drop_length_sub_append ..⟩

/-- What else reading out a detector's bank changes: the bank is taken, and RESULT_SEQ advances. -/
theorem detResult_spec (b : Block) (hc : (instrRun s d i).closed = bk :: rest) :
    (instrRun (detResult s d i b bk) d i).closed = rest ∧ (instrRun (detResult s d i b bk) d i).seq = ((instrRun s d i).seq + 1) % 2 ^ 32 ∧
      detResult s d i b bk = { s with made := (detResult s d i b bk).made, instrs := (detResult s d i b bk).instrs } :=
  ((FormsRecords.iMake (P := fun _ => True) trivial).readOut hc (fun _ => rfl) (fun _ => rfl) rfl).2

theorem detResult_results (s : State) (d i : Nat) (b : Block) (bk : Bank) :
    tgetD (instrRun (detResult s d i b bk) d i).cnt .results 0 = (tgetD (instrRun s d i).cnt .results 0 + 1) % 2 ^ 64 := by
  simp only [detResult, instrRun_onInstr]
  rw [InstrRun.count_ne _ _ (by decide), InstrRun.count_ne _ _ (by decide), InstrRun.count_ne _ _ (by decide), InstrRun.count_same]
  rfl

/-- A beamformer's bank becomes a record for each beam, all with one RESULT_SEQ (R231, log entry 177). -/
theorem beamResult_spec (b : Block) (hc : (instrRun s d i).closed = bk :: rest) :
    (∃ l, (beamResult s d i b bk).made = s.made ++ l ∧ l.length = bk.block.nat 8 ∧
      ∀ m ∈ l, m.dome = d ∧ m.instr = i ∧ m.kind = 4 ∧ m.lastTick = bk.last ∧ m.seq = (instrRun s d i).seq) ∧
    (instrRun (beamResult s d i b bk) d i).closed = rest ∧ (instrRun (beamResult s d i b bk) d i).seq = ((instrRun s d i).seq + 1) % 2 ^ 32 ∧
    beamResult s d i b bk = { s with made := (beamResult s d i b bk).made, instrs := (beamResult s d i b bk).instrs } :=
  (FormsRecords.foldl (fun _ _ hq => (FormsRecords.iMake ⟨rfl, rfl, rfl, rfl, hq⟩).iCount ..) rfl _).readOut hc (fun _ => rfl) (fun _ => rfl) rfl

end

/-! ### SUB_INTEGRATION_END and DUMP_END -/

section
variable {s : State} {d i : Nat} {b : Block} {bk : Bank} {rest : List Bank}

/-- The end of a correlation changes the instrument alone, and leaves the sub-integrations that wait. -/
theorem flushCorr_frame (s : State) (d i : Nat) :
    (instrRun (flushCorr s d i) d i).subs = (instrRun s d i).subs ∧ flushCorr s d i = { s with instrs := (flushCorr s d i).instrs } := by
  refine ⟨?_, rfl⟩
  simp only [flushCorr, instrRun_onInstr]
  cases (instrRun s d i).corr with
  | none => rfl
  | some e => dsimp only; split <;> rfl

/-- The oldest completed sub-integration is correlated from the next device tick on (R221). -/
theorem subIntegrationEnd_correlates (hb : s.plan.instr d i = some b) (hs : (instrRun s d i).subs = bk :: rest) :
    NextWith (exec (.subIntegrationEnd d i) s) fun t => (instrRun t d i).subs = rest ∧ (instrRun t d i).corr = some (s.time.tick64 + 1, bk) ∧ t = { s with instrs := t.instrs } := by
  have he : exec (.subIntegrationEnd d i) s = .next (onInstr (flushCorr s d i) d i (fun r => { r with subs := r.subs.drop 1, corr := some ((flushCorr s d i).time.tick64 + 1, bk) })) := by
    show execSubIntegrationEnd d i s = _
    simp only [execSubIntegrationEnd, hb, hs]
  obtain ⟨hsubs, hf⟩ := flushCorr_frame s d i
  refine ⟨_, he, ?_, ?_, ?_⟩
  · simp [hsubs, hs]
  · rw [instrRun_onInstr, hf]
  · rw [onInstr, hf]

theorem subIntegrationEnd_noSub (hi : i < 64) (hs : (instrRun s d i).subs = []) : exec (.subIntegrationEnd d i) s = .next s := by
  show execSubIntegrationEnd d i s = _
  cases hb : s.plan.instr d i <;> simp [execSubIntegrationEnd, hb, hs, Nat.not_le.2 hi]

/-- Where nothing is under correlation a correlator or pulsar instrument reads out its oldest closed dump (R220). -/
theorem dumpEnd_dumps (hb : s.plan.instr d i = some b) (hr : (instrRun s d i).corr = none) (hc : (instrRun s d i).closed = bk :: rest) (hk : iKind b = 4 ∨ iKind b = 5) :
    exec (.dumpEnd d i) s = .next (dumpResult s d i b bk) := by
  show execDumpEnd d i s = _
  simp only [execDumpEnd, hb, hr, hc, if_pos hk]

theorem dumpEnd_noDump (hi : i < 64) (hr : (instrRun s d i).corr = none) (hc : (instrRun s d i).closed = []) : exec (.dumpEnd d i) s = .next s := by
  show execDumpEnd d i s = _
  cases hb : s.plan.instr d i <;> simp [execDumpEnd, hb, hr, hc, Nat.not_le.2 hi]

/-- A dump becomes a record for each part (R215, R218). -/
theorem dumpResult_spec (b : Block) (hc : (instrRun s d i).closed = bk :: rest) :
    (∃ l, (dumpResult s d i b bk).made = s.made ++ l ∧ l.length = bk.parts ∧
      ∀ m ∈ l, m.dome = d ∧ m.instr = i ∧ m.kind = (if iKind bk.block = 5 then 3 else 2) ∧ m.lastTick = bk.last ∧ m.seq = (instrRun s d i).seq ∧ m.drops = .dumpDrop) ∧
    (instrRun (dumpResult s d i b bk) d i).closed = rest ∧ (instrRun (dumpResult s d i b bk) d i).seq = ((instrRun s d i).seq + 1) % 2 ^ 32 ∧
    dumpResult s d i b bk = { s with made := (dumpResult s d i b bk).made, instrs := (dumpResult s d i b bk).instrs } :=
  (FormsRecords.foldl (fun _ _ _ => FormsRecords.iMake ⟨rfl, rfl, rfl, rfl, rfl, rfl⟩) rfl _).readOut hc (fun _ => rfl) (fun _ => rfl) rfl

end

/-! ### Delivery of a record -/

/-- Work on streams and memory to which the instruments' state is nothing: it neither reads nor changes it. -/
def SendsOnly (f : State → State) : Prop := ∀ s : State, ∃ x h, ∀ v, f { s with instrs := v } = { s with instrs := v, streams := x, hbm := h }

theorem SendsOnly.id : SendsOnly fun s => s := fun s => ⟨s.streams, s.hbm, fun _ => rfl⟩

theorem SendsOnly.comp {f g : State → State} (hf : SendsOnly f) (hg : SendsOnly g) : SendsOnly fun s => f (g s) := fun s => by
  obtain ⟨x, h, hg⟩ := hg s
  obtain ⟨x', h', hf⟩ := hf { s with streams := x, hbm := h }
  exact ⟨x', h', fun v => (congrArg f (hg v)).trans (hf v)⟩

theorem SendsOnly.foldl {α : Type} {f : State → α → State} (hf : ∀ a, SendsOnly fun s => f s a) : ∀ l : List α, SendsOnly fun s => l.foldl f s
  | [] => .id
  | a :: l => (SendsOnly.foldl hf l).comp (hf a)

theorem sendsOnly_onStream (d k : Nat) (f : StreamRun → StreamRun) : SendsOnly fun s => onStream s d k f := fun s => ⟨(onStream s d k f).streams, s.hbm, fun _ => rfl⟩

theorem sendsOnly_onHbm (f : HbmSt → HbmSt) : SendsOnly fun s => onHbm s f := fun s => ⟨s.streams, f s.hbm, fun _ => rfl⟩

/-- RESULT packets reach their stream (R313). -/
theorem sendsOnly_sendResult (d k kind instr sub seq flags last : Nat) (bytes : List Byte) (ends : Option PktEnd) :
    SendsOnly fun s => sendResult s d k kind instr sub seq flags last bytes ends := fun s => by
  cases hst : s.plan.stream d k with
  | none => exact ⟨s.streams, s.hbm, fun v => by simp [sendResult, hst]⟩
  | some st =>
    simp only [sendResult, hst]
    refine SendsOnly.foldl (fun j u => ?_) _ s
    cases hu : u.plan.stream d k with
    | none => exact ⟨u.streams, u.hbm, fun v => by simp [vorsyPkt, hu]⟩
    | some _ =>
      simp only [vorsyPkt, hu]
      exact sendsOnly_onStream d k _ u

/-- The pages of an object take what is stored at one of its bytes. -/
theorem sendsOnly_objStore (k : ObjKey) (at' : Nat) (l : List Byte) : SendsOnly fun s => match objAddr s k at' with | some x => hbmStore s x l | none => s := fun s => by
  have ha : ∀ v, objAddr { s with instrs := v } k at' = objAddr s k at' := fun _ => rfl
  simp only [ha]
  cases objAddr s k at' with
  | none => exact ⟨s.streams, s.hbm, fun _ => rfl⟩
  | some x => exact sendsOnly_onHbm _ s

theorem sendsOnly_objPut (k : ObjKey) (off : Nat) (bytes : List Byte) : SendsOnly fun s => objPut s k off bytes :=
  (SendsOnly.foldl (fun _ => sendsOnly_objStore _ _ _) _).comp (sendsOnly_objStore _ _ _)

/-- A record reaches its sink by the instrument's ring alone (R199, R218). -/
theorem deliver_sends (s : State) (k : Sink) (ring : Option RingRun) (seq flags last : Nat) (f : Fields) :
    ∃ x h r dropped, ∀ v, deliver { s with instrs := v } k ring seq flags last f = ({ s with instrs := v, streams := x, hbm := h }, r, dropped) := by
  unfold deliver
  cases k.dest with
  | none => exact ⟨s.streams, s.hbm, _, _, fun _ => rfl⟩
  | stream n =>
    obtain ⟨x, h, hf⟩ := sendsOnly_sendResult k.dome n k.kind k.instr k.sub seq flags last f.be none s
    exact ⟨x, h, _, _, fun v => by rw [← hf v]⟩
  | hbm n =>
    cases ring with
    | none => exact ⟨s.streams, s.hbm, _, _, fun _ => rfl⟩
    | some r =>
      by_cases hfull : r.slots ≤ r.held.length
      · exact ⟨s.streams, s.hbm, some r, true, fun v => by simp [ringPut, hfull]⟩
      · obtain ⟨x, h, hf⟩ := sendsOnly_objPut k.key ((r.written % r.slots) * r.slotBytes) (f.le.take r.slotBytes) s
        exact ⟨x, h, _, _, fun v => by simp only [ringPut, if_neg hfull]; rw [← hf v]⟩

/-- What the delivery of a trace record leaves of its instrument. -/
structure TraceKept (r r' : InstrRun) : Prop where
  group : r'.group = r.group
  seq : r'.seq = r.seq
  traces : tgetD r'.cnt .traces 0 = tgetD r.cnt .traces 0

theorem TraceKept.refl (r : InstrRun) : TraceKept r r := ⟨rfl, rfl, rfl⟩

/-- Counters other than TRACES may advance. -/
theorem TraceKept.count {r r' : InstrRun} (h : TraceKept r r') {c : ICtr} (hc : c ≠ .traces) (k : Nat) : TraceKept r (r'.count c k) :=
  ⟨h.group, h.seq, (r'.count_ne k hc.symm).trans h.traces⟩

/-- A record for a ring or stream reaches it, whatever else its instrument holds: only streams, memory and instruments change. -/
theorem iDeliver_sends (s : State) (d i ring sid kind : Nat) (b : Block) (seq flags last : Nat) (f : Fields) (ρ : Option RingRun) :
    ∃ x h dropped, ∀ v, tget (tgetD v (d, i) InstrRun.reset).rings ring = ρ →
      ∃ w, iDeliver { s with instrs := v } d i ring sid kind b seq flags last f = ({ s with instrs := w, streams := x, hbm := h }, dropped) ∧
        TraceKept (tgetD v (d, i) InstrRun.reset) (tgetD w (d, i) InstrRun.reset) := by
  have hq : ∀ v, apQuiet { s with instrs := v } b = apQuiet s b := fun _ => rfl
  by_cases hquiet : apQuiet s b = true
  · exact ⟨s.streams, s.hbm, false, fun v _ => ⟨v, by simp only [iDeliver, hq, hquiet, if_true], .refl _⟩⟩
  · obtain ⟨x, h, r, dropped, hd⟩ := deliver_sends s (iSink d i ring sid kind b) ρ seq flags last f
    refine ⟨x, h, dropped, fun v hv => ?_⟩
    have hring : tget (instrRun { s with instrs := v } d i).rings ring = ρ := hv
    simp only [iDeliver, hq, hquiet, hring, hd, Bool.false_eq_true, if_false]
    cases r with
    | none => exact ⟨v, rfl, .refl _⟩
    | some r => exact ⟨_, rfl, by constructor <;> simp⟩

/-- So does a record without event, unless it is discarded or goes nowhere (R27, R425). -/
theorem deliverOne_sends (s : State) (m : Made) (hk : m.kind ≠ 5) (he : m.event = none) (hd : m.drops ≠ .traces) (ρ : Option RingRun) :
    ∃ x h, ∀ v, tget (tgetD v (m.dome, m.instr) InstrRun.reset).rings m.ring = ρ →
      ∃ w, deliverOne { s with instrs := v } m = { s with instrs := w, streams := x, hbm := h } ∧
        TraceKept (tgetD v (m.dome, m.instr) InstrRun.reset) (tgetD w (m.dome, m.instr) InstrRun.reset) := by
  have hg : ∀ v, genOf { s with instrs := v } m.dome = genOf s m.dome := fun _ => rfl
  have hsus : ∀ v, suspended { s with instrs := v } m.dome = suspended s m.dome := fun _ => rfl
  simp only [deliverOne, hg, hsus, he, if_neg hk]
  by_cases hgen : m.gen ≠ genOf s m.dome
  · simp only [if_pos hgen]
    exact ⟨s.streams, s.hbm, fun v _ => ⟨_, rfl, by rw [tgetD_tmod_same]; exact (TraceKept.refl _).count (by decide) 1⟩⟩
  · simp only [if_neg hgen]
    by_cases hstill : suspended s m.dome = true
    · simp only [if_pos hstill]
      exact ⟨s.streams, s.hbm, fun v _ => ⟨v, rfl, .refl _⟩⟩
    · simp only [if_neg hstill]
      obtain ⟨x, h, dropped, hdel⟩ := iDeliver_sends s m.dome m.instr m.ring m.sub m.kind m.block m.seq m.flags m.lastTick m.body ρ
      refine ⟨x, h, fun v hv => ?_⟩
      obtain ⟨w, hw, hkept⟩ := hdel v hv
      rw [hw]
      cases dropped with
      | false => exact ⟨w, rfl, hkept⟩
      | true => exact ⟨_, rfl, by rw [tgetD_tmod_same]; exact hkept.count hd 1⟩

/-! ### TRACE_GROUP_END -/

/-- The head of a trace record (R257). -/
theorem traceRecord_head (i : Nat) (b : Block) (l : List (Nat × Nat × Nat × List Smp)) :
    (traceRecord i b l).1.take 5 = [(1, 8), (1, 1), (2, i), (2, (traceRecord i b l).2.1), (2, b2n (b.is 5 2))] := rfl

/-- The record of the frames up to `q` of an instrument's trace group. -/
def traceMade (s : State) (d i q : Nat) (b : Block) : Made :=
  let x := traceRecord i b ((instrRun s d i).group.filter (fun e => decide (e.1 ≤ q)))
  iRecord s d i 0 0 8 b (instrRun s d i).seq x.2.1 x.2.2 x.1 .resultDrop none

/-- A trace is delivered alike after a change of its instrument that leaves the rings alone, and forms no further record. -/
theorem deliverOne_traceMade (s : State) (d i q : Nat) (b : Block) {f : InstrRun → InstrRun} (hf : ∀ r, (f r).rings = r.rings) :
    (deliverOne s (traceMade s d i q b)).made = s.made ∧
      ∃ w, deliverOne (onInstr s d i f) (traceMade s d i q b) = { deliverOne s (traceMade s d i q b) with instrs := w } ∧ TraceKept (f (instrRun s d i)) (tgetD w (d, i) InstrRun.reset) := by
  obtain ⟨x, h, hdel⟩ := deliverOne_sends s (traceMade s d i q b) (show (8 : Nat) ≠ 5 by decide) rfl (show ICtr.resultDrop ≠ .traces by decide) (tget (instrRun s d i).rings 0)
  obtain ⟨w, hw, -⟩ := hdel s.instrs rfl
  have hrun : tgetD (tmod s.instrs (d, i) InstrRun.reset f) (d, i) InstrRun.reset = f (instrRun s d i) := tgetD_tmod_same ..
  obtain ⟨w', hw', hkept⟩ := hdel (tmod s.instrs (d, i) InstrRun.reset f) ((congrArg (fun r : InstrRun => tget r.rings 0) hrun).trans (congrArg (tget · 0) (hf _)))
  have hs : deliverOne s (traceMade s d i q b) = { s with instrs := w, streams := x, hbm := h } := hw
  refine ⟨by rw [hs], w', ?_, hrun ▸ hkept⟩
  rw [hs]
  exact hw'

section
variable {s : State} {d i q : Nat} {b : Block}

/-- The oldest whole group leaves as a record that is at its destination at once (R246, R257). -/
theorem traceGroupEnd_traces (hb : s.plan.instr d i = some b) (hq : traceReady b (instrRun s d i).group = some q) :
    NextWith (exec (.traceGroupEnd d i) s) fun t => (instrRun t d i).group = (instrRun s d i).group.filter (fun e => !decide (e.1 ≤ q)) ∧
      (instrRun t d i).seq = ((instrRun s d i).seq + 1) % 2 ^ 32 ∧ tgetD (instrRun t d i).cnt .traces 0 = (tgetD (instrRun s d i).cnt .traces 0 + 1) % 2 ^ 64 ∧
      t.made = s.made ∧ t = { deliverOne s (traceMade s d i q b) with instrs := t.instrs } := by
  have he : exec (.traceGroupEnd d i) s =
      .next (onInstr (deliverOne (onInstr s d i (fun r => { r with group := r.group.filter (fun e => !decide (e.1 ≤ q)) })) (traceMade s d i q b)) d i
        (fun r => ({ r with seq := (r.seq + 1) % 2 ^ 32 } : InstrRun).count .traces 1)) := by
    show execTraceGroupEnd d i s = _
    simp only [execTraceGroupEnd, hb, hq]
    rfl
  obtain ⟨hmade, w, hw, hkept⟩ := deliverOne_traceMade s d i q b (f := fun r => { r with group := r.group.filter (fun e => !decide (e.1 ≤ q)) }) (fun _ => rfl)
  rw [hw] at he
  have hrun : instrRun { deliverOne s (traceMade s d i q b) with instrs := w } d i = tgetD w (d, i) InstrRun.reset := rfl
  refine ⟨_, he, ?_, ?_, ?_, hmade, rfl⟩
  · rw [instrRun_onInstr, hrun]; exact hkept.group
  · rw [instrRun_onInstr, hrun, InstrRun.count_seq, hkept.seq]
  · rw [instrRun_onInstr, hrun, InstrRun.count_same, hkept.traces]

theorem traceGroupEnd_stays (hb : s.plan.instr d i = some b) (hq : traceReady b (instrRun s d i).group = none) : exec (.traceGroupEnd d i) s = .next s := by
  show execTraceGroupEnd d i s = _
  simp only [execTraceGroupEnd, hb, hq]

end

/-! ### LOOPBACK_REPORT_END -/

section
variable {s : State} {d i : Nat} {b : Block}

/-- A LOOPBACK whose REPORT_TICKS have passed forms its report, and starts the next one where it ends (R604). -/
theorem loopbackReportEnd_reports (er ab : Nat) (hb : s.plan.instr d i = some b) (hk : iKind b = 11) (ht : (instrRun s d i).loop.from0 + Nat.max 1 (b.nat 9) ≤ s.time.tick64) :
    NextWith (exec (.loopbackReportEnd d i er ab) s) fun t => ∃ m, t.made = s.made ++ [m] ∧ m.dome = d ∧ m.instr = i ∧ m.kind = 12 ∧ m.seq = (instrRun s d i).loop.seq ∧ m.body.head? = some (1, 12) ∧
      (m.body.drop (m.body.length - 2)) = [(8, if b.is 2 1 then 0 else Nat.min er (8 * ((instrRun s d i).loop.got - (instrRun s d i).loop.errs) - 256 * ab)),
        (8, if b.is 2 0 then Nat.min ab (8 * ((instrRun s d i).loop.got - (instrRun s d i).loop.errs) / 256) else 0)] ∧
      (instrRun t d i).loop.from0 = (instrRun s d i).loop.from0 + Nat.max 1 (b.nat 9) ∧ t = { s with made := t.made, instrs := t.instrs } := by
  have hgo : ¬ (iKind b ≠ 11 ∨ s.time.tick64 < (instrRun s d i).loop.from0 + Nat.max 1 (b.nat 9)) := by rintro (h | h) <;> omega
  have he : exec (.loopbackReportEnd d i er ab) s = execLoopbackReportEnd d i er ab s := rfl
  simp only [execLoopbackReportEnd, hb, if_neg hgo] at he
  refine ⟨_, he, _, rfl, rfl, rfl, rfl, rfl, ?_, ?_, ?_, rfl⟩
  · simp [iRecord, detHeader]
  · exact drop_length_sub_append _ [_, _]
  · rw [instrRun_onInstr]
    rfl

/-- Another instrument has no report, nor has one whose REPORT_TICKS have not passed. -/
theorem loopbackReportEnd_stays (er ab : Nat) (hb : s.plan.instr d i = some b) (h : iKind b ≠ 11 ∨ s.time.tick64 < (instrRun s d i).loop.from0 + Nat.max 1 (b.nat 9)) :
    exec (.loopbackReportEnd d i er ab) s = .next s := by
  show execLoopbackReportEnd d i er ab s = _
  simp only [execLoopbackReportEnd, hb, if_pos h]

end

end Sys2Proof.Machine

namespace Sys2Proof.Settled
open Sys2Proof.Machine

/-- Settles O29, command by command: each reads out what is oldest (`FormsRecords.readOut`), and a trace is delivered in the same step (`deliverOne_sends`). -/
theorem recordsAndReports : Obligations.RecordsAndReports := by
  unfold Obligations.RecordsAndReports
  refine ⟨?detector, ?beams, ?arrays, fun s d i b hb h1 h6 => integrationEnd_otherKind hb h1 h6, fun s d i hi hc => integrationEnd_noBank hi hc,
    fun s d i b bk rest hb hs => subIntegrationEnd_correlates hb hs, fun s d i hi hs => subIntegrationEnd_noSub hi hs, ?dump, fun s d i hi hr hc => dumpEnd_noDump hi hr hc,
    ?traced, ?delivered, fun s d i b hb hq => traceGroupEnd_stays hb hq,
    fun s d i er ab b hb hk ht => loopbackReportEnd_reports er ab hb hk ht, fun s d i er ab b hb h => loopbackReportEnd_stays er ab hb h⟩
  case detector =>
    intro s d i b bk rest hb hc hk
    obtain ⟨m, hmade, ⟨hd, hi, hbl, hkind, hseq, hlast⟩, hbody, hdrops, -⟩ := detResult_record s d i b bk
    exact ⟨_, integrationEnd_detects hb hc hk, m, hmade, hd, hi, hbl, hkind, hseq, hlast, hbody, hdrops, detResult_spec b hc⟩
  case beams => exact fun s d i b bk rest hb hc hk => ⟨_, integrationEnd_beams hb hc hk, beamResult_spec b hc⟩
  case arrays =>
    intro s d i b bk rest hb hc hk
    obtain ⟨m, hmade, -, -, -, harrays⟩ := detResult_record s d i b bk
    exact ⟨_, integrationEnd_detects hb hc hk, detResult_results s d i b bk, m, hmade, harrays⟩
  case dump => exact fun s d i b bk rest hb hr hc hk => ⟨_, dumpEnd_dumps hb hr hc hk, dumpResult_spec b hc⟩
  case traced =>
    intro s d i q b hb hq
    obtain ⟨t, ht, hgroup, hseq, htraces, hmade, -⟩ := traceGroupEnd_traces hb hq
    exact ⟨t, ht, hgroup, hseq, htraces, hmade⟩
  case delivered =>
    rintro s d i q b x m hb hq rfl rfl
    obtain ⟨t, ht, -, -, -, -, hframe⟩ := traceGroupEnd_traces hb hq
    exact ⟨traceRecord_head .., t, ht, hframe⟩

end Sys2Proof.Settled
end

section
/-! Verdicts of masks (R251, R252, R262): the state that a frame gives a frequency mask, and the decision of a sweep mask's next window. -/
namespace Sys2Proof.Machine

/-! ### The run-time state of a mask -/

/-- What was changed on a mask is what is read of it. -/
@[simp] theorem maskRun_onMask (s : State) (d k : Nat) (f : MaskRun → MaskRun) : maskRun (onMask s d k f) d k = f (maskRun s d k) := by simp [maskRun, onMask]

@[simp] theorem maskRun_publish (s : State) (a b c e d k : Nat) : maskRun (publish s a b c e) d k = maskRun s d k := rfl

@[simp] theorem maskRun_onInstr (s : State) (d i : Nat) (f : InstrRun → InstrRun) (e k : Nat) : maskRun (onInstr s d i f) e k = maskRun s e k := rfl

@[simp] theorem maskRun_raiseTile (s : State) (l n kind obj : Nat) (o : Origin) (d k : Nat) : maskRun (raiseTile s l n kind obj o) d k = maskRun s d k := by
  simp [maskRun, raiseTile]

/-- The fields of WORST draw free values, and change nothing else. -/
@[simp] theorem maskRun_worstFields (s : State) (first : Nat) (v : FrameView) (d k : Nat) : maskRun (worstFields s first v).1 d k = maskRun s d k := by
  unfold worstFields
  split
  · split <;> rfl
  · rfl

/-- Triggers reach captures, which are instruments. -/
@[simp] theorem maskRun_timeTrig (s : State) (reached typ : Nat) (sel : Nat → List Int → Bool) (grid : Option (Src × Int)) (time : Int) (hold : Bool) (d k : Nat) :
    maskRun (timeTrig s reached typ sel grid time hold) d k = maskRun s d k := by
  unfold timeTrig
  refine foldl_keep (fun t => maskRun t d k = maskRun s d k) _ (fun t e ht => ?_) _ s rfl
  exact ht

/-- A record of a mask changes its ring and its count of drops. -/
theorem maskRun_maskRecord (s : State) (d k tile cause : Nat) (mb : Block) (seq flags last : Nat) (f : Fields) :
    ∃ ring drop, maskRun (maskRecord s d k tile cause mb seq flags last f) d k = { maskRun s d k with ring := ring, drop := drop } := by
  obtain ⟨x, h, ring, dropped, hd⟩ := deliver_sends s (maskSink d k mb) (maskRun s d k).ring seq flags last f
  have hmask : maskRun { s with streams := x, hbm := h } d k = maskRun s d k := rfl
  refine ⟨ring, (maskRun s d k).drop + b2n dropped, ?_⟩
  simp only [maskRecord, hd s.instrs]
  split <;> simp [hmask]

/-- So it leaves the mask's verdicts and its counts of triggers alone. -/
theorem maskRecord_keeps (s : State) (d k tile cause : Nat) (mb : Block) (seq flags last : Nat) (f : Fields) :
    (maskRun (maskRecord s d k tile cause mb seq flags last f) d k).state = (maskRun s d k).state ∧
      (maskRun (maskRecord s d k tile cause mb seq flags last f) d k).window = (maskRun s d k).window ∧
      (maskRun (maskRecord s d k tile cause mb seq flags last f) d k).triggers = (maskRun s d k).triggers := by
  obtain ⟨ring, drop, h⟩ := maskRun_maskRecord s d k tile cause mb seq flags last f
  rw [h]
  exact ⟨rfl, rfl, rfl⟩

/-! ### Frequency masks: the state of a frame (R251) -/

/-- A loop whose every pass adds one to a measure where `p` holds, and nothing elsewhere, adds the number of elements with `p`. -/
theorem foldl_countP {α β : Type} (m : β → Nat) (p : α → Bool) (f : β → α → β) (h : ∀ b a, m (f b a) = m b + if p a then 1 else 0) :
    ∀ (l : List α) (b : β), m (l.foldl f b) = m b + l.countP p
  | [], _ => rfl
  | a :: l, b => by rw [List.foldl_cons, foldl_countP m p f h l, h, List.countP_cons]; omega

/-- A tested point with its position, outside of its line (R251). -/
def pointOutside (bank : Array Nat) (e : Smp × Nat) : Bool :=
  e.1.ok && (decide (pointHigh (bank.getD e.2 maskOpen) < levelCode e.1.pow) || decide (levelCode e.1.pow < pointLow (bank.getD e.2 maskOpen)))

/-- The points tested are those of valid samples. -/
theorem testFrame_tested (bank : Array Nat) (xs : List Smp) : (testFrame bank xs).tested = xs.countP (fun x => x.ok) := by
  have hxs : xs.countP (fun x => x.ok) = xs.zipIdx.countP (fun e => e.1.ok) := by
    have hmap := List.countP_map (p := fun x : Smp => x.ok) (f := Prod.fst) (l := xs.zipIdx)
    rw [List.zipIdx_map_fst] at hmap
    exact hmap
  rw [hxs]
  refine (foldl_countP FrameView.tested (fun e => e.1.ok) _ (fun v e => ?_) _ _).trans (Nat.zero_add _)
  cases e.1.ok with
  | false => rfl
  | true => simp only [Bool.not_true, Bool.false_eq_true, if_false, if_true]; split <;> rfl

/-- The points counted as outside are those outside of their lines. -/
theorem testFrame_out (bank : Array Nat) (xs : List Smp) : (testFrame bank xs).out = xs.zipIdx.countP (pointOutside bank) := by
  refine (foldl_countP FrameView.out (pointOutside bank) _ (fun v e => ?_) _ _).trans (Nat.zero_add _)
  cases hok : e.1.ok with
  | false => simp [pointOutside, hok]
  | true =>
    by_cases hout : 0 < levelCode e.1.pow - pointHigh (bank.getD e.2 maskOpen) ∨ 0 < pointLow (bank.getD e.2 maskOpen) - levelCode e.1.pow
    · have hp : pointOutside bank e = true := by simp only [pointOutside, hok, Bool.true_and, Bool.or_eq_true, decide_eq_true_eq]; omega
      simp only [Bool.not_true, Bool.false_eq_true, if_false, if_pos hout, hp, if_true]
    · have hp : pointOutside bank e = false := by simp only [pointOutside, hok, Bool.true_and, Bool.or_eq_false_iff, decide_eq_false_iff_not]; omega
      simp only [Bool.not_true, Bool.false_eq_true, if_false, if_neg hout, hp, Nat.add_zero]

/-- The state of a frame (R251): 0 NONE, 1 IN, 2 OUT. -/
def FrameView.verdict (v : FrameView) : Nat := if v.tested = 0 then 0 else if v.out = 0 then 1 else 2

/-- The verdict, by the points themselves. -/
theorem testFrame_verdict (bank : Array Nat) (xs : List Smp) :
    (testFrame bank xs).verdict = if xs.any (fun x => x.ok) = false then 0 else if xs.zipIdx.any (pointOutside bank) then 2 else 1 := by
  have htested : xs.countP (fun x => x.ok) = 0 ↔ xs.any (fun x => x.ok) = false := by simp [List.countP_eq_zero]
  have hout : xs.zipIdx.countP (pointOutside bank) = 0 ↔ xs.zipIdx.any (pointOutside bank) = false := by simp [List.countP_eq_zero]
  simp only [FrameView.verdict, testFrame_tested, testFrame_out, htested, hout]
  cases xs.zipIdx.any (pointOutside bank) <;> rfl

/-- Following the runs takes the frame's state over. -/
@[simp] theorem runFrame_state (r : MaskRun) (q st fl : Nat) : (runFrame r q st fl).state = st := by
  unfold runFrame
  split
  · next h => exact h.symm
  · split
    · next h => exact h.1.symm
    · rfl

/-- A frame leaves its mask in the frame's state, whether the mask fires or not, and whether its record is written or limited. -/
theorem freqFrame_state (s : State) (m d k : Nat) (mb b : Block) (bank : Array Nat) (bankNo : Nat) (c : ChTick) (cnt q : Nat) (xs : List Smp) :
    (maskRun (freqFrame s m d k mb b bank bankNo c cnt q xs).1 d k).state = (testFrame bank xs).verdict := by
  simp only [freqFrame, ← FrameView.verdict.eq_1]
  split
  · simp only [maskRun_onMask, runFrame_state]
  · split
    · simp only [maskRun_onMask, runFrame_state]
    · rw [maskRun_timeTrig]
      split
      · split <;> simp only [maskRun_publish, maskRecord_keeps, maskRun_worstFields, maskRun_onMask, runFrame_state]
      · simp only [maskRecord_keeps, maskRun_worstFields, maskRun_onMask, runFrame_state]

/-! ### Sweep masks: the next window (R262) -/

/-- Has the history of a sweep mask reached the end of its next window? -/
def windowReached (p : Plan) (d : Nat) (mb : Block) (r : MaskRun) : Bool :=
  r.hist.any (fun h => decide ((r.window + 1) * mb.nat 11 ≤ h.1 + 1 - p.dmMax d mb) && decide (p.dmMax d mb ≤ h.1 + 1))

/-- Candidates that a decision finds. -/
def windowTriggers (p : Plan) (d : Nat) (mb b : Block) (r : MaskRun) : Nat :=
  match bestCand mb (p.kappa (srcOf d (b.at 2)) (mb.nat 3) (mb.nat 4)) r.hist r.window with | some _ => 1 | none => 0

section
variable {s : State} {d k : Nat} {mb b : Block}

/-- A window that the history has not reached stays. -/
theorem sweepDecide_early (h : windowReached s.plan d mb (maskRun s d k) = false) : sweepDecide s d k mb b = s := by
  unfold windowReached at h
  simp only [sweepDecide, h, Bool.not_false, if_true]

/-- A window that is reached is decided once, and its trigger counted if it has a candidate. -/
theorem sweepDecide_reached (h : windowReached s.plan d mb (maskRun s d k) = true) :
    (maskRun (sweepDecide s d k mb b) d k).window = (maskRun s d k).window + 1 ∧
      (maskRun (sweepDecide s d k mb b) d k).triggers = (maskRun s d k).triggers + windowTriggers s.plan d mb b (maskRun s d k) := by
  unfold windowReached at h
  simp only [sweepDecide, h, Bool.not_true, Bool.false_eq_true, if_false, windowTriggers, onMask_plan]
  cases bestCand mb (s.plan.kappa (srcOf d (b.at 2)) (mb.nat 3) (mb.nat 4)) (maskRun s d k).hist (maskRun s d k).window with
  | none => simp only [maskRun_onMask, Nat.add_zero, and_self]
  | some x =>
    simp only [maskRun_timeTrig]
    split <;> simp only [maskRun_publish, maskRun_onInstr, maskRecord_keeps, maskRun_onMask, and_self]

/-- SWEEP_WINDOW_DECIDE of a sweep mask. -/
theorem sweepWindowDecide_sweep (hm : s.plan.mask d k = some mb) (hb : s.plan.instr d (mb.nat 2) = some b) (hs : mb.is 0 1 = true) :
    exec (.sweepWindowDecide d k) s = .next (sweepDecide s d k mb b) := by
  show execSweepWindowDecide d k s = _
  simp only [execSweepWindowDecide, hm, hb, hs, if_true]

/-- SWEEP_WINDOW_DECIDE of a frequency mask. -/
theorem sweepWindowDecide_freq (hm : s.plan.mask d k = some mb) (hb : s.plan.instr d (mb.nat 2) = some b) (hs : mb.is 0 1 = false) :
    exec (.sweepWindowDecide d k) s = .next s := by
  show execSweepWindowDecide d k s = _
  simp only [execSweepWindowDecide, hm, hb, hs, Bool.false_eq_true, if_false]

/-- SWEEP_WINDOW_DECIDE of a mask that is not defined. -/
theorem sweepWindowDecide_undefined (hm : s.plan.mask d k = none) (hk : k < 8) : exec (.sweepWindowDecide d k) s = .next s := by
  show execSweepWindowDecide d k s = _
  simp only [execSweepWindowDecide, hm, if_neg (Nat.not_le.2 hk)]

end

end Sys2Proof.Machine

namespace Sys2Proof.Settled
open Sys2Proof.Machine

/-- Settles O28: a frame's verdict, kept by all that the mask does on it. -/
theorem maskFrameStates : Obligations.MaskFrameStates := by
  unfold Obligations.MaskFrameStates
  intro s m d k bankNo cnt q mb b bank c xs
  rw [freqFrame_state, testFrame_verdict]
  rfl

end Sys2Proof.Settled
end

section
/-! Plates (R266 to R268, R270): the level of a code, the count that a sample adds, the decay, and the snapshot. -/
namespace Sys2Proof.Machine

/-! ### The run-time state of a Plate -/

/-- What was changed on a Plate is what is read of it. -/
@[simp] theorem plateRun_onPlate (s : State) (d k : Nat) (f : PlateRun → PlateRun) : plateRun (onPlate s d k f) d k = f (plateRun s d k) := by simp [plateRun, onPlate]

/-- Forming a record changes no Plate. -/
@[simp] theorem plateRun_iMake (s : State) (d i ring sid kind : Nat) (b : Block) (seq flags last : Nat) (f : Fields) (drops : ICtr) (event : Option (Nat × Nat)) (e k : Nat) :
    plateRun (iMake s d i ring sid kind b seq flags last f drops event) e k = plateRun s e k := rfl

/-- A change that changes nothing of its Plate changes nothing of any. -/
theorem plateRun_onPlate_id (s : State) (d k : Nat) (f : PlateRun → PlateRun) (h : f (plateRun s d k) = plateRun s d k) (e j : Nat) :
    plateRun (onPlate s d k f) e j = plateRun s e j := by
  by_cases hkey : (e, j) = (d, k)
  · obtain ⟨rfl, rfl⟩ := Prod.mk.inj hkey
    rw [plateRun_onPlate, h]
  · exact tgetD_tmod_ne _ _ _ _ _ hkey

/-! ### Counts of a Plate -/

section
variable {pb : Block} {r : PlateRun}

/-- Padding with zeros changes nothing that is read. -/
theorem padTo_getD (n : Nat) (l : List Nat) (i : Nat) : (padTo 0 n l).getD i 0 = l.getD i 0 := by
  simp only [padTo, List.getD_eq_getElem?_getD]
  rcases Nat.lt_or_ge i l.length with hi | hi
  · rw [List.getElem?_append_left hi]
  · rw [List.getElem?_append_right hi, List.getElem?_eq_none hi, List.getElem?_replicate]
    split <;> rfl

theorem le_length_padTo (n : Nat) (l : List Nat) : n ≤ (padTo 0 n l).length := by
  simp only [padTo, List.length_append, List.length_replicate]
  omega

/-- A cell of the grid. -/
theorem plateCell_lt {x y : Nat} (hx : x < plateCols pb) (hy : y < pb.nat 6) : y * plateCols pb + x < plateCells pb :=
  calc y * plateCols pb + x < y * plateCols pb + plateCols pb := Nat.add_lt_add_left hx _
    _ = (y + 1) * plateCols pb := (Nat.succ_mul ..).symm
    _ ≤ plateCells pb := Nat.mul_le_mul_right _ hy

/-! ### Levels (R266) -/

/-- A code below FLOOR. -/
theorem plateLevel_below {l : Int} (hstep : 0 < pb.nat 8) (h : l < pb.int 7) : plateLevel pb l = (0, true, false) := by
  have hy : (l - pb.int 7) / (pb.nat 8 : Int) < 0 := Int.ediv_neg_of_neg_of_pos (by omega) (by omega)
  simp only [plateLevel, if_pos hy]

/-- A code above the top level. -/
theorem plateLevel_above {l : Int} (hstep : 0 < pb.nat 8) (h : pb.int 7 + (pb.nat 8 : Int) * (pb.nat 6 : Int) ≤ l) : plateLevel pb l = (pb.nat 6 - 1, false, true) := by
  have hy : (pb.nat 6 : Int) ≤ (l - pb.int 7) / (pb.nat 8 : Int) := (Int.le_ediv_iff_mul_le (by omega)).2 (by rw [Int.mul_comm]; omega)
  simp only [plateLevel, if_neg (show ¬ (l - pb.int 7) / (pb.nat 8 : Int) < 0 by omega), if_pos hy]

/-- A code in the range has the level in whose step it lies. -/
theorem plateLevel_within {l : Int} (hstep : 0 < pb.nat 8) (hlo : pb.int 7 ≤ l) (hhi : l < pb.int 7 + (pb.nat 8 : Int) * (pb.nat 6 : Int)) :
    ∃ y, plateLevel pb l = (y, false, false) ∧ y < pb.nat 6 ∧ (pb.nat 8 : Int) * (y : Int) + pb.int 7 ≤ l ∧ l < (pb.nat 8 : Int) * ((y : Int) + 1) + pb.int 7 := by
  have hpos : (0 : Int) < pb.nat 8 := by omega
  obtain ⟨y, hy⟩ := Int.eq_ofNat_of_zero_le (Int.ediv_nonneg (show 0 ≤ l - pb.int 7 by omega) (Int.le_of_lt hpos))
  have htop : (l - pb.int 7) / (pb.nat 8 : Int) < pb.nat 6 := Int.ediv_lt_of_lt_mul hpos (by rw [Int.mul_comm]; omega)
  have hle := Int.mul_ediv_self_le (x := l - pb.int 7) (Int.ne_of_gt hpos)
  have hlt := Int.lt_mul_ediv_self_add (x := l - pb.int 7) hpos
  rw [hy] at htop hle hlt
  refine ⟨y, ?_, by omega, by omega, by rw [Int.mul_add, Int.mul_one]; omega⟩
  simp only [plateLevel, hy, if_neg (show ¬ (y : Int) < 0 by omega), if_neg (show ¬ (pb.nat 6 : Int) ≤ y by omega), Int.toNat_natCast]

/-! ### Increments (R267) -/

/-- One sample adds one count to the cell of its level and column, unless that count is at its limit. -/
theorem plateAdd_counts {x y : Nat} {l : Int} {lo hi : Bool} (hlevel : plateLevel pb l = (y, lo, hi)) (hx : x < plateCols pb) (hy : y < pb.nat 6) (n : Nat) :
    (plateAdd pb x l r).counts.getD n 0 = r.counts.getD n 0 + (if n = y * plateCols pb + x ∧ r.counts.getD n 0 < 2 ^ 32 - 1 then 1 else 0) := by
  have hcell := Nat.lt_of_lt_of_le (plateCell_lt hx hy) (le_length_padTo (plateCells pb) r.counts)
  simp only [plateAdd, hlevel]
  by_cases hfull : 2 ^ 32 - 1 ≤ r.counts.getD (y * plateCols pb + x) 0
  · have hno : ¬ (n = y * plateCols pb + x ∧ r.counts.getD n 0 < 2 ^ 32 - 1) := by rintro ⟨rfl, h⟩; omega
    rw [if_pos hfull, if_neg hno]
    rfl
  · rw [if_neg hfull]
    by_cases hn : n = y * plateCols pb + x
    · subst hn
      rw [if_pos ⟨rfl, Nat.not_le.1 hfull⟩, List.getD_eq_getElem?_getD, List.getElem?_set_self hcell]
      rfl
    · rw [if_neg (fun h => hn h.1), List.getD_eq_getElem?_getD, List.getElem?_set_ne (Ne.symm hn), ← List.getD_eq_getElem?_getD, padTo_getD, Nat.add_zero]

/-- What one sample counts beside its cell. -/
theorem plateAdd_counters {x y : Nat} {l : Int} {lo hi : Bool} (hlevel : plateLevel pb l = (y, lo, hi)) :
    (plateAdd pb x l r).increments = r.increments + 1 ∧ (plateAdd pb x l r).below = r.below + b2n lo ∧ (plateAdd pb x l r).above = r.above + b2n hi ∧
      (plateAdd pb x l r).sat = r.sat + (if 2 ^ 32 - 1 ≤ r.counts.getD (y * plateCols pb + x) 0 then 1 else 0) := by
  simp only [plateAdd, hlevel]
  split <;> exact ⟨rfl, rfl, rfl, rfl⟩

end

/-! ### Decay (R268) -/

section
variable {pb : Block} {r : PlateRun}

/-- A decay that is not due. -/
theorem plateDecay_notDue (h : r.decayDue = false) : plateDecay pb r = r := by simp only [plateDecay, h, Bool.not_false, if_true]

/-- A decay that is due is applied once. -/
theorem plateDecay_due (h : r.decayDue = true) : (plateDecay pb r).decayDue = false ∧ (plateDecay pb r).decays = r.decays + 1 := by
  simp only [plateDecay, h, Bool.not_true, Bool.false_eq_true, if_false, and_self]

/-- A decay that is due, of PERSIST = LINEAR. -/
theorem plateDecay_linear (h : r.decayDue = true) (hp : pb.word? 9 = some 1) : (plateDecay pb r).counts = r.counts.map (fun c => c - Nat.min c (pb.nat 11)) := by
  simp only [plateDecay, h, hp, Bool.not_true, Bool.false_eq_true, if_false]

/-- A decay that is due, of PERSIST = EXP. -/
theorem plateDecay_exp (h : r.decayDue = true) (hp : pb.word? 9 = some 2) :
    (plateDecay pb r).counts = r.counts.map (fun c => c - (c + 2 ^ pb.nat 12 - 1) / 2 ^ pb.nat 12) := by
  simp only [plateDecay, h, hp, Bool.not_true, Bool.false_eq_true, if_false]

/-- A map that raises no count leaves every count no greater. -/
theorem map_getD_le (f : Nat → Nat) (hf : ∀ c, f c ≤ c) (l : List Nat) (n : Nat) : (l.map f).getD n 0 ≤ l.getD n 0 := by
  rw [List.getD_eq_getElem?_getD, List.getD_eq_getElem?_getD, List.getElem?_map]
  cases l[n]? with
  | none => exact Nat.le_refl 0
  | some c => exact hf c

/-- A decay raises no count. -/
theorem plateDecay_counts_le (pb : Block) (r : PlateRun) (n : Nat) : (plateDecay pb r).counts.getD n 0 ≤ r.counts.getD n 0 := by
  unfold plateDecay
  split
  · exact Nat.le_refl _
  · refine map_getD_le _ (fun c => ?_) _ n
    split
    · exact Nat.sub_le ..
    · exact Nat.sub_le ..
    · exact Nat.le_refl c

/-- A decay leaves alone what concerns snapshots. -/
theorem plateDecay_snap (pb : Block) (r : PlateRun) :
    (plateDecay pb r).snapDue = r.snapDue ∧ (plateDecay pb r).snapSeq = r.snapSeq ∧ (plateDecay pb r).snapshots = r.snapshots ∧ (plateDecay pb r).last = r.last := by
  unfold plateDecay
  split <;> exact ⟨rfl, rfl, rfl, rfl⟩

end

/-! ### Snapshots (R270) -/

/-- The end of a list, found from the number of entries that were mapped to it: where the counts stand in a snapshot. -/
theorem drop_length_sub_append_map {α β : Type} (g : α → β) (xs : List β) (ys : List α) : (xs ++ ys.map g).drop ((xs ++ ys.map g).length - ys.length) = ys.map g := by
  simpa only [List.length_map] using drop_length_sub_append xs (ys.map g)

section
variable {s : State} {d k : Nat} {pb : Block}

/-- Where no snapshot is due only a decay that is due is applied. -/
theorem plateSnap_notDue (h : (plateRun s d k).snapDue = false) : plateSnap s d k pb = onPlate s d k (plateDecay pb) := by
  obtain ⟨hdue, -⟩ := plateDecay_snap pb (plateRun s d k)
  simp only [plateSnap, plateRun_onPlate, hdue, h, Bool.not_false, if_true]

/-- A snapshot that is due uses its SNAP_SEQ, starts the next one, and keeps the counts, decayed before if that was due. -/
theorem plateSnap_run (h : (plateRun s d k).snapDue = true) :
    (plateRun (plateSnap s d k pb) d k).snapDue = false ∧ (plateRun (plateSnap s d k pb) d k).snapSeq = ((plateRun s d k).snapSeq + 1) % 2 ^ 32 ∧
      (plateRun (plateSnap s d k pb) d k).snapshots = (plateRun s d k).snapshots + 1 ∧
      (plateRun (plateSnap s d k pb) d k).counts = (plateDecay pb (plateRun s d k)).counts ∧ (plateRun (plateSnap s d k pb) d k).frames = 0 := by
  obtain ⟨hdue, hseq, hsnap, -⟩ := plateDecay_snap pb (plateRun s d k)
  simp only [plateSnap, plateRun_onPlate, hdue, h, Bool.not_true, Bool.false_eq_true, if_false, plateRun_iMake, hseq, hsnap, and_self]

/-- Its record: the header and all cells. -/
theorem plateSnap_record (h : (plateRun s d k).snapDue = true) :
    ∃ m, (plateSnap s d k pb).made = s.made ++ [m] ∧ m.dome = d ∧ m.instr = pb.nat 1 ∧ m.kind = 5 ∧ m.seq = (plateRun s d k).snapSeq ∧ m.lastTick = (plateRun s d k).last ∧
      m.body.take 4 = [(1, 5), (1, 1), (2, pb.nat 1), (1, k)] ∧ m.body.drop (m.body.length - (padTo 0 (plateCells pb) (plateDecay pb (plateRun s d k)).counts).length) =
        (padTo 0 (plateCells pb) (plateDecay pb (plateRun s d k)).counts).map (fun c => (4, c)) := by
  obtain ⟨hdue, hseq, -, hlast⟩ := plateDecay_snap pb (plateRun s d k)
  simp only [plateSnap, plateRun_onPlate, hdue, h, Bool.not_true, Bool.false_eq_true, if_false]
  refine ⟨_, rfl, rfl, rfl, rfl, hseq, hlast, rfl, ?_⟩
  exact drop_length_sub_append_map (fun c => (4, c)) _ _

/-! ### PLATE_DECAY and PLATE_SNAPSHOT -/

theorem exec_plateDecay (hp : s.plan.plate d k = some pb) : exec (.plateDecay d k) s = .next (onPlate s d k (plateDecay pb)) := by
  show execPlateDecay d k s = _
  simp only [execPlateDecay, hp]

theorem exec_plateSnapshot (hp : s.plan.plate d k = some pb) : exec (.plateSnapshot d k) s = .next (plateSnap s d k pb) := by
  show execPlateSnapshot d k s = _
  simp only [execPlateSnapshot, hp]

/-- Nothing happens on a Plate that is not defined. -/
theorem plate_undefined (hp : s.plan.plate d k = none) (hk : k < 16) : exec (.plateDecay d k) s = .next s ∧ exec (.plateSnapshot d k) s = .next s := by
  show execPlateDecay d k s = _ ∧ execPlateSnapshot d k s = _
  simp only [execPlateDecay, execPlateSnapshot, hp, if_neg (Nat.not_le.2 hk), and_self]

end

end Sys2Proof.Machine

namespace Sys2Proof.Settled
open Sys2Proof.Machine

/-- Settles O27: the level by the range of the code, and the counts by the cell of that level. -/
theorem plateLevels : Obligations.PlateLevels := by
  unfold Obligations.PlateLevels
  intro pb l x r hstep hlevels hx
  rcases Int.lt_or_le l (pb.int 7) with hbelow | hfloor
  · have hlevel := plateLevel_below hstep hbelow
    obtain ⟨hinc, hlo, hhi, hsat⟩ := plateAdd_counters (x := x) (r := r) hlevel
    have htop : (0 : Int) ≤ (pb.nat 8 : Int) * (pb.nat 6 : Int) := Int.mul_nonneg (Int.natCast_nonneg _) (Int.natCast_nonneg _)
    exact ⟨0, hlevels, hinc, fun _ => ⟨rfl, hlo, hhi⟩, fun h => by omega, fun h => by omega, plateAdd_counts hlevel hx hlevels, hsat⟩
  rcases Int.lt_or_le l (pb.int 7 + (pb.nat 8 : Int) * (pb.nat 6 : Int)) with hwithin | habove
  · obtain ⟨y, hlevel, hy, hfrom, hto⟩ := plateLevel_within hstep hfloor hwithin
    obtain ⟨hinc, hlo, hhi, hsat⟩ := plateAdd_counters (x := x) (r := r) hlevel
    exact ⟨y, hy, hinc, fun h => by omega, fun h => by omega, fun _ _ => ⟨hfrom, hto, hlo, hhi⟩, plateAdd_counts hlevel hx hy, hsat⟩
  · have hlevel := plateLevel_above hstep habove
    have hy : pb.nat 6 - 1 < pb.nat 6 := by omega
    obtain ⟨hinc, hlo, hhi, hsat⟩ := plateAdd_counters (x := x) (r := r) hlevel
    exact ⟨pb.nat 6 - 1, hy, hinc, fun h => by omega, fun _ => ⟨rfl, hhi, hlo⟩, fun _ h => by omega, plateAdd_counts hlevel hx hy, hsat⟩

/-- Settles O26: of masks by what a decision does, of Plates by what a decay and a snapshot do. -/
theorem sweepWindowsAndPlates : Obligations.SweepWindowsAndPlates := by
  unfold Obligations.SweepWindowsAndPlates
  refine ⟨?decided, ?early, ?decay, ?noDecay, ?snap, ?record, ?noSnap, fun s d k hm hk => sweepWindowDecide_undefined hm hk, fun s d k hp hk => plate_undefined hp hk⟩
  case decided => exact fun s d k mb b hm hb hs h => ⟨_, sweepWindowDecide_sweep hm hb hs, sweepDecide_reached h⟩
  case early =>
    intro s d k mb b hm hb h
    cases hs : mb.is 0 1 with
    | false => exact sweepWindowDecide_freq hm hb hs
    | true =>
      have hearly : windowReached s.plan d mb (maskRun s d k) = false := h.resolve_left (by simp [hs])
      rw [sweepWindowDecide_sweep hm hb hs, sweepDecide_early hearly]
  case decay =>
    intro s d k pb hp h
    obtain ⟨hdue, hdecays⟩ := plateDecay_due (pb := pb) h
    refine ⟨_, exec_plateDecay hp, ?_⟩
    simp only [plateRun_onPlate]
    exact ⟨hdue, hdecays, plateDecay_linear h, plateDecay_exp h, plateDecay_counts_le pb _, rfl⟩
  case noDecay => exact fun s d k pb hp h => ⟨_, exec_plateDecay hp, plateRun_onPlate_id s d k _ (plateDecay_notDue h), rfl⟩
  case snap => exact fun s d k pb hp h => ⟨_, exec_plateSnapshot hp, plateSnap_run h⟩
  case record => exact fun s d k pb hp h _ => ⟨_, exec_plateSnapshot hp, plateSnap_record h⟩
  case noSnap => exact fun s d k pb hp h => by rw [exec_plateSnapshot hp, exec_plateDecay hp, plateSnap_notDue h]

end Sys2Proof.Settled
end

section
/-! Triggers of a capture (R289, R290, R293). -/
namespace Sys2Proof.Machine

/-! ### The capture of an instrument -/

theorem instrRun_onInstr_ne (s : State) (f : InstrRun → InstrRun) {d i e j : Nat} (h : (e, j) ≠ (d, i)) : instrRun (onInstr s d i f) e j = instrRun s e j :=
  tgetD_tmod_ne _ _ _ _ _ h

@[simp] theorem capRun_onCap (s : State) (d i : Nat) (f : CapRun → CapRun) : capRun (onCap s d i f) d i = f (capRun s d i) := by simp [capRun, onCap]

@[simp] theorem capRun_iCount (s : State) (d i : Nat) (c : ICtr) (k : Nat) : capRun (iCount s d i c k) d i = capRun s d i := by simp [capRun, iCount, InstrRun.count]

@[simp] theorem instrRun_onCap_cnt (s : State) (d i : Nat) (f : CapRun → CapRun) : (instrRun (onCap s d i f) d i).cnt = (instrRun s d i).cnt := by simp [onCap]

@[simp] theorem count_iCount_same (s : State) (d i : Nat) (c : ICtr) (k : Nat) :
    tgetD (instrRun (iCount s d i c k) d i).cnt c 0 = (tgetD (instrRun s d i).cnt c 0 + k) % 2 ^ 64 := by simp only [iCount, instrRun_onInstr, InstrRun.count_same]

theorem count_iCount_ne (s : State) (d i : Nat) {c e : ICtr} (k : Nat) (h : e ≠ c) : tgetD (instrRun (iCount s d i c k) d i).cnt e 0 = tgetD (instrRun s d i).cnt e 0 := by
  rw [iCount, instrRun_onInstr, InstrRun.count_ne _ _ h]

section
variable {s : State} {d i : Nat} {b : Block}

/-- A command on a TRIGGERED RECORDER. -/
theorem onCapture_triggered (hb : s.plan.instr d i = some b) (hk : iKind b = 8) (ht : b.is 2 0 = true) (f : Block → State → State) : onCapture s d i f = .next (f b s) := by
  simp [onCapture, hb, hk, ht]

/-- Another instrument has no triggered capture. -/
theorem onCapture_other (hb : s.plan.instr d i = some b) (h : iKind b ≠ 8 ∨ b.is 2 0 = false) (f : Block → State → State) : onCapture s d i f = .next s := by
  simp only [onCapture, hb]
  exact if_neg (by rcases h with h | h <;> simp [h])

/-! ### Arrival (R289) -/

/-- The oldest trigger has been taken from those that have reached the capture, and counted under its stage and entry. -/
def trigTaken (s : State) (d i : Nat) (x : Trig) (rest : List Trig) : State :=
  iCount (onCap s d i (fun r => { r with arriving := rest })) d i (.triggers (x.entry + 4 * b2n x.stageB)) 1

/-- Until which device tick a trigger may reach the capture: d(n) of its sample tick under its entry. -/
def arrivalLimit (s : State) (d i : Nat) (b : Block) (x : Trig) : Int :=
  s.plan.unitTick d b x.pos + Plan.capDelay.lamS 4 s.plan d i b ((capEntries b x.stageB).getD x.entry [])

variable {x : Trig} {rest : List Trig}

@[simp] theorem capRun_trigTaken (s : State) (d i : Nat) (x : Trig) (rest : List Trig) : capRun (trigTaken s d i x rest) d i = { capRun s d i with arriving := rest } := by simp [trigTaken]

/-- Counting a trigger under its entry leaves the other counts. -/
theorem count_trigTaken (s : State) (d i : Nat) (x : Trig) (rest : List Trig) {c : ICtr} (h : ∀ n, c ≠ .triggers n) :
    tgetD (instrRun (trigTaken s d i x rest) d i).cnt c 0 = tgetD (instrRun s d i).cnt c 0 := by
  rw [trigTaken, count_iCount_ne _ _ _ _ (h _), instrRun_onCap_cnt]

theorem trigArrive_none (h : (capRun s d i).arriving = []) : trigArrive s d i b = s := by simp only [trigArrive, h]

/-- Where a trigger goes that has reached the capture. -/
theorem trigArrive_some (h : (capRun s d i).arriving = x :: rest) :
    trigArrive s d i b = if arrivalLimit s d i b x < x.reached then iCount (trigTaken s d i x rest) d i .lateTrig 1
      else if s.plan.unitTick d b x.pos < (capRun s d i).decided then trigTaken s d i x rest
      else if 64 ≤ ((capRun s d i).queue.filter (fun y => y.stageB == x.stageB)).length then iCount (trigTaken s d i x rest) d i .queueLost 1
      else onCap (trigTaken s d i x rest) d i (fun r => { r with queue := r.queue ++ [x] }) := by
  have hr : capRun (iCount (onCap s d i (fun r => { r with arriving := rest })) d i (.triggers (x.entry + 4 * b2n x.stageB)) 1) d i = { capRun s d i with arriving := rest } := capRun_trigTaken s d i x rest
  simp only [trigArrive, h, hr]
  rfl

end

/-! ### A time that is handed to captures as a trigger (R286) -/

/-- Between two states captures have received triggers, and nothing else has happened. -/
structure GivesTriggers (s t : State) : Prop where
  frame : ∃ v, t = { s with instrs := v }
  arrivals : ∀ d i, ∃ l, instrRun t d i = { instrRun s d i with cap := { capRun s d i with arriving := l } }

theorem GivesTriggers.refl (s : State) : GivesTriggers s s := ⟨⟨s.instrs, rfl⟩, fun d i => ⟨(capRun s d i).arriving, rfl⟩⟩

theorem GivesTriggers.trans {s t u : State} (h : GivesTriggers s t) (k : GivesTriggers t u) : GivesTriggers s u := by
  obtain ⟨v, rfl⟩ := h.frame
  obtain ⟨w, rfl⟩ := k.frame
  refine ⟨⟨w, rfl⟩, fun d i => ?_⟩
  obtain ⟨l, hl⟩ := h.arrivals d i
  obtain ⟨m, hm⟩ := k.arrivals d i
  exact ⟨m, by rw [hm, capRun, hl]⟩

theorem GivesTriggers.giveTrig (s : State) (d i : Nat) (x : Trig) : GivesTriggers s (giveTrig s d i x) := by
  refine ⟨⟨_, rfl⟩, fun e j => ?_⟩
  by_cases h : (e, j) = (d, i)
  · obtain ⟨rfl, rfl⟩ := Prod.mk.inj h
    exact ⟨_, instrRun_onInstr ..⟩
  · exact ⟨(capRun s e j).arriving, instrRun_onInstr_ne _ _ h⟩

theorem GivesTriggers.timeTrig (s : State) (reached typ : Nat) (sel : Nat → List Int → Bool) (grid : Option (Src × Int)) (time : Int) (hold : Bool) :
    GivesTriggers s (timeTrig s reached typ sel grid time hold) :=
  foldl_keep (GivesTriggers s) _ (fun _ _ h => h.trans (.giveTrig ..)) _ _ (.refl s)

section
variable {s : State} {d i : Nat} {b : Block} {x : Trig}

/-! ### Decision (R289, R290, R293) -/

/-- A capture that has accepted a trigger: its record fills, and the hold-off starts. -/
def CapRun.accepting (r : CapRun) (b : Block) (x : Trig) : CapRun :=
  { r with acc := some (x, 0), cand := none, holdPos := if b.is 18 1 then x.pos + (b.nat 19 : Int) else r.holdPos, holdN := if b.is 18 2 then b.nat 19 else 0 }

/-- An acceptance is published on the channel that the capture names, if it names one. -/
def acceptPublished (s : State) (d i : Nat) (b : Block) : State := match b.nat? 26 with | some ch => publish s ch 3 (causeId 0x09 i) d | none => s

theorem acceptPublished_frame (s : State) (d i : Nat) (b : Block) : ∃ w, acceptPublished s d i b = { s with router := w } := by
  unfold acceptPublished
  split
  · exact publish_frame ..
  · exact ⟨_, rfl⟩

/-- Accepting a trigger of a single stage: the trigger counts, and captures that wait for this one receive it. -/
theorem capAccept_single (s : State) (d i : Nat) (b : Block) (x : Trig) :
    (∃ v w, capAccept s d i b x none = { s with instrs := v, router := w }) ∧
    (∃ l, capRun (capAccept s d i b x none) d i = { (capRun s d i).accepting b x with arriving := l }) ∧
    tgetD (instrRun (capAccept s d i b x none) d i).cnt .accepted 0 = (tgetD (instrRun s d i).cnt .accepted 0 + 1) % 2 ^ 64 := by
  generalize hu : iCount (onCap s d i (fun r => r.accepting b x)) d i .accepted 1 = u
  obtain ⟨w, hw⟩ := acceptPublished_frame u d i b
  have heq : capAccept s d i b x none =
      timeTrig (acceptPublished u d i b) (acceptPublished u d i b).time.tick64 7 (fun e l => e == d && l.getD 1 0 == (i : Int)) none x.time x.holdover := by rw [← hu]; rfl
  have hx : GivesTriggers { u with router := w } (capAccept s d i b x none) := by
    rw [heq, hw]
    exact .timeTrig ..
  obtain ⟨v, hv⟩ := hx.frame
  obtain ⟨l, hl⟩ := hx.arrivals d i
  have hl : instrRun (capAccept s d i b x none) d i = { instrRun u d i with cap := { capRun u d i with arriving := l } } := hl
  refine ⟨⟨v, w, ?_⟩, ⟨l, ?_⟩, ?_⟩
  · rw [hv, ← hu]; rfl
  · rw [capRun, hl, ← hu, capRun_iCount, capRun_onCap]
  · rw [hl, ← hu]
    exact (count_iCount_same ..).trans (by rw [instrRun_onCap_cnt])

/-- A trigger under hold-off has been counted. -/
def heldOff (s : State) (d i : Nat) (f : CapRun → CapRun) : State :=
  iCount (onCap s d i (fun r => { f r with holdSkipped := satAdd r.holdSkipped 1 (2 ^ 32 - 1) })) d i .holdoffSkipped 1

/-- How a trigger of stage A that is eligible is decided. -/
theorem decideTrig_eligible (hA : x.stageB = false) (hc : (capRun s d i).cand = none) (hp : (capRun s d i).phase = .filling) (ha : (capRun s d i).acc = none)
    (hm : (capRun s d i).arm ≤ x.pos) (hr : (capRun s d i).resume ≤ x.pos) :
    decideTrig s d i b x = if b.is 18 1 ∧ x.pos < (capRun s d i).holdPos then heldOff s d i (fun r => r)
      else if b.is 18 2 ∧ 0 < (capRun s d i).holdN then heldOff s d i (fun r => { r with holdN := r.holdN - 1 })
      else if b.is 15 1 then onCap s d i (fun r => { r with cand := some x }) else capAccept s d i b x none := by
  have hn : ¬(CapPhase.filling ≠ .filling ∨ False ∨ x.pos < (capRun s d i).arm ∨ x.pos < (capRun s d i).resume) := by simp [hm, hr]
  simp only [decideTrig, hc, hA, hp, ha, Option.isSome_none, Bool.and_false, Bool.false_eq_true, if_false, reduceCtorEq, if_neg hn]
  rfl

/-- The triggers of the next sample tick leave the queue, and it is the one decided. -/
def tickDecided (s : State) (d i : Nat) (b : Block) : State :=
  onCap s d i (fun r => { r with queue := r.queue.filter (fun y => !decide (y.pos < s.plan.firstUnit d b (((capRun s d i).decided : Int) + 1))), decided := (capRun s d i).decided + 1 })

/-- A candidate whose window ends before unit `stop` goes. -/
def candExpired (s : State) (d i : Nat) (b : Block) (stop : Int) : State :=
  match (capRun s d i).cand with
  | some a => if a.pos + (b.nat 16 : Int) < stop then iCount (onCap s d i (fun r => { r with cand := none, resume := a.pos + (b.nat 16 : Int) + 1 })) d i .seqExpired 1 else s
  | none => s

theorem candExpired_none (h : (capRun s d i).cand = none) (stop : Int) : candExpired s d i b stop = s := by simp only [candExpired, h]

theorem candExpired_open {stop : Int} (h : (capRun s d i).cand = some x) (hs : stop ≤ x.pos + (b.nat 16 : Int)) : candExpired s d i b stop = s := by
  simp only [candExpired, h, if_neg (Int.not_lt.2 hs)]

theorem candExpired_passed {stop : Int} (h : (capRun s d i).cand = some x) (hs : x.pos + (b.nat 16 : Int) < stop) :
    candExpired s d i b stop = iCount (onCap s d i (fun r => { r with cand := none, resume := x.pos + (b.nat 16 : Int) + 1 })) d i .seqExpired 1 := by
  simp only [candExpired, h, if_pos hs]

/-- The decision of a sample tick, once every trigger has arrived. -/
theorem triggerDecide_due (hb : s.plan.instr d i = some b) (hk : iKind b = 8) (ht : b.is 2 0 = true) (ha : (capRun s d i).arriving = [])
    (hd : (capRun s d i).decided + s.plan.capDelay 4 d i b < s.time.tick64) {l : List Trig}
    (hq : (capRun s d i).queue.filter (fun y => decide (y.pos < s.plan.firstUnit d b (((capRun s d i).decided : Int) + 1))) = l) :
    exec (.triggerDecide d i) s = .next (candExpired ((trigSort l).foldl (fun s x => decideTrig s d i b x) (tickDecided s d i b)) d i b
      (s.plan.firstUnit d b (((capRun s d i).decided : Int) + 1))) := by
  have hdue : decideDue s d i b = true := decide_eq_true hd
  show execTriggerDecide d i s = _
  rw [execTriggerDecide, onCapture_triggered hb hk ht, ha, List.foldl_nil, if_pos hdue, ← hq]
  rfl

theorem triggerDecide_early (hb : s.plan.instr d i = some b) (hk : iKind b = 8) (ht : b.is 2 0 = true) (ha : (capRun s d i).arriving = [])
    (hd : s.time.tick64 ≤ (capRun s d i).decided + s.plan.capDelay 4 d i b) : exec (.triggerDecide d i) s = .next s := by
  have hdue : decideDue s d i b = false := decide_eq_false (Nat.not_lt.2 hd)
  show execTriggerDecide d i s = _
  rw [execTriggerDecide, onCapture_triggered hb hk ht, ha, List.foldl_nil]
  simp only [hdue, Bool.false_eq_true, if_false]

theorem exec_triggerArrive (hb : s.plan.instr d i = some b) (hk : iKind b = 8) (ht : b.is 2 0 = true) : exec (.triggerArrive d i) s = .next (trigArrive s d i b) := by
  show execTriggerArrive d i s = _
  rw [execTriggerArrive, onCapture_triggered hb hk ht]

/-- An instrument that is not a TRIGGERED RECORDER takes no trigger. -/
theorem exec_trigger_other (hb : s.plan.instr d i = some b) (h : iKind b ≠ 8 ∨ b.is 2 0 = false) :
    exec (.triggerArrive d i) s = .next s ∧ exec (.triggerDecide d i) s = .next s := by
  constructor
  · show execTriggerArrive d i s = _
    rw [execTriggerArrive, onCapture_other hb h]
  · show execTriggerDecide d i s = _
    rw [execTriggerDecide, onCapture_other hb h]

end

end Sys2Proof.Machine

namespace Sys2Proof.Settled
open Sys2Proof.Machine

/-- Settles O24: an arrival by `trigArrive_some`, a decision by `decideTrig_eligible`. -/
theorem captureTriggers : Obligations.CaptureTriggers := by
  unfold Obligations.CaptureTriggers
  refine ⟨?arrives, ?quiet, ?nothing, ?decides, fun s d i b => exec_trigger_other⟩
  case arrives =>
    intro s d i b x rest hb hk ht ha
    have hx := exec_triggerArrive hb hk ht
    rw [trigArrive_some ha] at hx
    by_cases hlate : arrivalLimit s d i b x < x.reached
    · rw [if_pos hlate] at hx
      refine ⟨_, hx, by simp, fun _ => ⟨by simp, ?_⟩, fun h => absurd hlate (Int.not_lt.2 h), rfl⟩
      rw [count_iCount_same, count_trigTaken _ _ _ _ _ (by simp)]
    rw [if_neg hlate] at hx
    by_cases hold : s.plan.unitTick d b x.pos < (capRun s d i).decided
    · rw [if_pos hold] at hx
      exact ⟨_, hx, by simp, fun h => absurd h hlate, fun _ h => absurd hold (Int.not_lt.2 h), rfl⟩
    rw [if_neg hold] at hx
    by_cases hfull : 64 ≤ ((capRun s d i).queue.filter (fun y => y.stageB == x.stageB)).length
    · rw [if_pos hfull] at hx
      refine ⟨_, hx, by simp, fun h => absurd h hlate, fun _ _ => ⟨fun _ => ⟨by simp, ?_⟩, fun h => absurd hfull (Nat.not_le.2 h)⟩, rfl⟩
      rw [count_iCount_same, count_trigTaken _ _ _ _ _ (by simp)]
    · rw [if_neg hfull] at hx
      exact ⟨_, hx, by simp, fun h => absurd h hlate, fun _ _ => ⟨fun h => absurd h hfull, fun _ => by simp⟩, rfl⟩
  case quiet => exact fun s d i b hb hk ht ha => ⟨by rw [exec_triggerArrive hb hk ht, trigArrive_none ha], triggerDecide_early hb hk ht ha⟩
  case nothing =>
    intro s d i b hb hk ht ha hd hc hq
    have hkeep : (capRun s d i).queue.filter (fun y => !decide (y.pos < s.plan.firstUnit d b (((capRun s d i).decided : Int) + 1))) = (capRun s d i).queue := by
      simpa [List.filter_eq_nil_iff] using hq
    have hx := triggerDecide_due hb hk ht ha hd hq
    rw [trigSort, List.foldl_nil, List.foldl_nil, candExpired_none (by simp [tickDecided, hc])] at hx
    exact ⟨_, hx, by simp [tickDecided, hkeep], rfl⟩
  case decides =>
    intro s d i b x hb hk ht ha hd hc hq hA hp hacc harm hres
    have hx := triggerDecide_due hb hk ht ha hd hq
    change exec _ s = .next (candExpired (decideTrig (tickDecided s d i b) d i b x) d i b _) at hx
    rw [hx]
    generalize s.plan.firstUnit d b (((capRun s d i).decided : Int) + 1) = stop
    have hrun : ∃ l, capRun (tickDecided s d i b) d i = { capRun s d i with queue := l, decided := (capRun s d i).decided + 1 } := ⟨_, capRun_onCap ..⟩
    have hcnt : (instrRun (tickDecided s d i b) d i).cnt = (instrRun s d i).cnt := instrRun_onCap_cnt ..
    have hfr : ∃ v, tickDecided s d i b = { s with instrs := v } := ⟨_, rfl⟩
    generalize tickDecided s d i b = u at *
    obtain ⟨l, hrun⟩ := hrun
    obtain ⟨v, hu⟩ := hfr
    have hdec := decideTrig_eligible (s := u) (b := b) hA (by rw [hrun]; exact hc) (by rw [hrun]; exact hp) (by rw [hrun]; exact hacc) (by rw [hrun]; exact harm) (by rw [hrun]; exact hres)
    rw [hdec, hrun]
    by_cases hpos : b.is 18 1 ∧ x.pos < (capRun s d i).holdPos
    · -- under hold-off by position
      rw [if_pos hpos]
      rw [candExpired_none (by simp [heldOff, hrun, hc])]
      refine ⟨_, rfl, by simp [heldOff, hrun], fun _ h => absurd hpos.2 (Int.not_lt.2 (h hpos.1)), fun _ h => absurd hpos.2 (Int.not_lt.2 (h hpos.1)),
        fun _ _ => ⟨by simp [heldOff, hrun, hacc], by simp [heldOff, hrun, hc], ?_⟩, by subst hu; rfl⟩
      rw [heldOff, count_iCount_same, instrRun_onCap_cnt, hcnt]
    rw [if_neg hpos]
    by_cases hnum : b.is 18 2 ∧ 0 < (capRun s d i).holdN
    · -- under hold-off by number
      rw [if_pos hnum]
      rw [candExpired_none (by simp [heldOff, hrun, hc])]
      refine ⟨_, rfl, by simp [heldOff, hrun], fun _ _ h => absurd (h hnum.1) (Nat.ne_of_gt hnum.2), fun _ _ h => absurd (h hnum.1) (Nat.ne_of_gt hnum.2),
        fun h k => absurd ⟨h, k⟩ hpos, by subst hu; rfl⟩
    rw [if_neg hnum]
    by_cases hseq : b.is 15 1
    · -- the candidate of a sequence, whose window may pass at once
      rw [if_pos hseq]
      by_cases hopen : stop ≤ x.pos + (b.nat 16 : Int)
      · rw [candExpired_open (by simp) hopen]
        exact ⟨_, rfl, by simp [hrun], fun h => absurd hseq (by simp [h]), fun _ _ _ _ => by simp [hrun, hacc], fun h k => absurd ⟨h, k⟩ hpos, by subst hu; rfl⟩
      · rw [candExpired_passed (by simp) (Int.not_le.1 hopen)]
        exact ⟨_, rfl, by simp [hrun], fun h => absurd hseq (by simp [h]), fun _ _ _ h => absurd h hopen, fun h k => absurd ⟨h, k⟩ hpos, by subst hu; rfl⟩
    · -- accepted
      rw [if_neg hseq]
      obtain ⟨⟨v', w, hframe⟩, ⟨l', hacc'⟩, hcount⟩ := capAccept_single u d i b x
      rw [candExpired_none (by rw [hacc']; rfl)]
      refine ⟨_, rfl, by rw [hacc', hrun]; rfl, fun _ _ _ => ⟨by rw [hacc']; rfl, by rw [hcount, hcnt], fun h => ?_, fun h => ?_⟩, fun h => absurd h hseq, fun h k => absurd ⟨h, k⟩ hpos, by rw [hframe, hu]⟩
      · rw [hacc']; exact if_pos h
      · rw [hacc']; exact if_pos h

end Sys2Proof.Settled
end

section
/-! Records and segments of a capture (R291, R292, R294, R300). -/
namespace Sys2Proof.Machine

/-- A change of a capture is known by what it makes of the capture as it stands. -/
theorem onCap_congr {s : State} {d i : Nat} {f g : CapRun → CapRun} (h : f (capRun s d i) = g (capRun s d i)) : onCap s d i f = onCap s d i g := by
  show ({ s with instrs := tset s.instrs (d, i) { instrRun s d i with cap := f (capRun s d i) } } : State) = _
  rw [h]
  rfl

/-- Writing into an object changes HBM alone. -/
theorem objPut_frame (s : State) (k : ObjKey) (off : Nat) (l : List Byte) : ∃ h, objPut s k off l = { s with hbm := h } := by
  have put : ∀ u : State, (∃ h, u = { s with hbm := h }) → ∀ at' (m : List Byte), ∃ h, (match objAddr u k at' with | some x => hbmStore u x m | none => u) = { s with hbm := h } := by
    rintro _ ⟨h, rfl⟩ at' m
    split
    · exact ⟨_, rfl⟩
    · exact ⟨h, rfl⟩
  exact foldl_keep (fun t => ∃ h, t = { s with hbm := h }) _ (fun u _ hu => put u hu _ _) _ _ (put s ⟨s.hbm, rfl⟩ _ _)

/-! ### Packets of a record leave the instruments alone (R300) -/

theorem vorsyPkt_instrs (s : State) (d k : Nat) (at' : Nat × Nat × Nat) (typ flags mid tick last : Nat) (content : List Byte) (ends : Option PktEnd) :
    (vorsyPkt s d k at' typ flags mid tick last content ends).instrs = s.instrs := by
  unfold vorsyPkt
  split <;> rfl

theorem sendCapture_instrs (s : State) (d k key instr seq region flags tick : Nat) (unit : Nat → Nat) (off : Nat) (bytes : List Byte) (ends : Option PktEnd) :
    (sendCapture s d k key instr seq region flags tick unit off bytes ends).instrs = s.instrs := by
  unfold sendCapture
  split
  · rfl
  · exact foldl_keep (fun t : State => t.instrs = s.instrs) _ (fun _ _ h => (vorsyPkt_instrs ..).trans h) _ _ rfl

theorem capStream_instrs (s : State) (d i k : Nat) (b : Block) (r : CapRun) (hdr : Fields) (first last : Int) : (capStream s d i k b r hdr first last).instrs = s.instrs :=
  foldl_keep (fun t : State => t.instrs = s.instrs) _ (fun _ _ h => (sendCapture_instrs ..).trans h) _ _ rfl

section
variable {s : State} {d i : Nat} {b : Block} {x : Trig} {dl : Int}

/-- A command that finds nothing to do on a capture changes nothing, whatever the instrument. -/
theorem onCapture_still (hb : s.plan.instr d i = some b) {f : Block → State → State} (h : f b s = s) : onCapture s d i f = .next s := by
  simp only [onCapture, hb, h, ite_self]

/-! ### The close of a record (R291) -/

/-- First unit of the record of a trigger: PRE units before it, or the arm point. -/
def recordFirst (r : CapRun) (b : Block) (x : Trig) : Int := if x.pos - (b.nat 9 : Int) < r.arm then r.arm else x.pos - (b.nat 9 : Int)

/-- A capture whose record has been closed. -/
def CapRun.filed (r : CapRun) (b : Block) (x : Trig) (stage : RecStage) (first : Int) : CapRun :=
  { r with acc := none, cand := none, phase := .closed, seq := (r.seq + 1) % 2 ^ 32, holdSkipped := 0, gapFrom := some (x.pos + (b.nat 10 : Int) - 1 + 1),
           recs := r.recs ++ [⟨r.seq, r.seg, stage, first⟩] }

/-- The closed record is counted. -/
def recordFiled (s : State) (d i : Nat) (b : Block) (x : Trig) (stage : RecStage) (first : Int) : State :=
  iCount (iCount (onCap s d i (fun r => r.filed b x stage first)) d i .records 1) d i .truncated 0

@[simp] theorem capRun_recordFiled (s : State) (d i : Nat) (b : Block) (x : Trig) (stage : RecStage) (first : Int) :
    capRun (recordFiled s d i b x stage first) d i = (capRun s d i).filed b x stage first := by simp [recordFiled]

/-- The header of the record has been written into its segment. -/
def headerPut (s : State) (d i : Nat) (b : Block) (x : Trig) (dl : Int) : State :=
  objPut s (capKey d i) ((capRun s d i).seg * (capGeom s.plan d i b).bytes)
    (capHeader s.plan d i b (capRun s d i) x dl (recordFirst (capRun s d i) b x) (x.pos + (b.nat 10 : Int) - 1) false).le

theorem capClose_held (ha : (capRun s d i).acc = some (x, dl)) (hs : b.is 24 1 = false) :
    let u := recordFiled (headerPut s d i b x dl) d i b x .held (recordFirst (capRun s d i) b x)
    capClose s d i b false = raiseTile u (iTile u d i 0) 10 0x0D i (.dome d) := by
  simp only [capClose, ha, hs]
  rfl

theorem recordClose_due (hb : s.plan.instr d i = some b) (hk : iKind b = 8) (ht : b.is 2 0 = true) (ha : (capRun s d i).acc = some (x, dl))
    (hl : x.pos + (b.nat 10 : Int) - 1 ≤ (capRun s d i).lastUnit) : exec (.recordClose d i) s = .next (capClose s d i b false) := by
  have hdue : closeDue s d i b = true := by simp only [closeDue, ha, hl, decide_true]
  show execRecordClose d i s = _
  rw [execRecordClose, onCapture_triggered hb hk ht, if_pos hdue]

theorem recordClose_notDue (hb : s.plan.instr d i = some b) (h : closeDue s d i b = false) : exec (.recordClose d i) s = .next s := by
  show execRecordClose d i s = _
  rw [execRecordClose, onCapture_still hb (if_neg (by simp [h]))]

@[simp] theorem capRun_raiseTile (s : State) (l n kind obj : Nat) (o : Origin) (d i : Nat) : capRun (raiseTile s l n kind obj o) d i = capRun s d i := by
  simp only [capRun, instrRun, raiseTile, raise_instrs]

/-- The close of a record that is streamed: its packets are on their way, and change nothing of the capture. -/
theorem capClose_streaming (ha : (capRun s d i).acc = some (x, dl)) (hs : b.is 24 1 = true) :
    capRun (capClose s d i b false) d i = (capRun s d i).filed b x .streaming (recordFirst (capRun s d i) b x) := by
  obtain ⟨hdr, last, hcl⟩ : ∃ hdr last, capClose s d i b false =
      let u := recordFiled (capStream (headerPut s d i b x dl) d i (b.nat 25) b (capRun s d i) hdr (recordFirst (capRun s d i) b x) last) d i b x .streaming (recordFirst (capRun s d i) b x)
      raiseTile u (iTile u d i 0) 10 0x0D i (.dome d) := by
    simp only [capClose, ha, hs]
    exact ⟨_, _, rfl⟩
  obtain ⟨h, hput⟩ : ∃ h, headerPut s d i b x dl = { s with hbm := h } := objPut_frame ..
  rw [hcl, capRun_raiseTile, capRun_recordFiled]
  simp only [capRun, instrRun, capStream_instrs, hput]

/-- An event of an instrument's first tile, raised after work on the instruments and HBM alone. -/
theorem raiseTile_own {u : State} {v : Tab (Nat × Nat) InstrRun} {h : HbmSt} (hu : u = { s with instrs := v, hbm := h }) (kind obj : Nat) (o : Origin) :
    Raises s (raiseTile u (iTile u d i 0) 10 kind obj o) (12 * physTile s (iTile s d i 0) + 10) (causeId kind obj) ∧
    ∃ r y, raiseTile u (iTile u d i 0) 10 kind obj o = { s with hbm := h, instrs := v, router := r, out := y } := by
  subst hu
  have hg : EventsGrow s { s with instrs := v, hbm := h } := .of_eq rfl rfl
  exact ⟨hg.raises .., raise_frame ..⟩

/-! ### Segments (R292, R294) -/

/-- The segment after the one that a capture writes. -/
def nextSegment (r : CapRun) (b : Block) : Nat := (r.seg + 1) % Nat.max 1 (b.nat 11)

/-- Does a record still stand in the next segment? -/
def nextTaken (r : CapRun) (b : Block) : Bool := r.recs.any (fun x => x.seg == nextSegment r b)

/-- A capture that takes a segment over the records in it. -/
def CapRun.overwriting (r : CapRun) (n : Nat) : CapRun := { r with seg := n, phase := .arming, recs := r.recs.filter (fun x => x.seg != n) }

/-- The writer has taken the next segment over its records, and the loss is counted. -/
def segmentOverwritten (s : State) (d i : Nat) (b : Block) : State :=
  iCount (onCap s d i (fun r => r.overwriting (nextSegment (capRun s d i) b))) d i .overwritten 1

theorem takeSegment_free (h : nextTaken (capRun s d i) b = false) : takeSegment s d i b = onCap s d i (fun r => { r with phase := .arming, seg := nextSegment r b }) := by
  rw [takeSegment]
  exact (if_neg (ne_true_of_eq_false h)).trans (onCap_congr rfl)

theorem takeSegment_overwrites (h : nextTaken (capRun s d i) b = true) (ho : b.is 21 1 = true) :
    takeSegment s d i b = raiseTile (segmentOverwritten s d i b) (iTile (segmentOverwritten s d i b) d i 0) 10 0x0F i (.dome d) :=
  (if_pos h).trans (if_pos ho)

theorem takeSegment_stops (h : nextTaken (capRun s d i) b = true) (ho : b.is 21 1 = false) :
    let u := onCap s d i (fun r => { r with phase := .noSegment })
    takeSegment s d i b = raiseTile u (iTile u d i 0) 10 0x0E i (.dome d) :=
  (if_pos h).trans (if_neg (ne_true_of_eq_false ho))

theorem segmentAdvance_manual (hb : s.plan.instr d i = some b) (hk : iKind b = 8) (ht : b.is 2 0 = true) (hp : (capRun s d i).phase = .closed) (hm : b.is 20 1 = true) :
    exec (.segmentAdvance d i) s = .next (onCap s d i (fun r => { r with phase := .manual })) := by
  show execSegmentAdvance d i s = _
  rw [execSegmentAdvance, onCapture_triggered hb hk ht, capAdvance, if_neg (not_not_intro hp), if_pos hm]

theorem segmentAdvance_takes (hb : s.plan.instr d i = some b) (hk : iKind b = 8) (ht : b.is 2 0 = true) (hp : (capRun s d i).phase = .closed) (hm : b.is 20 1 = false) :
    exec (.segmentAdvance d i) s = .next (takeSegment s d i b) := by
  show execSegmentAdvance d i s = _
  rw [execSegmentAdvance, onCapture_triggered hb hk ht, capAdvance, if_neg (not_not_intro hp), if_neg (ne_true_of_eq_false hm)]

theorem segmentAdvance_open (hb : s.plan.instr d i = some b) (hp : (capRun s d i).phase ≠ .closed) : exec (.segmentAdvance d i) s = .next s := by
  show execSegmentAdvance d i s = _
  rw [execSegmentAdvance, onCapture_still hb (if_pos hp)]

theorem segmentRearm_freed (hb : s.plan.instr d i = some b) (hk : iKind b = 8) (ht : b.is 2 0 = true) (hp : (capRun s d i).phase = .freed)
    (hf : (capRun s d i).freedAt < s.time.tick64) : exec (.segmentRearm d i) s = .next (onCap s d i (fun r => { r with phase := .arming, seg := nextSegment r b })) := by
  show execSegmentRearm d i s = _
  rw [execSegmentRearm, onCapture_triggered hb hk ht, capRearm, if_pos ⟨hp, hf⟩]
  rfl

theorem segmentRearm_still (hb : s.plan.instr d i = some b) (h : (capRun s d i).phase ≠ .freed ∨ s.time.tick64 ≤ (capRun s d i).freedAt) :
    exec (.segmentRearm d i) s = .next s := by
  have hs : capRearm s d i b = s := if_neg fun k => h.elim (fun h => h k.1) (Nat.not_le.2 k.2)
  show execSegmentRearm d i s = _
  rw [execSegmentRearm, onCapture_still hb hs]

/-- Records that have been sent are gone. -/
def sentReleased (s : State) (d i : Nat) : State := onCap s d i (fun r => { r with recs := r.recs.filter (fun x => x.stage != .sent) })

theorem recordStreamDone_releases (hb : s.plan.instr d i = some b) (hk : iKind b = 8) (ht : b.is 2 0 = true) :
    exec (.recordStreamDone d i) s = .next (segFreed (sentReleased s d i) d i b) := by
  show execRecordStreamDone d i s = _
  rw [execRecordStreamDone, onCapture_triggered hb hk ht]
  rfl

theorem segFreed_frees (hp : (capRun s d i).phase = .noSegment) (h : nextTaken (capRun s d i) b = false) :
    segFreed s d i b = onCap s d i (fun r => { r with phase := .freed, freedAt := s.time.tick64 }) :=
  if_pos ⟨hp, congrArg (!·) h⟩

theorem segFreed_waits (h : ¬((capRun s d i).phase = .noSegment ∧ nextTaken (capRun s d i) b = false)) : segFreed s d i b = s :=
  if_neg fun k => h ⟨k.1, (Bool.not_eq_true' _).mp k.2⟩

end

end Sys2Proof.Machine

namespace Sys2Proof.Settled
open Sys2Proof.Machine

/-- Settles O25: the close by `capClose_held` and `capClose_streaming`, the next segment by the cases of `takeSegment`. -/
theorem captureRecords : Obligations.CaptureRecords := by
  unfold Obligations.CaptureRecords
  refine ⟨?held, ?streamed, fun s d i b => recordClose_notDue, fun s d i b => segmentAdvance_manual, ?free, ?taken, fun s d i b => segmentAdvance_open,
    fun s d i b => segmentRearm_freed, fun s d i b => segmentRearm_still, ?done⟩
  case held =>
    intro s d i b x dl hb hk ht ha hl hs
    obtain ⟨h, hput⟩ : ∃ h, headerPut s d i b x dl = { s with hbm := h } := objPut_frame ..
    have hx := (recordClose_due hb hk ht ha hl).trans (congrArg Host.Outcome.next (capClose_held ha hs))
    generalize hu : recordFiled (headerPut s d i b x dl) d i b x .held (recordFirst (capRun s d i) b x) = u at hx
    have hrun : capRun u d i = (capRun s d i).filed b x .held (recordFirst (capRun s d i) b x) := by rw [← hu, capRun_recordFiled, hput]; rfl
    obtain ⟨hev, r, y, hfr⟩ := raiseTile_own (s := s) (d := d) (i := i) (u := u) (by rw [← hu, hput]; rfl) 0x0D i (.dome d)
    refine ⟨_, hx, ?_, ?_, ?_, ?_, ?_, ?_, hev, by rw [hfr]⟩
    case refine_6 =>
      rw [hfr]
      exact (congrArg State.hbm hput).symm
    all_goals rw [capRun_raiseTile, hrun]
    case refine_5 => exact congrArg some (Int.sub_add_cancel ..)
    all_goals rfl
  case streamed =>
    intro s d i b x dl hb hk ht ha hl hs
    have hrun := capClose_streaming ha hs
    exact ⟨_, recordClose_due hb hk ht ha hl, by rw [hrun]; rfl, by rw [hrun]; rfl, by rw [hrun]; rfl, _, _, by rw [hrun]; rfl⟩
  case free =>
    intro s d i b hb hk ht hp hm hfree
    rw [segmentAdvance_takes hb hk ht hp hm, takeSegment_free hfree]
    rfl
  case taken =>
    intro s d i b hb hk ht hp hm htaken
    have hx := segmentAdvance_takes hb hk ht hp hm
    cases ho : b.is 21 1 with
    | false =>
      rw [takeSegment_stops htaken ho] at hx
      obtain ⟨hev, r, y, hfr⟩ := raiseTile_own (s := s) (d := d) (i := i) (u := onCap s d i (fun r => { r with phase := .noSegment })) rfl 0x0E i (.dome d)
      exact ⟨_, hx, fun _ => ⟨by rw [capRun_raiseTile, capRun_onCap], hev⟩, fun h => absurd h Bool.false_ne_true, by rw [hfr]⟩
    | true =>
      rw [takeSegment_overwrites htaken ho] at hx
      obtain ⟨hev, r, y, hfr⟩ := raiseTile_own (s := s) (d := d) (i := i) (u := segmentOverwritten s d i b) rfl 0x0F i (.dome d)
      have hrun : capRun (segmentOverwritten s d i b) d i = (capRun s d i).overwriting (nextSegment (capRun s d i) b) := (capRun_iCount ..).trans (capRun_onCap ..)
      refine ⟨_, hx, fun h => absurd h.symm Bool.false_ne_true, fun _ => ⟨?_, ?_, ?_, ?_, hev⟩, by rw [hfr]; rfl⟩
      · rw [capRun_raiseTile, hrun]; rfl
      · rw [capRun_raiseTile, hrun]; rfl
      · simp only [instrRun, raiseTile, raise_instrs]
        exact (count_iCount_same ..).trans (by rw [instrRun_onCap_cnt]; rfl)
      · rw [capRun_raiseTile, hrun]
        exact fun x hx => bne_iff_ne.1 (List.mem_filter.1 hx).2
  case done =>
    intro s d i b hb hk ht
    have hx := recordStreamDone_releases hb hk ht
    have hrun : capRun (sentReleased s d i) d i = { capRun s d i with recs := (capRun s d i).recs.filter (fun x => x.stage != .sent) } := capRun_onCap ..
    by_cases h : (capRun (sentReleased s d i) d i).phase = .noSegment ∧ nextTaken (capRun (sentReleased s d i) d i) b = false
    · rw [segFreed_frees h.1 h.2] at hx
      rw [hrun] at h
      refine ⟨_, hx, ?_, ?_, rfl⟩ <;> rw [capRun_onCap, hrun]
      exact (if_pos h).symm
    · rw [segFreed_waits h] at hx
      rw [hrun] at h
      refine ⟨_, hx, ?_, ?_, rfl⟩ <;> rw [hrun]
      exact (if_neg h).symm

end Sys2Proof.Settled
end

section
/-! Dome resets (R301, R413, R424, R425, R426). -/
namespace Sys2Proof.Machine

/-! ### Tables under a condition on the key -/

section Tables
variable {κ α : Type} [DecidableEq κ]

/-- A filter on keys keeps or removes an entry whole. -/
theorem tget_filter_key (p : κ → Bool) (t : Tab κ α) (k : κ) : tget (t.filter (fun e => p e.1)) k = if p k then tget t k else none := by
  induction t with
  | nil => simp [tget]
  | cons e r ih =>
    obtain ⟨k', v⟩ := e
    by_cases hk : k' = k
    · subst hk
      cases hp : p k' <;> simp [hp, tget, ih]
    · cases hp : p k' <;> simp [hp, tget, ih, hk]

/-- A change of the entries of certain keys. -/
theorem tget_map_key (p : κ → Bool) (f : κ → α → α) (t : Tab κ α) (k : κ) :
    tget (t.map (fun e => if p e.1 then (e.1, f e.1 e.2) else e)) k = if p k then (tget t k).map (f k) else tget t k := by
  induction t with
  | nil => simp [tget]
  | cons e r ih =>
    obtain ⟨k', v⟩ := e
    by_cases hk : k' = k
    · subst hk
      cases hp : p k' <;> simp [hp, tget]
    · cases hp : p k' <;> simp [hp, tget, ih, hk]

end Tables

@[simp] theorem domeRun_onDome (s : State) (d : Nat) (f : DomeRun → DomeRun) : domeRun (onDome s d f) d = f (domeRun s d) := by simp [domeRun, onDome]

/-! ### A completion that is written (R379, R381) -/

/-- A completion entry stands last among those that the device has written. -/
theorem writeCq_last (s : State) (f : Fn) (tag status cflags opcode detail tsn result : Nat) (resp : List Byte) :
    ∃ c, (writeCq s f tag status cflags opcode detail tsn result resp).out.completions.getLast? = some c ∧ c.fn = f ∧ c.tag = tag ∧ c.opcode = opcode ∧ c.status = status ∧
      c.detail = detail ∧ c.tsn = tsn ∧ c.result = result ∧ c.resp = resp := by
  unfold writeCq
  simp only
  generalize hu : ({ onMbx s f _ with out := _ } : State) = u
  obtain ⟨r, y, h⟩ := sendMsix_frame u f (mbxOf s f).vector
  rw [h, ← hu]
  exact ⟨_, List.getLast?_concat .., rfl, rfl, rfl, rfl, rfl, rfl, rfl, rfl⟩

/-- Taking a request off the list tells whether its completion is to be discarded. -/
theorem takeInFlight_kept {s : State} {q : Request} (h : s.writes q = true) : ∃ i, takeInFlight s q = ({ s with inflight := i }, false) := by
  have hd := (Bool.and_eq_true_iff.1 h).2
  unfold takeInFlight
  cases hf : s.inflight.find? (fun x => x.req.fn == q.fn && x.req.tag == q.tag) with
  | none => exact ⟨_, rfl⟩
  | some x =>
    rw [hf] at hd
    exact ⟨_, Prod.ext rfl ((Bool.not_eq_true' _).mp hd)⟩

/-- A request whose completion is not discarded is answered. -/
theorem finish_completes {s : State} {q : Request} (h : s.writes q = true) (op : Op) (status detail tsn result cflags : Nat) (body : Option (List Byte)) (high : Nat) :
    Completes (finish s op.info.code q status detail tsn result cflags body high) op q status detail tsn result body high := by
  obtain ⟨i, hi⟩ := takeInFlight_kept h
  have hen : (mbxOf ({ s with inflight := i } : State) q.fn).enable = true := (Bool.and_eq_true_iff.1 h).1
  unfold finish
  simp only [hi, hen, Bool.not_true, Bool.or_false, Bool.false_eq_true, if_false]
  generalize (if q.flags.toNat.testBit 6 = true then _ else _ : State) = u
  obtain ⟨c, hc⟩ := writeCq_last u q.fn q.tag.toNat status (cflags + 4 * b2n (response q body high).2) op.info.code detail tsn result (response q body high).1
  split
  · rename_i d _
    obtain ⟨r, y, hr⟩ := raise_out (writeCq u q.fn q.tag.toNat status (cflags + 4 * b2n (response q body high).2) op.info.code detail tsn result (response q body high).1) 1216 (causeId 0x1B d) (.dome d)
    rw [hr]
    exact ⟨c, hc⟩
  · exact ⟨c, hc⟩

/-- Whether a completion will be written depends on the mailbox and the requests in flight alone. -/
theorem writes_congr {s t : State} (hm : t.mbx = s.mbx) (hi : t.inflight = s.inflight) (q : Request) : t.writes q = s.writes q := by
  simp only [State.writes, mbxOf, hm, hi]

/-- A completion allocates no page. -/
theorem finish_pages (s : State) (opc : Nat) (q : Request) (status detail tsn result cflags : Nat) (body : Option (List Byte)) (high : Nat) :
    (finish s opc q status detail tsn result cflags body high).hbm.pages = s.hbm.pages := by
  obtain ⟨i, g, hi⟩ := takeInFlight_frame s q
  unfold finish
  simp only [hi]
  split
  · rfl
  · have put : (if q.flags.toNat.testBit 6 = true then (match ({ s with inflight := i } : State).plan.domeOf q.fn with
        | some d => respStore { s with inflight := i } d q.rbufAddr.toNat (response q body high).1 | none => { s with inflight := i })
        else { s with inflight := i }).hbm.pages = s.hbm.pages := by
      split
      · split <;> rfl
      · rfl
    split
    · rw [raise_hbm, writeCq_hbm]; exact put
    · rw [writeCq_hbm]; exact put

/-! ### Packets of a dome that are lost -/

/-- Between two states packets of a dome have been lost: the plan, the domes, the pages and the instruments of other domes stand as they were. -/
structure PacketsLost (d : Nat) (s t : State) : Prop where
  plan : t.plan = s.plan
  domes : t.domes = s.domes
  psets : t.psets = s.psets
  free : t.free = s.free
  pages : t.hbm.pages = s.hbm.pages
  others : ∀ g i, g ≠ d → instrRun t g i = instrRun s g i

namespace PacketsLost
variable {d : Nat} {s t u : State}

theorem refl (s : State) : PacketsLost d s s := ⟨rfl, rfl, rfl, rfl, rfl, fun _ _ _ => rfl⟩

theorem trans (h : PacketsLost d s t) (k : PacketsLost d t u) : PacketsLost d s u :=
  ⟨k.plan.trans h.plan, k.domes.trans h.domes, k.psets.trans h.psets, k.free.trans h.free, k.pages.trans h.pages, fun g i n => (k.others g i n).trans (h.others g i n)⟩

theorem ite {c : Prop} [Decidable c] (h : PacketsLost d s t) (k : PacketsLost d s u) : PacketsLost d s (if c then t else u) := by
  split
  · exact h
  · exact k

theorem finish (s : State) (opc : Nat) (q : Request) (a b c e f : Nat) (body : Option (List Byte)) (high : Nat) : PacketsLost d s (finish s opc q a b c e f body high) := by
  have hp := finish_pages s opc q a b c e f body high
  obtain ⟨i, h, m, r, o, hf⟩ := finish_frame s opc q a b c e f body high
  rw [hf] at hp ⊢
  exact ⟨rfl, rfl, rfl, rfl, hp, fun _ _ _ => rfl⟩

theorem noticeDome (s : State) (e a b c k : Nat) : PacketsLost d s (noticeDome s e a b c k) := by
  obtain ⟨m, r, o, h⟩ := noticeDome_frame s e a b c k
  rw [h]
  exact ⟨rfl, rfl, rfl, rfl, rfl, fun _ _ _ => rfl⟩

theorem onAp (s : State) (a : Nat) (f : ApertureRun → ApertureRun) : PacketsLost d s (onAp s a f) := ⟨rfl, rfl, rfl, rfl, rfl, fun _ _ _ => rfl⟩

theorem onStream (s : State) (e k : Nat) (f : StreamRun → StreamRun) : PacketsLost d s (onStream s e k f) := ⟨rfl, rfl, rfl, rfl, rfl, fun _ _ _ => rfl⟩

theorem apReadEnd (s : State) (a : Nat) (x : ApRead) : PacketsLost d s (apReadEnd s a x) := by
  unfold Machine.apReadEnd
  split
  · exact .refl s
  · refine (onAp s a (fun r => { r with reads := r.reads.filter (fun y => y.id != x.id) })).trans ?_
    simp only
    split
    · split
      · exact .onAp ..
      · exact .refl _
    · exact .ite (.finish ..) (.ite (.finish ..) (.finish ..))

theorem apReadPart (s : State) (a id serial status bytes : Nat) : PacketsLost d s (apReadPart s a id serial status bytes) := by
  unfold Machine.apReadPart
  split
  · exact .refl s
  · exact (onAp s a _).trans (.apReadEnd ..)

theorem apReadOwn (s : State) (a id status bitmap bytes : Nat) : PacketsLost d s (apReadOwn s a id status bitmap bytes) := by
  unfold Machine.apReadOwn
  split
  · exact .apReadPart ..
  · split
    · exact (onAp s _ _).trans (.apReadPart ..)
    · split
      · exact .onAp ..
      · exact .refl s

theorem capReads (s : State) (l : List CapRead) : PacketsLost d s { s with capReads := l } := ⟨rfl, rfl, rfl, rfl, rfl, fun _ _ _ => rfl⟩

theorem readDone (s : State) (c : CapRead) : PacketsLost d s (readDone s c) := by
  unfold Machine.readDone
  refine (capReads s (s.capReads.filter (fun x => !(x.req.fn == c.req.fn && x.req.tag == c.req.tag)))).trans ?_
  simp only
  split
  · exact .apReadOwn ..
  · exact .ite (.finish ..) (.finish ..)

theorem readMoved (s : State) (f : Fn) (tag : BitVec 16) (l : List Nat) : PacketsLost d s (readMoved s f tag l) := by
  unfold Machine.readMoved
  split
  · exact .refl s
  · simp only
    split
    · exact .readDone ..
    · exact .capReads ..

theorem recordSent (s : State) (d i q : Nat) : PacketsLost d s (recordSent s d i q) :=
  ⟨rfl, rfl, rfl, rfl, rfl, fun _ _ h => instrRun_onInstr_ne _ _ fun k => h (Prod.mk.inj k).1⟩

theorem packetLost (s : State) (d : Nat) (e : Option PktEnd) (error : Bool) : PacketsLost d s (packetLost s d e error) := by
  unfold Machine.packetLost
  split
  · exact .recordSent ..
  · exact (capReads s _).trans (.readMoved ..)
  · exact .refl s

theorem dropPkt (s : State) (d k : Nat) (p : Pkt) : PacketsLost d s (dropPkt s d k p) := by
  unfold Machine.dropPkt
  refine (onStream s d k (fun r => { r with pktDrop := r.pktDrop + 1, byteDrop := r.byteDrop + p.wire, noticed := true })).trans ?_
  simp only
  split
  · exact .packetLost ..
  · exact (packetLost ..).trans (.noticeDome ..)

theorem foldl {α : Type} {f : State → α → State} (h : ∀ s a, PacketsLost d s (f s a)) (l : List α) (s : State) : PacketsLost d s (l.foldl f s) :=
  foldl_keep (PacketsLost d s) f (fun _ _ k => k.trans (h ..)) l s (.refl s)

theorem dropStream (s : State) (d k : Nat) : PacketsLost d s (dropStream s d k) := by
  have h := (onStream (d := d) s d k (fun r => { r with inbox := [], go := [], spill := [], unacked := [] })).trans
    ((foldl (fun s e => .packetLost s d e false) ((streamRun s d k).inbox.map (fun x => x.ends) ++ (streamRun s d k).go.map (fun p => p.ends)) _).trans
      (foldl (fun s p => .dropPkt s d k p) (streamRun s d k).spill _))
  exact ⟨h.plan, h.domes, h.psets, h.free, h.pages, h.others⟩

end PacketsLost

/-! ### The reset tick (R424) -/

/-- What is open of a dome is discarded, and its Sextants stop. -/
def openDiscarded (s : State) (d : Nat) : State :=
  { s with instrs := s.instrs.map (fun e => if e.1.1 == d then (e.1, discardOpen (e.2.count .genDiscard (s.made.filter (fun x => x.dome == d && x.instr == e.1.2)).length)) else e),
           made := s.made.filter (fun x => x.dome != d), handoff := s.handoff.filter (fun (x : Nat × Handoff) => x.2.dome? != some d),
           zooms := s.zooms.map (fun e => if e.1.1 == d then (e.1, { e.2 with inq := [] }) else e),
           sextants := s.sextants.map (fun e => if (e.2.lease.map (fun l => l.1)) == some d then
             (e.1, { e.2 with run := .idle, item := none, due := [], done := [], aborted := [] }) else e) }

/-- The running DMA channels of the function to which a dome is bound are to halt. -/
def dmaStopped (s : State) (d : Nat) : State := match s.plan.binding d with | some f => stopDma s f | none => s

theorem dmaStopped_frame (s : State) (d : Nat) : ∃ v, dmaStopped s d = { s with dma := v } := by
  unfold dmaStopped
  split
  · exact ⟨_, rfl⟩
  · exact ⟨s.dma, rfl⟩

theorem dacFlushes_frame (l : List Nat) (s : State) : ∃ w, l.foldl dacFlush s = { s with dacs := w } := by
  refine foldl_keep (fun t => ∃ w, t = { s with dacs := w }) _ ?_ l s ⟨s.dacs, rfl⟩
  rintro _ n ⟨w, rfl⟩
  exact ⟨_, rfl⟩

/-- An instrument of the dome has nothing open. -/
theorem openDiscarded_run (s : State) (d i : Nat) :
    (instrRun (openDiscarded s d) d i).closed = [] ∧ (instrRun (openDiscarded s d) d i).bank = none ∧ (instrRun (openDiscarded s d) d i).subs = [] := by
  have h := tget_map_key (fun k => k.1 == d) (fun k (r : InstrRun) => discardOpen (r.count .genDiscard (s.made.filter (fun x => x.dome == d && x.instr == k.2)).length)) s.instrs (d, i)
  simp only [beq_self_eq_true, if_true] at h
  simp only [instrRun, openDiscarded, tgetD, h]
  cases tget s.instrs (d, i) <;> exact ⟨rfl, rfl, rfl⟩

/-- An instrument of another dome goes on. -/
theorem openDiscarded_others (s : State) {d g : Nat} (i : Nat) (hg : g ≠ d) : instrRun (openDiscarded s d) g i = instrRun s g i := by
  have h := tget_map_key (fun k => k.1 == d) (fun k (r : InstrRun) => discardOpen (r.count .genDiscard (s.made.filter (fun x => x.dome == d && x.instr == k.2)).length)) s.instrs (g, i)
  simp only [beq_eq_false_iff_ne.2 hg, Bool.false_eq_true, if_false] at h
  simp only [instrRun, openDiscarded, tgetD, h]

/-- A Sextant of the dome holds no item. -/
theorem openDiscarded_sextants (s : State) (d : Nat) : ∀ e ∈ (openDiscarded s d).sextants, (e.2.lease.map (fun l => l.1)) = some d → e.2.item = none := by
  intro e he hl
  obtain ⟨x, -, rfl⟩ := List.mem_map.1 he
  by_cases h : ((x.2.lease.map (fun l => l.1)) == some d) = true
  · rw [if_pos h]
  · rw [if_neg h] at hl
    exact absurd (beq_iff_eq.2 hl) h

section
variable {s : State} {d : Nat} {x : Drain}

theorem domeReset_idle (h : (domeRun s d).drain = none) (hd : d < 256) : exec (.domeResetTick d) s = .next s ∧ exec (.domeResetReturn d) s = .next s := by
  constructor
  · show execDomeResetTick d s = _
    simp only [execDomeResetTick, h, if_neg (Nat.not_le.2 hd)]
  · show execDomeResetReturn d s = _
    simp only [execDomeResetReturn, h, if_neg (Nat.not_le.2 hd)]

theorem domeResetTick_still (h : (domeRun s d).drain = some x) (hr : x.resetTick.isSome = true ∨ s.time.tick64 ≤ x.decided) : exec (.domeResetTick d) s = .next s := by
  show execDomeResetTick d s = _
  simp only [execDomeResetTick, h, Bool.or_eq_true, decide_eq_true_eq, hr, if_true]

/-- The drain of a dome notes its reset tick and how many records it met. -/
def tickNoted (n d : Nat) (u : State) : State := onDrain u d (fun x => { x with resetTick := some u.time.tick64, records := n })

theorem tickNoted_drain {u : State} (n : Nat) (h : (domeRun u d).drain = some x) : (domeRun (tickNoted n d u) d).drain = some { x with resetTick := some u.time.tick64, records := n } := by
  rw [tickNoted, onDrain, domeRun_onDome]
  exact congrArg (Option.map _) h

theorem domeResetTick_discards (h : (domeRun s d).drain = some x) (hr : x.resetTick = none) (hd : x.decided < s.time.tick64) : ∃ v w n,
    exec (.domeResetTick d) s = .next (tickNoted n d { openDiscarded s d with dma := v, dacs := w }) := by
  obtain ⟨v, hv⟩ := dmaStopped_frame (openDiscarded s d) d
  obtain ⟨w, hw⟩ := dacFlushes_frame ((List.range 8).filter (fun n => (dmaStopped (openDiscarded s d) d).plan.dacDome n == some d)) (dmaStopped (openDiscarded s d) d)
  rw [hv] at hw
  refine ⟨v, w, sumN ((s.instrs.filter (fun e => e.1.1 == d)).map (fun e => e.2.closed.length)) + (s.made.filter (fun x => x.dome == d)).length, ?_⟩
  show execDomeResetTick d s = _
  simp only [execDomeResetTick, h, hr, Option.isSome_none, Bool.false_or, decide_eq_true_eq, if_neg (Nat.not_le.2 hd)]
  rw [← hw, ← hv]
  rfl

/-! ### The return (R425, R426) -/

/-- The dome's streams go, with what they hold. -/
def streamsDropped (s : State) (d : Nat) : State := ((s.plan.of .streamDefine d).map (fun e => e.1)).foldl (fun s k => dropStream s d k) s

/-- The dome's Sextants lose their lease and are scrubbed. -/
def leasesEnded (s : State) (d : Nat) : State :=
  (s.sextants.filter (fun e => (e.2.lease.map (fun l => l.1)) == some d)).foldl (fun s e => runScrub (changeLease s e.1 none []) e.1) s

/-- The records of the dome's objects go. -/
def objectsGone (s : State) (d : Nat) : State :=
  let keepSet := fun (e : (Nat × Nat) × List Int) => e.1.1 != d || (d == 0 && (s.plan.objs .coarseDefine).any (fun x => x.2.2.at 4 == .num (e.1.2 : Nat)))
  { s with plan := s.plan.clearDome d, instrs := s.instrs.filter (fun e => e.1.1 != d), masks := s.masks.filter (fun e => e.1.1 != d),
           plates := s.plates.filter (fun e => e.1.1 != d), zooms := s.zooms.filter (fun e => e.1.1 != d), sks := s.sks.filter (fun e => e.1.1 != d),
           streams := s.streams.filter (fun e => e.1.1 != d), coefSets := s.coefSets.filter keepSet, capReads := s.capReads.filter (fun c => c.dome != d) }

theorem clearDome_eq (s : State) (d : Nat) (scrub : Bool) : clearDome s d scrub = returnPages (objectsGone (leasesEnded (streamsDropped s d) d) d) d scrub := rfl

theorem streamsDropped_lost (s : State) (d : Nat) : PacketsLost d s (streamsDropped s d) := .foldl (fun s k => .dropStream s d k) _ s

theorem streamsDropped_none (h : s.plan.of .streamDefine d = []) : streamsDropped s d = s := by simp only [streamsDropped, h, List.map_nil, List.foldl_nil]

theorem leasesEnded_frame (s : State) (d : Nat) : ∃ v, leasesEnded s d = { s with sextants := v } := by
  refine foldl_keep (fun t => ∃ v, t = { s with sextants := v }) _ ?_ _ s ⟨s.sextants, rfl⟩
  rintro _ e ⟨v, rfl⟩
  unfold runScrub
  split <;> exact ⟨_, rfl⟩

theorem returnPages_frame (s : State) (d : Nat) (scrub : Bool) : ∃ h, returnPages s d scrub = { s with hbm := h } := by
  unfold returnPages
  split <;> exact ⟨_, rfl⟩

/-- Scrubbed pages are the dome's no longer. -/
theorem returnPages_scrubbed (s : State) (d : Nat) : (returnPages s d true).hbm.pages.filter (fun y => y.dome == d) = [] := by
  show (s.hbm.pages.filter (fun x => x.dome != d)).filter (fun y => y.dome == d) = []
  simp [List.filter_filter]

/-- The dome's objects are gone; the other domes and the dome itself stand. -/
structure DomeCleared (d : Nat) (s t : State) : Prop where
  plan : t.plan = s.plan.clearDome d
  domes : t.domes = s.domes
  psets : t.psets = s.psets
  free : t.free = s.free
  gone : ∀ i, tget t.instrs (d, i) = none
  others : ∀ g i, g ≠ d → instrRun t g i = instrRun s g i

theorem clearDome_cleared (s : State) (d : Nat) (scrub : Bool) : DomeCleared d s (clearDome s d scrub) := by
  obtain ⟨hplan, hdomes, hpsets, hfree, -, hothers⟩ := streamsDropped_lost s d
  rw [clearDome_eq]
  generalize streamsDropped s d = u at *
  obtain ⟨v, hv⟩ := leasesEnded_frame u d
  obtain ⟨h, hh⟩ := returnPages_frame (objectsGone (leasesEnded u d) d) d scrub
  rw [hh, hv]
  refine ⟨congrArg (Plan.clearDome · d) hplan, hdomes, hpsets, hfree, fun i => ?_, fun g i hg => ?_⟩
  · exact (tget_filter_key (fun k => k.1 != d) u.instrs (d, i)).trans (if_neg (by simp))
  · rw [← hothers g i hg]
    have hk := tget_filter_key (fun k : Nat × Nat => k.1 != d) u.instrs (g, i)
    exact congrArg (Option.getD · InstrRun.reset) (hk.trans (if_pos (bne_iff_ne.2 hg)))

theorem clearDome_scrubbed (s : State) (d : Nat) : (clearDome s d true).hbm.pages.filter (fun y => y.dome == d) = [] := returnPages_scrubbed ..

/-- Without a stream nothing is answered while the dome's objects go. -/
theorem clearDome_quiet (h : s.plan.of .streamDefine d = []) (scrub : Bool) : (clearDome s d scrub).mbx = s.mbx ∧ (clearDome s d scrub).inflight = s.inflight := by
  rw [clearDome_eq, streamsDropped_none h]
  obtain ⟨v, hv⟩ := leasesEnded_frame s d
  obtain ⟨m, hm⟩ := returnPages_frame (objectsGone (leasesEnded s d) d) d scrub
  rw [hm, hv]
  exact ⟨rfl, rfl⟩

/-- The dome has drained, and a deleted one is gone with its grants. -/
def drainEnded (s : State) (d : Nat) (x : Drain) : State :=
  let u := onDome (clearDome { s with free := s.free + 3 } d x.scrub) d (fun r => { r with drain := none })
  if x.delete then
    { u with plan := { u.plan with recs := u.plan.recs.filter (fun r => !(r.op == .domeCreate && r.index == d) && !(r.op == .domeGrant && r.dome == d)) } }
  else u

theorem domeResetReturn_waits (h : (domeRun s d).drain = some x) (ho : drainOver s d x = false) : exec (.domeResetReturn d) s = .next s := by
  show execDomeResetReturn d s = _
  simp only [execDomeResetReturn, h, ho, Bool.not_false, if_true]

theorem domeResetReturn_unasked (h : (domeRun s d).drain = some x) (ho : drainOver s d x = true) (hq : x.req = none) : exec (.domeResetReturn d) s = .next (drainEnded s d x) := by
  show execDomeResetReturn d s = _
  simp only [execDomeResetReturn, h, ho, Bool.not_true, Bool.false_eq_true, if_false, hq]
  rfl

theorem domeResetReturn_answers {q : Request} (h : (domeRun s d).drain = some x) (ho : drainOver s d x = true) (hq : x.req = some q) : ∃ r body,
    exec (.domeResetReturn d) s = .next (finish (drainEnded s d x) Op.domeReset.info.code q 0 (genOf (drainEnded s d x) d) (tsnOf x.decided) r 0 (some body)) := by
  show ∃ r body, execDomeResetReturn d s = _
  simp only [execDomeResetReturn, h, ho, Bool.not_true, Bool.false_eq_true, if_false, hq]
  exact ⟨_, _, rfl⟩

/-- What the return leaves of a dome (R413, R426). -/
def DomeReturned (s : State) (d : Nat) (x : Drain) (t : State) : Prop :=
  (domeRun t d).drain = none ∧ genOf t d = genOf s d ∧ (∀ i, tget t.instrs (d, i) = none) ∧ (∀ g i, g ≠ d → instrRun t g i = instrRun s g i) ∧
    (x.delete = false → t.plan = s.plan.clearDome d) ∧ (x.delete = true → d ≠ 0 → t.plan.domeExists d = false) ∧
    (x.scrub = true → t.hbm.pages.filter (fun y => y.dome == d) = []) ∧ t.psets = s.psets ∧ t.free = s.free + 3

/-- A plan without the record of a dome's creation has no such dome, but for D0. -/
theorem domeExists_dropped {p : Plan} (hd : d ≠ 0) (keep : Rec → Bool) :
    ({ p with recs := p.recs.filter (fun r => !(r.op == .domeCreate && r.index == d) && keep r) } : Plan).domeExists d = false := by
  have hf : (p.recs.filter (fun r => !(r.op == .domeCreate && r.index == d) && keep r)).find? (fun r => r.op == .domeCreate && r.dome == devDome && r.index == d) = none := by
    rw [List.find?_eq_none]
    intro r hr hm
    have hk := (List.mem_filter.1 hr).2
    simp only [Bool.and_eq_true, beq_iff_eq] at hm
    simp [hm.1.1, hm.2] at hk
  simp only [Plan.domeExists, Plan.has, Plan.find, hf, Option.map_none, Option.isSome_none, Bool.or_false, beq_eq_false_iff_ne.2 hd]

theorem drainEnded_returned (s : State) (d : Nat) (x : Drain) : DomeReturned s d x (drainEnded s d x) := by
  obtain ⟨hplan, hdomes, hpsets, hfree, hgone, hothers⟩ := clearDome_cleared { s with free := s.free + 3 } d x.scrub
  have hscrub : x.scrub = true → (clearDome { s with free := s.free + 3 } d x.scrub).hbm.pages.filter (fun y => y.dome == d) = [] := fun h => by rw [h]; exact clearDome_scrubbed ..
  generalize hu : clearDome { s with free := s.free + 3 } d x.scrub = u at *
  have hdrain : (domeRun (onDome u d (fun r => { r with drain := none })) d).drain = none := by rw [domeRun_onDome]
  have hgen : genOf (onDome u d (fun r => { r with drain := none })) d = genOf s d := by rw [genOf, domeRun_onDome, domeRun, hdomes]; rfl
  rw [drainEnded, hu]
  cases hx : x.delete with
  | false => exact ⟨hdrain, hgen, hgone, hothers, fun _ => hplan, fun h => absurd (hx.symm.trans h) Bool.false_ne_true, hscrub, hpsets, hfree⟩
  | true => exact ⟨hdrain, hgen, hgone, hothers, fun h => absurd (h.symm.trans hx) Bool.false_ne_true, fun _ hd => domeExists_dropped hd _, hscrub, hpsets, hfree⟩

/-- The completion of the reset's request changes nothing of that. -/
theorem DomeReturned.finish {u : State} (h : DomeReturned s d x u) (opc : Nat) (q : Request) (a b c e f : Nat) (body : Option (List Byte)) (high : Nat) :
    DomeReturned s d x (finish u opc q a b c e f body high) := by
  simpa only [DomeReturned, domeRun, genOf, instrRun, finish_domes, finish_instrs, finish_plan, finish_psets, finish_free, finish_pages] using h

theorem drainEnded_writes (hx : x.delete = false) (h : s.plan.of .streamDefine d = []) (q : Request) : (drainEnded s d x).writes q = s.writes q := by
  obtain ⟨hm, hi⟩ := clearDome_quiet (s := { s with free := s.free + 3 }) h x.scrub
  rw [drainEnded, hx, if_neg Bool.false_ne_true]
  exact writes_congr hm hi q

end

end Sys2Proof.Machine

namespace Sys2Proof.Settled
open Sys2Proof.Machine

/-- Settles O44: the reset tick by `domeResetTick_discards`, the return by `drainEnded_returned`, its answer by `finish_completes`. -/
theorem domeResetsDrainAndReturn : Obligations.DomeResetsDrainAndReturn := by
  unfold Obligations.DomeResetsDrainAndReturn
  refine ⟨fun s d hd h => domeReset_idle h hd, fun s d x => domeResetTick_still, ?tick, fun s d x => domeResetReturn_waits, ?returns, ?answers⟩
  case tick =>
    intro s d x h hr hd
    obtain ⟨v, w, n, hx⟩ := domeResetTick_discards h hr hd
    exact ⟨_, hx, ⟨_, tickNoted_drain n h, rfl, rfl, rfl⟩, openDiscarded_run s d, fun g i hg => openDiscarded_others s i hg, rfl, openDiscarded_sextants s d, rfl⟩
  case returns =>
    intro s d x h ho
    cases hq : x.req with
    | none => exact ⟨_, domeResetReturn_unasked h ho hq, drainEnded_returned s d x⟩
    | some q =>
      obtain ⟨r, body, hx⟩ := domeResetReturn_answers h ho hq
      exact ⟨_, hx, (drainEnded_returned s d x).finish ..⟩
  case answers =>
    intro s d x q h ho hdel hq _ hw hst
    obtain ⟨r, body, hx⟩ := domeResetReturn_answers h ho hq
    obtain ⟨-, hgen, -⟩ := drainEnded_returned s d x
    rw [hgen] at hx
    exact ⟨_, hx, r, some body, finish_completes ((drainEnded_writes hdel hst q).trans hw) .domeReset ..⟩

end Sys2Proof.Settled
end
